-- ==== Sys2Proof/Word.lean ====
section
/-! DEFINITION. The fixed-width types of the K740 (spec/00_scope.md, "Widths and words"). -/

namespace Sys2Proof

/-- A character: the eight data bits of one start-bit-framed unit on a port. -/
abbrev Byte := BitVec 8

/-- A word: 16 bits, high byte first on the link. -/
abbrev Word := BitVec 16

/-- A 32-bit quantity: the time tag, the flag word, a conservation counter. -/
abbrev Long := BitVec 32

end Sys2Proof
end

