-- ==== Sys2Proof/Config.lean ====
section
/-! DEFINITION. What the part fixes for every K740: the sizes of its tables, queues and windows, each
with the rule that states it, and the one value the spec leaves unstated (a free value). -/

namespace Sys2Proof.Config

/-- R181: table memory is 512 words, 000h..1FFh. -/
def tableWords : Nat := 512
/-- R8: a window is 1,024 consecutive taken samples. -/
def windowSamples : Nat := 1024
/-- R9: the distance count saturates at 1,025. -/
def distanceTop : Nat := 1025
/-- R35: the feature list holds at most 4 entries. -/
def featureRoom : Nat := 4
/-- R151: the train transmit queue holds up to 16 frames. -/
def trainRoom : Nat := 16
/-- R151: at most 14 of them are forwarded frames. -/
def forwardedRoom : Nat := 14
/-- R153: the downstream queue holds up to 8 frames. -/
def downstreamRoom : Nat := 8
/-- R132: each port has two receive frame buffers. -/
def receiveBuffers : Nat := 2
/-- R130: a frame is held at most 39 characters long. -/
def frameChars : Nat := 39
/-- R172: capture memory is 256 entries. -/
def captureEntries : Nat := 256
/-- R163: the poll list is 32 slots. -/
def pollSlots : Nat := 32
/-- R164: the pass number counts modulo 360,360. -/
def passModulus : Nat := 360360
/-- R168: one node record per node 1..62. -/
def lastNode : Nat := 62
/-- R33: the speed is known until 2,000 ms have passed since its arrival. -/
def speedLife : Nat := 2000
/-- R7: the starvation timer is loaded with 200 ms. -/
def starvationTime : Nat := 200
/-- R108: the refresh timer is loaded with 20 ms. -/
def refreshTime : Nat := 20
/-- R117, R34, R38: a step timer counts 16 bits. -/
def timerTop : Nat := 65535

/-- FREE VALUE (log entry 1). R186 answers a SERVICE frame too short for its operation with status
ADDRESS, and 13.3 puts the operation into bits 15..13 of the reply's word. For a SERVICE frame with
no word 0 the spec states no operation: this constant has no value in the model, and it may depend
on the frame's sequence. -/
opaque unstatedOperation : Byte → BitVec 3

end Sys2Proof.Config
end

