-- ==== Sys2Proof/Syntax.lean ====
section
/-! DEFINITION. The commands of the K740: one constructor of `Instr` for each row of
spec/opcode_table.json, with the row's operands. A row that takes a frame from a port carries the
whole frame in its operands (header, fields and further payload words), so that the frame it names
is determined (Machine/Operands.lean). -/

namespace Sys2Proof

/-- The two serial ports (chapter The Roof Link). -/
inductive Port where
  | train
  | roof
  deriving DecidableEq, Repr

/-- The two pantographs. -/
inductive Panto where
  | p1
  | p2
  deriving DecidableEq, Repr

/-- The eight frame kinds of the header's descriptor (13.1). -/
inductive Kind where
  | measure
  | order
  | query
  | answer
  | request
  | ahead
  | service
  | notice
  deriving DecidableEq, Repr

/-- What every frame carries besides its kind, its count and its payload (13.1). -/
structure Header where
  /-- descriptor bits 4..0 -/
  flags : BitVec 5
  /-- characters 1 and 2: node in the high byte, channel in the low byte -/
  point : Word
  /-- character 3 -/
  seq : Byte
  deriving DecidableEq, Repr

/-- A frame between its header and its check word (13.1). The count is the payload's length. -/
structure Frame where
  kind : Kind
  flags : BitVec 5
  point : Word
  seq : Byte
  payload : List Word
  deriving DecidableEq, Repr

/-- The fields of an AHEAD payload but for its kind (13.2). -/
structure Announcement where
  /-- word 0, bits 15..8 -/
  number : Byte
  /-- word 0, bits 3..0 -/
  target : BitVec 4
  /-- word 1, metres -/
  distance : Word
  /-- word 2, metres -/
  length : Word
  /-- word 3, km/h -/
  speed : Word
  /-- word 4: bit 8 ICE_ZONE start, bits 1..0 leading end -/
  tail : Word
  /-- payload words beyond the layout, which R194 ignores -/
  extra : List Word
  deriving DecidableEq, Repr

/-- Word 0 of a SERVICE payload but for its operation (13.3). -/
structure SvcControl where
  /-- bit 12, reply wanted -/
  reply : Bool
  /-- bits 11..6: check pattern or status page -/
  field : BitVec 6
  /-- bits 5..4, named by no table -/
  spare : BitVec 2
  /-- bits 3..0: n − 1 -/
  cnt : BitVec 4
  deriving DecidableEq, Repr

/-- What DISCOVERY measures (R137). -/
inductive Measurement where
  /-- A falling edge `periods` reference periods after the one before it (the number says nothing at
  the first edge after entry to DISCOVERY, which only starts timing). -/
  | edge (periods : Nat)
  /-- A measurement still running after 8,176 periods. -/
  | overrun
  deriving DecidableEq, Repr

/-- The steps of the part: one constructor per row of spec/opcode_table.json. -/
inductive Instr where
  -- power, reset and the train line
  | powerOn
  | resetAssert
  | resetRelease
  | breakBegin
  | breakEnd
  -- the ports
  | discoveryMeasurement (m : Measurement)
  | receiverSettleGap (p : Port)
  | frameComplete (p : Port)
  | trainFrameSent
  | trainSettingsApply
  | roofFrameSent
  | roofSettingsApply
  -- the roof bus
  | exchangeChoice
  | answerStart
  | answerTimeout
  | answerLimitExpiry
  -- frames taken by the Frame Router
  | misdirectedFrame (p : Port) (k : Kind) (h : Header) (payload : List Word)
  | roofMeasureFrame (h : Header) (payload : List Word)
  | roofAnswerFrame (h : Header) (payload : List Word)
  | trainOrder (h : Header) (payload : List Word)
  | trainQuery (h : Header) (payload : List Word)
  -- requests; `arg` is the argument byte, `extra` the words beyond the layout
  | breakerClose (h : Header) (arg : Byte) (extra : List Word)
  | breakerOpen (h : Header) (arg : Byte) (extra : List Word)
  | select (h : Header) (arg : Byte) (extra : List Word)
  | energise (h : Header) (arg : Byte) (extra : List Word)
  | changeoverResume (h : Header) (arg : Byte) (extra : List Word)
  | changeoverAbort (h : Header) (arg : Byte) (extra : List Word)
  | raise (h : Header) (arg : Byte) (extra : List Word)
  | lower (h : Header) (arg : Byte) (extra : List Word)
  | faultClear (h : Header) (arg : Byte) (extra : List Word)
  | iceMode (h : Header) (arg : Byte) (extra : List Word)
  /-- LOWER_ALL with an argument other than 0: 1 is ON, any other is answered INVALID (R109). -/
  | lowerAllOn (h : Header) (arg : Byte) (extra : List Word)
  | lowerAllOff (h : Header) (extra : List Word)
  /-- HOLD with an argument other than 0: 1 is ON, any other is answered INVALID (R111). -/
  | holdOn (h : Header) (arg : Byte) (extra : List Word)
  | holdOff (h : Header) (extra : List Word)
  | requestUnknown (h : Header) (payload : List Word)
  -- announcements
  | aheadNeutral (h : Header) (a : Announcement)
  | aheadBoundary (h : Header) (a : Announcement)
  | aheadCancel (h : Header) (a : Announcement)
  /-- kind SPEED, or a kind code that names none (R32) -/
  | aheadSpeed (h : Header) (code : BitVec 4) (a : Announcement)
  | aheadIceZone (h : Header) (a : Announcement)
  -- SERVICE operations
  | serviceRead (h : Header) (c : SvcControl) (addr : Word) (extra : List Word)
  | serviceWrite (h : Header) (c : SvcControl) (addr : Word) (data : List Word)
  | serviceCheckWrite (h : Header) (c : SvcControl) (addr : Word) (data : Word) (extra : List Word)
  | serviceClearFlags (h : Header) (c : SvcControl) (addr low high : Word) (extra : List Word)
  | serviceRearm (h : Header) (c : SvcControl) (extra : List Word)
  | serviceCommission (h : Header) (c : SvcControl) (extra : List Word)
  | serviceRestart (h : Header) (c : SvcControl) (extra : List Word)
  | serviceUnknown (h : Header) (payload : List Word)
  -- time
  | featureDue
  | speedAged
  | csStepTimeout
  | coastExpiry
  | closePulseExpiry
  | raiseTimeout (x : Panto)
  | lowerTimeout (x : Panto)
  | settleTimerExpiry (x : Panto)
  | arcIntervalExpiry (x : Panto)
  | arcEdge (x : Panto)
  | heaterPairExpiry (x : Panto)
  | iceAssessment
  | statusTimerExpiry
  | refreshTimerExpiry
  | starvationTimerExpiry
  | splitReadLatchExpiry
  /-- the 1 ms tick (log entry 3) -/
  | scrubRead
  /-- one of the 4,096 samples a second of an arc input -/
  | arcInputSample (x : Panto) (high : Bool)
  /-- `parityBit` is the parity bit as sampled (ignored where the settings call for none);
  `stopHigh` says that the first stop bit was sampled high -/
  | characterReceived (p : Port) (data : Byte) (parityBit stopHigh : Bool)
  | trainTransmitStart
  | shortAheadFrame (h : Header) (payload : List Word)
  deriving DecidableEq, Repr

end Sys2Proof
end

