-- ==== Sys2Proof/Machine/State.lean ====
section
/-! DEFINITION. The state of the K740 as plain data: one structure per block, holding every item the
block's chapter lists, and `State.reset`, the part right after power-on (PON). Fields that are the
model's own and not the spec's say so. -/

namespace Sys2Proof.Machine

open Sys2Proof

/-! ### Table Memory and Service (chapter 12) -/

/-- A word of table memory (R181, R183, R185): its data, the pattern by which its six check bits differ
from valid ones (00h good, one bit correctable, more uncorrectable), and its uncorrectable mark. -/
structure TWord where
  data : Word := 0
  check : BitVec 6 := 0
  mark : Bool := false
  deriving DecidableEq, Repr

/-- A sparse memory: addresses strictly rising, no entry equal to what an unlisted address reads as. -/
abbrev Store (α : Type) := List (Nat × α)

/-- What TM holds besides the split-read latch. -/
structure TableMem where
  /-- 000h..1FFh; an unlisted word is zero with valid check bits (R193, PON). -/
  mem : Store TWord := []
  /-- corrected-error counter, 0..255 -/
  corrected : Nat := 0
  /-- scrub pointer, 000h..1FFh -/
  scrub : Nat := 0
  deriving DecidableEq, Repr

/-- The split-read latch when it is not empty (R187, R195): page and address of the high word, its
value, and how many ticks have passed since the latching READ. -/
structure Latch where
  page : Nat
  addr : Nat
  value : Word
  ticks : Nat
  deriving DecidableEq, Repr

/-! ### Line Measurement Unit (chapter 1) -/

inductive LmuState where
  | idle
  | waiting
  | measuring
  | starved
  deriving DecidableEq, Repr

/-- R10 -/
inductive Detector where
  | disarmed
  | armed
  | rising
  deriving DecidableEq, Repr

/-- The window in progress (R8). -/
structure Window where
  sum : Int := 0
  sumSq : Nat := 0
  saturated : Nat := 0
  periods : Nat := 0
  lengths : Nat := 0
  taken : Nat := 0
  deriving DecidableEq, Repr

/-- A result record (R15). -/
structure Record where
  number : Word
  mean : Int
  totalRms : Nat
  acRms : Nat
  freq : Nat
  periods : Nat
  saturated : Nat
  broken : Bool
  deriving DecidableEq, Repr

structure Lmu where
  state : LmuState := .idle
  expected : Option Word := none
  window : Option Window := none
  detector : Detector := .disarmed
  distance : Option Nat := none
  ref : Int := 0
  number : Word := 0
  last : Option Record := none
  deriving DecidableEq, Repr

/-! ### Line System Identifier (chapter 2) -/

/-- Confirmed systems, candidates and verdicts share one set of codes (13.3). -/
inductive Line where
  | pending
  | dead
  | unknown
  | none
  | system (k : Fin 8)
  deriving DecidableEq, Repr

structure Lsi where
  candidate : Option Line := none
  agreement : Nat := 0
  confirmed : Line := .pending
  since : Long := 0
  last : Option Line := none
  settling : Bool := false
  deriving DecidableEq, Repr

/-! ### Changeover Sequencer (chapter 3) -/

inductive CsState where
  | idle
  | armed
  | opening
  | coasting
  | lowering
  | selecting
  | raising
  | identifying
  | closing
  | hold
  deriving DecidableEq, Repr

inductive HoldReason where
  | breaker
  | selector
  | pantograph
  | mismatch
  | identify
  | lowerAll
  | unexpected
  | dead
  deriving DecidableEq, Repr

inductive FeatureKind where
  | neutral
  | boundary
  | select
  | energise
  deriving DecidableEq, Repr

/-- A line-system code, or ANY. -/
inductive Target where
  | any
  | code (c : BitVec 4)
  deriving DecidableEq, Repr

/-- A feature, in the list or current (chapter 3; the marks are R37's). -/
structure Feature where
  kind : FeatureKind
  number : Option Byte
  target : Target
  due : Option Long
  /-- milliseconds, kept whole (R34) -/
  coast : Nat
  arrival : Option Long
  dueMark : Bool := false
  staleMark : Bool := false
  /-- the target is the code R48 has given the feature in place of ANY -/
  adopted : Bool := false
  deriving DecidableEq, Repr

inductive BreakerCommand where
  | open
  | close
  deriving DecidableEq, Repr

inductive SelPos where
  | ac
  | dc
  deriving DecidableEq, Repr

structure Cs where
  state : CsState := .idle
  list : List Feature := []
  current : Option Feature := none
  expected : Option Line := none
  deadSeen : Bool := false
  reason : Option HoldReason := none
  stepOfFailure : Option CsState := none
  command : BreakerCommand := .open
  pulse : Bool := false
  closingSystem : Option (Fin 8) := none
  /-- cancel-refused count, 0..255 -/
  refused : Nat := 0
  /-- the asserted selector output (R46) -/
  selOut : Option SelPos := none
  /-- the coast of the present COASTING has ended (R43) -/
  coastEnded : Bool := false
  /-- the pantograph chosen in RAISING (R47) -/
  chosen : Option Panto := none
  deriving DecidableEq, Repr

inductive Lead where
  | p1
  | p2
  | unknown
  deriving DecidableEq, Repr

/-- The speed record (R33). `known` is clear before the first AHEAD frame and after SPEED_AGED; `aged` is
set by the tick at which 2,000 ms have passed since the arrival. -/
structure SpeedRec where
  known : Bool := false
  aged : Bool := false
  kmh : Nat := 0
  arrival : Long := 0
  lead : Lead := .unknown
  deriving DecidableEq, Repr

inductive BreakerFb where
  | open
  | closed
  | unknown
  deriving DecidableEq, Repr

/-- 0 moving, 1 AC, 2 DC, 3 illegal, or UNKNOWN (R39). -/
inductive SelectorFb where
  | moving
  | ac
  | dc
  | illegal
  | unknown
  deriving DecidableEq, Repr

/-- The last values received from BRK_POS (on or off) and SEL_POS, and the feedbacks they now give (R39). -/
structure Feedback where
  brkRaw : Option Bool := none
  selRaw : Option Word := none
  brk : BreakerFb := .unknown
  sel : SelectorFb := .unknown
  deriving DecidableEq, Repr

/-! ### Pantograph Controller (chapter 4) -/

inductive PState where
  | lowered
  | preparing
  | raising
  | inContact
  | lowering
  | dropped
  | faulted
  deriving DecidableEq, Repr

inductive Role where
  | none
  | collector
  | scraper
  deriving DecidableEq, Repr

inductive Cause where
  | raiseTimeout
  | lowerTimeout
  | drop
  | blind
  deriving DecidableEq, Repr

/-- One pantograph's record. The raise role is on exactly in RAISING and IN_CONTACT (R63 to R69). -/
structure PantoRec where
  state : PState := .lowering
  role : Role := .none
  /-- isolator command: CONNECTED -/
  connected : Bool := false
  height : Option Word := none
  press : Option Word := none
  contact : Nat := 0
  loss : Nat := 0
  low : Nat := 0
  reached : Bool := false
  cause : Option Cause := none
  raises : Word := 0
  excess : Nat := 0
  burst : Bool := false
  deriving DecidableEq, Repr

/-! ### Ice Clearing Controller (chapter 5) -/

inductive IceLevel where
  | none
  | risk
  | light
  | heavy
  deriving DecidableEq, Repr

inductive IceMode where
  | off
  | heat
  | scrape
  | suspended
  deriving DecidableEq, Repr

inductive Policy where
  | auto
  | off
  | heat
  | scrape
  deriving DecidableEq, Repr

inductive HeatPhase where
  | idle
  | on
  | off
  deriving DecidableEq, Repr

/-- What the last assessment used and found (R85). -/
structure Assessment where
  temp : Option Word
  probe : Option Word
  drop : Nat
  tally : Nat
  raw : IceLevel
  level : IceLevel
  tag : Long
  deriving DecidableEq, Repr

structure Ice where
  level : IceLevel := .none
  mode : IceMode := .off
  policy : Policy := .auto
  zone : Bool := false
  tally : Nat := 0
  decay : Nat := 0
  barred : Bool := false
  scraper : Option Panto := none
  /-- the model's own: the pantograph that the CS has made the collector since the last end of a suspension (R95, log
  entry 51) -/
  made : Option Panto := none
  temp : Option Word := none
  probe : Option Word := none
  last : Option Assessment := none
  phase1 : HeatPhase := .idle
  phase2 : HeatPhase := .idle
  deriving DecidableEq, Repr

/-! ### Output Composer and Command Admission (chapters 6 and 9) -/

/-- The ten owned output roles (R102), in point map order. -/
inductive OwnedRole where
  | raise1
  | raise2
  | isol1
  | isol2
  | heat1
  | heat2
  | brkClose
  | brkTrip
  | selAc
  | selDc
  deriving DecidableEq, Repr

/-- One value, on or off, per owned output role. -/
structure Image where
  raise1 : Bool := false
  raise2 : Bool := false
  isol1 : Bool := false
  isol2 : Bool := false
  heat1 : Bool := false
  heat2 : Bool := false
  brkClose : Bool := false
  brkTrip : Bool := true
  selAc : Bool := false
  selDc : Bool := false
  deriving DecidableEq, Repr

/-- A bit of a point's word with its polarity (R100): `low` is polarity LOW. -/
structure BitRef where
  bit : Fin 16
  low : Bool
  deriving DecidableEq, Repr

/-- An entry of the point image table (R103), with the last sent word of its point (R159) and whether
the point is in the pending point set (R105; the set's order is the table's order). -/
structure PointEntry where
  point : Word
  owned : List (OwnedRole × BitRef)
  earth : Option BitRef
  lastWord : Word
  lastSent : Word
  pending : Bool
  deriving DecidableEq, Repr

inductive EarthFb where
  | closed
  | open
  | unknown
  deriving DecidableEq, Repr

structure Outputs where
  image : Image := {}
  /-- the sending values (R104) when they were last formed -/
  sending : Image := {}
  table : List PointEntry := []
  lowerAll : Bool := false
  hold : Bool := false
  frozen : Option Image := none
  /-- the last value received from EARTH_POS (on or off) -/
  earthRaw : Option Bool := none
  earth : EarthFb := .unknown
  safe : Bool := false
  seq : Byte := 0
  deriving DecidableEq, Repr

/-! ### Step Timers and Arc Counters (chapter 7) -/

inductive TimerMode where
  | oneShot
  | periodic
  deriving DecidableEq, Repr

/-- A step timer, or a cascaded pair as one (R116, R121). `owed` is the model's own: the expiry events the timer has
handed to its owner and the owner has not yet taken (log entry 4), oldest first, each as the time tag of its expiring
tick (R116). -/
structure Timer where
  count : Nat := 0
  reload : Nat := 1
  mode : TimerMode := .oneShot
  running : Bool := false
  held : Bool := false
  owed : List Long := []
  deriving DecidableEq, Repr

inductive TimerId where
  | t0
  | t1
  | t2
  | t3
  | t4
  | t5
  | t67
  | t89
  | t10
  | t11
  | t12
  | t13
  | t14
  | t15
  deriving DecidableEq, Repr

/-- T0 to T15; T6 with T7 and T8 with T9 are the cascaded pairs. -/
structure Timers where
  t0 : Timer := {}
  t1 : Timer := {}
  t2 : Timer := {}
  t3 : Timer := {}
  t4 : Timer := {}
  t5 : Timer := {}
  t67 : Timer := {}
  t89 : Timer := {}
  t10 : Timer := {}
  t11 : Timer := {}
  t12 : Timer := {}
  t13 : Timer := {}
  t14 : Timer := {}
  t15 : Timer := {}
  deriving DecidableEq, Repr

/-- An arc input with the arc counter of its pantograph (R125, R127): the last sample (absent until the
first sample after a reset) and the accepted level (absent: UNKNOWN), high as `true`. -/
structure ArcInput where
  last : Option Bool := none
  level : Option Bool := none
  count : Nat := 0
  deriving DecidableEq, Repr

structure Arcs where
  in1 : ArcInput := {}
  in2 : ArcInput := {}
  deriving DecidableEq, Repr

/-! ### Node records (chapter 10) -/

inductive NodeState where
  | unused
  | waiting
  | active
  | lost
  deriving DecidableEq, Repr

structure NodeRec where
  state : NodeState := .unused
  missed : Nat := 0
  last : Option Long := none
  deriving DecidableEq, Repr

/-! ### Event flags (chapter 12) -/

/-- The 27 event flags, in the order of their codes (R188). -/
inductive Flag where
  | trainLinkError
  | roofLinkError
  | queueDrop
  | nodeLost
  | nodeReturned
  | sampleGap
  | measureStarved
  | systemConfirmed
  | systemUnexpected
  | deadUnannounced
  | featureDiscarded
  | changeoverDone
  | changeoverHold
  | breakerTripped
  | pantoContact
  | contactLost
  | pantoDropped
  | pantoFaulted
  | arcBurst
  | iceLevel
  | iceMode
  | interlockHeld
  | captureFrozen
  | tableCorrected
  | tablePoisoned
  | lowerAll
  | restarted
  deriving DecidableEq, Repr

/-! ### The roof jobs together -/

inductive Device where
  | config
  | run
  deriving DecidableEq, Repr

/-- The model's own: a change inside a step that other blocks answer to in the same step. -/
inductive Change where
  /-- an input of the level rules changed (a node state, a mark, a stored value) -/
  | look
  /-- the CS has something to test in its present state -/
  | cs
  /-- the confirmed system changed -/
  | confirmed
  /-- the breaker feedback changed -/
  | breaker (old new : BreakerFb)
  /-- the selector feedback changed -/
  | selector
  /-- a pantograph record changed its state, having had this role before -/
  | panto (x : Panto) (old new : PState) (role : Role)
  /-- lower-all came on -/
  | lowerAllOn
  deriving DecidableEq, Repr

/-- The model's own: what a step has to report, in order: a flag set with its subject, and the device state
and confirmed system at the event (R172), a STATUS notice, or an originated frame for the train transmit
queue. -/
inductive Report where
  | flag (f : Flag) (subject : Word) (dev : Device) (line : Line)
  | status
  | frame (f : Frame)
  deriving DecidableEq, Repr

/-- The blocks that run the roof, with the tables and the clock they all use. -/
structure Jobs where
  dev : Device := .config
  tag : Long := 0
  tmr : Timers := {}
  arc : Arcs := {}
  tm : TableMem := {}
  lmu : Lmu := {}
  lsi : Lsi := {}
  speed : SpeedRec := {}
  cs : Cs := {}
  fb : Feedback := {}
  p1 : PantoRec := {}
  p2 : PantoRec := {}
  ice : Ice := {}
  oc : Outputs := {}
  /-- node records 1..62; an unlisted one is UNUSED, missed 0, no answer -/
  nodes : Store NodeRec := []
  /-- the model's own: changes still to be answered in this step (empty between steps) -/
  todo : List Change := []
  /-- the model's own: reports still to be delivered in this step (empty between steps) -/
  out : List Report := []
  deriving DecidableEq, Repr

/-! ### The roof link (chapter 8) -/

inductive PortMode where
  | stopped
  | discovery
  | running
  deriving DecidableEq, Repr

inductive Parity where
  | even
  | odd
  | none
  | zero
  deriving DecidableEq, Repr

structure Settings where
  divisor : Nat
  parity : Parity
  twoStops : Bool
  deriving DecidableEq, Repr

/-- A frame in assembly (R130): its characters in order of arrival (at most 39), whether any had an
error, whether a 40th arrived, its discard mark, and whether it is the answer frame of the exchange
(R166). -/
structure Assembly where
  chars : List Byte := []
  errored : Bool := false
  overlong : Bool := false
  discard : Bool := false
  answer : Bool := false
  deriving DecidableEq, Repr

/-- A complete frame in a receive frame buffer; `answer` says that it is the answer frame of the
exchange in progress (R166, R167). -/
structure Received where
  frame : Frame
  answer : Bool
  deriving DecidableEq, Repr

structure PortState where
  mode : PortMode
  settings : Settings
  assembly : Option Assembly := none
  /-- the discard mark set on entry to RUNNING (R136, R140) -/
  settling : Bool := false
  buffers : List Received := []
  /-- the characters of the frame in transmission, check word included -/
  sending : Option (List Byte) := none
  parityErrors : Nat := 0
  framingErrors : Nat := 0
  overruns : Nat := 0
  checkErrors : Nat := 0
  /-- discovery record (train port, R137) -/
  lastMeasured : Option Nat := none
  runCount : Nat := 0
  /-- a falling edge has started timing in DISCOVERY -/
  timing : Bool := false
  /-- divisor locked by the last discovery (R142) -/
  locked : Option Nat := none
  /-- settings a running train port still has to apply after a RESTART (R139) -/
  newSettings : Option Settings := none
  /-- a stored roof settings word still has to be applied (R140) -/
  applyWord : Bool := false
  /-- the receive line is low in a break (R138) -/
  inBreak : Bool := false
  deriving DecidableEq, Repr

/-! ### Frame Router (chapter 9) -/

/-- One port's conservation counters (R150), 32 bits each, wrapping. -/
structure Counters where
  received : Long := 0
  forwarded : Long := 0
  consumed : Long := 0
  dropped : Long := 0
  misdirected : Long := 0
  unclaimed : Long := 0
  blocked : Long := 0
  queueFull : Long := 0
  stray : Long := 0
  originated : Long := 0
  deriving DecidableEq, Repr

/-- A frame of the train transmit queue with its mark, forwarded or originated (R151). -/
structure QueuedFrame where
  frame : Frame
  forwarded : Bool
  deriving DecidableEq, Repr

structure Router where
  train : Counters := {}
  roof : Counters := {}
  /-- train transmit queue, oldest first -/
  up : List QueuedFrame := []
  /-- notice-lost count, 0..65,535 -/
  lost : Nat := 0
  /-- downstream queue, oldest first -/
  down : List Frame := []
  deriving DecidableEq, Repr

/-! ### Roof Bus Scheduler (chapter 10) -/

inductive ExchangeKind where
  | composer
  | poll
  | queuedOrder
  | queuedQuery
  deriving DecidableEq, Repr

/-- The exchange record (R161). -/
structure Exchange where
  kind : ExchangeKind
  node : Nat
  point : Word
  seq : Byte
  queryCount : Nat
  answerBegun : Bool
  deriving DecidableEq, Repr

inductive Slot where
  | idle
  | sending
  | awaiting
  deriving DecidableEq, Repr

inductive LastKind where
  | poll
  | queue
  deriving DecidableEq, Repr

structure Sched where
  slot : Slot := .idle
  exchange : Option Exchange := none
  lastKind : LastKind := .poll
  cursor : Nat := 0
  pass : Nat := 0
  pollSeq : Byte := 0
  /-- the 300 µs answer timer runs (R161) -/
  answerTimer : Bool := false
  /-- the answer limit of 48 character times runs (R166) -/
  answerLimit : Bool := false
  deriving DecidableEq, Repr

/-! ### Capture Buffer (chapter 11) -/

/-- A written entry of capture memory, as its six words (R172; an EMPTY entry is unlisted). -/
structure CaptureEntry where
  tag : Long
  descriptor : Word
  w3 : Word
  w4 : Word
  w5 : Word
  deriving DecidableEq, Repr

inductive CaptureMode where
  | mixed
  | frames
  | events
  deriving DecidableEq, Repr

inductive Direction where
  | up
  | down
  deriving DecidableEq, Repr

/-- The applied trigger (R176). A `none` direction is EITHER and a `none` kind is ANY. -/
inductive Trigger where
  | disabled
  | frame (dir : Option Direction) (kind : Option Kind) (point mask : Word)
  | event (code : Nat)
  deriving DecidableEq, Repr

inductive CaptureState where
  | armed
  | triggered
  | frozen
  deriving DecidableEq, Repr

structure Capture where
  /-- places 0..255; an unlisted place is EMPTY -/
  mem : Store CaptureEntry := []
  mode : CaptureMode := .mixed
  unmatched : Bool := false
  trigger : Trigger := .disabled
  post : Nat := 0
  frameIndex : Nat := 0
  eventIndex : Nat := 128
  state : CaptureState := .armed
  remaining : Nat := 0
  /-- place and time tag of the triggering entry -/
  place : Option (Nat × Long) := none
  deriving DecidableEq, Repr

/-! ### Notice Unit (chapter 12) -/

structure Notices where
  /-- the flag word: bit n is the flag of code n -/
  flags : Long := 0
  seq : Byte := 0
  deriving DecidableEq, Repr

/-! ### The whole part -/

/-- The K740 with the queue of commands that wait for it. -/
structure State where
  /-- commands waiting, first in, first out (the model's own) -/
  pending : List Instr
  /-- the RESET line is asserted -/
  inReset : Bool
  jobs : Jobs
  train : PortState
  roof : PortState
  fr : Router
  rb : Sched
  cb : Capture
  nu : Notices
  latch : Option Latch
  deriving DecidableEq, Repr

/-- R136, R139: the train port's built-in default: divisor 0 (discovery), EVEN parity, one stop bit. -/
def trainDefault : Settings := { divisor := 0, parity := .even, twoStops := false }

/-- R140, R141: the roof port's built-in default: divisor 1, EVEN parity, one stop bit. -/
def roofDefault : Settings := { divisor := 1, parity := .even, twoStops := false }

/-- The part right after power-on (R193 and the PON columns of R16, R30, R58, R78, R98, R114, R124,
R139, R141, R150, R152, R170, R180), with no command waiting. -/
def State.reset : State where
  pending := []
  inReset := false
  jobs := {}
  train := { mode := .discovery, settings := trainDefault }
  roof := { mode := .running, settings := roofDefault, settling := true }
  fr := {}
  rb := {}
  cb := {}
  nu := {}
  latch := none

/-- Why the part would stop: no rule of the spec stops it, and every step of this model answers a next
state, so the type has no constructor. -/
inductive Fault where
  deriving DecidableEq, Repr

/-- Why the model would give a step no meaning. -/
inductive Refusal where
  /-- Raised by `exec` alone, for a row of the table that has no meaning yet. Safe: nothing is claimed of
  such a row. No row is left so. -/
  | notModelled (mnemonic : String)
  deriving DecidableEq, Repr

end Sys2Proof.Machine
end

