-- ==== Sys2Proof/Machine/Ops.lean ====
section
/-! DEFINITION. The named operations every block uses: updates of the state's parts, the sparse memories,
the checked reads of table memory (R183), the step timers (R116 to R121), and the lists of changes and
reports a step works through. -/

namespace Sys2Proof.Machine

open Sys2Proof

/-! ### Updates -/

/-- `Jobs` with another `dev`. -/
def Jobs.setDev (v : Device) (j : Jobs) : Jobs := { j with dev := v }

/-- `Jobs` with another `tag`. -/
def Jobs.setTag (v : Long) (j : Jobs) : Jobs := { j with tag := v }

/-- `Jobs` with another `tmr`. -/
def Jobs.setTmr (v : Timers) (j : Jobs) : Jobs := { j with tmr := v }

/-- `Jobs` with another `arc`. -/
def Jobs.setArc (v : Arcs) (j : Jobs) : Jobs := { j with arc := v }

/-- `Jobs` with another `tm`. -/
def Jobs.setTm (v : TableMem) (j : Jobs) : Jobs := { j with tm := v }

/-- `Jobs` with another `lmu`. -/
def Jobs.setLmu (v : Lmu) (j : Jobs) : Jobs := { j with lmu := v }

/-- `Jobs` with another `lsi`. -/
def Jobs.setLsi (v : Lsi) (j : Jobs) : Jobs := { j with lsi := v }

/-- `Jobs` with another `speed`. -/
def Jobs.setSpeed (v : SpeedRec) (j : Jobs) : Jobs := { j with speed := v }

/-- `Jobs` with another `cs`. -/
def Jobs.setCs (v : Cs) (j : Jobs) : Jobs := { j with cs := v }

/-- `Jobs` with another `fb`. -/
def Jobs.setFb (v : Feedback) (j : Jobs) : Jobs := { j with fb := v }

/-- `Jobs` with another `p1`. -/
def Jobs.setP1 (v : PantoRec) (j : Jobs) : Jobs := { j with p1 := v }

/-- `Jobs` with another `p2`. -/
def Jobs.setP2 (v : PantoRec) (j : Jobs) : Jobs := { j with p2 := v }

/-- `Jobs` with another `ice`. -/
def Jobs.setIce (v : Ice) (j : Jobs) : Jobs := { j with ice := v }

/-- `Jobs` with another `oc`. -/
def Jobs.setOc (v : Outputs) (j : Jobs) : Jobs := { j with oc := v }

/-- `Jobs` with another `nodes`. -/
def Jobs.setNodes (v : Store NodeRec) (j : Jobs) : Jobs := { j with nodes := v }

/-- `Jobs` with another `todo`. -/
def Jobs.setTodo (v : List Change) (j : Jobs) : Jobs := { j with todo := v }

/-- `Jobs` with another `out`. -/
def Jobs.setOut (v : List Report) (j : Jobs) : Jobs := { j with out := v }

/-- `State` with another `pending`. -/
def State.setPending (v : List Instr) (s : State) : State := { s with pending := v }

/-- `State` with another `inReset`. -/
def State.setInReset (v : Bool) (s : State) : State := { s with inReset := v }

/-- `State` with another `jobs`. -/
def State.setJobs (v : Jobs) (s : State) : State := { s with jobs := v }

/-- `State` with another `train`. -/
def State.setTrain (v : PortState) (s : State) : State := { s with train := v }

/-- `State` with another `roof`. -/
def State.setRoof (v : PortState) (s : State) : State := { s with roof := v }

/-- `State` with another `fr`. -/
def State.setFr (v : Router) (s : State) : State := { s with fr := v }

/-- `State` with another `rb`. -/
def State.setRb (v : Sched) (s : State) : State := { s with rb := v }

/-- `State` with another `cb`. -/
def State.setCb (v : Capture) (s : State) : State := { s with cb := v }

/-- `State` with another `nu`. -/
def State.setNu (v : Notices) (s : State) : State := { s with nu := v }

/-- `State` with another `latch`. -/
def State.setLatch (v : Option Latch) (s : State) : State := { s with latch := v }

/-- `s` with `f` applied to its roof jobs. -/
def State.onJobs (f : Jobs → Jobs) (s : State) : State := s.setJobs (f s.jobs)

/-- One port's state. -/
def State.port (s : State) : Port → PortState
  | .train => s.train
  | .roof => s.roof

/-- `s` with another state of one port. -/
def State.setPort (p : Port) (v : PortState) (s : State) : State :=
  match p with
  | .train => s.setTrain v
  | .roof => s.setRoof v

/-! ### Sparse memories -/

/-- The entry listed for an address. -/
def Store.find {α : Type} (a : Nat) : Store α → Option α
  | [] => none
  | (b, v) :: rest => if b = a then some v else if a < b then none else Store.find a rest

/-- What an address reads as, `d` where it is not listed. -/
def Store.read {α : Type} (d : α) (a : Nat) (m : Store α) : α := (Store.find a m).getD d

/-- The memory with `v` listed at `a`. -/
def Store.put {α : Type} (a : Nat) (v : α) : Store α → Store α
  | [] => [(a, v)]
  | (b, w) :: rest =>
    if a < b then (a, v) :: (b, w) :: rest
    else if a = b then (a, v) :: rest
    else (b, w) :: Store.put a v rest

/-- The memory with nothing listed at `a`. -/
def Store.erase {α : Type} (a : Nat) : Store α → Store α
  | [] => []
  | (b, w) :: rest => if a < b then (b, w) :: rest else if a = b then rest else (b, w) :: Store.erase a rest

/-- The memory after `v` is written at `a`; writing what an unlisted address reads as unlists it. -/
def Store.write {α : Type} [DecidableEq α] (d : α) (a : Nat) (v : α) (m : Store α) : Store α :=
  if v = d then Store.erase a m else Store.put a v m

/-- The addresses rise strictly, each being at least `n`. -/
def Store.risingFrom {α : Type} (n : Nat) : Store α → Bool
  | [] => true
  | (a, _) :: rest => decide (n ≤ a) && Store.risingFrom (a + 1) rest

/-- The canonical form: addresses strictly rising, no entry equal to what an unlisted address reads as. -/
def Store.wf {α : Type} [DecidableEq α] (d : α) (m : Store α) : Bool :=
  Store.risingFrom 0 m && m.all (fun e => decide (e.2 ≠ d))

/-! ### Table memory: checked reads (R183) -/

/-- How many of the six check bits are inverted. -/
def inverted (p : BitVec 6) : Nat :=
  p.toNat % 2 + p.toNat / 2 % 2 + p.toNat / 4 % 2 + p.toNat / 8 % 2 + p.toNat / 16 % 2 + p.toNat / 32 % 2

/-- R183: the word is uncorrectable (two bits or more in error, or already marked). -/
def TWord.bad (w : TWord) : Bool := w.mark || decide (2 ≤ inverted w.check)

/-- R183, R185: the word has one bit in error. -/
def TWord.correctable (w : TWord) : Bool := !w.mark && decide (inverted w.check = 1)

/-- The word of table memory at an address. -/
def Jobs.cell (a : Nat) (j : Jobs) : TWord := Store.read {} a j.tm.mem

/-- The value a read of the address delivers: the corrected word is the stored data, since only check
bits are ever in error (R185), and an uncorrectable word is delivered as stored. -/
def Jobs.word (a : Nat) (j : Jobs) : Word := (j.cell a).data

/-- A read of the address reports the word uncorrectable. -/
def Jobs.bad (a : Nat) (j : Jobs) : Bool := (j.cell a).bad

/-- The address carries an uncorrectable mark (R183: its entry is poisoned). -/
def Jobs.marked (a : Nat) (j : Jobs) : Bool := (j.cell a).mark

/-- Table memory with a word stored at an address. -/
def TableMem.store (a : Nat) (w : TWord) (t : TableMem) : TableMem :=
  { t with mem := Store.write {} a w t.mem }

/-- Adds a change to be answered in this step. -/
def Jobs.push (c : Change) (j : Jobs) : Jobs := j.setTodo (j.todo ++ [c])

/-- Adds a report to be delivered in this step. -/
def Jobs.report (r : Report) (j : Jobs) : Jobs := j.setOut (j.out ++ [r])

/-- The setting of an event flag with its subject (R188), at the present device state and confirmed system
(R172). -/
def Jobs.flag (f : Flag) (subject : Nat) (j : Jobs) : Jobs :=
  j.report (.flag f (BitVec.ofNat 16 subject) j.dev j.lsi.confirmed)

/-- R183: what a read of one address does: a correctable word is corrected, counted and flagged; an
uncorrectable word not yet marked is marked and flagged. -/
def Jobs.touch (a : Nat) (j : Jobs) : Jobs :=
  let w := j.cell a
  if w.correctable then
    (j.setTm { (j.tm.store a { data := w.data }) with corrected := min 255 (j.tm.corrected + 1) }).flag
      .tableCorrected a
  else if w.bad && !w.mark then
    ((j.setTm (j.tm.store a { w with mark := true })).flag .tablePoisoned a).push .look
  else j

/-- Reads of several addresses, in order. -/
def Jobs.touchAll (as : List Nat) (j : Jobs) : Jobs := as.foldl (fun j a => j.touch a) j

/-- A parameter word: a word found uncorrectable is replaced by its built-in default (R20, R38, R59,
R80, R183). -/
def Jobs.param (a : Nat) (dflt : Word) (j : Jobs) : Word := if j.bad a then dflt else j.word a

/-! ### Bits, numbers and time -/

/-- Bits `lo .. lo + n − 1` of a word, as a number. -/
def bits (w : Word) (lo n : Nat) : Nat := w.toNat / 2 ^ lo % 2 ^ n

/-- Bit `i` of a word. -/
def bit (w : Word) (i : Nat) : Bool := w.getLsbD i

/-- A word from a number. -/
def toWord (n : Nat) : Word := BitVec.ofNat 16 n

/-- The node of a point: its high byte. -/
def nodeOf (p : Word) : Nat := p.toNat / 256

/-- The channel of a point: its low byte. -/
def channelOf (p : Word) : Nat := p.toNat % 256

/-- R100, R147, R163: nodes 1..62 are roof nodes. -/
def roofNode (n : Nat) : Bool := decide (1 ≤ n ∧ n ≤ Config.lastNode)

/-- The signed 32-bit difference of two time tags (R34, R123). -/
def tagDiff (a b : Long) : Int := (a - b).toInt

/-- The low half of a 32-bit value. -/
def lowHalf (v : Long) : Word := v.setWidth 16

/-- The high half of a 32-bit value. -/
def highHalf (v : Long) : Word := (v >>> 16).setWidth 16

/-- The integer square root of a number below 2 ^ 32, found bit by bit from the highest. -/
def isqrtFrom (n : Nat) : Nat → Nat → Nat
  | 0, r => r
  | b + 1, r => isqrtFrom n b (if (r + 2 ^ b) * (r + 2 ^ b) ≤ n then r + 2 ^ b else r)

/-- floor(√n), for n below 2 ^ 32 (R13). -/
def isqrt (n : Nat) : Nat := isqrtFrom n 16 0

/-! ### Step timers -/

/-- R117: a load sets count and reload value (0 taken as 1), mode and run state; the old count's expiry
does not occur. -/
def Timer.load (n : Nat) (mode : TimerMode) (t : Timer) : Timer :=
  { t with count := max n 1, reload := max n 1, mode := mode, running := true, owed := [] }

/-- R118: a stop keeps the count. A stop that reaches the owner before an expiry already handed over
comes first: the count is kept above 0 and the expiry does not occur. -/
def Timer.stop (t : Timer) : Timer :=
  { t with running := false, owed := [], count := if t.owed = [] then t.count else 1 }

/-- R118: "stopped, 0". -/
def Timer.clear (t : Timer) : Timer := { t with running := false, owed := [], count := 0 }

/-- R118: a run of a timer whose count is 0 leaves it STOPPED. -/
def Timer.run (t : Timer) : Timer := if t.count = 0 then t else { t with running := true }

/-- R117: a new reload value alone. -/
def Timer.setReload (n : Nat) (t : Timer) : Timer := { t with reload := max n 1 }

/-- R120: the held mark is set. An expiry handed over and not yet taken does not occur under hold: the
timer stands one tick before it. -/
def Timer.hold (t : Timer) : Timer :=
  if t.owed = [] then { t with held := true } else { t with held := true, owed := [], count := 1, running := true }

/-- R120: the held mark is cleared. -/
def Timer.release (t : Timer) : Timer := { t with held := false }

/-- R116: the timer is counting. -/
def Timer.counting (t : Timer) : Bool := t.running && !t.held

/-- R116, R119: the tick of a time tag; an expiry carries that tag. -/
def Timer.tick (tag : Long) (t : Timer) : Timer :=
  if t.counting && decide (0 < t.count) then
    if t.count = 1 then
      match t.mode with
      | .oneShot => { t with count := 0, running := false, owed := t.owed ++ [tag] }
      | .periodic => { t with count := t.reload, owed := t.owed ++ [tag] }
    else { t with count := t.count - 1 }
  else t

/-- The owner takes one expiry event, the oldest. -/
def Timer.taken (t : Timer) : Timer := { t with owed := t.owed.tail }

/-- The timer of an identity. -/
def Timers.get (i : TimerId) (t : Timers) : Timer :=
  match i with
  | .t0 => t.t0
  | .t1 => t.t1
  | .t2 => t.t2
  | .t3 => t.t3
  | .t4 => t.t4
  | .t5 => t.t5
  | .t67 => t.t67
  | .t89 => t.t89
  | .t10 => t.t10
  | .t11 => t.t11
  | .t12 => t.t12
  | .t13 => t.t13
  | .t14 => t.t14
  | .t15 => t.t15

/-- The timers with another value of one. -/
def Timers.set (i : TimerId) (v : Timer) (t : Timers) : Timers :=
  match i with
  | .t0 => { t with t0 := v }
  | .t1 => { t with t1 := v }
  | .t2 => { t with t2 := v }
  | .t3 => { t with t3 := v }
  | .t4 => { t with t4 := v }
  | .t5 => { t with t5 := v }
  | .t67 => { t with t67 := v }
  | .t89 => { t with t89 := v }
  | .t10 => { t with t10 := v }
  | .t11 => { t with t11 := v }
  | .t12 => { t with t12 := v }
  | .t13 => { t with t13 := v }
  | .t14 => { t with t14 := v }
  | .t15 => { t with t15 := v }

/-- `f` applied to every timer. -/
def Timers.map (f : Timer → Timer) (t : Timers) : Timers :=
  { t0 := f t.t0, t1 := f t.t1, t2 := f t.t2, t3 := f t.t3, t4 := f t.t4, t5 := f t.t5, t67 := f t.t67,
    t89 := f t.t89, t10 := f t.t10, t11 := f t.t11, t12 := f t.t12, t13 := f t.t13, t14 := f t.t14,
    t15 := f t.t15 }

/-- `f` applied to T0 to T12, the timers that output hold holds (R120). -/
def Timers.mapHeld (f : Timer → Timer) (t : Timers) : Timers :=
  { t with t0 := f t.t0, t1 := f t.t1, t2 := f t.t2, t3 := f t.t3, t4 := f t.t4, t5 := f t.t5,
           t67 := f t.t67, t89 := f t.t89, t10 := f t.t10, t11 := f t.t11, t12 := f t.t12 }

/-- A timer of the jobs. -/
def Jobs.timer (i : TimerId) (j : Jobs) : Timer := j.tmr.get i

/-- `f` applied to one timer of the jobs. -/
def Jobs.onTimer (i : TimerId) (f : Timer → Timer) (j : Jobs) : Jobs := j.setTmr (j.tmr.set i (f (j.tmr.get i)))

/-- R117 -/
def Jobs.load (i : TimerId) (n : Nat) (mode : TimerMode) (j : Jobs) : Jobs := j.onTimer i (Timer.load n mode)

/-- R118 -/
def Jobs.stop (i : TimerId) (j : Jobs) : Jobs := j.onTimer i Timer.stop

/-- R119: an expiry of the timer waits for its owner. -/
def Jobs.expired (i : TimerId) (j : Jobs) : Bool := !(j.tmr.get i).owed.isEmpty

/-- R116: the time tag of the expiry that waits for its owner, which the owner records when it acts on it. -/
def Jobs.expiryTag (i : TimerId) (j : Jobs) : Long := (j.tmr.get i).owed.headD j.tag

/-- R119: the owner takes the expiry. -/
def Jobs.takeExpiry (i : TimerId) (j : Jobs) : Jobs := j.onTimer i Timer.taken

/-! ### Pantographs, nodes, arc inputs -/

/-- A pantograph's record. -/
def Jobs.panto (x : Panto) (j : Jobs) : PantoRec :=
  match x with
  | .p1 => j.p1
  | .p2 => j.p2

/-- The jobs with another record of a pantograph. -/
def Jobs.setPanto (x : Panto) (r : PantoRec) (j : Jobs) : Jobs :=
  match x with
  | .p1 => j.setP1 r
  | .p2 => j.setP2 r

end Sys2Proof.Machine

namespace Sys2Proof

/-- "The other pantograph." -/
def Panto.other : Panto → Panto
  | .p1 => .p2
  | .p2 => .p1

/-- The pantograph number, as a subject (13.3). -/
def Panto.num : Panto → Nat
  | .p1 => 1
  | .p2 => 2

/-- The step timer of a pantograph: T2 or T3. -/
def Panto.stepTimer : Panto → Machine.TimerId
  | .p1 => .t2
  | .p2 => .t3

/-- The arc interval timer of a pantograph: T4 or T5. -/
def Panto.arcTimer : Panto → Machine.TimerId
  | .p1 => .t4
  | .p2 => .t5

/-- The settle timer of a pantograph: T11 or T12. -/
def Panto.settleTimer : Panto → Machine.TimerId
  | .p1 => .t11
  | .p2 => .t12

/-- The cascaded pair of a pantograph's heater cycle (R121). -/
def Panto.pair : Panto → Machine.TimerId
  | .p1 => .t67
  | .p2 => .t89


end Sys2Proof

namespace Sys2Proof.Machine

open Sys2Proof

/-- ARC1 belongs to P1 and ARC2 to P2 (4.8). -/
def Jobs.arcIn (x : Panto) (j : Jobs) : ArcInput :=
  match x with
  | .p1 => j.arc.in1
  | .p2 => j.arc.in2

/-- The jobs with another arc input of a pantograph. -/
def Jobs.setArcIn (x : Panto) (v : ArcInput) (j : Jobs) : Jobs :=
  match x with
  | .p1 => j.setArc { j.arc with in1 := v }
  | .p2 => j.setArc { j.arc with in2 := v }

/-- A node record (R168). -/
def Jobs.node (n : Nat) (j : Jobs) : NodeRec := Store.read {} n j.nodes

/-- The jobs with another record of a node. -/
def Jobs.setNode (n : Nat) (r : NodeRec) (j : Jobs) : Jobs := j.setNodes (Store.write {} n r j.nodes)

/-- A heater cycle's phase. -/
def Ice.phase (x : Panto) (c : Ice) : HeatPhase :=
  match x with
  | .p1 => c.phase1
  | .p2 => c.phase2

/-- The ice record with another phase of one heater cycle. -/
def Ice.setPhase (x : Panto) (v : HeatPhase) (c : Ice) : Ice :=
  match x with
  | .p1 => { c with phase1 := v }
  | .p2 => { c with phase2 := v }

/-- R33: the speed is known: an AHEAD frame has set it and 2,000 ms have not passed since. -/
def SpeedRec.isKnown (v : SpeedRec) : Bool := v.known && !v.aged

/-- The confirmed system is SYSTEM(k). -/
def Line.index : Line → Option (Fin 8)
  | .system k => some k
  | _ => Option.none

/-- The confirmed system is SYSTEM(k) for some k. -/
def Line.isSystem (l : Line) : Bool := l.index.isSome

/-- The CS is in IDLE or ARMED. -/
def CsState.resting : CsState → Bool
  | .idle => true
  | .armed => true
  | _ => false

/-- The pantograph is PREPARING, RAISING or IN_CONTACT. -/
def PState.raised : PState → Bool
  | .preparing => true
  | .raising => true
  | .inContact => true
  | _ => false

/-- The pantograph's raise role is on (R63 to R69). -/
def PState.raiseOn : PState → Bool
  | .raising => true
  | .inContact => true
  | _ => false

/-- The pantograph whose role is COLLECTOR, if there is one. -/
def Jobs.collector (j : Jobs) : Option Panto :=
  if j.p1.role = .collector then some .p1 else if j.p2.role = .collector then some .p2 else none

/-! ### Commands -/

/-- R193: while the RESET line is asserted no frame is sent or taken and nothing runs: a step other than
power-on and the line's own changes nothing. -/
def State.unlessReset (f : State → State) (s : State) : Host.Outcome State Fault Refusal :=
  .next (if s.inReset then s else f s)

end Sys2Proof.Machine
end

