-- ==== Sys2Proof/Machine/Codes.lean ====
section
/-! DEFINITION. The codes by which states, kinds and results are seen in notices, capture entries and the
status window (chapter 13.3: "codes are the same wherever a field appears"). -/

namespace Sys2Proof.Machine

open Sys2Proof

end Sys2Proof.Machine

namespace Sys2Proof

/-- 13.1: frame kinds. -/
def Kind.code : Kind → Nat
  | .measure => 0
  | .order => 1
  | .query => 2
  | .answer => 3
  | .request => 4
  | .ahead => 5
  | .service => 6
  | .notice => 7


end Sys2Proof

namespace Sys2Proof.Machine

open Sys2Proof

/-- 13.1: the kind of a descriptor's bits 7..5. -/
def kindOf : Nat → Kind
  | 0 => .measure
  | 1 => .order
  | 2 => .query
  | 3 => .answer
  | 4 => .request
  | 5 => .ahead
  | 6 => .service
  | _ => .notice

/-- Confirmed system, candidate, verdict. -/
def Line.code : Line → Nat
  | .pending => 0
  | .dead => 1
  | .unknown => 2
  | .none => 3
  | .system k => 8 + k.val

/-- A candidate, verdict or system that may be absent: FFh. -/
def lineCode : Option Line → Nat
  | some l => l.code
  | none => 255

def CsState.code : CsState → Nat
  | .idle => 0
  | .armed => 1
  | .opening => 2
  | .coasting => 3
  | .lowering => 4
  | .selecting => 5
  | .raising => 6
  | .identifying => 7
  | .closing => 8
  | .hold => 9

def HoldReason.code : HoldReason → Nat
  | .breaker => 1
  | .selector => 2
  | .pantograph => 3
  | .mismatch => 4
  | .identify => 5
  | .lowerAll => 6
  | .unexpected => 7
  | .dead => 8

/-- Hold reason, 0 where there is none. -/
def reasonCode : Option HoldReason → Nat
  | some r => r.code
  | none => 0

def PState.code : PState → Nat
  | .lowered => 0
  | .preparing => 1
  | .raising => 2
  | .inContact => 3
  | .lowering => 4
  | .dropped => 5
  | .faulted => 6

def Role.code : Role → Nat
  | .none => 0
  | .collector => 1
  | .scraper => 2

def BreakerFb.code : BreakerFb → Nat
  | .open => 0
  | .closed => 1
  | .unknown => 2

def SelectorFb.code : SelectorFb → Nat
  | .moving => 0
  | .ac => 1
  | .dc => 2
  | .illegal => 3
  | .unknown => 4

def IceLevel.code : IceLevel → Nat
  | .none => 0
  | .risk => 1
  | .light => 2
  | .heavy => 3

def IceMode.code : IceMode → Nat
  | .off => 0
  | .heat => 1
  | .scrape => 2
  | .suspended => 3

def Device.code : Device → Nat
  | .config => 0
  | .run => 1

/-- The result of a REQUEST (R189). -/
inductive Answer where
  | accepted
  | busy
  | state
  | interlock
  | config
  | invalid
  deriving DecidableEq, Repr

def Answer.code : Answer → Nat
  | .accepted => 0
  | .busy => 1
  | .state => 2
  | .interlock => 3
  | .config => 4
  | .invalid => 5

/-- The status of a SERVICE_REPLY (13.1); CHECK_FAIL carries its check number. -/
inductive Status where
  | ok
  | address
  | locked
  | state
  | checkFail (n : Nat)
  | poisoned
  deriving DecidableEq, Repr

def Status.code : Status → Nat
  | .ok => 0
  | .address => 1
  | .locked => 2
  | .state => 3
  | .checkFail _ => 4
  | .poisoned => 5

/-- The check number of the reply's word, 0 but for CHECK_FAIL. -/
def Status.check : Status → Nat
  | .checkFail n => n
  | _ => 0

/-- Why a frame is dropped (R150). -/
inductive DropReason where
  | misdirected
  | unclaimed
  | blocked
  | queueFull
  | stray
  deriving DecidableEq, Repr

/-- What the FR decided for a frame, or that the part originated it (R172). -/
inductive Disposition where
  | forwarded
  | consumed
  | originated
  | dropped (r : DropReason)
  deriving DecidableEq, Repr

/-- 13.5: bits 8..6 of a FRAME entry's descriptor. -/
def Disposition.code : Disposition → Nat
  | .forwarded => 0
  | .consumed => 1
  | .originated => 2
  | .dropped .misdirected => 3
  | .dropped .unclaimed => 4
  | .dropped .blocked => 5
  | .dropped .queueFull => 6
  | .dropped .stray => 7

end Sys2Proof.Machine
end

