-- ==== Sys2Proof/WellFormed.lean ====
section
/-! DEFINITION. Which terms of `Instr` stand for a step the part can meet: the payload of a frame holds
at most 16 words (13.1), and the frame named by a row belongs to that row. -/

namespace Sys2Proof

/-- The kinds a port accepts (R135). -/
def Port.accepts : Port → Kind → Bool
  | .train, .request => true
  | .train, .ahead => true
  | .train, .service => true
  | .train, .order => true
  | .train, .query => true
  | .roof, .measure => true
  | .roof, .answer => true
  | _, _ => false

/-- 13.1: a frame carries 0..16 payload words. -/
def fitsFrame (words : Nat) : Bool := decide (words ≤ 16)

/-- 13.2: the code of a REQUEST is bits 15..8 of word 0, and 01h..0Ch name a request. -/
def namesRequest (w : Word) : Bool := decide (1 ≤ w.toNat / 256 ∧ w.toNat / 256 ≤ 12)

/-- 13.3: a SERVICE frame names an operation and carries the words the operation needs. -/
def serviceComplete (payload : List Word) : Bool :=
  match payload with
  | [] => false
  | w :: rest =>
    match w.toNat / 8192 with
    | 0 => decide (1 ≤ rest.length)
    | 1 => decide (w.toNat % 16 + 2 ≤ rest.length)
    | 2 => decide (2 ≤ rest.length)
    | 3 => decide (3 ≤ rest.length)
    | 7 => false
    | _ => true

/-- The command is one the part can meet. -/
def Instr.wellFormed : Instr → Bool
  | .misdirectedFrame p k _ payload => !p.accepts k && fitsFrame payload.length
  | .roofMeasureFrame _ payload => fitsFrame payload.length
  | .roofAnswerFrame _ payload => fitsFrame payload.length
  | .trainOrder _ payload => fitsFrame payload.length
  | .trainQuery _ payload => fitsFrame payload.length
  | .breakerClose _ _ extra => fitsFrame (extra.length + 1)
  | .breakerOpen _ _ extra => fitsFrame (extra.length + 1)
  | .select _ _ extra => fitsFrame (extra.length + 1)
  | .energise _ _ extra => fitsFrame (extra.length + 1)
  | .changeoverResume _ _ extra => fitsFrame (extra.length + 1)
  | .changeoverAbort _ _ extra => fitsFrame (extra.length + 1)
  | .raise _ _ extra => fitsFrame (extra.length + 1)
  | .lower _ _ extra => fitsFrame (extra.length + 1)
  | .faultClear _ _ extra => fitsFrame (extra.length + 1)
  | .iceMode _ _ extra => fitsFrame (extra.length + 1)
  | .lowerAllOn _ arg extra => fitsFrame (extra.length + 1) && decide (arg ≠ 0)
  | .lowerAllOff _ extra => fitsFrame (extra.length + 1)
  | .holdOn _ arg extra => fitsFrame (extra.length + 1) && decide (arg ≠ 0)
  | .holdOff _ extra => fitsFrame (extra.length + 1)
  | .requestUnknown _ payload => fitsFrame payload.length && !(payload.head?.any namesRequest)
  | .aheadNeutral _ a => fitsFrame (a.extra.length + 5)
  | .aheadBoundary _ a => fitsFrame (a.extra.length + 5)
  | .aheadCancel _ a => fitsFrame (a.extra.length + 5)
  | .aheadSpeed _ code a =>
    fitsFrame (a.extra.length + 5) && decide (code ≠ 0 ∧ code ≠ 1 ∧ code ≠ 2 ∧ code ≠ 4)
  | .aheadIceZone _ a => fitsFrame (a.extra.length + 5)
  | .serviceRead _ _ _ extra => fitsFrame (extra.length + 2)
  | .serviceWrite _ c _ data => fitsFrame (data.length + 2) && decide (c.cnt.toNat + 1 ≤ data.length)
  | .serviceCheckWrite _ _ _ _ extra => fitsFrame (extra.length + 3)
  | .serviceClearFlags _ _ _ _ _ extra => fitsFrame (extra.length + 4)
  | .serviceRearm _ _ extra => fitsFrame (extra.length + 1)
  | .serviceCommission _ _ extra => fitsFrame (extra.length + 1)
  | .serviceRestart _ _ extra => fitsFrame (extra.length + 1)
  | .serviceUnknown _ payload => fitsFrame payload.length && !serviceComplete payload
  | .shortAheadFrame _ payload => decide (payload.length < 5)
  | .powerOn => true
  | .resetAssert => true
  | .resetRelease => true
  | .breakBegin => true
  | .breakEnd => true
  | .discoveryMeasurement _ => true
  | .receiverSettleGap _ => true
  | .frameComplete _ => true
  | .trainFrameSent => true
  | .trainSettingsApply => true
  | .roofFrameSent => true
  | .roofSettingsApply => true
  | .exchangeChoice => true
  | .answerStart => true
  | .answerTimeout => true
  | .answerLimitExpiry => true
  | .featureDue => true
  | .speedAged => true
  | .csStepTimeout => true
  | .coastExpiry => true
  | .closePulseExpiry => true
  | .raiseTimeout _ => true
  | .lowerTimeout _ => true
  | .settleTimerExpiry _ => true
  | .arcIntervalExpiry _ => true
  | .arcEdge _ => true
  | .heaterPairExpiry _ => true
  | .iceAssessment => true
  | .statusTimerExpiry => true
  | .refreshTimerExpiry => true
  | .starvationTimerExpiry => true
  | .splitReadLatchExpiry => true
  | .scrubRead => true
  | .arcInputSample _ _ => true
  | .characterReceived _ _ _ _ => true
  | .trainTransmitStart => true

end Sys2Proof
end

