-- ==== Sys2Proof/Machine/Operands.lean ====
section
/-! DEFINITION. Frames as characters (8.2, R130, R131, 13.1) and the frames the commands name: which
frame, on which port, each row of the table takes, and which row takes a given frame. -/

namespace Sys2Proof.Machine

open Sys2Proof

/-! ### The check word -/

/-- One bit of the check word's division by x¹⁶ + x¹² + x⁵ + 1 (R131). -/
def crcBit (c : Word) (b : Bool) : Word :=
  if c.getLsbD 15 = b then c <<< 1 else (c <<< 1) ^^^ 0x1021#16

/-- One character, most significant bit first (R131). -/
def crcByte (c : Word) (b : Byte) : Word :=
  [7, 6, 5, 4, 3, 2, 1, 0].foldl (fun c i => crcBit c (b.getLsbD i)) c

/-- R131: the check word of a run of characters, initial value FFFFh, no final inversion. -/
def checkWord (chars : List Byte) : Word := chars.foldl crcByte 0xFFFF#16

/-! ### Frames and characters -/

/-- The two characters of a word, high byte first. -/
def wordChars (w : Word) : List Byte := [BitVec.ofNat 8 (w.toNat / 256), BitVec.ofNat 8 w.toNat]

/-- The word of two characters. -/
def charsWord (hi lo : Byte) : Word := BitVec.ofNat 16 (hi.toNat * 256 + lo.toNat)

end Sys2Proof.Machine

namespace Sys2Proof

/-- 8.2: a frame's characters before its check word. -/
def Frame.body (f : Frame) : List Byte :=
  BitVec.ofNat 8 (f.kind.code * 32 + f.flags.toNat) :: Machine.wordChars f.point
    ++ [f.seq, BitVec.ofNat 8 f.payload.length] ++ f.payload.flatMap Machine.wordChars

/-- R134: a frame's characters with the check word the port computes and appends. -/
def Frame.chars (f : Frame) : List Byte := f.body ++ Machine.wordChars (Machine.checkWord f.body)


end Sys2Proof

namespace Sys2Proof.Machine

open Sys2Proof

/-- The words of a run of characters, two to a word. -/
def wordsOf : List Byte → List Word
  | hi :: lo :: rest => charsWord hi lo :: wordsOf rest
  | _ => []

/-- R131: the frame of a run of characters that passes the length and check-word tests; `none` is a
check error. -/
def parseFrame (chars : List Byte) : Option Frame :=
  match chars with
  | d :: ph :: pl :: sq :: ct :: _ =>
    if chars.length ≤ Config.frameChars ∧ ct.toNat ≤ 16 ∧ chars.length = 5 + 2 * ct.toNat + 2
        ∧ checkWord (chars.take (5 + 2 * ct.toNat)) = charsWord (chars.getD (5 + 2 * ct.toNat) 0)
            (chars.getD (6 + 2 * ct.toNat) 0) then
      some { kind := kindOf (d.toNat / 32), flags := BitVec.ofNat 5 d.toNat, point := charsWord ph pl,
             seq := sq, payload := wordsOf ((chars.drop 5).take (2 * ct.toNat)) }
    else none
  | _ => none

/-! ### The frame a command names -/

end Sys2Proof.Machine

namespace Sys2Proof

/-- The frame with a header and a payload. -/
def Header.frame (h : Header) (k : Kind) (payload : List Word) : Frame :=
  { kind := k, flags := h.flags, point := h.point, seq := h.seq, payload := payload }

/-- The header of a frame. -/
def Frame.header (f : Frame) : Header := { flags := f.flags, point := f.point, seq := f.seq }


end Sys2Proof

namespace Sys2Proof.Machine

open Sys2Proof

/-- 13.2: a REQUEST's word 0, code and argument. -/
def requestWord (code : Nat) (arg : Byte) : Word := BitVec.ofNat 16 (code * 256 + arg.toNat)

/-- 13.2: a REQUEST's payload. -/
def requestFrame (h : Header) (code : Nat) (arg : Byte) (extra : List Word) : Frame :=
  h.frame .request (requestWord code arg :: extra)

/-- 13.2: an AHEAD's word 0. -/
def aheadWord (a : Announcement) (kind : BitVec 4) : Word :=
  BitVec.ofNat 16 (a.number.toNat * 256 + kind.toNat * 16 + a.target.toNat)

/-- 13.2: an AHEAD frame of a kind code. -/
def aheadFrame (h : Header) (kind : BitVec 4) (a : Announcement) : Frame :=
  h.frame .ahead (aheadWord a kind :: a.distance :: a.length :: a.speed :: a.tail :: a.extra)

/-- 13.3: a SERVICE's word 0. -/
def serviceWord (op : Nat) (c : SvcControl) : Word :=
  BitVec.ofNat 16 (op * 8192 + (if c.reply then 4096 else 0) + c.field.toNat * 64 + c.spare.toNat * 16 + c.cnt.toNat)

/-- 13.3: a SERVICE frame. -/
def serviceFrame (h : Header) (op : Nat) (c : SvcControl) (rest : List Word) : Frame :=
  h.frame .service (serviceWord op c :: rest)

end Sys2Proof.Machine

namespace Sys2Proof

/-- The port and the frame a command takes, for the rows that take one. -/
def Instr.frame? : Instr → Option (Port × Frame)
  | .misdirectedFrame p k h payload => some (p, h.frame k payload)
  | .roofMeasureFrame h payload => some (.roof, h.frame .measure payload)
  | .roofAnswerFrame h payload => some (.roof, h.frame .answer payload)
  | .trainOrder h payload => some (.train, h.frame .order payload)
  | .trainQuery h payload => some (.train, h.frame .query payload)
  | .breakerClose h arg extra => some (.train, Machine.requestFrame h 1 arg extra)
  | .breakerOpen h arg extra => some (.train, Machine.requestFrame h 2 arg extra)
  | .select h arg extra => some (.train, Machine.requestFrame h 3 arg extra)
  | .energise h arg extra => some (.train, Machine.requestFrame h 4 arg extra)
  | .changeoverResume h arg extra => some (.train, Machine.requestFrame h 5 arg extra)
  | .changeoverAbort h arg extra => some (.train, Machine.requestFrame h 6 arg extra)
  | .raise h arg extra => some (.train, Machine.requestFrame h 7 arg extra)
  | .lower h arg extra => some (.train, Machine.requestFrame h 8 arg extra)
  | .faultClear h arg extra => some (.train, Machine.requestFrame h 9 arg extra)
  | .iceMode h arg extra => some (.train, Machine.requestFrame h 10 arg extra)
  | .lowerAllOn h arg extra => some (.train, Machine.requestFrame h 11 arg extra)
  | .lowerAllOff h extra => some (.train, Machine.requestFrame h 11 0 extra)
  | .holdOn h arg extra => some (.train, Machine.requestFrame h 12 arg extra)
  | .holdOff h extra => some (.train, Machine.requestFrame h 12 0 extra)
  | .requestUnknown h payload => some (.train, h.frame .request payload)
  | .aheadNeutral h a => some (.train, Machine.aheadFrame h 0 a)
  | .aheadBoundary h a => some (.train, Machine.aheadFrame h 1 a)
  | .aheadCancel h a => some (.train, Machine.aheadFrame h 2 a)
  | .aheadSpeed h code a => some (.train, Machine.aheadFrame h code a)
  | .aheadIceZone h a => some (.train, Machine.aheadFrame h 4 a)
  | .serviceRead h c addr extra => some (.train, Machine.serviceFrame h 0 c (addr :: extra))
  | .serviceWrite h c addr data => some (.train, Machine.serviceFrame h 1 c (addr :: data))
  | .serviceCheckWrite h c addr data extra => some (.train, Machine.serviceFrame h 2 c (addr :: data :: extra))
  | .serviceClearFlags h c addr low high extra => some (.train, Machine.serviceFrame h 3 c (addr :: low :: high :: extra))
  | .serviceRearm h c extra => some (.train, Machine.serviceFrame h 4 c extra)
  | .serviceCommission h c extra => some (.train, Machine.serviceFrame h 5 c extra)
  | .serviceRestart h c extra => some (.train, Machine.serviceFrame h 6 c extra)
  | .serviceUnknown h payload => some (.train, h.frame .service payload)
  | .shortAheadFrame h payload => some (.train, h.frame .ahead payload)
  | _ => none


end Sys2Proof

namespace Sys2Proof.Machine

open Sys2Proof

/-! ### The command that takes a frame -/

/-- 13.2: which row takes a REQUEST frame. -/
def requestCommand (h : Header) : List Word → Instr
  | [] => .requestUnknown h []
  | w :: extra =>
    let arg : Byte := BitVec.ofNat 8 w.toNat
    match w.toNat / 256 with
    | 1 => .breakerClose h arg extra
    | 2 => .breakerOpen h arg extra
    | 3 => .select h arg extra
    | 4 => .energise h arg extra
    | 5 => .changeoverResume h arg extra
    | 6 => .changeoverAbort h arg extra
    | 7 => .raise h arg extra
    | 8 => .lower h arg extra
    | 9 => .faultClear h arg extra
    | 10 => .iceMode h arg extra
    | 11 => if arg = 0 then .lowerAllOff h extra else .lowerAllOn h arg extra
    | 12 => if arg = 0 then .holdOff h extra else .holdOn h arg extra
    | _ => .requestUnknown h (w :: extra)

/-- 13.2: which row takes an AHEAD frame. -/
def aheadCommand (h : Header) : List Word → Instr
  | w :: distance :: length :: speed :: tail :: extra =>
    let a : Announcement :=
      { number := BitVec.ofNat 8 (w.toNat / 256), target := BitVec.ofNat 4 w.toNat, distance := distance,
        length := length, speed := speed, tail := tail, extra := extra }
    let code : BitVec 4 := BitVec.ofNat 4 (w.toNat / 16)
    match code.toNat with
    | 0 => .aheadNeutral h a
    | 1 => .aheadBoundary h a
    | 2 => .aheadCancel h a
    | 4 => .aheadIceZone h a
    | _ => .aheadSpeed h code a
  | payload => .shortAheadFrame h payload

/-- 13.3: word 0 of a SERVICE frame but for its operation. -/
def serviceControl (w : Word) : SvcControl :=
  { reply := w.getLsbD 12, field := BitVec.ofNat 6 (w.toNat / 64), spare := BitVec.ofNat 2 (w.toNat / 16),
    cnt := BitVec.ofNat 4 w.toNat }

/-- 13.3, R186: which row takes a SERVICE frame. -/
def serviceCommand (h : Header) : List Word → Instr
  | [] => .serviceUnknown h []
  | w :: rest =>
    let c := serviceControl w
    match w.toNat / 8192, rest with
    | 0, addr :: extra => .serviceRead h c addr extra
    | 1, addr :: data =>
      if c.cnt.toNat + 1 ≤ data.length then .serviceWrite h c addr data else .serviceUnknown h (w :: rest)
    | 2, addr :: data :: extra => .serviceCheckWrite h c addr data extra
    | 3, addr :: low :: high :: extra => .serviceClearFlags h c addr low high extra
    | 4, extra => .serviceRearm h c extra
    | 5, extra => .serviceCommission h c extra
    | 6, extra => .serviceRestart h c extra
    | _, _ => .serviceUnknown h (w :: rest)

/-- R145, R146, R147, R149: which row takes a frame that the FR takes from a port. -/
def commandOf (p : Port) (f : Frame) : Instr :=
  match p, f.kind with
  | .train, .request => requestCommand f.header f.payload
  | .train, .ahead => aheadCommand f.header f.payload
  | .train, .service => serviceCommand f.header f.payload
  | .train, .order => .trainOrder f.header f.payload
  | .train, .query => .trainQuery f.header f.payload
  | .roof, .measure => .roofMeasureFrame f.header f.payload
  | .roof, .answer => .roofAnswerFrame f.header f.payload
  | p, k => .misdirectedFrame p k f.header f.payload

end Sys2Proof.Machine
end

