-- ==== Sys2Proof/Machine/Flags.lean ====
section
/-! DEFINITION. The event flags: their codes, their place in the flag word, and the notice mask (R188). -/

namespace Sys2Proof.Machine

open Sys2Proof

/-- R188: the code of a flag, which is also its bit. -/
def Flag.code : Flag → Nat
  | .trainLinkError => 0
  | .roofLinkError => 1
  | .queueDrop => 2
  | .nodeLost => 3
  | .nodeReturned => 4
  | .sampleGap => 5
  | .measureStarved => 6
  | .systemConfirmed => 7
  | .systemUnexpected => 8
  | .deadUnannounced => 9
  | .featureDiscarded => 10
  | .changeoverDone => 11
  | .changeoverHold => 12
  | .breakerTripped => 13
  | .pantoContact => 14
  | .contactLost => 15
  | .pantoDropped => 16
  | .pantoFaulted => 17
  | .arcBurst => 18
  | .iceLevel => 19
  | .iceMode => 20
  | .interlockHeld => 21
  | .captureFrozen => 22
  | .tableCorrected => 23
  | .tablePoisoned => 24
  | .lowerAll => 25
  | .restarted => 26

/-- The flag's bit alone. -/
def Flag.mask (f : Flag) : Long := (1#32) <<< f.code

/-- The flag word after a flag is set (R188). -/
def setFlag (f : Flag) (flags : Long) : Long := flags ||| f.mask

/-- The flag is set in the flag word. -/
def flagSet (f : Flag) (flags : Long) : Bool := flags.getLsbD f.code

/-- R186: the flag word after CLEAR_FLAGS with a mask; bits 27 to 31 are ignored. -/
def clearFlags (low high : Word) (flags : Long) : Long :=
  flags &&& ~~~((low.setWidth 32 ||| (high.setWidth 32 <<< 16)) &&& 0x07FFFFFF#32)

/-- R188: the device parameter word that holds a flag's notice mask bit: low word bits 0..15, high word
bits 16..26. -/
def Flag.maskAddr (f : Flag) : Nat := if f.code < 16 then 2 else 3

/-- R183, R188: the flag's mask bit is 1; a poisoned mask word enables every flag. -/
def Jobs.notified (f : Flag) (j : Jobs) : Bool :=
  (j.param f.maskAddr 0xFFFF#16).getLsbD (f.code % 16)

end Sys2Proof.Machine
end

