-- ==== Sys2Proof/Machine/Tables.lean ====
section
/-! DEFINITION. The entries of table memory (13.4, R181) as their users read them: the route table, the
interlock table, the point map, the poll list, the line-system table and the parameter blocks. A user's
read is in two parts: the value, and what the read does to the memory (`touch`, R183). -/

namespace Sys2Proof.Machine

open Sys2Proof

/-- `n` consecutive addresses. -/
def span (a n : Nat) : List Nat := (List.range n).map (a + ·)

/-- Some address of a run is found uncorrectable by a read. -/
def Jobs.anyBad (as : List Nat) (j : Jobs) : Bool := as.any (fun a => j.bad a)

/-- Some address of a run carries an uncorrectable mark. -/
def Jobs.anyMarked (as : List Nat) (j : Jobs) : Bool := as.any (fun a => j.marked a)

/-! ### The service map (R181) -/

inductive Region where
  | live
  | roof
  | capture
  | status
  | nothing
  deriving DecidableEq, Repr

/-- R181: the region an address belongs to. -/
def regionOf (a : Nat) : Region :=
  if a ≤ 0x009 then .live
  else if 0x010 ≤ a ∧ a ≤ 0x04F then .live
  else if 0x050 ≤ a ∧ a ≤ 0x0B9 then .roof
  else if 0x0C0 ≤ a ∧ a ≤ 0x0DF then .roof
  else if 0x100 ≤ a ∧ a ≤ 0x12F then .roof
  else if 0x140 ≤ a ∧ a ≤ 0x145 then .roof
  else if 0x150 ≤ a ∧ a ≤ 0x158 then .roof
  else if 0x160 ≤ a ∧ a ≤ 0x175 then .roof
  else if 0x180 ≤ a ∧ a ≤ 0x193 then .roof
  else if 0x1000 ≤ a ∧ a ≤ 0x15FF then .capture
  else if 0x1800 ≤ a ∧ a ≤ 0x187F then .status
  else .nothing

/-- The address is a word of table memory that a WRITE may name. -/
def writable (a : Nat) : Bool := regionOf a == .live || regionOf a == .roof

/-! ### Port settings (13.4) -/

def parityOf : Nat → Parity
  | 0 => .even
  | 1 => .odd
  | 2 => .none
  | _ => .zero

/-- The settings a settings word gives. -/
def settingsOf (w : Word) : Settings :=
  { divisor := bits w 8 8, parity := parityOf (bits w 1 2), twoStops := bit w 0 }

/-! ### The route table (R143, R144) -/

def routeAddr (k : Nat) : Nat := 0x010 + 4 * k

/-- R143: the entry is valid and not poisoned; its words 0 to 2 are read, its word 3 is not examined. -/
def Jobs.routeUsable (k : Nat) (j : Jobs) : Bool :=
  bit (j.word (routeAddr k)) 15 && !j.anyBad (span (routeAddr k) 3) && !j.marked (routeAddr k + 3)

/-- R143: the entry's range contains the point, low four bits of base taken as 0h and of limit as Fh. -/
def Jobs.routeCovers (k : Nat) (p : Word) (j : Jobs) : Bool :=
  decide ((j.word (routeAddr k + 1)).toNat / 16 ≤ p.toNat / 16
    ∧ p.toNat / 16 ≤ (j.word (routeAddr k + 2)).toNat / 16)

/-- R144: the usable entry of lowest index whose range contains the point. -/
def Jobs.deciding (p : Word) (j : Jobs) : Option Nat :=
  (List.range 16).find? (fun k => j.routeUsable k && j.routeCovers k p)

/-- The reads a match makes: words 0 to 2 of every entry up to the deciding one. DESIGN CHOICE (log entry 61): words 1
and 2 also where the valid field is clear. -/
def Jobs.touchRoute (p : Word) (j : Jobs) : Jobs :=
  let n := match j.deciding p with
    | some k => k + 1
    | none => 16
  j.touchAll ((List.range n).flatMap (fun k => span (routeAddr k) 3))

/-- 13.4: the entry lets upward frames pass (UP or BOTH) and keep-local is clear (R149). -/
def Jobs.routeUp (k : Nat) (j : Jobs) : Bool :=
  let w := j.word (routeAddr k)
  (bits w 0 2 == 0 || bits w 0 2 == 2) && !bit w 4

/-- 13.4: the entry lets ORDER and QUERY frames pass (DOWN or BOTH). -/
def Jobs.routeDown (k : Nat) (j : Jobs) : Bool :=
  let w := j.word (routeAddr k)
  bits w 0 2 == 1 || bits w 0 2 == 2

/-- 13.4: the entry has capture set. -/
def Jobs.routeCapture (k : Nat) (j : Jobs) : Bool := bit (j.word (routeAddr k)) 5

/-! ### The interlock table (R156, R158) -/

def rowAddr (r : Nat) : Nat := 0x050 + 4 * r

/-! ### The point map (R100) -/

/-- The 21 roles, in point map order. -/
inductive MapRole where
  | lineV
  | raise (x : Panto)
  | isol (x : Panto)
  | heat (x : Panto)
  | brkClose
  | brkTrip
  | selAc
  | selDc
  | earth
  | height (x : Panto)
  | press (x : Panto)
  | brkPos
  | selPos
  | earthPos
  | roofTemp
  | iceProbe
  deriving DecidableEq, Repr

/-- The fixed index of a role (6.1). -/
def MapRole.index : MapRole → Nat
  | .lineV => 0
  | .raise .p1 => 1
  | .raise .p2 => 2
  | .isol .p1 => 3
  | .isol .p2 => 4
  | .heat .p1 => 5
  | .heat .p2 => 6
  | .brkClose => 7
  | .brkTrip => 8
  | .selAc => 9
  | .selDc => 10
  | .earth => 11
  | .height .p1 => 12
  | .height .p2 => 13
  | .press .p1 => 14
  | .press .p2 => 15
  | .brkPos => 16
  | .selPos => 17
  | .earthPos => 18
  | .roofTemp => 19
  | .iceProbe => 20

/-- The map role of an owned output role. -/
def OwnedRole.mapRole : OwnedRole → MapRole
  | .raise1 => .raise .p1
  | .raise2 => .raise .p2
  | .isol1 => .isol .p1
  | .isol2 => .isol .p2
  | .heat1 => .heat .p1
  | .heat2 => .heat .p2
  | .brkClose => .brkClose
  | .brkTrip => .brkTrip
  | .selAc => .selAc
  | .selDc => .selDc

/-- The address of a role's entry. -/
def MapRole.addr (r : MapRole) : Nat := 0x090 + 2 * r.index

/-- The reads a use of the entry makes. -/
def Jobs.touchMap (r : MapRole) (j : Jobs) : Jobs := j.touchAll (span r.addr 2)

/-- The reads of several entries, in order. -/
def Jobs.touchMaps (rs : List MapRole) (j : Jobs) : Jobs := rs.foldl (fun j r => j.touchMap r) j

/-- The point of a role's entry. -/
def Jobs.mapPoint (r : MapRole) (j : Jobs) : Word := j.word (r.addr + 1)

/-- The node of a role's point. -/
def Jobs.mapNode (r : MapRole) (j : Jobs) : Nat := nodeOf (j.mapPoint r)

/-- R100: the valid field is set and the node lies in 1..62. -/
def Jobs.mapNamed (r : MapRole) (j : Jobs) : Bool := bit (j.word r.addr) 15 && roofNode (j.mapNode r)

/-- R100: the entry is usable to a read of it. -/
def Jobs.mapUsable (r : MapRole) (j : Jobs) : Bool := j.mapNamed r && !j.anyBad (span r.addr 2)

/-- R100: the entry is usable by what has been found of it so far. -/
def Jobs.mapStands (r : MapRole) (j : Jobs) : Bool := j.mapNamed r && !j.anyMarked (span r.addr 2)

/-- The entry has been found poisoned. -/
def Jobs.mapPoisoned (r : MapRole) (j : Jobs) : Bool := j.anyMarked (span r.addr 2)

/-- The bit and polarity of a binary role's entry. -/
def Jobs.mapBit (r : MapRole) (j : Jobs) : BitRef :=
  { bit := ⟨bits (j.word r.addr) 0 4, by simp only [bits]; omega⟩, low := bit (j.word r.addr) 4 }

/-- R100: a binary input's value, on or off. -/
def BitRef.reads (b : BitRef) (w : Word) : Bool := w.getLsbD b.bit.val != b.low

/-- R60: the word a MEASURE frame carries for a role bound to a point. -/
def carried (p q : Word) (payload : List Word) : Option Word :=
  if nodeOf p = nodeOf q ∧ q.toNat ≤ p.toNat ∧ p.toNat < q.toNat + payload.length then
    payload[p.toNat - q.toNat]?
  else none

/-- R60: the word a MEASURE frame carries for a role whose entry is usable. -/
def Jobs.carriedFor (r : MapRole) (q : Word) (payload : List Word) (j : Jobs) : Option Word :=
  if j.mapUsable r then carried (j.mapPoint r) q payload else none

/-! ### The poll list (R163) -/

def slotAddr (s : Nat) : Nat := 0x0C0 + s

def Jobs.slotNode (s : Nat) (j : Jobs) : Nat := bits (j.word (slotAddr s)) 8 6

/-- R163: valid, not poisoned, its node in 1..62. -/
def Jobs.slotUsable (s : Nat) (j : Jobs) : Bool :=
  bit (j.word (slotAddr s)) 15 && !j.bad (slotAddr s) && roofNode (j.slotNode s)

/-- R163: a divisor of 0 is used as 1, and a divisor above 15 as 15. -/
def Jobs.slotDivisor (s : Nat) (j : Jobs) : Nat := min 15 (max 1 (bits (j.word (slotAddr s)) 0 8))

/-! ### The line-system table (R18, R19) -/

def lineAddr (k : Fin 8) : Nat := 0x100 + 6 * k.val

/-- R18: the fields hold a usable entry: valid, a code in 1..15, a pantograph set of P1, P2 or EITHER. -/
def Jobs.lineNamed (k : Fin 8) (j : Jobs) : Bool :=
  let w := j.word (lineAddr k)
  bit w 15 && bits w 11 4 != 0 && bits w 7 2 != 0

/-- R18: the entry is usable to a read of it. -/
def Jobs.lineUsable (k : Fin 8) (j : Jobs) : Bool := j.lineNamed k && !j.anyBad (span (lineAddr k) 6)

/-- R18: the entry is usable by what has been found of it so far. -/
def Jobs.lineStands (k : Fin 8) (j : Jobs) : Bool := j.lineNamed k && !j.anyMarked (span (lineAddr k) 6)

/-- The reads a use of the entry makes. DESIGN CHOICE (log entry 47): every use reads all six words, also a
use whose outcome rests on fewer (a code resolution, a kind that ignores some words). -/
def Jobs.touchLine (k : Fin 8) (j : Jobs) : Jobs := j.touchAll (span (lineAddr k) 6)

def Jobs.lineCode (k : Fin 8) (j : Jobs) : Nat := bits (j.word (lineAddr k)) 11 4
def Jobs.lineIsDc (k : Fin 8) (j : Jobs) : Bool := bit (j.word (lineAddr k)) 10
def Jobs.lineSelector (k : Fin 8) (j : Jobs) : SelPos := if bit (j.word (lineAddr k)) 9 then .dc else .ac
/-- 1 P1, 2 P2, 3 EITHER. -/
def Jobs.lineSet (k : Fin 8) (j : Jobs) : Nat := bits (j.word (lineAddr k)) 7 2
def Jobs.lineHeat (k : Fin 8) (j : Jobs) : Bool := bit (j.word (lineAddr k)) 6
def Jobs.lineScrape (k : Fin 8) (j : Jobs) : Bool := bit (j.word (lineAddr k)) 5
/-- R18: a confirm count field of 0 is used as 1. -/
def Jobs.lineK (k : Fin 8) (j : Jobs) : Nat := max 1 (bits (j.word (lineAddr k)) 0 4)
def Jobs.lineVmin (k : Fin 8) (j : Jobs) : Nat := (j.word (lineAddr k + 1)).toNat
def Jobs.lineVmax (k : Fin 8) (j : Jobs) : Nat := (j.word (lineAddr k + 2)).toNat
def Jobs.lineFmin (k : Fin 8) (j : Jobs) : Nat := (j.word (lineAddr k + 3)).toNat
def Jobs.lineFmax (k : Fin 8) (j : Jobs) : Nat := (j.word (lineAddr k + 4)).toNat
def Jobs.lineRipple (k : Fin 8) (j : Jobs) : Nat := (j.word (lineAddr k + 5)).toNat

/-- The eight entries, in index order. -/
def lineEntries : List (Fin 8) := [0, 1, 2, 3, 4, 5, 6, 7]

/-- The entries up to and including one, or all eight. -/
def linesUpTo : Option (Fin 8) → List (Fin 8)
  | some k => lineEntries.filter (fun i => decide (i ≤ k))
  | none => lineEntries

/-- R19: the usable entry of lowest index that carries a code. -/
def Jobs.resolve (c : BitVec 4) (j : Jobs) : Option (Fin 8) :=
  lineEntries.find? (fun k => j.lineUsable k && j.lineCode k == c.toNat)

/-- The reads a resolution makes: every entry up to the one found. -/
def Jobs.touchResolve (c : BitVec 4) (j : Jobs) : Jobs :=
  (linesUpTo (j.resolve c)).foldl (fun j k => j.touchLine k) j

/-! ### Parameters (R20, R38, R59, R80) -/

/-- A timing word of 0 is used as 1 ms (R38, R59). -/
def timing (w : Word) : Nat := max 1 w.toNat

/-- R20: the start pantograph; any value other than P1 and P2 is used as P1. -/
def Jobs.startPanto (j : Jobs) : Panto := if j.param 0x145 1 = 2 then .p2 else .p1

/-- R38: a changeover parameter word. -/
def Jobs.changeover (i : Nat) (j : Jobs) : Word :=
  j.param (0x150 + i) (match i with
    | 0 => 150 | 1 => 100 | 2 => 300 | 3 => 200 | 4 => 500 | 5 => 3000 | 6 => 3000 | 7 => 1000 | _ => 30000)

/-- R59: the address of word `i` of a pantograph's parameter set. -/
def pantoAddr (x : Panto) (i : Nat) : Nat :=
  match x with
  | .p1 => 0x160 + i
  | .p2 => 0x16B + i

/-- R59: a pantograph parameter word (not the valid word). -/
def Jobs.pantoParam (x : Panto) (i : Nat) (j : Jobs) : Word :=
  j.param (pantoAddr x i) (match i with
    | 1 => 50 | 2 => 800 | 3 => 350 | 4 => 150 | 5 => 8000 | 6 => 6000 | 7 => 500 | 8 => 0 | 9 => 10 | _ => 2000)

/-- R59: the set is valid for a raise. -/
def Jobs.pantoValid (x : Panto) (j : Jobs) : Bool :=
  bit (j.word (pantoAddr x 0)) 15 && !j.bad (pantoAddr x 0)

/-- R80: the built-in defaults of the ice parameters. -/
def iceDefault : Nat → Word
  | 1 => 20
  | 2 => 10
  | 3 => BitVec.ofInt 16 (-500)
  | 4 => 800
  | 5 => 40000
  | 6 => 1000
  | 7 => 60000
  | 8 => 400
  | 9 => 1200
  | 10 => 1
  | 11 => 3
  | 12 => 10000
  | 13 => 160
  | 14 => 60
  | 15 => 240
  | 16 => 120
  | 17 => 120
  | 18 => 240
  | 19 => 60
  | _ => 0

/-- R80: the ice block is valid. -/
def Jobs.iceValid (j : Jobs) : Bool := bit (j.param 0x180 0) 15

/-- R80: an ice parameter word; the default while the block is not valid or the word is poisoned. -/
def Jobs.iceParam (i : Nat) (j : Jobs) : Word :=
  if j.iceValid then j.param (0x180 + i) (iceDefault i) else iceDefault i

/-- The reads a use of an ice parameter makes: word 0 and the word. DESIGN CHOICE (log entry 67): the word is read also
while the block is not valid, when its default is used. -/
def Jobs.touchIce (is : List Nat) (j : Jobs) : Jobs := j.touchAll (0x180 :: is.map (0x180 + ·))

end Sys2Proof.Machine
end

