-- ==== Sys2Proof/Machine/Lsi.lean ====
section
/-! DEFINITION. The Line System Identifier: verdict, debounce, confirmation, restart, starvation and lost
entries (chapter 2, R18 to R31). -/

namespace Sys2Proof.Machine

open Sys2Proof

/-- A change of the confirmed system with its time tag (R25). -/
def Jobs.setConfirmed (l : Line) (j : Jobs) : Jobs :=
  (j.setLsi { j.lsi with confirmed := l, since := j.tag }).push .confirmed

/-- A change of the confirmed system that also sets SYSTEM_CONFIRMED (R24, R27, R28). -/
def Jobs.confirm (l : Line) (j : Jobs) : Jobs := (j.setConfirmed l).flag .systemConfirmed l.code

/-- R22: a usable entry matches a record. -/
def Jobs.lineMatches (r : Record) (k : Fin 8) (j : Jobs) : Bool :=
  let ac := r.acRms * 2
  let mean := r.mean.natAbs * 2
  if j.lineIsDc k then
    decide (j.lineVmin k ≤ mean ∧ mean ≤ j.lineVmax k ∧ ac ≤ j.lineRipple k)
  else
    decide (j.lineFmin k ≤ r.freq ∧ r.freq ≤ j.lineFmax k ∧ j.lineVmin k ≤ ac ∧ ac ≤ j.lineVmax k
      ∧ mean ≤ (j.param 0x142 2000).toNat)

/-- R21: the lowest usable entry that matches. -/
def Jobs.matching (r : Record) (j : Jobs) : Option (Fin 8) :=
  lineEntries.find? (fun k => j.lineUsable k && j.lineMatches r k)

/-- R21: the verdict on a record (the settling flag is the caller's). -/
def Jobs.verdict (r : Record) (j : Jobs) : Line :=
  if j.lsi.settling || r.broken then .none
  else if 0 < r.saturated then .unknown
  else if r.totalRms * 2 < (j.param 0x141 600).toNat then .dead
  else match j.matching r with
    | some k => .system k
    | none => .unknown

/-- The reads a verdict makes (R18, R20). DESIGN CHOICE (log entry 48): a verdict that reaches the table reads
the AC offset word whether or not it tries an AC entry. -/
def Jobs.touchVerdict (r : Record) (j : Jobs) : Jobs :=
  if j.lsi.settling || r.broken || decide (0 < r.saturated) then j
  else if r.totalRms * 2 < (j.param 0x141 600).toNat then j.touch 0x141
  else ((linesUpTo (j.matching r)).foldl (fun j k => j.touchLine k) (j.touch 0x141)).touch 0x142

/-- R20: a confirm count of the identification parameters, used as 1..15. -/
def Jobs.confirmCount (a : Nat) (dflt : Word) (j : Jobs) : Nat := min 15 (max 1 (j.param a dflt).toNat)

/-- R24: the candidate's confirm count; `none` where entry k is not usable (R18). -/
def Jobs.needed (l : Line) (j : Jobs) : Option Nat :=
  match l with
  | .dead => some (j.confirmCount 0x143 2)
  | .unknown => some (j.confirmCount 0x144 3)
  | .system k => if j.lineUsable k then some (j.lineK k) else Option.none
  | _ => Option.none

/-- The reads a confirmation check makes. -/
def Jobs.touchNeeded (l : Line) (j : Jobs) : Jobs :=
  match l with
  | .dead => j.touch 0x143
  | .unknown => j.touch 0x144
  | .system k => j.touchLine k
  | _ => j

/-- R24: the confirmation check. -/
def Jobs.confirmCheck (l : Line) (j : Jobs) : Jobs :=
  let j' := j.touchNeeded l
  match j.needed l with
  | some n => if n ≤ j.lsi.agreement ∧ j.lsi.confirmed ≠ l then j'.confirm l else j'
  | none => j'

/-- R23: the debounce of a verdict. -/
def Jobs.debounce (l : Line) (j : Jobs) : Jobs :=
  if l = .none then j
  else
    let n := if j.lsi.candidate = some l then min 15 (j.lsi.agreement + 1) else 1
    (j.setLsi { j.lsi with candidate := some l, agreement := n }).confirmCheck l

/-- R28: an entry that has stopped being usable is lost as candidate and as confirmed system. -/
def Jobs.lostEntries (j : Jobs) : Jobs :=
  let j := match j.lsi.candidate.bind Line.index with
    | some k => if j.lineStands k then j else j.setLsi { j.lsi with candidate := none, agreement := 0 }
    | none => j
  match j.lsi.confirmed.index with
  | some k => if j.lineStands k then j else j.confirm .unknown
  | none => j

/-- R21, R23, R26, R28: a result record reaches the LSI. The entries its reads find poisoned are lost before
its verdict is debounced. -/
def Jobs.lsiRecord (r : Record) (j : Jobs) : Jobs :=
  let l := j.verdict r
  let j := (j.touchVerdict r).lostEntries
  (j.setLsi { j.lsi with last := some l, settling := false }).debounce l

/-- R26: the LSI's judgment is set aside. -/
def Jobs.lsiAfresh (j : Jobs) : Jobs :=
  let changed := j.lsi.confirmed ≠ .pending
  let j := j.setLsi { candidate := none, agreement := 0, confirmed := .pending, since := j.tag, last := none,
                      settling := j.lmu.window.isSome }
  if changed then j.push .confirmed else j

/-- R26, R28: the CS orders an identification restart. An entry that the CS's own reads in the same act have found
poisoned is lost before it, so that the loss of the confirmed system is not passed over. -/
def Jobs.lsiRestart (j : Jobs) : Jobs := j.lostEntries.lsiAfresh

/-- R27: the LMU hands over its starvation indication. -/
def Jobs.lsiStarve (j : Jobs) : Jobs :=
  let j := j.setLsi { j.lsi with candidate := none, agreement := 0, settling := false }
  if j.lsi.confirmed = .unknown then j else j.confirm .unknown

end Sys2Proof.Machine
end

