-- ==== Sys2Proof/Machine/Lmu.lean ====
section
/-! DEFINITION. The Line Measurement Unit: the sample stream, the window, the crossing detector, the
result record and starvation (chapter 1, R1 to R17). -/

namespace Sys2Proof.Machine

open Sys2Proof

/-- R3: the word is an over-range code. -/
def overRange (w : Word) : Bool := w == 0x7FFF#16 || w == 0x8000#16

/-- R3: the accumulated value of a sample word. -/
def accumulated (w : Word) : Int := if w = 0x8000#16 then -32767 else w.toInt

/-- R10: the detector after an accumulated value, and whether a crossing is recorded at it. -/
def detect (ref h v : Int) : Detector → Detector × Bool
  | .disarmed => if v ≤ ref - h then (.armed, false) else (.disarmed, false)
  | .armed => if v ≤ ref - h then (.armed, false) else if ref + h ≤ v then (.rising, false) else (.armed, false)
  | .rising =>
    if v ≤ ref - h then (.armed, false) else if ref + h ≤ v then (.disarmed, true) else (.armed, false)

/-- R12: the hysteresis used. -/
def Jobs.hysteresis (j : Jobs) : Int := min 32767 (j.param 0x140 250).toNat

/-- R9: one sample is taken (its closing of the window is the caller's). -/
def Lmu.take (h : Int) (w : Word) (l : Lmu) : Lmu :=
  let v := accumulated w
  let win := l.window.getD {}
  let win := { win with sum := win.sum + v, sumSq := win.sumSq + v.natAbs * v.natAbs, taken := win.taken + 1,
                        saturated := win.saturated + (if overRange w then 1 else 0) }
  let dist := l.distance.map (fun d => min Config.distanceTop (d + 1))
  let (det, crossing) := detect l.ref h v l.detector
  let period := match crossing, dist with
    | true, some d => if 3 ≤ d ∧ d ≤ 1024 then some d else none
    | _, _ => none
  let win := match period with
    | some d => { win with periods := win.periods + 1, lengths := win.lengths + d }
    | none => win
  { l with window := some win, detector := det, distance := if crossing then some 0 else dist }

/-- R13, R15: the record of a window that closes as complete. -/
def Window.complete (w : Window) (n : Word) : Record :=
  let mean := w.sum.tdiv 1024
  let q := w.sumSq / 1024
  { number := n, mean := mean, totalRms := isqrt q, acRms := isqrt (q - mean.natAbs * mean.natAbs),
    freq := if w.periods = 0 then 0 else 640000 * w.periods / w.lengths,
    periods := w.periods, saturated := w.saturated, broken := false }

/-- R15: the record of a window that closes as BROKEN. -/
def Window.brokenOff (w : Window) (n : Word) : Record :=
  { number := n, mean := 0, totalRms := 0, acRms := 0, freq := 0, periods := 0, saturated := w.saturated,
    broken := true }

/-- R15: a record becomes the last result record, uses the window number and is handed to the LSI. -/
def Jobs.handRecord (r : Record) (j : Jobs) : Jobs :=
  (j.setLmu { j.lmu with window := none, number := j.lmu.number + 1, last := some r,
                         ref := if r.broken then j.lmu.ref else r.mean }).lsiRecord r

/-- R5, R7, R15: the window in progress, if there is one, closes as BROKEN. -/
def Jobs.breakWindow (j : Jobs) : Jobs :=
  match j.lmu.window with
  | some w => j.handRecord (w.brokenOff j.lmu.number)
  | none => j

/-- R5, R7: the crossing state is cleared. -/
def Jobs.clearCrossing (j : Jobs) : Jobs :=
  j.setLmu { j.lmu with detector := .disarmed, distance := none }

/-- R9: one sample, with the close of its window at the 1,024th. -/
def Jobs.takeSample (h : Int) (w : Word) (j : Jobs) : Jobs :=
  let j := j.setLmu (j.lmu.take h w)
  match j.lmu.window with
  | some win => if Config.windowSamples ≤ win.taken then j.handRecord (win.complete j.lmu.number) else j
  | none => j

/-- R4, R6, R9: the samples of a frame are taken, with the expected index, T15 and the LMU state. -/
def Jobs.takeSamples (first : Word) (samples : List Word) (j : Jobs) : Jobs :=
  let h := j.hysteresis
  let j := (j.touch 0x140).load .t15 Config.starvationTime .oneShot
  let j := samples.foldl (fun j w => j.takeSample h w) j
  j.setLmu { j.lmu with state := .measuring, expected := some (first + toWord samples.length) }

/-- R4 to R6: a sample frame with its first index. -/
def Jobs.sampleFrame (first : Word) (samples : List Word) (j : Jobs) : Jobs :=
  match j.lmu.state with
  | .idle => j
  | .waiting => j.takeSamples first samples
  | .starved => j.takeSamples first samples
  | .measuring =>
    let d := (first - j.lmu.expected.getD first).toNat
    if d = 0 then j.takeSamples first samples
    else if d ≤ 32767 then
      ((j.flag .sampleGap 0).breakWindow.clearCrossing).takeSamples first samples
    else j

/-- R2: a MEASURE frame is offered to the LMU by the bindings. -/
def Jobs.lmuMeasure (q : Word) (payload : List Word) (j : Jobs) : Jobs :=
  let taken := j.mapUsable .lineV && bit (j.word (MapRole.addr .lineV)) 5 && j.mapPoint .lineV == q
  let j := j.touchMap .lineV
  match taken, payload with
  | true, first :: s :: rest => j.sampleFrame first (s :: rest)
  | _, _ => j

/-- R7: T15 expires in WAITING or MEASURING. -/
def Jobs.starve (j : Jobs) : Jobs :=
  let j := j.breakWindow.clearCrossing
  ((j.setLmu { j.lmu with expected := none, state := .starved }).flag .measureStarved 0).lsiStarve

/-- R16: a measurement restart in RUN. -/
def Jobs.restartMeasurement (j : Jobs) : Jobs :=
  (j.setLmu { state := .waiting }).load .t15 Config.starvationTime .oneShot

/-- The starvation timer's expiry reaches the LMU (R7). -/
def Jobs.starvationExpiry (j : Jobs) : Jobs :=
  if j.expired .t15 then
    let j := j.takeExpiry .t15
    match j.lmu.state with
    | .waiting => j.starve
    | .measuring => j.starve
    | _ => j
  else j

end Sys2Proof.Machine
end

