-- ==== Sys2Proof/Machine/Panto.lean ====
section
/-! DEFINITION. The Pantograph Controller: raising, samples, contact, loss, drop, lowering, blindness,
clearing and arc supervision (chapter 4, R59 to R79; chapter 7, R125 to R127 for the arc inputs). -/

namespace Sys2Proof.Machine

open Sys2Proof

/-- Who asks for a raise (R61). -/
inductive Asker where
  | vehicle
  | cs
  | ic
  deriving DecidableEq, Repr

/-- A pantograph's record is replaced and its change of state handed to the blocks that watch it. -/
def Jobs.moveP (x : Panto) (r : PantoRec) (j : Jobs) : Jobs :=
  (j.setPanto x r).push (.panto x (j.panto x).state r.state (j.panto x).role)

/-- R111: output hold is released: the flag goes off, T0 to T12 run on, and the CS makes its due-time check (R57). The
frozen image becomes absent where the OC compares the sending values with it, when it next follows (`Jobs.ocFollow`). -/
def Jobs.releaseHold (j : Jobs) : Jobs :=
  if j.oc.hold then
    ((j.setOc { j.oc with hold := false }).setTmr (j.tmr.mapHeld Timer.release)).push .cs
  else j

/-! ### Raising -/

/-- R61: the roles whose entries a raise needs. -/
def raiseRoles (x : Panto) : List MapRole := [.raise x, .isol x, .height x, .press x]

/-- R61: the entries and the parameter set a raise needs are there. -/
def Jobs.raisable (x : Panto) (j : Jobs) : Bool :=
  (raiseRoles x).all (fun r => j.mapUsable r) && j.pantoValid x

/-- R60: the record of a pantograph's node: that of its HEIGHT role's point. DESIGN CHOICE (log entry 76): the point is read
from the entry's words also while the entry is invalid or poisoned, so that the node conditions of R61, R70, R86 and R90 go
by that node then as well. -/
def Jobs.pantoNode (x : Panto) (j : Jobs) : NodeRec := j.node (j.mapNode (.height x))

/-- R61: the answer to a raise of `x` with a role. -/
def Jobs.raiseAnswer (x : Panto) (r : Role) (by_ : Asker) (j : Jobs) : Answer :=
  let p := j.panto x
  let o := j.panto x.other
  if p.state.raised then
    if p.role = r ∨ by_ = .vehicle then .accepted else .interlock
  else if p.state = .lowering then .busy
  else if p.state = .dropped ∨ p.state = .faulted then .state
  else if j.oc.lowerAll then .state
  else if !j.raisable x then .state
  else if (j.pantoNode x).state = .lost then .state
  else if r = .collector ∧ o.role = .collector then .interlock
  else if r = .collector ∧ o.state.raised = true then .interlock
  else if r = .scraper ∧ o.role = .scraper then .interlock
  else if r = .scraper ∧ j.cs.state.resting = false then .busy
  else .accepted

/-- The reads a raise makes: the four entries and the valid word, once the record's own state and
lower-all have not already decided. DESIGN CHOICE (log entry 65): all of them are read together. -/
def Jobs.touchRaise (x : Panto) (j : Jobs) : Jobs :=
  if (j.panto x).state = .lowered ∧ j.oc.lowerAll = false then
    (j.touchMaps (raiseRoles x)).touch (pantoAddr x 0)
  else j

/-- R62: pantograph `x` enters PREPARING with a role. -/
def Jobs.prepare (x : Panto) (r : Role) (j : Jobs) : Jobs :=
  let p := j.panto x
  let t := timing (j.pantoParam x 7)
  ((j.touch (pantoAddr x 7)).moveP x
    { p with state := .preparing, role := r, connected := decide (r = .collector), cause := none,
             reached := false, contact := 0, loss := 0, low := 0, raises := p.raises + 1 }).load
    x.settleTimer t .oneShot

/-- R61: a raise is decided, and made where its last case applies. -/
def Jobs.raise (x : Panto) (r : Role) (by_ : Asker) (j : Jobs) : Answer × Jobs :=
  let a := j.raiseAnswer x r by_
  let starts := decide (a = .accepted) && !(j.panto x).state.raised
  let j := j.touchRaise x
  (a, if starts then j.prepare x r else j)

/-- R63: the settle timer expires in PREPARING. -/
def Jobs.settleExpiry (x : Panto) (j : Jobs) : Jobs :=
  if j.expired x.settleTimer then
    let j := j.takeExpiry x.settleTimer
    if (j.panto x).state = .preparing then
      let t := timing (j.pantoParam x 5)
      ((j.touch (pantoAddr x 5)).moveP x { j.panto x with state := .raising, contact := 0 }).load
        x.stepTimer t .oneShot
    else j
  else j

/-! ### Lowering -/

/-- R68: a lower of `x`. -/
def Jobs.lower (x : Panto) (j : Jobs) : Jobs :=
  if (j.panto x).state.raised then
    let t := timing (j.pantoParam x 6)
    ((((j.touch (pantoAddr x 6)).stop x.settleTimer).stop x.arcTimer).moveP x
      { j.panto x with state := .lowering, low := 0 }).load x.stepTimer t .oneShot
  else j

/-- R70: a raised pantograph is blind. -/
def Jobs.isBlind (x : Panto) (j : Jobs) : Bool :=
  (j.panto x).state.raised
    && (decide ((j.pantoNode x).state = .lost) || j.mapPoisoned (.height x) || j.mapPoisoned (.press x))

/-- R70: a blind pantograph is lowered with cause BLIND. -/
def Jobs.lowerBlind (x : Panto) (j : Jobs) : Jobs :=
  if j.isBlind x then
    let j := j.lower x
    j.setPanto x { j.panto x with cause := some .blind }
  else j

/-- R65: the step timer expires in RAISING. -/
def Jobs.raiseTimeout (x : Panto) (j : Jobs) : Jobs :=
  if j.expired x.stepTimer && (j.panto x).state != .lowering then
    let j := j.takeExpiry x.stepTimer
    if (j.panto x).state = .raising then
      (j.moveP x { j.panto x with state := .faulted, cause := some .raiseTimeout }).flag .pantoFaulted x.num
    else j
  else j

/-- R69: the step timer expires in LOWERING. -/
def Jobs.lowerTimeout (x : Panto) (j : Jobs) : Jobs :=
  if j.expired x.stepTimer && (j.panto x).state == .lowering then
    ((j.takeExpiry x.stepTimer).moveP x { j.panto x with state := .faulted, cause := some .lowerTimeout }).flag
      .pantoFaulted x.num
  else j

/-! ### Samples -/

/-- R59, R64, R77: the arc budget, above 255 used as 255. -/
def Jobs.arcBudget (x : Panto) (j : Jobs) : Nat := min 255 (j.pantoParam x 9).toNat

/-- R64: the third contact sample. -/
def Jobs.contactMade (x : Panto) (j : Jobs) : Jobs :=
  let budget := j.arcBudget x
  let interval := timing (j.pantoParam x 10)
  let j := (j.touchAll [pantoAddr x 9, pantoAddr x 10]).stop x.stepTimer
  let j := j.moveP x { j.panto x with state := .inContact, loss := 0, excess := 0, burst := false }
  let j := j.setArcIn x { j.arcIn x with count := budget }
  (j.load x.arcTimer interval .periodic).flag .pantoContact x.num

/-- R66: the third sample below contact height. -/
def Jobs.contactGone (x : Panto) (j : Jobs) : Jobs :=
  let t := timing (j.pantoParam x 5)
  let j := (j.touch (pantoAddr x 5)).stop x.arcTimer
  let j := j.moveP x { j.panto x with state := .raising, contact := 0 }
  (j.load x.stepTimer t .oneShot).flag .contactLost x.num

/-- R67: a drop. -/
def Jobs.drop (x : Panto) (j : Jobs) : Jobs :=
  let j := (j.stop x.stepTimer).stop x.arcTimer
  let j := (j.moveP x { j.panto x with state := .dropped, cause := some .drop }).flag .pantoDropped x.num
  j.releaseHold

/-- R69: the third low sample. -/
def Jobs.loweredReached (x : Panto) (j : Jobs) : Jobs :=
  let j := j.stop x.stepTimer
  j.moveP x { j.panto x with state := .lowered, role := .none, connected := false }

/-- R60: a comparison of a stored value fails while the value is absent. -/
def optTest (v : Option Word) (f : Nat → Bool) : Bool :=
  match v with
  | some w => f w.toNat
  | none => false

/-- R60: the evaluation of one sample, after its values are stored. DESIGN CHOICE (log entry 50): a sample in
RAISING or IN_CONTACT reads the contact pressure, the drop pressure and the contact height, also where it goes
no further than a drop. DESIGN CHOICE (log entry 73): a sample in LOWERING reads the lowered height also while the last
height is absent. -/
def Jobs.evaluate (x : Panto) (j : Jobs) : Jobs :=
  let p := j.panto x
  match p.state with
  | .raising =>
    let high := (j.pantoParam x 2).toNat
    let hard := (j.pantoParam x 3).toNat
    let drop := (j.pantoParam x 4).toNat
    let j := j.touchAll [pantoAddr x 3, pantoAddr x 4, pantoAddr x 2]
    let reached := p.reached || optTest p.press (fun v => decide (hard ≤ v))
    let j := j.setPanto x { p with reached := reached }
    if reached && optTest p.press (fun v => decide (v < drop)) then j.drop x
    else if optTest p.height (fun v => decide (high ≤ v)) && optTest p.press (fun v => decide (hard ≤ v)) then
      let n := p.contact + 1
      let j := j.setPanto x { p with reached := reached, contact := n }
      if 3 ≤ n then j.contactMade x else j
    else j.setPanto x { p with reached := reached, contact := 0 }
  | .inContact =>
    let high := (j.pantoParam x 2).toNat
    let hard := (j.pantoParam x 3).toNat
    let drop := (j.pantoParam x 4).toNat
    let j := j.touchAll [pantoAddr x 3, pantoAddr x 4, pantoAddr x 2]
    let reached := p.reached || optTest p.press (fun v => decide (hard ≤ v))
    let j := j.setPanto x { p with reached := reached }
    if reached && optTest p.press (fun v => decide (v < drop)) then j.drop x
    else if optTest p.height (fun v => decide (v < high)) then
      let n := p.loss + 1
      let j := j.setPanto x { p with reached := reached, loss := n }
      if 3 ≤ n then j.contactGone x else j
    else if optTest p.height (fun v => decide (high ≤ v)) then j.setPanto x { p with reached := reached, loss := 0 }
    else j
  | .lowering =>
    let low := (j.pantoParam x 1).toNat
    let j := j.touch (pantoAddr x 1)
    if optTest p.height (fun v => decide (v ≤ low)) then
      let n := p.low + 1
      let j := j.setPanto x { p with low := n }
      if 3 ≤ n then j.loweredReached x else j
    else j.setPanto x { p with low := 0 }
  | _ => j

/-- R60: a MEASURE frame is offered to the PC by the bindings: the values it carries are stored, then one
sample is evaluated. -/
def Jobs.pantoMeasure (x : Panto) (q : Word) (payload : List Word) (j : Jobs) : Jobs :=
  let h := j.carriedFor (.height x) q payload
  let v := j.carriedFor (.press x) q payload
  let j := j.touchMaps [.height x, .press x]
  if h.isSome || v.isSome then
    let p := j.panto x
    (j.setPanto x { p with height := h.or p.height, press := v.or p.press }).evaluate x
  else j

/-! ### Clearing and requests -/

/-- R73: FAULT_CLEAR of a record in DROPPED or FAULTED. DESIGN CHOICE (log entry 73): it reads the lowered height also while
the last height is absent. -/
def Jobs.faultClear (x : Panto) (j : Jobs) : Answer × Jobs :=
  let p := j.panto x
  if p.state = .dropped ∨ p.state = .faulted then
    let low := (j.pantoParam x 1).toNat
    let j := j.touch (pantoAddr x 1)
    if optTest p.height (fun v => decide (v ≤ low)) then
      (.accepted, j.moveP x { p with state := .lowered, role := .none, connected := false })
    else (.state, j)
  else (.state, j)

/-- R74: AUTO chooses the pantograph set of the confirmed entry, or the start pantograph. -/
def Jobs.autoPanto (j : Jobs) : Panto :=
  match j.lsi.confirmed.index with
  | some k =>
    if j.lineUsable k && j.lineSet k == 1 then .p1
    else if j.lineUsable k && j.lineSet k == 2 then .p2
    else j.startPanto
  | none => j.startPanto

/-- The reads AUTO makes. -/
def Jobs.touchAuto (j : Jobs) : Jobs :=
  match j.lsi.confirmed.index with
  | some k => if j.lineUsable k && j.lineSet k != 3 then j.touchLine k else (j.touchLine k).touch 0x145
  | none => j.touch 0x145

/-- R74: REQUEST RAISE in RUN with output hold off. -/
def Jobs.requestRaise (arg : Byte) (j : Jobs) : Answer × Jobs :=
  if arg.toNat < 1 ∨ 3 < arg.toNat then (.invalid, j)
  else if !j.cs.state.resting then (.busy, j)
  else if arg = 1 then j.raise .p1 .collector .vehicle
  else if arg = 2 then j.raise .p2 .collector .vehicle
  else j.touchAuto.raise j.autoPanto .collector .vehicle

/-- R75: the CS is in a step that keeps LOWER and FAULT_CLEAR waiting (any state but IDLE, ARMED, HOLD). -/
def CsState.stepping : CsState → Bool
  | .idle => false
  | .armed => false
  | .hold => false
  | _ => true

/-- R75: LOWER of one pantograph. -/
def Jobs.requestLowerOne (x : Panto) (j : Jobs) : Answer × Jobs :=
  match (j.panto x).state with
  | .dropped => (.state, j)
  | .faulted => (.state, j)
  | _ => (.accepted, j.lower x)

/-- R75: REQUEST LOWER in RUN with output hold off. -/
def Jobs.requestLower (arg : Byte) (j : Jobs) : Answer × Jobs :=
  if arg.toNat < 1 ∨ 3 < arg.toNat then (.invalid, j)
  else if j.cs.state.stepping then (.busy, j)
  else if arg = 1 then j.requestLowerOne .p1
  else if arg = 2 then j.requestLowerOne .p2
  else (.accepted, (j.lower .p1).lower .p2)

/-- R75: REQUEST FAULT_CLEAR in RUN with output hold off. -/
def Jobs.requestFaultClear (arg : Byte) (j : Jobs) : Answer × Jobs :=
  if arg.toNat < 1 ∨ 2 < arg.toNat then (.invalid, j)
  else if j.cs.state.stepping then (.busy, j)
  else if arg = 1 then j.faultClear .p1
  else j.faultClear .p2

/-! ### Arc supervision -/

/-- R76, R127: an arc event of a pantograph. -/
def Jobs.arcEvent (x : Panto) (j : Jobs) : Jobs :=
  let p := j.panto x
  if p.state = .inContact then
    let a := j.arcIn x
    if 0 < a.count then j.setArcIn x { a with count := a.count - 1 }
    else if p.burst then j.setPanto x { p with excess := min 255 (p.excess + 1) }
    else
      ((j.setPanto x { p with excess := min 255 (p.excess + 1), burst := true }).setIce
        { j.ice with tally := min 255 (j.ice.tally + 1) }).flag .arcBurst x.num
  else j

/-- R77: the arc interval timer expires in IN_CONTACT. -/
def Jobs.arcInterval (x : Panto) (j : Jobs) : Jobs :=
  if j.expired x.arcTimer then
    let j := j.takeExpiry x.arcTimer
    if (j.panto x).state = .inContact then
      let n := j.arcBudget x
      let j := j.touch (pantoAddr x 9)
      (j.setPanto x { j.panto x with excess := 0, burst := false }).setArcIn x { j.arcIn x with count := n }
    else j
  else j

/-- R126: the polarity's active edge is the falling one. -/
def Jobs.arcFalling (x : Panto) (j : Jobs) : Bool := j.pantoParam x 8 == 1

/-- R125, R126: one sample of an arc input; an accepted edge reads the polarity, and an active one in RUN
is an arc event. DEDUCED (log entry 74): the first sample after a reset only sets the last sample; the level is accepted at
the second equal one. -/
def Jobs.arcSample (x : Panto) (high : Bool) (j : Jobs) : Jobs :=
  let a := j.arcIn x
  if a.last = some high ∧ a.level ≠ some high then
    let j' := j.setArcIn x { a with last := some high, level := some high }
    match a.level with
    | none => j'
    | some _ =>
      let active := high != j.arcFalling x
      let j' := j'.touch (pantoAddr x 8)
      if active && j.dev == .run then j'.arcEvent x else j'
  else j.setArcIn x { a with last := some high }

/-- R126: the step at which an active edge is accepted: the input's last sample comes again and differs
from its accepted level. -/
def Jobs.arcEdge (x : Panto) (j : Jobs) : Jobs :=
  match (j.arcIn x).last, (j.arcIn x).level with
  | some high, some was => if high != was && high != j.arcFalling x then j.arcSample x high else j
  | _, _ => j

end Sys2Proof.Machine
end

