-- ==== Sys2Proof/Machine/Changeover.lean ====
section
/-! DEFINITION. The Changeover Sequencer: the speed record, the feature list, the breaker and its close law,
the changeover steps, HOLD, unexpected line changes and the requests it takes (chapter 3, R32 to R58). -/

namespace Sys2Proof.Machine

open Sys2Proof

/-! ### The speed record and the feature list -/

/-- 13.2: the leading end field. -/
def leadOf (tail : Word) : Lead :=
  match bits tail 0 2 with
  | 1 => .p1
  | 2 => .p2
  | _ => .unknown

/-- R33, R194: the speed field, above 400 stored as 400. -/
def speedOf (a : Announcement) : Nat := min 400 a.speed.toNat

/-- R33: every AHEAD frame taken in RUN updates the speed record. -/
def Jobs.takeSpeed (a : Announcement) (j : Jobs) : Jobs :=
  (j.setSpeed { known := true, aged := false, kmh := speedOf a, arrival := j.tag,
                lead := if a.speed = 0 then leadOf a.tail else j.speed.lead }).push .look

/-- R34: the quotient of a distance and a speed, in milliseconds. -/
def travelTime (metres kmh : Nat) : Nat := metres * 3600 / max kmh 5

/-- R34: the feature a NEUTRAL or BOUNDARY frame announces. -/
def Jobs.announced (kind : FeatureKind) (a : Announcement) (j : Jobs) : Feature :=
  let m := (j.changeover 0).toNat
  let m2 := (j.changeover 1).toNat
  let t := if a.distance.toNat ≤ m then 0 else travelTime (a.distance.toNat - m) (speedOf a)
  { kind := kind, number := some a.number, target := .code a.target, due := some (j.tag + BitVec.ofNat 32 t),
    coast := travelTime (a.length.toNat + m2) (speedOf a), arrival := some j.tag, dueMark := t == 0 }

/-- R34: the due time of `f` is earlier than that of `g`. -/
def Feature.earlier (f g : Feature) : Bool :=
  match f.due, g.due with
  | some a, some b => decide (tagDiff a b < 0)
  | _, _ => false

/-- R35: insertion after every entry due earlier or at the same time, before every later one. -/
def insertFeature (f : Feature) : List Feature → List Feature
  | [] => [f]
  | g :: rest => if f.earlier g then f :: g :: rest else g :: insertFeature f rest

/-- The feature carries an announcement number. -/
def Feature.has (n : Byte) (f : Feature) : Bool := f.number == some n

/-- The number of a feature as a subject. -/
def Feature.subject (f : Feature) : Nat := (f.number.getD 0).toNat

/-- R35: the feature list after a frame's feature is offered, and the number given up. -/
def offerTo (f : Feature) (n : Byte) (l : List Feature) : List Feature × Option Nat :=
  let rest := l.filter (fun g => !g.has n)
  if rest.length < l.length ∨ rest.length < Config.featureRoom then (insertFeature f rest, none)
  else match rest.getLast? with
    | some z => if f.earlier z then (insertFeature f rest.dropLast, some z.subject) else (l, some n.toNat)
    | none => (l, some n.toNat)

/-- R35: a NEUTRAL or BOUNDARY frame is offered to the feature list. DESIGN CHOICE (log entry 65): both margins are read
at every offer. -/
def Jobs.offerFeature (kind : FeatureKind) (a : Announcement) (j : Jobs) : Jobs :=
  let f := j.announced kind a
  let unresolved := decide (kind = .boundary) && (j.resolve a.target).isNone
  let j := j.touchAll [0x150, 0x151]
  if j.cs.current.any (fun g => g.has a.number) then j.flag .featureDiscarded a.number.toNat
  else
    let j := if kind = .boundary then j.touchResolve a.target else j
    if unresolved then j.flag .featureDiscarded a.number.toNat
    else
      let (l, lost) := offerTo f a.number j.cs.list
      let j := (j.setCs { j.cs with list := l }).push .cs
      match lost with
      | some n => j.flag .featureDiscarded n
      | none => j

/-- R36: a CANCEL frame. -/
def Jobs.cancel (n : Byte) (j : Jobs) : Jobs :=
  if j.cs.current.any (fun g => g.has n) then j.setCs { j.cs with refused := min 255 (j.cs.refused + 1) }
  else (j.setCs { j.cs with list := j.cs.list.filter (fun g => !g.has n) }).push .cs

/-- R37: the staleness test. -/
def Jobs.dropStale (j : Jobs) : Jobs :=
  let stale := j.cs.list.filter (fun g => g.staleMark)
  stale.foldl (fun j g => j.flag .featureDiscarded g.subject)
    (j.setCs { j.cs with list := j.cs.list.filter (fun g => !g.staleMark) })

/-- R37: the marks of one entry at a time tag. -/
def Feature.age (tag : Long) (limit : Nat) (f : Feature) : Feature :=
  match f.due with
  | some d => { f with dueMark := f.dueMark || decide (0 ≤ tagDiff tag d),
                       staleMark := f.staleMark || decide ((limit : Int) < tagDiff tag d) }
  | none => f

/-- R37: the tick follows every entry of the list. -/
def Jobs.ageFeatures (j : Jobs) : Jobs :=
  if j.cs.list.isEmpty then j
  else
    let limit := timing (j.changeover 8)
    let j := j.touch 0x158
    j.setCs { j.cs with list := j.cs.list.map (Feature.age j.tag limit) }

/-! ### The breaker command and the close law -/

/-- R39, R50: the command becomes OPEN, which ends any close pulse. -/
def Jobs.setOpen (j : Jobs) : Jobs :=
  let j := if j.cs.pulse then j.stop .t1 else j
  j.setCs { j.cs with command := .open, pulse := false }

/-- The selector feedback equals a position (R40). -/
def SelectorFb.at (p : SelPos) (f : SelectorFb) : Bool :=
  match p, f with
  | .ac, .ac => true
  | .dc, .dc => true
  | _, _ => false

/-- R40: a pantograph with role COLLECTOR is IN_CONTACT. -/
def Jobs.collecting (j : Jobs) : Bool :=
  match j.collector with
  | some x => (j.panto x).state == .inContact
  | none => false

/-- The confirmed system is SYSTEM(k) and entry k is usable. -/
def Jobs.confirmedEntry (j : Jobs) : Option (Fin 8) := j.lsi.confirmed.index.filter (fun k => j.lineUsable k)

/-- The read the close law makes of the confirmed entry. -/
def Jobs.touchConfirmed (j : Jobs) : Jobs :=
  match j.lsi.confirmed.index with
  | some k => j.touchLine k
  | none => j

/-- R40: the close law. (The reads it makes are `touchConfirmed`.) -/
def Jobs.closeLaw (j : Jobs) : Bool :=
  j.collecting && !j.oc.lowerAll &&
    match j.confirmedEntry with
    | some k => j.fb.sel.at (j.lineSelector k)
    | none => false

/-- The target of the feature in hand: ANY for an absent feature and for a NEUTRAL one that R48 has given no code
(log entry 13). -/
def Jobs.csTarget (j : Jobs) : Target :=
  match j.cs.current with
  | some f => if f.kind = .neutral ∧ f.adopted = false then .any else f.target
  | none => .any

/-- The entry the target resolves to. -/
def Jobs.targetEntry (j : Jobs) : Option (Fin 8) :=
  match j.csTarget with
  | .code c => j.resolve c
  | .any => none

/-- The reads a resolution of the target makes. -/
def Jobs.touchTarget (j : Jobs) : Jobs :=
  match j.csTarget with
  | .code c => j.touchResolve c
  | .any => j

/-- The reads the tests of CLOSING make. -/
def Jobs.touchClosing (j : Jobs) : Jobs := j.touchConfirmed.touchTarget

/-- R49: entry k meets the target condition of CLOSING. -/
def Jobs.isTarget (k : Fin 8) (j : Jobs) : Bool :=
  match j.cs.current with
  | none => true
  | some f =>
    if f.kind = .neutral then j.cs.expected == some (.system k)
    else match f.target with
      | .any => true
      | .code c => j.resolve c == some k

/-- R49: the first failing condition of CLOSING. -/
def Jobs.closeFailure (j : Jobs) : Option HoldReason :=
  if j.oc.lowerAll then some .lowerAll
  else if !j.collecting then some .pantograph
  else match j.confirmedEntry with
    | none => some .mismatch
    | some k =>
      if !j.isTarget k then some .mismatch
      else if !j.fb.sel.at (j.lineSelector k) then some .selector
      else none

/-! ### Entries to the states -/

/-- The CS enters a state. -/
def Jobs.csTo (s : CsState) (j : Jobs) : Jobs := (j.setCs { j.cs with state := s }).push .cs

/-- R51: entry to HOLD. -/
def Jobs.enterHold (r : HoldReason) (step : CsState) (j : Jobs) : Jobs :=
  let j := (j.setOpen.stop .t0).stop .t1
  ((j.setCs { j.cs with selOut := none, reason := some r, stepOfFailure := some step }).flag .changeoverHold
    r.code).csTo .hold

/-- R51: HOLD with the present step as the step of failure. -/
def Jobs.failStep (r : HoldReason) (j : Jobs) : Jobs := j.enterHold r j.cs.state

/-- T0 is loaded with a changeover timing word (R38). -/
def Jobs.loadStep (i : Nat) (j : Jobs) : Jobs :=
  let t := timing (j.changeover i)
  (j.touch (0x150 + i)).load .t0 t .oneShot

/-- R41: entry to IDLE. -/
def Jobs.enterIdle (j : Jobs) : Jobs := (j.stop .t0).csTo .idle

/-- R41: entry to ARMED, with the staleness test. -/
def Jobs.enterArmed (j : Jobs) : Jobs := (j.dropStale).csTo .armed

/-- R42: entry to OPENING. -/
def Jobs.enterOpening (j : Jobs) : Jobs := (j.setOpen.loadStep 2).csTo .opening

/-- R43: a NEUTRAL coast that has ended waits: the confirmed system is neither the expected one nor
another SYSTEM. -/
def Jobs.coastWaits (j : Jobs) : Bool := j.cs.expected != some j.lsi.confirmed && !j.lsi.confirmed.isSystem

/-- R44 applies to the feature in hand. -/
def Jobs.crossing (j : Jobs) : Bool :=
  match j.cs.current with
  | some f => f.kind == .boundary || f.kind == .select
  | none => false

/-- R43: entry to COASTING. -/
def Jobs.enterCoasting (j : Jobs) : Jobs :=
  let coast := (j.cs.current.map (fun f => f.coast)).getD 0
  let j := j.stop .t0
  let j := j.setCs { j.cs with deadSeen := decide (j.lsi.confirmed = .dead), coastEnded := coast == 0 }
  let j :=
    if coast = 0 then (if !j.crossing && j.coastWaits then j.loadStep 6 else j)
    else j.load .t1 (min coast Config.timerTop) .oneShot
  j.csTo .coasting

/-- R45: a pantograph's lower timeout as the CS reads it. -/
def Jobs.lowerTime (x : Panto) (j : Jobs) : Nat := if j.pantoValid x then timing (j.pantoParam x 6) else 6000

/-- R45: entry to LOWERING. DESIGN CHOICE (log entry 65): the words of both pantographs' timeouts and the margin are read. -/
def Jobs.enterLowering (j : Jobs) : Jobs :=
  let t := min Config.timerTop (max (j.lowerTime .p1) (j.lowerTime .p2) + timing (j.changeover 7))
  let j := (j.lower .p1).lower .p2
  let j := j.touchAll [pantoAddr .p1 0, pantoAddr .p1 6, pantoAddr .p2 0, pantoAddr .p2 6, 0x157]
  (j.load .t0 t .oneShot).csTo .lowering

/-- Both PC records are LOWERED. -/
def Jobs.bothLowered (j : Jobs) : Bool := j.p1.state == .lowered && j.p2.state == .lowered

/-- R46: entry to SELECTING. -/
def Jobs.enterSelecting (j : Jobs) : Jobs :=
  if j.fb.brk ≠ .open then j.enterHold .breaker .selecting
  else if !j.bothLowered then j.enterHold .pantograph .selecting
  else
    let entry := j.targetEntry
    let pos := entry.map (fun k => j.lineSelector k)
    let j := j.touchTarget
    match pos with
    | none => j.enterHold .mismatch .selecting
    | some p => ((j.setCs { j.cs with selOut := some p }).loadStep 5).csTo .selecting

/-- R47: the pantograph chosen for a set of EITHER or a target of ANY. -/
def Jobs.eitherPanto (j : Jobs) : Panto :=
  match j.collector with
  | some x => if (j.panto x).state.raised then x
      else if j.p1.state.raised then .p1 else if j.p2.state.raised then .p2 else j.startPanto
  | none => if j.p1.state.raised then .p1 else if j.p2.state.raised then .p2 else j.startPanto

/-- R47: the pantograph to raise; `none` where the target's code names no usable entry. -/
def Jobs.raiseChoice (j : Jobs) : Option Panto :=
  match j.csTarget with
  | .any => some j.eitherPanto
  | .code c =>
    match j.resolve c with
    | none => none
    | some k => if j.lineSet k = 1 then some .p1 else if j.lineSet k = 2 then some .p2 else some j.eitherPanto

/-- R95: the IC notes the pantograph that the CS has raised as collector, where it was not raised already. -/
def Jobs.noteMade (x : Panto) (was : PState) (j : Jobs) : Jobs :=
  if was.raised then j else j.setIce { j.ice with made := some x }

/-- R47: entry to RAISING. DESIGN CHOICE (log entry 48): the start pantograph's word is read at every entry, also
where the choice does not come to it. -/
def Jobs.enterRaising (j : Jobs) : Jobs :=
  let choice := j.raiseChoice
  let j := ((j.touchTarget).touch 0x145).stop .t0
  match choice with
  | none => j.enterHold .mismatch .raising
  | some x =>
    let was := (j.panto x).state
    match j.raise x .collector .cs with
    | (.accepted, j) => ((j.setCs { j.cs with chosen := some x }).noteMade x was).csTo .raising
    | (_, j) => j.enterHold .pantograph .raising

/-- R48: entry to IDENTIFYING. -/
def Jobs.enterIdentifying (j : Jobs) : Jobs := (j.loadStep 6).csTo .identifying

/-- R49: entry to CLOSING. -/
def Jobs.enterClosing (j : Jobs) : Jobs :=
  let failure := j.closeFailure
  let j := j.touchClosing
  match failure with
  | some r => j.enterHold r .closing
  | none =>
    let pulse := timing (j.changeover 3)
    let j := j.setCs { j.cs with command := .close, pulse := true }
    (((j.touch 0x153).load .t1 pulse .oneShot).loadStep 4).csTo .closing

/-! ### The tests of each state -/

/-- R44: entry k needs another pantograph or another selector position. -/
def Jobs.needsRoof (k : Fin 8) (j : Jobs) : Bool :=
  (match j.lineSet k with
    | 1 => j.collector != some .p1
    | 2 => j.collector != some .p2
    | _ => j.collector.isNone) || !j.fb.sel.at (j.lineSelector k)

/-- R41: the due head becomes the current feature. -/
def Jobs.takeHead (f : Feature) (rest : List Feature) (j : Jobs) : Jobs :=
  let j := j.setCs { j.cs with list := rest, current := some f, expected := some j.lsi.confirmed, deadSeen := false }
  if j.lsi.confirmed.isSystem then j.enterOpening else j.enterHold .identify .armed

/-- R41: the due-time check of ARMED, which output hold keeps away (R57). -/
def Jobs.dueCheck (j : Jobs) : Jobs :=
  match j.cs.list with
  | f :: rest => if f.dueMark && !j.oc.hold then j.takeHead f rest else j
  | [] => j

/-- R44: the coast of a BOUNDARY or SELECT feature has ended. -/
def Jobs.coastToRoof (j : Jobs) : Jobs :=
  let entry := j.targetEntry
  let need := entry.map (fun k => j.needsRoof k)
  let j := j.touchTarget
  match need with
  | none => j.failStep .mismatch
  | some true => (j.stop .t1).enterLowering
  | some false => ((j.stop .t1).lsiRestart).enterIdentifying

/-- R43, R44: what follows a coast that has ended. -/
def Jobs.coastOver (j : Jobs) : Jobs :=
  if j.crossing then j.coastToRoof
  else if j.cs.expected = some j.lsi.confirmed then ((j.stop .t0).stop .t1).enterClosing
  else if j.lsi.confirmed.isSystem then j.failStep .mismatch
  else j

/-- R43: COASTING. -/
def Jobs.coastingTest (j : Jobs) : Jobs :=
  let dead := j.cs.deadSeen || decide (j.lsi.confirmed = .dead)
  let j := j.setCs { j.cs with deadSeen := dead, coastEnded := j.cs.coastEnded || dead }
  if j.cs.coastEnded then j.coastOver else j

/-- R45: LOWERING. -/
def Jobs.loweringTest (j : Jobs) : Jobs :=
  if j.bothLowered then
    let pos := j.targetEntry.map (fun k => j.fb.sel.at (j.lineSelector k))
    let j := (j.touchTarget).stop .t0
    match pos with
    | none => j.failStep .mismatch
    | some true => j.enterRaising
    | some false => j.enterSelecting
  else j

/-- R46: SELECTING. DESIGN CHOICE (log entry 71): the target position is the one asserted at entry, whatever a WRITE makes of
the target's entry meanwhile. -/
def Jobs.selectingTest (j : Jobs) : Jobs :=
  if j.fb.brk ≠ .open then j.failStep .breaker
  else if !j.bothLowered then j.failStep .pantograph
  else if j.cs.selOut.any (fun p => j.fb.sel.at p) then
    ((j.setCs { j.cs with selOut := none }).stop .t0).enterRaising
  else if j.fb.sel = .illegal then j.failStep .selector
  else j

/-- R47: RAISING. -/
def Jobs.raisingTest (j : Jobs) : Jobs :=
  if j.cs.chosen.any (fun x => (j.panto x).state == .inContact) then j.lsiRestart.enterIdentifying else j

/-- R48: the target ANY becomes entry k's code. -/
def Jobs.adoptTarget (k : Fin 8) (j : Jobs) : Jobs :=
  j.setCs { j.cs with current := j.cs.current.map (fun f =>
    { f with target := .code (BitVec.ofNat 4 (j.lineCode k)), adopted := true }) }

/-- In CLOSING, whose entry needs the collector IN_CONTACT: the collector is back in RAISING by contact
loss (R49). -/
def Jobs.contactIsLost (j : Jobs) : Bool := j.collector.any (fun x => (j.panto x).state == .raising)

/-- R48: IDENTIFYING. An entry that this use finds poisoned is no entry (R18): the confirmed system is then lost
(R28), which is the change the step goes on at. -/
def Jobs.identifyingTest (j : Jobs) : Jobs :=
  match j.lsi.confirmed, j.csTarget with
  | .pending, _ => j
  | .none, _ => j
  | .system k, .any =>
    if j.lineUsable k then
      let need := j.needsRoof k
      let j := (j.touchLine k).adoptTarget k
      if need then j.enterLowering else j.enterClosing
    else j.touchLine k
  | .dead, .any => j.failStep .dead
  | .unknown, .any => j.failStep .identify
  | l, .code c =>
    let reached := (j.resolve c).any (fun k => decide (l = .system k))
    let j := j.touchResolve c
    if reached then j.enterClosing else j.failStep .mismatch

/-- R49: the feedback reads CLOSED. -/
def Jobs.closingDone (j : Jobs) : Jobs :=
  let j := if j.cs.pulse then j.stop .t1 else j
  let j := j.setCs { j.cs with pulse := false, closingSystem := j.lsi.confirmed.index, current := none, expected := none }
  (j.flag .changeoverDone j.cs.state.code).enterIdle

/-- R49: CLOSING. DESIGN CHOICE (log entry 66): the close law is tested before the feedback is looked at, so that a step
that both brings the feedback to CLOSED and breaks the close law ends in HOLD. -/
def Jobs.closingTest (j : Jobs) : Jobs :=
  let failure := j.closeFailure
  let j := j.touchClosing
  match failure with
  | some .pantograph => if j.contactIsLost then j.setOpen.enterRaising else j.failStep .pantograph
  | some r => j.failStep r
  | none => if j.fb.brk = .closed then j.closingDone else j

/-- The tests the CS makes in its present state; the due-time check only where `due` says so. -/
def Jobs.csTest (due : Bool) (j : Jobs) : Jobs :=
  match j.cs.state with
  | .idle => if !j.cs.list.isEmpty && j.lsi.confirmed.isSystem then j.enterArmed else j
  | .armed => if j.cs.list.isEmpty then j.enterIdle else if due then j.dueCheck else j
  | .opening => if j.fb.brk = .open then j.enterCoasting else j
  | .coasting => j.coastingTest
  | .lowering => j.loweringTest
  | .selecting => j.selectingTest
  | .raising => j.raisingTest
  | .identifying => j.identifyingTest
  | .closing => j.closingTest
  | .hold => j

/-! ### Events from other blocks -/

/-- R52: the confirmed system changes. DESIGN CHOICE (log entry 72): the ENERGISE feature built at another SYSTEM has coast
time 0. -/
def Jobs.csConfirmed (j : Jobs) : Jobs :=
  if j.cs.state.resting && j.cs.command == .close then
    match j.lsi.confirmed with
    | .system k =>
      if j.cs.closingSystem = some k then j.csTest false
      else
        let j := (j.flag .systemUnexpected j.cs.state.code).setOpen
        (j.setCs { j.cs with current := some { kind := .energise, number := none, target := .any, due := none,
                                                coast := 0, arrival := none },
                             expected := some (.system k) }).enterHold .unexpected .identifying
    | .dead =>
      let kmh := if j.speed.isKnown then j.speed.kmh else 0
      let coast := travelTime (j.changeover 1).toNat kmh
      let j := ((j.touch 0x151).flag .deadUnannounced j.cs.state.code).setOpen
      (j.setCs { j.cs with current := some { kind := .neutral, number := none, target := .any, due := none,
                                              coast := coast, arrival := none },
                           expected := j.cs.closingSystem.map Line.system }).enterCoasting
    | _ => j.csTest false
  else j.csTest false

/-- R53: the breaker feedback changes. -/
def Jobs.csBreaker (old new : BreakerFb) (j : Jobs) : Jobs :=
  if old = .closed ∧ new = .open ∧ j.cs.state.resting = true ∧ j.cs.command = .close then
    let j := (j.flag .breakerTripped j.cs.state.code).setOpen
    (j.setCs { j.cs with closingSystem := none }).enterIdle
  else j.csTest false

/-- R50: the collector's record leaves IN_CONTACT or RAISING for LOWERING, DROPPED or FAULTED. -/
def collectorGone (old new : PState) (role : Role) : Bool :=
  role == .collector && (old == .inContact || old == .raising)
    && (new == .lowering || new == .dropped || new == .faulted)

/-- R50: what the loss of the collector does in the present state. -/
def Jobs.csCollectorGone (j : Jobs) : Jobs :=
  let j := j.setOpen
  match j.cs.state with
  | .idle => j.setCs { j.cs with closingSystem := none }
  | .armed => j.setCs { j.cs with closingSystem := none }
  | .opening => j.failStep .pantograph
  | .coasting => j.failStep .pantograph
  | .identifying => j.failStep .pantograph
  | .closing => j.failStep .pantograph
  | _ => j

/-- R45, R47, R48: a record's change of state ends LOWERING, RAISING or, for the collector, IDENTIFYING. -/
def Jobs.csPantoFailed (x : Panto) (new : PState) (role : Role) (j : Jobs) : Bool :=
  match j.cs.state with
  | .identifying => role == .collector && (new == .dropped || new == .faulted || new == .lowering)
  | .lowering => new == .dropped || new == .faulted
  | .raising => j.cs.chosen == some x && (new == .dropped || new == .faulted || new == .lowering)
  | _ => false

/-- R48: the collector loses contact in IDENTIFYING. -/
def Jobs.csContactLost (old new : PState) (role : Role) (j : Jobs) : Bool :=
  j.cs.state == .identifying && role == .collector && old == .inContact && new == .raising

/-- R45 to R50: a pantograph record changes its state. -/
def Jobs.csPanto (x : Panto) (old new : PState) (role : Role) (j : Jobs) : Jobs :=
  let j := if collectorGone old new role then j.csCollectorGone else j
  if j.csContactLost old new role then j.enterRaising
  else if j.csPantoFailed x new role then j.failStep .pantograph else j.csTest false

/-- R51: lower-all comes on. -/
def Jobs.csLowerAll (j : Jobs) : Jobs :=
  match j.cs.state with
  | .idle => j.setOpen
  | .hold => j
  | _ => j.failStep .lowerAll

/-- What the CS does at a change (R41 to R53), in RUN. -/
def Jobs.csReact (c : Change) (j : Jobs) : Jobs :=
  match c with
  | .look => j.csTest false
  | .cs => j.csTest true
  | .confirmed => j.csConfirmed
  | .breaker old new => j.csBreaker old new
  | .selector => j.csTest false
  | .panto x old new role => j.csPanto x old new role
  | .lowerAllOn => j.csLowerAll

/-! ### Step timers -/

/-- R42 to R49, R51: T0 expires. -/
def Jobs.csStepTimeout (j : Jobs) : Jobs :=
  if j.expired .t0 then
    let j := j.takeExpiry .t0
    match j.cs.state with
    | .opening => j.failStep .breaker
    | .coasting => j.failStep (if j.lsi.confirmed = .dead then .dead else .identify)
    | .lowering => j.failStep .pantograph
    | .selecting => j.failStep .selector
    | .identifying => if j.lsi.confirmed = .pending then j.failStep .identify else j
    | .closing => j.failStep .breaker
    | _ => j
  else j

/-- R43: T1 expires in COASTING. -/
def Jobs.coastExpiry (j : Jobs) : Jobs :=
  if j.expired .t1 && j.cs.state == .coasting then
    let j := j.takeExpiry .t1
    let j := j.setCs { j.cs with coastEnded := true }
    if !j.crossing && j.coastWaits then j.loadStep 6 else j.coastOver
  else j

/-- R39: T1 expires after the close pulse time: the pulse ends, the command stays CLOSE. -/
def Jobs.closePulseExpiry (j : Jobs) : Jobs :=
  if j.expired .t1 && j.cs.state != .coasting then
    let j := j.takeExpiry .t1
    j.setCs { j.cs with pulse := false }
  else j

/-- R41: the head entry's due time is reached in ARMED. -/
def Jobs.featureDue (j : Jobs) : Jobs :=
  if j.dev == .run && j.cs.state == .armed && (j.cs.list.head?.any (fun f => f.dueMark)) && !j.oc.hold then j.push .cs
  else j

/-- R33, R90: the speed's 2,000 ms have passed. -/
def Jobs.speedAged (j : Jobs) : Jobs :=
  if j.speed.known && j.speed.aged then (j.setSpeed { j.speed with known := false }).push .look else j

/-! ### Requests -/

/-- R54: BREAKER_CLOSE. -/
def Jobs.requestClose (j : Jobs) : Answer × Jobs :=
  if j.cs.state ≠ .idle then (.busy, j)
  else if j.cs.command = .close then (.accepted, j)
  else if j.closeLaw then (.accepted, (j.setCs { j.cs with current := none }).enterClosing)
  else (.interlock, j.touchConfirmed)

/-- R54: BREAKER_OPEN. -/
def Jobs.requestOpen (j : Jobs) : Answer × Jobs :=
  if j.cs.state ≠ .idle then (.busy, j)
  else
    let j := j.setOpen
    (.accepted, j.setCs { j.cs with closingSystem := none })

/-- R55: SELECT. An entry that the code resolution finds poisoned is lost (R28) before the confirmed system is taken as
the expected one. -/
def Jobs.requestSelect (arg : Byte) (j : Jobs) : Answer × Jobs :=
  if j.cs.state ≠ .idle then (.busy, j)
  else if arg.toNat < 1 ∨ 15 < arg.toNat then (.invalid, j)
  else
    let c : BitVec 4 := BitVec.ofNat 4 arg.toNat
    let found := (j.resolve c).isSome
    let j := j.touchResolve c
    if found then
      let j := j.lostEntries
      (.accepted, (j.setCs { j.cs with current := some { kind := .select, number := none, target := .code c,
                                                          due := none, coast := 0, arrival := none },
                                       expected := some j.lsi.confirmed, deadSeen := false }).enterOpening)
    else (.invalid, j)

/-- R55: ENERGISE. DESIGN CHOICE (log entry 72): the built feature's coast time is 0. -/
def Jobs.requestEnergise (j : Jobs) : Answer × Jobs :=
  if j.cs.state ≠ .idle then (.busy, j)
  else if j.cs.command = .open ∧ j.bothLowered = true ∧ j.oc.lowerAll = false then
    (.accepted, (j.setCs { j.cs with current := some { kind := .energise, number := none, target := .any, due := none,
                                                        coast := 0, arrival := none },
                                     expected := some .pending }).enterRaising)
  else (.state, j)

/-- R56: the step of failure is entered again. DESIGN CHOICE (log entry 52): ARMED entered again with a feature in
hand goes on to OPENING or HOLD at once, and this passage does not end a suspension of the IC (R95). -/
def Jobs.reenter (step : CsState) (j : Jobs) : Jobs :=
  match step with
  | .armed =>
    if j.cs.current.isSome then
      let j := j.setCs { j.cs with expected := some j.lsi.confirmed, deadSeen := false }
      if j.lsi.confirmed.isSystem then j.enterOpening else j.enterHold .identify .armed
    else j.enterIdle
  | .opening => j.enterOpening
  | .coasting => j.enterCoasting
  | .lowering => j.enterLowering
  | .selecting => j.enterSelecting
  | .raising => j.enterRaising
  | .identifying => j.enterIdentifying
  | .closing => j.enterClosing
  | .idle => j.enterIdle
  | .hold => j.enterIdle

/-- R56: CHANGEOVER_RESUME. -/
def Jobs.requestResume (j : Jobs) : Answer × Jobs :=
  if j.cs.state ≠ .hold then (.state, j)
  else if j.oc.lowerAll then (.state, j)
  else
    let step := j.cs.stepOfFailure.getD .idle
    let j := j.dropStale
    (.accepted, (j.setCs { j.cs with reason := none }).reenter step)

/-- R56: CHANGEOVER_ABORT. -/
def Jobs.requestAbort (j : Jobs) : Answer × Jobs :=
  if j.cs.state ≠ .hold then (.state, j)
  else
    let j := (j.setCs { j.cs with current := none, expected := none, reason := none, stepOfFailure := none,
                                  deadSeen := false }).dropStale
    (.accepted, j.setOpen.enterIdle)

end Sys2Proof.Machine
end

