-- ==== Sys2Proof/Machine/Heater.lean ====
section
/-! DEFINITION. The heater cycles of the Ice Clearing Controller: the heated set, the phases and the supply (chapter 5, R91
to R93). -/

namespace Sys2Proof.Machine

open Sys2Proof

/-- R91: the heated set. -/
def Jobs.heated (x : Panto) (j : Jobs) : Bool :=
  match j.ice.mode with
  | .heat => (j.panto x).role == .collector
  | .scrape => (j.panto x).role == .collector || j.ice.scraper == some x
  | .off => false
  | .suspended => false

/-- R93: the heater has supply. -/
def Jobs.supplied (x : Panto) (j : Jobs) : Bool :=
  j.fb.brk == .closed && ((j.panto x).state == .raising || (j.panto x).state == .inContact)

/-- R92: the ice words of the heating level's on-time and off-time. -/
def heatWords : IceLevel → Nat × Nat
  | .none => (14, 15)
  | .risk => (14, 15)
  | .light => (16, 17)
  | .heavy => (18, 19)

/-- R92, R93: a phase is loaded with its seconds; without supply its pair stays stopped. -/
def Jobs.loadPhase (x : Panto) (p : HeatPhase) (seconds : Nat) (j : Jobs) : Jobs :=
  let j := (j.setIce (j.ice.setPhase x p)).load x.pair (seconds * 1000) .oneShot
  if j.supplied x then j else j.stop x.pair

/-- R92: both times are 0. -/
def Jobs.restPhase (x : Panto) (j : Jobs) : Jobs := (j.setIce (j.ice.setPhase x .off)).onTimer x.pair Timer.clear

/-- R92: the phase that follows, with the on-time tried first or the off-time tried first. DESIGN CHOICE (log entry 65):
both times are read. -/
def Jobs.nextPhase (x : Panto) (onFirst : Bool) (j : Jobs) : Jobs :=
  let (a, b) := heatWords j.ice.level
  let on := (j.iceParam a).toNat
  let off := (j.iceParam b).toNat
  let j := j.touchIce [a, b]
  if onFirst then
    if 0 < on then j.loadPhase x .on on else if 0 < off then j.loadPhase x .off off else j.restPhase x
  else
    if 0 < off then j.loadPhase x .off off else if 0 < on then j.loadPhase x .on on else j.restPhase x

/-- R92: a cycle starts. -/
def Jobs.startCycle (x : Panto) (j : Jobs) : Jobs := j.nextPhase x true

/-- R91: a cycle ends. -/
def Jobs.endCycle (x : Panto) (j : Jobs) : Jobs := (j.setIce (j.ice.setPhase x .idle)).onTimer x.pair Timer.clear

/-- R93: the supply pauses and resumes a cycle. -/
def Jobs.supplyCycle (x : Panto) (j : Jobs) : Jobs :=
  if j.ice.phase x = .idle then j
  else if j.supplied x then (if (j.timer x.pair).running then j else j.onTimer x.pair Timer.run)
  else (if (j.timer x.pair).running || j.expired x.pair then j.stop x.pair else j)

/-- R91, R93: a pantograph's cycle follows the heated set and the supply. -/
def Jobs.followCycle (x : Panto) (j : Jobs) : Jobs :=
  if j.heated x then
    if j.ice.phase x = .idle then j.startCycle x else j.supplyCycle x
  else if j.ice.phase x = .idle then j
  else j.endCycle x

/-- R92: at a change of the level a cycle not in IDLE starts afresh. -/
def Jobs.restartCycle (x : Panto) (j : Jobs) : Jobs := if j.ice.phase x = .idle then j else j.startCycle x

/-- R92: the pair expires. -/
def Jobs.heaterExpiry (x : Panto) (j : Jobs) : Jobs :=
  if j.expired x.pair then
    let j := j.takeExpiry x.pair
    match j.ice.phase x with
    | .on => j.nextPhase x false
    | .off => j.nextPhase x true
    | .idle => j
  else j

/-- R91: the heater role of a pantograph is on. -/
def Jobs.heaterOn (x : Panto) (j : Jobs) : Bool := j.heated x && j.ice.phase x == .on && j.supplied x

end Sys2Proof.Machine
end

