-- ==== Sys2Proof/Machine/Image.lean ====
section
/-! DEFINITION. The logical output image and the sending values, the earthing feedback and SAFE, and how the Output Composer
follows the blocks that write the image (chapter 6, R101, R102, R104, R105, R113). -/

namespace Sys2Proof.Machine

open Sys2Proof

/-! ### The image and the sending values -/

/-- The owned output roles, in point map order. -/
def OwnedRole.all : List OwnedRole :=
  [.raise1, .raise2, .isol1, .isol2, .heat1, .heat2, .brkClose, .brkTrip, .selAc, .selDc]

/-- The value an image gives a role. -/
def Image.get (r : OwnedRole) (i : Image) : Bool :=
  match r with
  | .raise1 => i.raise1
  | .raise2 => i.raise2
  | .isol1 => i.isol1
  | .isol2 => i.isol2
  | .heat1 => i.heat1
  | .heat2 => i.heat2
  | .brkClose => i.brkClose
  | .brkTrip => i.brkTrip
  | .selAc => i.selAc
  | .selDc => i.selDc

/-- R102: what the writers want on the roof. -/
def Jobs.wanted (j : Jobs) : Image :=
  { raise1 := j.p1.state.raiseOn, raise2 := j.p2.state.raiseOn, isol1 := j.p1.connected, isol2 := j.p2.connected,
    heat1 := j.heaterOn .p1, heat2 := j.heaterOn .p2, brkClose := j.cs.pulse, brkTrip := j.cs.command == .open,
    selAc := j.cs.selOut == some .ac, selDc := j.cs.selOut == some .dc }

/-- R104: the image under lower-all. -/
def Image.forced (i : Image) : Image :=
  { i with raise1 := false, raise2 := false, heat1 := false, heat2 := false, brkClose := false, brkTrip := true }

/-- R104: the sending values of an image under the force flags, that is, by every row of R104 but the first. The first
row, an entry that is not usable at composition, is applied to them where a word is composed (`Jobs.sent`) and where
they are read between compositions (`Jobs.presentSending`). -/
def Outputs.sendingOf (o : Outputs) (i : Image) : Image :=
  if o.lowerAll then i.forced else if o.hold then o.frozen.getD i else i

/-! ### Earthing feedback and SAFE -/

/-- R101: the earthing feedback as it now reads. DESIGN CHOICE (log entry 49): the last value received still counts
after its entry is bound to another point, or made invalid and valid again. -/
def Jobs.earthNow (j : Jobs) : EarthFb :=
  if j.mapStands .earthPos && (j.node (j.mapNode .earthPos)).state == .active then
    match j.oc.earthRaw with
    | some true => .closed
    | some false => .open
    | none => .unknown
  else .unknown

/-- R113: SAFE as it now is. -/
def Jobs.safeNow (j : Jobs) : Bool := j.bothLowered && j.fb.brk == .open

/-- R111: the frozen image is there only under output hold. -/
def Outputs.stillFrozen (o : Outputs) : Option Image := if o.hold then o.frozen else none

/-- R111: the frozen image of an output hold that has been released since the OC last followed. -/
def Outputs.released (o : Outputs) : Option Image := if o.hold then none else o.frozen

/-- R104, R105, R111: since the OC last followed, a sending value of one of the entry's owned roles has come to differ
from what was sent before. A role whose entry has been found not usable is sent off before and after (log entry 53), but
at the release of an output hold what counts is its frozen value. -/
def Jobs.differs (sending : Image) (e : PointEntry) (j : Jobs) : Bool :=
  e.owned.any (fun o =>
    match j.oc.released with
    | some frozen => frozen.get o.1 != (sending.get o.1 && j.mapStands o.1.mapRole)
    | none => j.mapStands o.1.mapRole && j.oc.sending.get o.1 != sending.get o.1)

/-- R101: the earthing switch reads closed on a roof that is not safe. -/
def Outputs.earthHeld (o : Outputs) : Bool := o.earth == .closed && !o.safe

/-- R102, R104, R105, R113, R101: the OC follows what the other blocks have done: the image, the sending values, the
pending points, SAFE, and the earthing feedback, which is now `earth`. -/
def Jobs.ocFollow (earth : EarthFb) (j : Jobs) : Jobs :=
  let o := j.oc
  let image := j.wanted
  let sending := o.sendingOf image
  let safe := j.safeNow
  let marked (e : PointEntry) : Bool :=
    j.dev == .run && (j.differs sending e || (e.earth.isSome && safe != o.safe))
  let o' : Outputs := { o with
    image := image, sending := sending, frozen := o.stillFrozen, safe := safe, earth := earth,
    table := o.table.map (fun e => { e with pending := e.pending || marked e }) }
  let j := j.setOc o'
  if o'.earthHeld && !o.earthHeld then j.flag .interlockHeld MapRole.earthPos.index else j

/-- R102, R105, R113: the OC follows a block's act, a change of a pantograph state or of the breaker feedback. A value of the earthing switch that
came with the change is not yet looked at (log entry 6: R149 has the earthing feedback last); that the feedback has become
UNKNOWN is. -/
def Jobs.ocReact (j : Jobs) : Jobs := j.ocFollow (if j.earthNow = .unknown then .unknown else j.oc.earth)

/-- The OC follows everything, the earthing feedback included. -/
def Jobs.ocSync (j : Jobs) : Jobs := j.ocFollow j.earthNow

end Sys2Proof.Machine
end

