-- ==== Sys2Proof/Machine/Ice.lean ====
section
/-! DEFINITION. The Ice Clearing Controller: inputs, assessment, permissions, the mode choice, the scraper and suspension
(chapter 5, R80 to R99, but for the heater cycles, which Heater.lean holds). -/

namespace Sys2Proof.Machine

open Sys2Proof

/-! ### Inputs (R81, R82) -/

/-- R81: a ROOF_TEMP value lies within its bounds. -/
def Jobs.tempUsable (w : Word) (j : Jobs) : Bool :=
  decide ((j.iceParam 3).toInt ≤ w.toInt ∧ w.toInt ≤ (j.iceParam 4).toInt)

/-- R81: an ICE_PROBE value lies within its bounds. -/
def Jobs.probeUsable (w : Word) (j : Jobs) : Bool :=
  decide ((j.iceParam 6).toNat ≤ w.toNat ∧ w.toNat ≤ (j.iceParam 7).toNat)

/-- R81: the temperature a MEASURE frame carries is stored, or the stored one made absent. DESIGN CHOICE (log entry 65):
both bounds are read. -/
def Jobs.takeTemp (q : Word) (payload : List Word) (j : Jobs) : Jobs :=
  let v := j.carriedFor .roofTemp q payload
  let j := j.touchMap .roofTemp
  match v with
  | some w =>
    let ok := j.tempUsable w
    let j := j.touchIce [3, 4]
    j.setIce { j.ice with temp := if ok then some w else none }
  | none => j

/-- R81: the probe frequency a MEASURE frame carries. DESIGN CHOICE (log entry 65): both bounds are read. -/
def Jobs.takeProbe (q : Word) (payload : List Word) (j : Jobs) : Jobs :=
  let v := j.carriedFor .iceProbe q payload
  let j := j.touchMap .iceProbe
  match v with
  | some w =>
    let ok := j.probeUsable w
    let j := j.touchIce [6, 7]
    j.setIce { j.ice with probe := if ok then some w else none }
  | none => j

/-- R81: a MEASURE frame is offered to the IC by the bindings. -/
def Jobs.iceMeasure (q : Word) (payload : List Word) (j : Jobs) : Jobs := (j.takeTemp q payload).takeProbe q payload

/-- R81: the stored values whose node is LOST or whose entry is found invalid or poisoned are absent. DESIGN CHOICE (log
entry 75): also where a WRITE has bound the entry to a point whose node is LOST already. -/
def Jobs.iceInputs (j : Jobs) : Jobs :=
  let gone (r : MapRole) : Bool := !j.mapStands r || (j.node (j.mapNode r)).state == .lost
  j.setIce { j.ice with temp := if gone .roofTemp then none else j.ice.temp,
                        probe := if gone .iceProbe then none else j.ice.probe }

/-- R82: an ICE_ZONE frame sets or clears the zone flag. -/
def Jobs.iceZone (a : Announcement) (j : Jobs) : Jobs := j.setIce { j.ice with zone := bit a.tail 8 }

/-! ### Permissions (R86) -/

/-- R86: heat permission. -/
def Jobs.heatPermitted (j : Jobs) : Bool := j.iceValid && j.confirmedEntry.any (fun k => j.lineHeat k)

/-- R80, R86: the scrape enable bit. -/
def Jobs.scrapeEnabled (j : Jobs) : Bool := bit (j.param 0x180 0) 0

/-- R86: scrape permission. -/
def Jobs.scrapePermitted (j : Jobs) : Bool :=
  j.iceValid && j.scrapeEnabled && j.confirmedEntry.any (fun k => j.lineScrape k)

/-- R86: the leading pantograph. -/
def Jobs.leading (j : Jobs) : Option Panto :=
  match j.speed.lead with
  | .p1 => some .p1
  | .p2 => some .p2
  | .unknown => none

/-- R86: the speed is known and within the scrape speed limit. -/
def Jobs.scrapeSpeed (j : Jobs) : Bool := j.speed.isKnown && decide (j.speed.kmh ≤ (j.iceParam 13).toNat)

/-- R86: the scrape conditions. Which node counts while the HEIGHT entry is not usable: log entry 76 (`Jobs.pantoNode`). -/
def Jobs.scrapeConditions (j : Jobs) : Bool :=
  j.scrapePermitted && j.scrapeSpeed && j.cs.state.resting && !j.oc.lowerAll &&
    j.leading.any (fun x => (j.panto x).role != .collector && (j.pantoNode x).state == .active)

/-- R86: scraping is admissible. -/
def Jobs.scrapeAdmissible (j : Jobs) : Bool := j.scrapeConditions && !j.ice.barred

/-- The reads the permissions and conditions make. DESIGN CHOICE (log entry 60): every mode choice makes them all,
whatever the policy and the level. -/
def Jobs.touchPermits (j : Jobs) : Jobs :=
  let lead := j.leading
  let j := (j.touchIce [13]).touchConfirmed
  match lead with
  | some x => j.touchMap (.height x)
  | none => j

/-! ### The mode (R87 to R90, R94, R95) -/

/-- R87, R89: the choice without scraping: HEAT with heat permission and otherwise OFF. -/
def Jobs.fallback (j : Jobs) : IceMode := if j.heatPermitted then .heat else .off

/-- R87: the mode the choice gives. -/
def Jobs.modeChosen (j : Jobs) : IceMode :=
  match j.ice.policy, j.ice.level with
  | .off, _ => .off
  | .auto, .none => .off
  | .auto, .heavy => if j.scrapeAdmissible then .scrape else j.fallback
  | .auto, _ => j.fallback
  | .heat, _ => j.fallback
  | .scrape, _ => if j.scrapeAdmissible then .scrape else j.fallback

/-- R88: the IC asks the PC to lower the scraper pantograph and makes it absent. -/
def Jobs.dropScraper (j : Jobs) : Jobs :=
  match j.ice.scraper with
  | some x =>
    let j := j.lower x
    j.setIce { j.ice with scraper := none }
  | none => j

/-- R88: the mode changes, with ICE_MODE set; the cycles follow the heated set. -/
def Jobs.setMode (m : IceMode) (j : Jobs) : Jobs :=
  let j := j.setIce { j.ice with mode := m }
  (((j.followCycle .p1).followCycle .p2).flag .iceMode m.code).push .look

/-- R88: a change to a mode other than SCRAPE. -/
def Jobs.leaveTo (m : IceMode) (j : Jobs) : Jobs := if j.ice.mode = m then j else (j.dropScraper).setMode m

/-- R89: a refused scraper sets scrape barred and gives the fallback. -/
def Jobs.scraperRefused (m : IceMode) (j : Jobs) : Jobs := (j.setIce { j.ice with barred := true }).leaveTo m

/-- R88, R89: a choice of SCRAPE. -/
def Jobs.enterScrape (j : Jobs) : Jobs :=
  if j.ice.mode = .scrape then j
  else
    let back := j.fallback
    match j.leading with
    | none => j.leaveTo back
    | some x =>
      match j.raise x .scraper .ic with
      | (.accepted, j) => (j.setIce { j.ice with scraper := some x }).setMode .scrape
      | (_, j) => j.scraperRefused back

/-- R87: the mode choice is made. -/
def Jobs.choose (j : Jobs) : Jobs :=
  let m := j.modeChosen
  let j := j.touchPermits
  if m = .scrape then j.enterScrape else j.leaveTo m

/-- R87: the mode choice, only while the mode is not SUSPENDED. -/
def Jobs.chooseUnlessSuspended (j : Jobs) : Jobs := if j.ice.mode = .suspended then j else j.choose

/-- R90: the scraper pantograph has left the raised states. -/
def Jobs.scraperLost (j : Jobs) : Bool := j.ice.scraper.any (fun x => !(j.panto x).state.raised)

/-- R90: a watched scrape condition fails (the scraper's node: log entry 76). -/
def Jobs.watchFails (j : Jobs) : Bool :=
  !j.scrapeSpeed || !j.scrapePermitted || j.leading != j.ice.scraper ||
    j.ice.scraper.any (fun x => (j.pantoNode x).state != .active)

/-- R90: the watch of SCRAPE. -/
def Jobs.watch (j : Jobs) : Jobs :=
  if j.ice.mode = .scrape then
    let lost := j.scraperLost
    let fails := j.watchFails
    let back := j.fallback
    let j := j.touchPermits
    if lost then j.scraperRefused back else if fails then j.leaveTo back else j
  else j

/-- R94, R95: a cause of suspension holds. -/
def Jobs.mustSuspend (j : Jobs) : Bool := !j.cs.state.resting || j.oc.lowerAll

/-- R94: the mode becomes SUSPENDED where a cause of suspension holds. -/
def Jobs.suspendIfMust (j : Jobs) : Jobs := if j.mustSuspend then j.leaveTo .suspended else j

/-- R87: the policy and the level call for SCRAPE where scraping is admissible. -/
def Ice.callsForScrape (c : Ice) : Bool := c.policy == .scrape || (c.policy == .auto && c.level == .heavy)

/-- R95: the changeover has made the leading pantograph the collector. -/
def Jobs.leadingMadeCollector (j : Jobs) : Bool :=
  j.leading.any (fun x => j.ice.made == some x && (j.panto x).role == .collector)

/-- R95: a suspension ends with the mode choice. Where that choice would be of SCRAPE and the changeover has made the leading
pantograph the collector, scrape barred is set, as at a refused raise. DEDUCED (log entry 51): so too where another scrape
condition fails beside it. -/
def Jobs.endSuspension (j : Jobs) : Jobs :=
  (j.setIce { j.ice with barred := j.ice.barred || (j.ice.callsForScrape && j.leadingMadeCollector), made := none }).choose

/-- R94, R95: suspension and its end. -/
def Jobs.suspension (j : Jobs) : Jobs :=
  if j.mustSuspend then j.suspendIfMust
  else if j.ice.mode = .suspended then j.endSuspension
  else j

/-! ### Assessment (R83 to R85) -/

/-- R84: an absent temperature fails every comparison. -/
def Jobs.coldAs (bound : Nat) (j : Jobs) : Bool :=
  match j.ice.temp with
  | some t => decide (t.toInt ≤ (j.iceParam bound).toInt)
  | none => false

/-- R84: the drop. -/
def Jobs.probeDrop (j : Jobs) : Nat :=
  match j.ice.probe with
  | some p => (j.iceParam 5).toNat - p.toNat
  | none => 0

/-- R84: the raw level. -/
def Jobs.rawLevel (j : Jobs) : IceLevel :=
  let drop := j.probeDrop
  if j.coldAs 2 && (decide ((j.iceParam 9).toNat ≤ drop) || decide ((j.iceParam 11).toNat ≤ j.ice.tally)) then .heavy
  else if j.coldAs 2 && (decide ((j.iceParam 8).toNat ≤ drop) || decide ((j.iceParam 10).toNat ≤ j.ice.tally)) then .light
  else if j.coldAs 1 || j.ice.zone then .risk
  else .none

/-- R85: one step down. -/
def IceLevel.below : IceLevel → IceLevel
  | .heavy => .light
  | .light => .risk
  | .risk => .none
  | .none => .none

/-- R85: the level and the decay count after a raw level. -/
def moveLevel (raw level : IceLevel) (decay : Nat) : IceLevel × Nat :=
  if level.code ≤ raw.code then (raw, 0)
  else if decay + 1 < 3 then (level, decay + 1)
  else (level.below, 0)

/-- R80, R83: the assessment period. -/
def Jobs.assessPeriod (j : Jobs) : Nat := max 1000 (j.iceParam 12).toNat

/-- R85: one assessment, with the time tag of its expiry (R116). R105: the OC follows the cycles that a change of the level
has started afresh before the mode choice acts on them. DESIGN CHOICE (log entry 60): it reads every threshold of R84,
whichever row decides. -/
def Jobs.assess (tag : Long) (j : Jobs) : Jobs :=
  let raw := j.rawLevel
  let drop := j.probeDrop
  let (level, decay) := moveLevel raw j.ice.level j.ice.decay
  let changed := decide (level ≠ j.ice.level)
  let j := j.touchIce [1, 2, 5, 8, 9, 10, 11]
  let j := j.setIce { j.ice with
    level := level, decay := decay, tally := 0, barred := false,
    last := some { temp := j.ice.temp, probe := j.ice.probe, drop := drop, tally := j.ice.tally, raw := raw,
                   level := level, tag := tag } }
  let j := if changed then (((j.flag .iceLevel level.code).restartCycle .p1).restartCycle .p2).ocReact else j
  j.chooseUnlessSuspended

/-- R83: T10 expires: an assessment, then the present period becomes T10's reload value. -/
def Jobs.iceAssessment (j : Jobs) : Jobs :=
  if j.expired .t10 then
    let j := (j.takeExpiry .t10).assess (j.expiryTag .t10)
    let n := j.assessPeriod
    (j.touchIce [12]).onTimer .t10 (Timer.setReload n)
  else j

/-! ### ICE_MODE (R97) -/

/-- 13.2: the policy of an argument. -/
def policyOf : Nat → Option Policy
  | 0 => some .auto
  | 1 => some .off
  | 2 => some .heat
  | 3 => some .scrape
  | _ => none

/-- R97: ICE_MODE in RUN with output hold off. -/
def Jobs.requestIceMode (arg : Byte) (j : Jobs) : Answer × Jobs :=
  match policyOf arg.toNat with
  | none => (.invalid, j)
  | some p =>
    if j.ice.mode = .suspended then
      if p = .auto ∨ p = .off then (.accepted, j.setIce { j.ice with policy := p }) else (.busy, j)
    else
      let j := (j.setIce { j.ice with policy := p, barred := if p = .scrape then false else j.ice.barred }).choose
      match p with
      | .heat => (if j.ice.mode = .heat then .accepted else .state, j)
      | .scrape => (if j.ice.mode = .scrape then .accepted else .state, j)
      | _ => (.accepted, j)

end Sys2Proof.Machine
end

