-- ==== Sys2Proof/Machine/Outputs.lean ====
section
/-! DEFINITION. The Output Composer and Command Admission: the point image table, composition, admission, the interlock
table, lower-all and output hold (chapter 6, R100 to R115, but for what Image.lean holds; chapter 9, R154 to R160). -/

namespace Sys2Proof.Machine

open Sys2Proof

/-! ### The point image table (R103) -/

/-- The first occurrences of a list of points. -/
def firstOf (ps : List Word) : List Word := ps.foldl (fun acc p => if acc.contains p then acc else acc ++ [p]) []

/-- The output roles of the point map in its order, EARTH last. -/
def outputRoles : List MapRole := OwnedRole.all.map OwnedRole.mapRole ++ [.earth]

/-- R103: the distinct points of the usable output-role entries, in order. -/
def Jobs.outputPoints (j : Jobs) : List Word :=
  firstOf ((outputRoles.filter (fun r => j.mapUsable r)).map (fun r => j.mapPoint r))

/-- The table's entry for a point. -/
def Outputs.entry (p : Word) (o : Outputs) : Option PointEntry := o.table.find? (fun e => e.point == p)

/-- R103: the new entry for a point; `keep` keeps the words of a point already present (R160). -/
def Jobs.pointEntry (keep : Bool) (p : Word) (j : Jobs) : PointEntry :=
  let old := if keep then j.oc.entry p else none
  { point := p,
    owned := (OwnedRole.all.filter (fun r => j.mapUsable r.mapRole && j.mapPoint r.mapRole == p)).map
      (fun r => (r, j.mapBit r.mapRole)),
    earth := if j.mapUsable .earth && j.mapPoint .earth == p then some (j.mapBit .earth) else none,
    lastWord := (old.map (fun e => e.lastWord)).getD 0,
    lastSent := (old.map (fun e => e.lastSent)).getD 0,
    pending := j.dev == .run }

/-- R103: a rebuild; one in RUN marks every point of the new table. DESIGN CHOICE (log entry 65): both words of every
output role's entry are read. -/
def Jobs.rebuild (keep : Bool) (j : Jobs) : Jobs :=
  let table := j.outputPoints.map (fun p => j.pointEntry keep p)
  let j := j.touchMaps outputRoles
  j.setOc { j.oc with table := table }

/-- R105, R108: every point of the table is marked pending, in RUN. -/
def Jobs.markAll (j : Jobs) : Jobs :=
  if j.dev = .run then j.setOc { j.oc with table := j.oc.table.map (fun e => { e with pending := true }) } else j

/-! ### Bits of a word -/

/-- A word with one bit set to a value. -/
def setBit (w : Word) (i : Nat) (v : Bool) : Word := if v then w ||| ((1#16) <<< i) else w &&& ~~~((1#16) <<< i)

/-- R100: a role's value written to its bit under its polarity. -/
def BitRef.write (b : BitRef) (on : Bool) (w : Word) : Word := setBit w b.bit.val (on != b.low)

/-- R103: a bit of the owned mask. -/
def PointEntry.owns (e : PointEntry) (i : Nat) : Bool := e.owned.any (fun o => o.2.bit.val == i)

/-- R103: the owned mask. -/
def PointEntry.mask (e : PointEntry) : Word :=
  e.owned.foldl (fun w o => setBit w o.2.bit.val true) 0

/-- R104: the value sent for an owned role. -/
def Jobs.sent (r : OwnedRole) (j : Jobs) : Bool := j.mapUsable r.mapRole && j.oc.sending.get r

/-- R103, R104: a role is kept off though its bit is in an owned mask: its entry has been found not usable. DEDUCED (log
entry 53): between compositions an entry counts as unusable by what has been found of it so far. -/
def Jobs.keptOff (r : OwnedRole) (j : Jobs) : Bool :=
  j.oc.table.any (fun e => e.owned.any (fun o => o.1 == r)) && !j.mapStands r.mapRole

/-- R104: the present sending values, the first row included. -/
def Jobs.presentSending (j : Jobs) : Image :=
  let now (r : OwnedRole) : Bool := j.oc.sending.get r && !j.keptOff r
  { raise1 := now .raise1, raise2 := now .raise2, isol1 := now .isol1, isol2 := now .isol2, heat1 := now .heat1,
    heat2 := now .heat2, brkClose := now .brkClose, brkTrip := now .brkTrip, selAc := now .selAc, selDc := now .selDc }

/-- R155: the owned overlay; of two roles at one bit the earlier in point map order is sent (R100). -/
def Jobs.overlay (e : PointEntry) (w : Word) (j : Jobs) : Word :=
  e.owned.foldr (fun (o : OwnedRole × BitRef) w => o.2.write (j.sent o.1) w) w

/-- R155: the earthing interlock. -/
def Jobs.earthGate (e : PointEntry) (w : Word) (j : Jobs) : Word :=
  match e.earth with
  | some b => if j.oc.safe && j.mapUsable .earth then w else b.write false w
  | none => w

/-! ### The interlock table (R156 to R158) -/

/-- R156: one condition of a row. -/
def Jobs.condition (n : Nat) (j : Jobs) : Bool :=
  match n with
  | 0 => j.fb.brk == .open
  | 1 => j.bothLowered
  | 2 => j.speed.isKnown && j.speed.kmh == 0
  | 3 => j.fb.sel == .ac
  | 4 => j.fb.sel == .dc
  | 5 => j.lsi.confirmed.isSystem
  | 6 => j.cs.state == .idle
  | _ => j.ice.mode == .off || j.ice.mode == .suspended

/-- R156: every condition in the row's set holds. -/
def Jobs.rowPasses (r : Nat) (j : Jobs) : Bool :=
  (List.range 8).all (fun n => !bit (j.word (rowAddr r + 1)) n || j.condition n)

/-- R158: the row is poisoned: one of its words is uncorrectable. -/
def Jobs.rowPoisoned (r : Nat) (j : Jobs) : Bool := j.anyBad (span (rowAddr r) 4)

/-- R156, R158: the row covers a bit outside the owned mask at a point. -/
def Jobs.rowCovers (r : Nat) (p : Word) (i : Nat) (j : Jobs) : Bool :=
  let named := j.word (rowAddr r + 2) == p && bit (j.word (rowAddr r + 3)) i
  if j.rowPoisoned r then j.bad (rowAddr r + 2) || j.bad (rowAddr r + 3) || named
  else bit (j.word (rowAddr r)) 15 && named

/-- R156: the deciding row of a bit. -/
def Jobs.decidingRow (p : Word) (i : Nat) (j : Jobs) : Option Nat :=
  (List.range 16).find? (fun r => j.rowCovers r p i)

/-- R157: what FORCE_OFF sends for a bit: 0, or the EARTH entry's inactive value for the earthing bit. -/
def offValue (e : Option PointEntry) (i : Nat) : Bool :=
  match e.bind (fun e => e.earth) with
  | some b => b.bit.val == i && b.low
  | none => false

/-- R156 to R158: the value sent for one bit outside the owned mask. -/
def Jobs.rowBit (p : Word) (e : Option PointEntry) (i : Nat) (v : Bool) (j : Jobs) : Bool :=
  match j.decidingRow p i with
  | none => v
  | some r =>
    if j.rowPoisoned r then offValue e i
    else if j.rowPasses r then v
    else if bits (j.word (rowAddr r)) 0 2 = 0 then (e.map (fun e => bit e.lastSent i)).getD false
    else offValue e i

/-- R156: the rows applied to every bit outside the owned mask. -/
def Jobs.applyRows (p : Word) (e : Option PointEntry) (w : Word) (j : Jobs) : Word :=
  (List.range 16).foldl (fun acc i =>
    if e.any (fun e => e.owns i) then acc else setBit acc i (j.rowBit p e i (bit w i))) w

/-! ### Admission and composition -/

/-- The roles whose entries a composition of the point reads. DESIGN CHOICE (log entry 80): EARTH's entry is read also
while SAFE is deasserted, and an owned role's also where an earlier role has its bit. -/
def PointEntry.roles (e : PointEntry) : List MapRole :=
  (e.owned.map fun (o : OwnedRole × BitRef) => o.1.mapRole) ++ (if e.earth.isSome then [MapRole.earth] else [])

/-- The reads an evaluation of a point makes: its owned roles' entries and EARTH's, whether or not the word rests on them
(DESIGN CHOICE, log entry 80), and the interlock rows, all of them (log entry 20). -/
def Jobs.touchPoint (e : Option PointEntry) (j : Jobs) : Jobs :=
  let j := match e with
    | some e => j.touchMaps e.roles
    | none => j
  j.touchAll (span 0x050 64)

/-- R154, R155 to R158: the word CA sends for a word written to a point. -/
def Jobs.admitted (p : Word) (w : Word) (j : Jobs) : Word :=
  match j.oc.entry p with
  | some e => j.earthGate e (j.applyRows p (some e) (j.earthGate e (j.overlay e w)))
  | none => j.applyRows p none w

/-- R106: the word the OC composes for a point of the table. -/
def Jobs.composed (e : PointEntry) (j : Jobs) : Word :=
  j.earthGate e (j.overlay e (j.earthGate e (j.applyRows e.point (some e) (j.earthGate e e.lastWord))))

/-- R107: the second composition of a word. -/
def Jobs.recomposed (p : Word) (w : Word) (j : Jobs) : Word :=
  match j.oc.entry p with
  | some e => j.earthGate e (j.overlay e w)
  | none => w

/-- The entries of the table with `f` applied to one point's. -/
def Outputs.onEntry (p : Word) (f : PointEntry → PointEntry) (o : Outputs) : Outputs :=
  { o with table := o.table.map (fun e => if e.point = p then f e else e) }

/-- R154: the sent value differs from the written value outside the owned mask. -/
def heldBits (e : Option PointEntry) (written sent : Word) : Bool :=
  (List.range 16).any (fun i => !(e.any (fun e => e.owns i)) && bit written i != bit sent i)

/-- R154: one word of an ORDER is admitted at a point. -/
def Jobs.admitWord (p : Word) (w : Word) (j : Jobs) : Word × Jobs :=
  let e := j.oc.entry p
  let j := j.setOc (j.oc.onEntry p (fun e => { e with lastWord := w }))
  let v := j.admitted p w
  let j := j.touchPoint e
  (v, if heldBits e w v then j.flag .interlockHeld p.toNat else j)

/-- R154: the words of an ORDER from channel `c` of node `n`, in payload order; a channel past FFh names no
point. -/
def Jobs.admitWords (n c : Nat) (ws : List Word) (j : Jobs) : List Word × Jobs :=
  match ws with
  | [] => ([], j)
  | w :: rest =>
    let (v, j) := if c ≤ 255 then j.admitWord (toWord (n * 256 + c)) w else (w, j)
    let (vs, j) := Jobs.admitWords n (c + 1) rest j
    (v :: vs, j)

/-- R107, R159: the words of a queued ORDER are composed again and become the last sent words. -/
def Jobs.recomposeWords (n c : Nat) (ws : List Word) (j : Jobs) : List Word × Jobs :=
  match ws with
  | [] => ([], j)
  | w :: rest =>
    let p := toWord (n * 256 + c)
    let v := if c ≤ 255 then j.recomposed p w else w
    let j :=
      if c ≤ 255 then
        let e := j.oc.entry p
        let j := j.setOc (j.oc.onEntry p (fun e => { e with lastSent := v }))
        match e with
        | some e => j.touchMaps e.roles
        | none => j
      else j
    let (vs, j) := Jobs.recomposeWords n (c + 1) rest j
    (v :: vs, j)

/-- R105: the first pending point. -/
def Outputs.firstPending (o : Outputs) : Option PointEntry := o.table.find? (fun e => e.pending)

/-- R106: the OC composes an ORDER frame for a point, which leaves the set; the word becomes its last sent word. -/
def Jobs.compose (e : PointEntry) (j : Jobs) : Frame × Jobs :=
  let w := j.composed e
  let f : Frame := { kind := .order, flags := 0, point := e.point, seq := j.oc.seq, payload := [w] }
  let j := j.setOc { j.oc.onEntry e.point (fun e => { e with lastSent := w, pending := false }) with
    seq := j.oc.seq + 1 }
  (f, j.touchPoint (some e))

/-! ### Lower-all and output hold (R109 to R112) -/

/-- R109: LOWER_ALL with an argument other than OFF, in RUN. The CS answers lower-all before it sees the lowering
lower-all makes (R50). DESIGN CHOICE (log entry 59): an output hold is released, with the due-time check of R57, before
lower-all reaches the CS. -/
def Jobs.requestLowerAllOn (arg : Byte) (j : Jobs) : Answer × Jobs :=
  if arg ≠ 1 then (.invalid, j)
  else if j.oc.lowerAll then (.accepted, j)
  else
    let j := (j.setOc { j.oc with lowerAll := true }).flag .lowerAll 0
    (.accepted, ((((j.releaseHold).push .lowerAllOn).lower .p1).lower .p2))

/-- R110: LOWER_ALL(OFF) in RUN. -/
def Jobs.requestLowerAllOff (j : Jobs) : Answer × Jobs :=
  (.accepted, if j.oc.lowerAll then (j.setOc { j.oc with lowerAll := false }).push .look else j)

/-- R111: HOLD with an argument other than OFF, in RUN; the frozen image is the present sending values. -/
def Jobs.requestHoldOn (arg : Byte) (j : Jobs) : Answer × Jobs :=
  if arg ≠ 1 then (.invalid, j)
  else if j.oc.lowerAll then (.state, j)
  else if j.oc.hold then (.accepted, j)
  else
    (.accepted, (j.setOc { j.oc with hold := true, frozen := some j.presentSending }).setTmr
      (j.tmr.mapHeld Timer.hold))

/-- R111: HOLD(OFF) in RUN. -/
def Jobs.requestHoldOff (j : Jobs) : Answer × Jobs := (.accepted, j.releaseHold)

end Sys2Proof.Machine
end

