-- ==== Sys2Proof/Machine/Settle.lean ====
section
/-! DEFINITION. How one step's changes reach the other roof jobs within that step: each change is answered in
the order it came about, by the OC first (R102, R113), then by the CS and the IC; after each the conditions that hold
"while" something is so are brought up to date (the level rules of R28, R39, R70, R81, R90, R91, R93, R94, R95). The OC
follows each of these acts (R102, R105), and at the end what the last of them has made. -/

namespace Sys2Proof.Machine

open Sys2Proof

/-! ### Feedbacks (R39) -/

/-- R39: the breaker feedback as it now reads. DESIGN CHOICE (log entry 49): the last value received still counts
after its entry is bound to another point, or made invalid and valid again. -/
def Jobs.brkNow (j : Jobs) : BreakerFb :=
  if j.mapStands .brkPos && (j.node (j.mapNode .brkPos)).state == .active then
    match j.fb.brkRaw with
    | some true => .closed
    | some false => .open
    | none => .unknown
  else .unknown

/-- R39: the reading of a SEL_POS word. -/
def selReading (w : Word) : SelectorFb :=
  match w.toNat with
  | 0 => .moving
  | 1 => .ac
  | 2 => .dc
  | _ => .illegal

/-- R39: the selector feedback as it now reads (as `brkNow` of an entry bound anew: log entry 49). -/
def Jobs.selNow (j : Jobs) : SelectorFb :=
  if j.mapStands .selPos && (j.node (j.mapNode .selPos)).state == .active then
    match j.fb.selRaw with
    | some w => selReading w
    | none => .unknown
  else .unknown

/-- The feedbacks follow what they are read from. -/
def Jobs.syncFeedback (j : Jobs) : Jobs :=
  let old := j.fb
  let brk := j.brkNow
  let sel := j.selNow
  let j := j.setFb { j.fb with brk := brk, sel := sel }
  let j := if brk = old.brk then j else j.push (.breaker old.brk brk)
  if sel = old.sel then j else j.push .selector

/-- R39, R101: the values a MEASURE frame carries for BRK_POS, SEL_POS and EARTH_POS are stored. DESIGN CHOICE (log entry
65): the three entries are read, whichever the frame carries. -/
def Jobs.feedbackMeasure (q : Word) (payload : List Word) (j : Jobs) : Jobs :=
  let b := (j.carriedFor .brkPos q payload).map (fun w => (j.mapBit .brkPos).reads w)
  let s := j.carriedFor .selPos q payload
  let e := (j.carriedFor .earthPos q payload).map (fun w => (j.mapBit .earthPos).reads w)
  let j := j.touchMaps [.brkPos, .selPos, .earthPos]
  let j := j.setFb { j.fb with brkRaw := b.or j.fb.brkRaw, selRaw := s.or j.fb.selRaw }
  (j.setOc { j.oc with earthRaw := e.or j.oc.earthRaw }).push .look

/-! ### The loop -/

/-- What the CS and then the IC do at one change. An entry that an earlier read has found poisoned is lost first, so that
the CS acts on the confirmed system as R28 leaves it. The IC sees the state the CS has come to before the CS acts on
the change, so that a passage through a step is not missed (R94). R102, R105: the OC follows after each block's act, so that
a sending value that one act changes and the next changes back marks its point. -/
def Jobs.react (c : Change) (j : Jobs) : Jobs :=
  let j := ((((j.lostEntries).suspendIfMust).ocReact).csReact c).ocReact.suspension
  match c with
  | .confirmed => j.ocReact.chooseUnlessSuspended
  | _ => j

/-- The level rules. R113, R101: SAFE follows a change of the breaker feedback before any block acts on it, and the
earthing feedback then follows (R149). R105: the OC follows what the PC and the IC do here as well, act by act. -/
def Jobs.levels (j : Jobs) : Jobs :=
  let j := (((j.lostEntries).syncFeedback).ocReact).ocSync
  let j := (((j.lowerBlind .p1).lowerBlind .p2).iceInputs).ocReact
  (((((j.suspension).ocReact).watch).ocReact).followCycle .p1).followCycle .p2

/-- One change is answered; in CONFIG the roof jobs are inactive (R191). R102, R105, R113: the OC follows the change before
the CS and the IC answer it, as it follows their acts, so that no change of SAFE or of a sending value is lost to a later
one of the same step. -/
def Jobs.answer (c : Change) (j : Jobs) : Jobs := if j.dev = .run then ((j.ocReact).react c).levels else j

/-- The changes are answered in order until none is left. -/
def Jobs.pump : Nat → Jobs → Jobs
  | 0, j => j.setTodo []
  | n + 1, j =>
    match j.todo with
    | [] => j
    | c :: rest => Jobs.pump n ((j.setTodo rest).answer c)

/-- A step ends: its changes are answered, and the OC follows what the last of them has made (log entry 6). -/
def Jobs.settle (j : Jobs) : Jobs := (j.pump 64).ocSync

end Sys2Proof.Machine
end

