-- ==== Sys2Proof/Machine/Capture.lean ====
section
/-! DEFINITION. The Capture Buffer: entries, regions, selection, the trigger and REARM (chapter 11, R172 to
R180). -/

namespace Sys2Proof.Machine

open Sys2Proof

/-! ### Entries (R172, 13.5) -/

/-- What an EMPTY entry's six words read as. -/
def CaptureEntry.empty : CaptureEntry := { tag := 0, descriptor := 0, w3 := 0, w4 := 0, w5 := 0 }

def Direction.code : Direction → Nat
  | .up => 0
  | .down => 1

def portCode : Port → Nat
  | .train => 0
  | .roof => 1

/-- R172: the FRAME entry of a frame. -/
def frameEntry (tag : Long) (p : Port) (dir : Direction) (f : Frame) (d : Disposition) (k : Option Nat) : CaptureEntry :=
  { tag := tag,
    descriptor := toWord (0x4000 + portCode p * 0x2000 + dir.code * 0x1000 + f.kind.code * 512 + d.code * 64 + k.getD 31),
    w3 := f.point, w4 := toWord (f.payload.length * 256 + f.seq.toNat), w5 := f.payload.headD 0 }

/-- 13.5: a device state and a confirmed system in one word. -/
def systemWordOf (dev : Device) (line : Line) : Word := toWord ((if dev = .run then 0x8000 else 0) + line.code)

/-- 13.5: the device state and the confirmed system in one word. -/
def Jobs.systemWord (j : Jobs) : Word := systemWordOf j.dev j.lsi.confirmed

/-- R172: the EVENT entry of an event, with the device state and the confirmed system at the event. -/
def eventEntry (tag : Long) (f : Flag) (subject : Word) (dev : Device) (line : Line) : CaptureEntry :=
  { tag := tag, descriptor := 0x8000, w3 := toWord f.code, w4 := subject, w5 := systemWordOf dev line }

/-- The six words of an entry, in the order of R172. -/
def CaptureEntry.words (e : CaptureEntry) : List Word :=
  [lowHalf e.tag, highHalf e.tag, e.descriptor, e.w3, e.w4, e.w5]

/-! ### Settings (R176, 13.4) -/

def captureMode : Nat → CaptureMode
  | 1 => .frames
  | 2 => .events
  | _ => .mixed

/-- R176: the trigger of a descriptor, a point and a mask word. -/
def triggerOf (d point mask : Word) : Trigger :=
  match bits d 14 2 with
  | 1 => .frame (match bits d 12 2 with | 1 => some .up | 2 => some .down | _ => none)
      (if bits d 8 4 ≤ 7 then some (kindOf (bits d 8 4)) else none) point mask
  | 2 => .event (bits d 0 5)
  | _ => .disabled

/-! ### Matching (R176) -/

/-- R176: a FRAME entry matches the trigger. -/
def Trigger.hitsFrame (dir : Direction) (f : Frame) : Trigger → Bool
  | .frame d k point mask =>
    (d == none || d == some dir) && (k == none || k == some f.kind) && (f.point &&& mask) == (point &&& mask)
  | _ => false

/-- R176: an EVENT entry matches the trigger. -/
def Trigger.hitsEvent (f : Flag) : Trigger → Bool
  | .event c => c == f.code
  | _ => false

/-! ### Regions and writing (R173, R177) -/

/-- R173: the mode writes entries of the class. -/
def CaptureMode.records (frame : Bool) : CaptureMode → Bool
  | .mixed => true
  | .frames => frame
  | .events => !frame

/-- R173: the index of the class's region. -/
def Capture.index (frame : Bool) (c : Capture) : Nat := if frame then c.frameIndex else c.eventIndex

/-- R173: the place after a place of the class's region. -/
def CaptureMode.after (frame : Bool) (place : Nat) : CaptureMode → Nat
  | .mixed => if frame then (if place = 127 then 0 else place + 1) else (if place = 255 then 128 else place + 1)
  | _ => if place = 255 then 0 else place + 1

/-- R173: an entry is written at its region's index, which advances. -/
def Capture.write (frame : Bool) (e : CaptureEntry) (c : Capture) : Capture :=
  let i := c.index frame
  let c := { c with mem := Store.write CaptureEntry.empty i e c.mem }
  if frame then { c with frameIndex := c.mode.after true i } else { c with eventIndex := c.mode.after false i }

/-- R177: an entry is offered; `hit` says that it matches the trigger. The flag says that the CB has entered
FROZEN. -/
def Capture.offer (frame hit : Bool) (e : CaptureEntry) (c : Capture) : Capture × Bool :=
  if c.mode.records frame then
    match c.state with
    | .frozen => (c, false)
    | .armed =>
      let i := c.index frame
      let c := c.write frame e
      if hit then
        ({ c with place := some (i, e.tag), remaining := c.post,
                  state := if c.post = 0 then .frozen else .triggered }, c.post == 0)
      else (c, false)
    | .triggered =>
      let c := c.write frame e
      let n := c.remaining - 1
      ({ c with remaining := n, state := if n = 0 then .frozen else .triggered }, n == 0)
  else (c, false)

/-- R178: the indexes after a REARM to a mode. DESIGN CHOICE (log entry 57): the index that modes FRAMES and EVENTS do
not use keeps its value from the mode before, and the status window shows it. -/
def Capture.home (m : CaptureMode) (c : Capture) : Capture :=
  if c.mode = m then c
  else match m with
    | .frames => { c with frameIndex := 0 }
    | .events => { c with eventIndex := 0 }
    | .mixed => { c with frameIndex := 0, eventIndex := 128 }

/-- R176, R178: REARM with the settings words. -/
def Capture.rearm (options descriptor point mask post : Word) (c : Capture) : Capture :=
  let m := captureMode (bits options 0 2)
  { c.home m with mode := m, unmatched := bit options 8, trigger := triggerOf descriptor point mask,
                  post := min 255 post.toNat, state := .armed, remaining := 0, place := none }

/-! ### The buffer in the part -/

/-- R177: on entering FROZEN the CB sets CAPTURE_FROZEN, before anything else that waits to be reported. -/
def State.noteFrozen (froze : Bool) (s : State) : State :=
  if froze then s.onJobs (fun j => j.setOut (.flag .captureFrozen 0 j.dev j.lsi.confirmed :: j.out)) else s

/-- R174: the deciding entry of a frame; an ORDER or QUERY whose node lies outside 1..62 has none. -/
def Jobs.routeOf (f : Frame) (j : Jobs) : Option Nat :=
  if (f.kind = .order ∨ f.kind = .query) ∧ roofNode (nodeOf f.point) = false then none else j.deciding f.point

/-- The reads that finding the deciding entry makes. -/
def Jobs.touchRouteOf (f : Frame) (j : Jobs) : Jobs :=
  if (f.kind = .order ∨ f.kind = .query) ∧ roofNode (nodeOf f.point) = false then j else j.touchRoute f.point

/-- R174: a frame is selected by its deciding entry's capture flag, or by the unmatched option. -/
def State.selects (k : Option Nat) (s : State) : Bool :=
  match k with
  | some i => s.jobs.routeCapture i
  | none => s.cb.unmatched

/-- R174: a frame is offered to the CB with its disposition and deciding entry. -/
def State.offerFrame (p : Port) (dir : Direction) (f : Frame) (d : Disposition) (k : Option Nat) (s : State) : State :=
  if s.selects k then
    let (c, froze) := s.cb.offer true (s.cb.trigger.hitsFrame dir f) (frameEntry s.jobs.tag p dir f d k)
    (s.setCb c).noteFrozen froze
  else s

/-- R175: an event is offered to the CB. -/
def State.offerEvent (f : Flag) (subject : Word) (dev : Device) (line : Line) (s : State) : State :=
  let (c, froze) := s.cb.offer false (s.cb.trigger.hitsEvent f) (eventEntry s.jobs.tag f subject dev line)
  (s.setCb c).noteFrozen froze

/-- R176: the CB takes its settings words, poisoned ones by their defaults, and is rearmed (R178). DESIGN CHOICE (log
entry 65): all five words are read, whatever the trigger uses. -/
def State.rearm (s : State) : State :=
  let j := s.jobs
  let c := s.cb.rearm (j.param 5 0) (j.param 6 0) (j.param 7 0) (j.param 8 0) (j.param 9 0)
  (s.setCb c).onJobs (fun j => j.touchAll (span 5 5))

end Sys2Proof.Machine
end

