-- ==== Sys2Proof/Machine/Router.lean ====
section
/-! DEFINITION. The Frame Router and the Notice Unit: taking frames, conservation counters, the two queues,
originated frames, notices and the delivery of a step's reports (chapter 9, R143 to R153; chapter 12, R188 to
R190). -/

namespace Sys2Proof.Machine

open Sys2Proof

/-! ### Conservation counters (R150) -/

/-- R150: a frame is counted received. -/
def Counters.take (c : Counters) : Counters := { c with received := c.received + 1 }

/-- R150: a frame is counted in its outcome. -/
def Counters.outcome (d : Disposition) (c : Counters) : Counters :=
  match d with
  | .forwarded => { c with forwarded := c.forwarded + 1 }
  | .consumed => { c with consumed := c.consumed + 1 }
  | .originated => c
  | .dropped .misdirected => { c with dropped := c.dropped + 1, misdirected := c.misdirected + 1 }
  | .dropped .unclaimed => { c with dropped := c.dropped + 1, unclaimed := c.unclaimed + 1 }
  | .dropped .blocked => { c with dropped := c.dropped + 1, blocked := c.blocked + 1 }
  | .dropped .queueFull => { c with dropped := c.dropped + 1, queueFull := c.queueFull + 1 }
  | .dropped .stray => { c with dropped := c.dropped + 1, stray := c.stray + 1 }

/-- R150: a frame is counted originated. -/
def Counters.originate (c : Counters) : Counters := { c with originated := c.originated + 1 }

/-- R150: received = forwarded + consumed + dropped, and the dropped count is the sum of its reasons. -/
def Counters.balanced (c : Counters) : Bool :=
  c.received == c.forwarded + c.consumed + c.dropped
    && c.dropped == c.misdirected + c.unclaimed + c.blocked + c.queueFull + c.stray

/-- One port's counters. -/
def Router.counters (p : Port) (r : Router) : Counters :=
  match p with
  | .train => r.train
  | .roof => r.roof

/-- The router with `g` applied to one port's counters. -/
def Router.count (p : Port) (g : Counters → Counters) (r : Router) : Router :=
  match p with
  | .train => { r with train := g r.train }
  | .roof => { r with roof := g r.roof }

/-! ### The queues (R151, R153) -/

/-- R151: the forwarded share of the train transmit queue. -/
def Router.share (r : Router) : Nat := (r.up.filter (fun q => q.forwarded)).length

/-- R151: a forwarded frame is taken. -/
def Router.takesForwarded (r : Router) : Bool :=
  decide (r.share < Config.forwardedRoom) && decide (r.up.length < Config.trainRoom)

/-- R151: an originated frame is taken. -/
def Router.takesOriginated (r : Router) : Bool := decide (r.up.length < Config.trainRoom)

/-- R151: a frame goes to the tail of the train transmit queue. -/
def Router.pushUp (f : Frame) (forwarded : Bool) (r : Router) : Router :=
  { r with up := r.up ++ [{ frame := f, forwarded := forwarded }] }

/-- R153: the downstream queue takes a frame. -/
def Router.takesDown (r : Router) : Bool := decide (r.down.length < Config.downstreamRoom)

/-! ### Taking a frame (R132, R145) -/

/-- R132: the oldest frame in the port's buffers is this one. -/
def PortState.holds (f : Frame) (v : PortState) : Bool := v.buffers.head?.any (fun r => r.frame == f)

/-- R132: the FR takes a port's frames from its buffers oldest first. A step that takes a frame has its effect where
that frame is the oldest in the buffers of its port; where it is not, and while the RESET line is asserted (R193),
it changes nothing (log entry 2). -/
def State.taking (p : Port) (f : Frame) (g : Frame → State → State) (s : State) : Host.Outcome State Fault Refusal :=
  s.unlessReset fun s => if (s.port p).holds f then g f s else s

/-- R132, R145: the FR takes a frame from its port's buffers, and it is counted received. -/
def State.take (p : Port) (f : Frame) (s : State) : State :=
  let v := s.port p
  let s := if v.holds f then s.setPort p { v with buffers := v.buffers.tail } else s
  s.setFr (s.fr.count p Counters.take)

/-- R166: the frame the FR takes is the answer frame of the exchange. -/
def State.isAnswer (f : Frame) (s : State) : Bool :=
  s.rb.slot == .awaiting && s.roof.buffers.head?.any (fun r => r.frame == f && r.answer)

/-- R172: the direction of a frame received on a port. -/
def Port.inward : Port → Direction
  | .train => .down
  | .roof => .up

/-- R145, R150, R174: a frame's disposition is decided: it is counted and offered to the CB. -/
def State.judge (p : Port) (f : Frame) (d : Disposition) (k : Option Nat) (s : State) : State :=
  (s.setFr (s.fr.count p (Counters.outcome d))).offerFrame p (Port.inward p) f d k

/-- R144: the reads of a frame's match. The match is made once, at the moment the FR takes the frame. -/
def State.matching (f : Frame) (s : State) : State := s.onJobs (fun j => j.touchRouteOf f)

/-- R144: a frame just taken is matched and judged by its deciding entry. -/
def State.judgeRouted (p : Port) (f : Frame) (d : Disposition) (s : State) : State :=
  let k := s.jobs.routeOf f
  (s.matching f).judge p f d k

/-! ### Originated frames and notices -/

/-- R151, R174: an originated frame is offered to the train transmit queue, counted and offered to the CB. -/
def State.originate (f : Frame) (s : State) : State :=
  let k := s.jobs.routeOf f
  let taken := s.fr.takesOriginated
  let fr := s.fr.count .train Counters.originate
  let fr := if taken then fr.pushUp f false else { fr with lost := min 65535 (fr.lost + 1) }
  ((s.setFr fr).offerFrame .train .up f (if taken then .originated else .dropped .queueFull) k).onJobs
    (fun j => j.touchRouteOf f)

/-- R189: a NOTICE carries point 0000h. -/
def noticeFrame (flags : BitVec 5) (seq : Byte) (payload : List Word) : Frame :=
  { kind := .notice, flags := flags, point := 0, seq := seq, payload := payload }

/-- 13.3: an EVENT NOTICE. -/
def State.eventNotice (f : Flag) (subject : Word) (s : State) : Frame :=
  noticeFrame 0 s.nu.seq [0, lowHalf s.nu.flags, highHalf s.nu.flags, toWord f.code, subject, lowHalf s.jobs.tag,
    highHalf s.jobs.tag]

/-- 13.3: a STATUS NOTICE. -/
def State.statusNotice (s : State) : Frame :=
  let j := s.jobs
  noticeFrame 0 s.nu.seq
    [1, j.systemWord, toWord (j.cs.state.code * 256 + reasonCode j.cs.reason),
     toWord (j.p1.state.code * 4096 + j.p1.role.code * 256 + j.p2.state.code * 16 + j.p2.role.code),
     toWord ((if j.cs.command = .close then 0x8000 else 0) + j.fb.brk.code * 4096 + j.fb.sel.code * 256
       + j.ice.level.code * 16 + j.ice.mode.code),
     lowHalf s.nu.flags, highHalf s.nu.flags, toWord s.fr.lost]

/-- 13.3: a REQUEST_RESULT NOTICE. -/
def resultNotice (seq : Byte) (code : Nat) (a : Answer) : Frame := noticeFrame 0 seq [2, toWord (code * 256 + a.code)]

/-- 13.3: a SERVICE_REPLY to READ. -/
def readReply (seq : Byte) (st : Status) (words : List Word) : Frame :=
  noticeFrame (BitVec.ofNat 5 (24 + st.code)) seq words

/-- 13.3: any other SERVICE_REPLY. -/
def serviceReply (seq : Byte) (op : Nat) (st : Status) : Frame :=
  noticeFrame (BitVec.ofNat 5 (16 + st.code)) seq [toWord (op * 8192 + st.check)]

/-- R148, R169: the NO_REPLY ANSWER to a QUERY's point, sequence and count. -/
def noReplyFrame (point : Word) (seq : Byte) (count : Nat) : Frame :=
  { kind := .answer, flags := 16, point := point, seq := seq, payload := List.replicate (max 1 count) 0xFFFF#16 }

/-- The notice sequence advances (R188). -/
def State.stepSeq (s : State) : State := s.setNu { s.nu with seq := s.nu.seq + 1 }

/-! ### Delivery of a step's reports -/

/-- R188, R189: one report is delivered. -/
def State.deliver (r : Report) (s : State) : State :=
  match r with
  | .flag f subject dev line =>
    let s := (s.setNu { s.nu with flags := setFlag f s.nu.flags }).offerEvent f subject dev line
    let wanted := s.jobs.notified f
    let s := s.onJobs (fun j => j.touch f.maskAddr)
    if wanted then (s.originate (s.eventNotice f subject)).stepSeq else s
  | .status => (s.originate s.statusNotice).stepSeq
  | .frame f => s.originate f

/-- The reports are delivered in order until none is left. -/
def State.drain : Nat → State → State
  | 0, s => s.onJobs (fun j => j.setOut [])
  | n + 1, s =>
    match s.jobs.out with
    | [] => s
    | r :: rest => State.drain n ((s.onJobs (fun j => j.setOut rest)).deliver r)

/-- A step ends: the roof jobs settle and the reports are delivered (log entry 6). -/
def State.finish (s : State) : State :=
  ((s.onJobs Jobs.settle).drain 1024).onJobs (fun j => j.setTodo [])

/-- A step that acts on the roof jobs alone. -/
def State.work (f : Jobs → Jobs) (s : State) : State := (s.onJobs f).finish

/-! ### Frames the FR drops or consumes -/

/-- R146: a REQUEST, AHEAD or SERVICE frame is consumed. -/
def State.consume (f : Frame) (s : State) : State := (s.take .train f).judgeRouted .train f .consumed

/-- R149: a frame with this deciding entry, or with none, may be forwarded upward. -/
def Jobs.upward (k : Option Nat) (j : Jobs) : Bool := k.all (fun i => j.routeUp i)

/-- R149, R151: an upward frame that may be forwarded is offered to the train transmit queue. -/
def State.forwardUp (f : Frame) (k : Option Nat) (s : State) : State :=
  if s.fr.takesForwarded then (s.setFr (s.fr.pushUp f true)).judge .roof f .forwarded k
  else (s.judge .roof f (.dropped .queueFull) k).onJobs (fun j => j.flag .queueDrop 0)

/-- R149: an upward frame that answers is forwarded or consumed, as its match had it (R144). -/
def State.routeUpward (f : Frame) (k : Option Nat) (up : Bool) (s : State) : State :=
  if up then s.forwardUp f k else s.judge .roof f .consumed k

/-- R147, R153: a downward frame that passed the route check is offered to the downstream queue. DESIGN CHOICE (log
entry 56): the FRAME entry of a forwarded ORDER holds its first word as received, not as admitted (R172). -/
def State.queueDown (f sent : Frame) (k : Option Nat) (s : State) : State :=
  if s.fr.takesDown then (s.setFr { s.fr with down := s.fr.down ++ [sent] }).judge .train f .forwarded k
  else (s.judge .train f (.dropped .queueFull) k).onJobs (fun j => j.flag .queueDrop 1)

/-- R147: how an ORDER or QUERY frame is refused, if it is. -/
def Jobs.refusal (f : Frame) (j : Jobs) : Option DropReason :=
  match j.routeOf f with
  | none => some .unclaimed
  | some k => if j.routeDown k then none else some .blocked

/-- R147, R154: an ORDER frame from the train port. -/
def State.trainOrder (f : Frame) (s : State) : State :=
  let s := s.take .train f
  match s.jobs.refusal f with
  | some r => s.judgeRouted .train f (.dropped r)
  | none =>
    let k := s.jobs.routeOf f
    let s := s.matching f
    let (ws, j) := s.jobs.admitWords (nodeOf f.point) (channelOf f.point) f.payload
    (s.setJobs j).queueDown f { f with payload := ws } k

/-- R147, R148: a QUERY frame from the train port. -/
def State.trainQuery (f : Frame) (s : State) : State :=
  let s := s.take .train f
  match s.jobs.refusal f with
  | some r =>
    (s.judgeRouted .train f (.dropped r)).onJobs
      (fun j => j.report (.frame (noReplyFrame f.point f.seq f.payload.length)))
  | none =>
    let k := s.jobs.routeOf f
    (s.matching f).queueDown f f k

/-! ### REQUEST frames (R112, R189) -/

/-- R112: HOLD and LOWER_ALL are taken while output hold is on. -/
def takenUnderHold (code : Nat) : Bool := code == 11 || code == 12

/-- R112, R189: a REQUEST of a code is answered, and its result queued. -/
def Jobs.answerRequest (seq : Byte) (code : Nat) (run : Jobs → Answer × Jobs) (j : Jobs) : Jobs :=
  let (a, j) :=
    if j.dev = .config then (Answer.config, j)
    else if j.oc.hold && !takenUnderHold code then (.busy, j)
    else run j
  j.report (.frame (resultNotice seq code a))

/-- R146, R189: a REQUEST frame is consumed and answered by the owner of its code. -/
def State.request (f : Frame) (code : Nat) (run : Jobs → Answer × Jobs) (s : State) : State :=
  ((s.consume f).onJobs (Jobs.answerRequest f.seq code run)).finish

/-- R32: an AHEAD frame is consumed; in RUN it updates the speed record and acts by its kind. -/
def State.ahead (f : Frame) (a : Announcement) (act : Jobs → Jobs) (s : State) : State :=
  ((s.consume f).onJobs (fun j => if j.dev = .run then act (j.takeSpeed a) else j)).finish

end Sys2Proof.Machine
end

