-- ==== Sys2Proof/Machine/Bus.lean ====
section
/-! DEFINITION. The Roof Bus Scheduler: the exchange slot, the choice of the next exchange, the poll list's
search, answers, misses and node records (chapter 10, R161 to R171), and the frames the FR takes from the roof
port (R149, R167). -/

namespace Sys2Proof.Machine

open Sys2Proof

/-! ### Node records (R168) -/

/-- R168: an UNUSED node becomes WAITING when a poll or QUERY is sent to it, in RUN. -/
def Jobs.nodeAsked (n : Nat) (j : Jobs) : Jobs :=
  if j.dev = .run ∧ (j.node n).state = .unused then (j.setNode n { j.node n with state := .waiting }).push .look else j

/-- R168: the node's exchange is answered, in RUN. -/
def Jobs.nodeAnswered (n : Nat) (j : Jobs) : Jobs :=
  if j.dev = .run then
    let lost := decide ((j.node n).state = .lost)
    let j := (j.setNode n { state := .active, missed := 0, last := some j.tag }).push .look
    if lost then j.flag .nodeReturned n else j
  else j

/-- R168: the node's exchange is missed, in RUN. -/
def Jobs.nodeMissed (n : Nat) (j : Jobs) : Jobs :=
  let r := j.node n
  if j.dev = .run then
    match r.state with
    | .lost => j.setNode n { r with missed := 3 }
    | .unused => j
    | _ =>
      if r.missed + 1 < 3 then j.setNode n { r with missed := r.missed + 1 }
      else ((j.setNode n { r with state := .lost, missed := 3 }).push .look).flag .nodeLost n
  else j

/-! ### Ends of an exchange (R161, R166, R167, R169) -/

/-- R161: the slot returns to IDLE and the exchange record becomes absent. -/
def Sched.idle (b : Sched) : Sched :=
  { b with slot := .idle, exchange := none, answerTimer := false, answerLimit := false }

/-- The exchange is answered (R167). -/
def State.answered (s : State) : State :=
  let n := (s.rb.exchange.map (fun e => e.node)).getD 0
  (s.setRb s.rb.idle).onJobs (Jobs.nodeAnswered n)

/-- The exchange is missed (R166 to R169). DESIGN CHOICE (log entry 55): at a third miss NODE_LOST with its notice
goes before the NO_REPLY ANSWER of the QUERY. -/
def State.missed (s : State) : State :=
  match s.rb.exchange with
  | some e =>
    let s := (s.setRb s.rb.idle).onJobs (Jobs.nodeMissed e.node)
    if e.kind = .queuedQuery then
      s.onJobs (fun j => j.report (.frame (noReplyFrame e.point e.seq e.queryCount)))
    else s
  | none => s.setRb s.rb.idle

/-- R167: the frame is of the kind and from the node the exchange asked. -/
def Exchange.accepts (f : Frame) (e : Exchange) : Bool :=
  (if e.queryCount = 0 then f.kind == .measure else f.kind == .answer) && nodeOf f.point == e.node

/-! ### Frames from the roof (R149, R167) -/

/-- R149: the point map bindings use a MEASURE frame, in RUN. -/
def Jobs.bindings (f : Frame) (j : Jobs) : Jobs :=
  if f.kind = .measure ∧ j.dev = .run then
    ((((j.lmuMeasure f.point f.payload).pantoMeasure .p1 f.point f.payload).pantoMeasure .p2 f.point
      f.payload).iceMeasure f.point f.payload).feedbackMeasure f.point f.payload
  else j

/-- R144, R149, R167: a MEASURE or ANSWER frame from the roof port is matched as the FR takes it; one that answers then goes
to the node's record, the bindings and the disposition its match gives. DESIGN CHOICE (log entry 68): the frame is offered
to the train transmit queue before the notices of the flags it sets. -/
def State.roofFrame (f : Frame) (s : State) : State :=
  let answer := s.isAnswer f
  let fits := s.rb.exchange.any (fun e => e.accepts f)
  let s := s.take .roof f
  if answer && fits then
    let k := s.jobs.routeOf f
    let up := s.jobs.upward k
    ((((s.matching f).answered).onJobs (Jobs.bindings f)).routeUpward f k up).finish
  else
    let s := s.judgeRouted .roof f (.dropped .stray)
    (if answer then s.missed else s).finish

/-- R145, R167: a frame of a kind its port does not accept. -/
def State.misdirected (p : Port) (f : Frame) (s : State) : State :=
  let answer := p == .roof && s.isAnswer f
  let s := (s.take p f).judgeRouted p f (.dropped .misdirected)
  (if answer then s.missed else s).finish

/-! ### The poll list (R163, R164) -/

/-- R164: the first usable slot due in a pass, from a slot on. -/
def Jobs.dueFrom (pass start : Nat) (j : Jobs) : Option Nat :=
  (List.range Config.pollSlots).find? (fun i => decide (start ≤ i) && j.slotUsable i && pass % j.slotDivisor i == 0)

/-- R164: the search through the passes: the slot found and its pass. -/
def Jobs.findPoll (j : Jobs) : Nat → Nat → Nat → Option (Nat × Nat)
  | 0, _, _ => none
  | n + 1, pass, start =>
    match j.dueFrom pass start with
    | some i => some (i, pass)
    | none => Jobs.findPoll j n ((pass + 1) % Config.passModulus) 0

/-- R164: the poll due at the present cursor and pass; a usable slot is due within fifteen passes. -/
def State.duePoll (s : State) : Option (Nat × Nat) := s.jobs.findPoll 17 s.rb.pass s.rb.cursor

/-- The slots from `a` up to and including `b`, in ascending index. -/
def slotRange (a b : Nat) : List Nat := (List.range Config.pollSlots).filter (fun k => decide (a ≤ k ∧ k ≤ b))

/-- R163, R164: the slots the search examines, in its order: from the cursor on in the present pass, then from
slot 0 on, up to the slot found where that is found in the next pass. (A slot read again is read as it was
left.) -/
def searched (cursor pass : Nat) : Option (Nat × Nat) → List Nat
  | some (i, q) =>
    if q = pass then slotRange cursor i
    else if q = (pass + 1) % Config.passModulus then slotRange cursor 31 ++ slotRange 0 i
    else slotRange cursor 31 ++ slotRange 0 31
  | none => slotRange cursor 31 ++ slotRange 0 31

/-! ### The choice (R162, R165) -/

/-- R162: the slot is IDLE and the roof port is free: RUNNING, not transmitting, no frame in assembly, and no
stored setting still to be applied (R140). -/
def State.busFree (s : State) : Bool :=
  s.rb.slot == .idle && s.roof.mode == .running && s.roof.sending.isNone && s.roof.assembly.isNone && !s.roof.applyWord

/-- R161: an exchange starts: its record is filled and its frame handed to the roof port. DESIGN CHOICE (log entry 77): the
query count of a COMPOSER or QUEUED_ORDER exchange, which R161 gives for a QUERY and a poll alone, is 0. -/
def State.startExchange (kind : ExchangeKind) (f : Frame) (s : State) : State :=
  (s.setRb { s.rb with
    slot := .sending,
    exchange := some { kind := kind, node := nodeOf f.point, point := f.point, seq := f.seq,
                       queryCount := if f.kind = .query then f.payload.length else 0, answerBegun := false } }).setRoof
    { s.roof with sending := some f.chars }

/-- R106, R165, R174: a frame the part originates on the roof port is counted and offered to the CB. -/
def State.originateRoof (f : Frame) (s : State) : State :=
  let k := s.jobs.routeOf f
  ((s.setFr (s.fr.count .roof Counters.originate)).offerFrame .roof .down f .originated k).onJobs
    (fun j => j.touchRouteOf f)

/-- R106: the first pending point is composed and sent. -/
def State.sendComposed (e : PointEntry) (s : State) : State :=
  let (f, j) := s.jobs.compose e
  ((s.setJobs j).originateRoof f).startExchange .composer f

/-- R107, R165: the head of the downstream queue is sent. -/
def State.sendQueued (f : Frame) (rest : List Frame) (s : State) : State :=
  let s := (s.setFr { s.fr with down := rest }).setRb { s.rb with lastKind := .queue }
  if f.kind = .order then
    let (ws, j) := s.jobs.recomposeWords (nodeOf f.point) (channelOf f.point) f.payload
    (s.setJobs j).startExchange .queuedOrder { f with payload := ws }
  else (s.onJobs (Jobs.nodeAsked (nodeOf f.point))).startExchange .queuedQuery f

/-- R165: a poll is built and sent. -/
def State.sendPoll (slot pass : Nat) (s : State) : State :=
  let f : Frame := { kind := .query, flags := 0, point := toWord (s.jobs.slotNode slot * 256), seq := s.rb.pollSeq,
                     payload := [] }
  let examined := (searched s.rb.cursor s.rb.pass (some (slot, pass))).map slotAddr
  let s := s.onJobs (fun j => (j.touchAll examined).nodeAsked (nodeOf f.point))
  let next := if slot = 31 then (0, (pass + 1) % Config.passModulus) else (slot + 1, pass)
  let s := s.setRb { s.rb with lastKind := .poll, cursor := next.1, pass := next.2, pollSeq := s.rb.pollSeq + 1 }
  (s.originateRoof f).startExchange .poll f

/-- R164: a search that finds no poll has read every slot, from the cursor on and then from slot 0. -/
def State.searchedAll (s : State) : State :=
  if s.jobs.dev = .run then s.onJobs (fun j => j.touchAll ((searched s.rb.cursor s.rb.pass none).map slotAddr)) else s

/-- R162: a poll, or else the queue head. -/
def State.choosePoll (s : State) : State :=
  let poll := if s.jobs.dev = .run then s.duePoll else none
  match poll, s.fr.down with
  | some (i, q), _ => s.sendPoll i q
  | none, f :: rest => s.searchedAll.sendQueued f rest
  | none, [] => s.searchedAll

/-- R162: the RB takes the first source that has work. -/
def State.choice (s : State) : State :=
  if s.busFree then
    let pending := if s.jobs.dev = .run then s.jobs.oc.firstPending else none
    match pending, s.rb.lastKind, s.fr.down with
    | some e, _, _ => s.sendComposed e
    | none, .poll, f :: rest => s.sendQueued f rest
    | none, _, _ => s.choosePoll
  else s

/-! ### The answer's timers (R161, R166) -/

/-- R129, R130: a start bit on the roof port begins a frame in assembly where there is none. -/
def State.roofBegin (s : State) : State :=
  if s.roof.mode = .running ∧ s.roof.sending = none then
    s.setRoof { s.roof with assembly := some (s.roof.assembly.getD { discard := s.roof.settling }) }
  else s

/-- R166: a start bit in AWAITING begins the answer; at any other time the frame it begins is none that an exchange
awaits, and the RB does not choose while it is in assembly. -/
def State.answerStart (s : State) : State :=
  match s.rb.exchange with
  | some e =>
    if s.rb.slot = .awaiting ∧ e.answerBegun = false ∧ s.roof.mode = .running then
      (s.setRb { s.rb with exchange := some { e with answerBegun := true }, answerTimer := false,
                            answerLimit := true }).setRoof
        { s.roof with assembly := some { s.roof.assembly.getD { discard := s.roof.settling } with answer := true } }
    else s.roofBegin
  | none => s.roofBegin

/-- R166: the 300 µs answer timer expires with no answer begun. -/
def State.answerTimeout (s : State) : State :=
  if s.rb.slot = .awaiting ∧ s.rb.answerTimer = true then s.missed else s

/-- R130, R166: the answer limit expires before the answer frame completes. -/
def State.answerLimitExpiry (s : State) : State :=
  if s.rb.slot = .awaiting ∧ s.rb.answerLimit = true then
    (s.setRoof { s.roof with assembly := s.roof.assembly.map (fun a => { a with discard := true, answer := false }) }).missed
  else s

/-- R161: the roof port has sent the last stop bit. -/
def State.roofFrameSent (s : State) : State :=
  if s.roof.sending.isSome then
    let s := s.setRoof { s.roof with sending := none }
    match s.rb.slot, s.rb.exchange with
    | .sending, some e =>
      if e.kind = .poll ∨ e.kind = .queuedQuery then
        s.setRb { s.rb with slot := .awaiting, answerTimer := true, answerLimit := false }
      else s.setRb s.rb.idle
    | _, _ => s
  else s

/-- R170: an exchange in progress is abandoned, and its answer will be STRAY. -/
def State.abandon (s : State) : State :=
  (s.setRb {}).setRoof { s.roof with
    assembly := s.roof.assembly.map (fun a => { a with answer := false }),
    buffers := s.roof.buffers.map (fun r => { r with answer := false }) }

end Sys2Proof.Machine
end

