-- ==== Sys2Proof/Machine/Link.lean ====
section
/-! DEFINITION. The two serial ports: characters, frames in assembly, the tests of a completed frame, transmission,
discovery, breaks and settings (chapter 8, R128 to R142). -/

namespace Sys2Proof.Machine

open Sys2Proof

/-! ### Error counters (R133) -/

inductive LinkError where
  | parity
  | framing
  | overrun
  | check
  | setting
  deriving DecidableEq, Repr

/-- 13.3: the error kind as a subject. -/
def LinkError.code : LinkError → Nat
  | .parity => 0
  | .framing => 1
  | .overrun => 2
  | .check => 3
  | .setting => 4

/-- R133: a counter saturates at FFFFh. -/
def PortState.countError (e : LinkError) (v : PortState) : PortState :=
  match e with
  | .parity => { v with parityErrors := min 65535 (v.parityErrors + 1) }
  | .framing => { v with framingErrors := min 65535 (v.framingErrors + 1) }
  | .overrun => { v with overruns := min 65535 (v.overruns + 1) }
  | .check => { v with checkErrors := min 65535 (v.checkErrors + 1) }
  | .setting => v

/-- R133: the port's link error flag. -/
def linkFlag : Port → Flag
  | .train => .trainLinkError
  | .roof => .roofLinkError

/-- R133: an error is counted and flagged. -/
def State.linkError (p : Port) (e : LinkError) (s : State) : State :=
  (s.setPort p ((s.port p).countError e)).onJobs (fun j => j.flag (linkFlag p) e.code)

/-! ### Receiving (R129 to R132) -/

/-- The number of 1s among eight bits is odd. -/
def oddOnes (b : Byte) : Bool :=
  ([0, 1, 2, 3, 4, 5, 6, 7].filter (fun i => b.getLsbD i)).length % 2 == 1

/-- R128, R129: the parity bit is wrong under the parity option. -/
def Parity.wrong (data : Byte) (bit : Bool) : Parity → Bool
  | .even => oddOnes data != bit
  | .odd => oddOnes data == bit
  | .none => false
  | .zero => false

/-- R128: the parity bit sent with eight data bits, where the option calls for one. -/
def Parity.sent (data : Byte) : Parity → List Bool
  | .even => [oddOnes data]
  | .odd => [!oddOnes data]
  | .none => []
  | .zero => [false]

/-- R128: a character's bits on the line in the order sent, high as `true`: the start bit, the data bits least
significant first, the parity bit and the stop bits. -/
def Settings.lineBits (n : Settings) (data : Byte) : List Bool :=
  false :: ([0, 1, 2, 3, 4, 5, 6, 7].map (fun i => data.getLsbD i) ++ n.parity.sent data
    ++ (if n.twoStops then [true, true] else [true]))

/-- R128, R134: what a port puts on its line while it transmits: the characters of its frame back to back, under the
settings in use, which do not change during a transmission (R139, R140). -/
def PortState.onLine (v : PortState) : Option (List Bool) := v.sending.map (fun cs => cs.flatMap v.settings.lineBits)

/-- R128: the length of a bit in periods of the 48 MHz reference. -/
def Settings.bitPeriods (n : Settings) : Nat := 16 * n.divisor

/-- R129: the port's receiver hears: the port is RUNNING, and the roof port is not transmitting. -/
def State.hears (p : Port) (s : State) : Bool :=
  (s.port p).mode == .running && (p == .train || s.roof.sending.isNone)

/-- R130: a character joins the frame in assembly; a 40th is not stored and sets the discard mark. -/
def Assembly.add (c : Byte) (bad : Bool) (a : Assembly) : Assembly :=
  if a.chars.length < Config.frameChars then { a with chars := a.chars ++ [c], errored := a.errored || bad }
  else { a with overlong := true, discard := true, errored := a.errored || bad }

/-- R130: the frame in assembly, begun by this character where there is none. -/
def PortState.begun (v : PortState) : Assembly := v.assembly.getD { discard := v.settling }

/-- R129, R130: a character is received; the first of an awaited answer is also its start (R166). -/
def State.character (p : Port) (data : Byte) (parityBit stopHigh : Bool) (s : State) : State :=
  if s.hears p then
    let s := if p = .roof then s.answerStart else s
    let v := s.port p
    let parity := v.settings.parity.wrong data parityBit
    let s := s.setPort p { v with assembly := some (v.begun.add data (parity || !stopHigh)) }
    let s := if parity then s.linkError p .parity else s
    if stopHigh then s else s.linkError p .framing
  else s

/-- What the tests of R131 find of a completed frame. -/
inductive Verdict where
  | dropped
  | check
  | overrun
  | good (f : Frame)
  deriving DecidableEq, Repr

/-- R131: a completed frame is judged by the first test that applies. DESIGN CHOICE (log entry 54): a frame past 39
characters is a check error also where something else has marked it for discard. -/
def Assembly.judge (held : Nat) (a : Assembly) : Verdict :=
  if a.discard && !a.overlong then .dropped
  else if a.errored then .dropped
  else if a.overlong then .check
  else match parseFrame a.chars with
    | none => .check
    | some f => if Config.receiveBuffers ≤ held then .overrun else .good f

/-- R131, R132: the port after its frame in assembly has been judged. -/
def State.judged (p : Port) (a : Assembly) (s : State) : State :=
  let v := s.port p
  let d := a.judge v.buffers.length
  let s := s.setPort p { v with
    assembly := none, settling := false,
    buffers := match d with
      | .good f => v.buffers ++ [{ frame := f, answer := a.answer }]
      | _ => v.buffers }
  match d with
  | .check => s.linkError p .check
  | .overrun => s.linkError p .overrun
  | _ => s

/-- R166: the answer frame has completed: placed, the exchange awaits the FR; dropped, it is missed. -/
def State.answerJudged (d : Verdict) (s : State) : State :=
  match d with
  | .good _ => s.setRb { s.rb with answerLimit := false }
  | _ => s.missed

/-- R130, R131: an idle gap of two character times closes the frame in assembly. -/
def State.frameComplete (p : Port) (s : State) : State :=
  match (s.port p).assembly with
  | none => s
  | some a =>
    let d := a.judge (s.port p).buffers.length
    let s := s.judged p a
    if a.answer && p == .roof then s.answerJudged d else s

/-- R136, R140: the gap after entry to RUNNING clears the receiver's mark; it also closes a frame in assembly. -/
def State.settleGap (p : Port) (s : State) : State :=
  let s := s.frameComplete p
  s.setPort p { s.port p with settling := false }

/-! ### Entering a state (R136 to R141) -/

/-- R130, R136: the port enters RUNNING with settings; a frame in assembly is marked. -/
def PortState.enterRunning (n : Settings) (v : PortState) : PortState :=
  { v with mode := .running, settings := n, settling := true,
           assembly := v.assembly.map (fun a => { a with discard := true }) }

/-- R136: the train port restarts with the settings of its word: DISCOVERY or RUNNING. DESIGN CHOICE (log entry 78): in
DISCOVERY the settings in use are at once those of the word, divisor 0 among them, where R136 takes its parity option and
stop bits for later use. -/
def PortState.restart (n : Settings) (v : PortState) : PortState :=
  let v := { v with inBreak := false, newSettings := none }
  if n.divisor = 0 then
    { v with mode := .discovery, settings := n, lastMeasured := none, runCount := 0, timing := false }
  else v.enterRunning n

/-- R136: the settings the train word gives; a poisoned word gives the built-in default. -/
def Jobs.trainSettings (j : Jobs) : Settings := if j.bad 0 then trainDefault else settingsOf (j.word 0)

/-- R138: the line is high again after a break: the train port restarts. -/
def State.breakEnd (s : State) : State :=
  if s.train.inBreak then
    let n := s.jobs.trainSettings
    (s.setTrain (s.train.restart n)).onJobs (fun j => j.touch 0)
  else s

/-- R138: a break. -/
def State.breakBegin (s : State) : State :=
  s.setTrain { s.train with
    mode := .stopped, inBreak := true, sending := none, lastMeasured := none, runCount := 0, timing := false,
    newSettings := none, settling := false, assembly := s.train.assembly.map (fun a => { a with discard := true }) }

/-- R137: the quantised measurement, where it is a divisor. -/
def quantised (n : Nat) : Option Nat :=
  let q := (n + 16) / 32
  if 1 ≤ q ∧ q ≤ 255 then some q else none

/-- R137: one measurement acts on the discovery record. -/
def PortState.measured (q : Option Nat) (v : PortState) : PortState :=
  match q with
  | none => { v with lastMeasured := none, runCount := 0 }
  | some d =>
    let n := if v.lastMeasured = some d then v.runCount + 1 else 1
    let v := { v with lastMeasured := some d, runCount := n }
    if 3 ≤ n then { v.enterRunning { v.settings with divisor := d } with locked := some d } else v

/-- R137: a falling edge, or a measurement past 8,176 periods, in DISCOVERY. -/
def PortState.discover (m : Measurement) (v : PortState) : PortState :=
  if v.mode = .discovery then
    match m, v.timing with
    | .edge _, false => { v with timing := true }
    | .edge n, true => v.measured (quantised n)
    | .overrun, true => v.measured none
    | .overrun, false => v
  else v

/-- R139: RESTART at the train port. DESIGN CHOICE (log entry 79): also where the running port is not transmitting, the
changed settings are not applied here; they wait for TRAIN_SETTINGS_APPLY. -/
def State.restartTrain (s : State) : State :=
  let n := s.jobs.trainSettings
  match s.train.mode with
  | .stopped => s
  | .discovery => (s.setTrain (s.train.restart n)).onJobs (fun j => j.touch 0)
  | .running =>
    let n := { n with divisor := if n.divisor = 0 then s.train.settings.divisor else n.divisor }
    (s.setTrain { s.train with newSettings := if n = s.train.settings then none else some n }).onJobs
      (fun j => j.touch 0)

/-- R139: the changed settings are applied once the running port is not transmitting. -/
def State.trainApply (s : State) : State :=
  match s.train.newSettings with
  | some n =>
    if s.train.mode = .running ∧ s.train.sending = none then
      s.setTrain { s.train.enterRunning n with newSettings := none }
    else s
  | none => s

/-- R140: the settings the roof word gives at application; `none` is the prohibited divisor 0. -/
def Jobs.roofSettings (j : Jobs) : Option Settings :=
  if j.bad 1 then some roofDefault
  else if (settingsOf (j.word 1)).divisor = 0 then none
  else some (settingsOf (j.word 1))

/-- R140: a stored roof settings word is applied while the exchange slot is IDLE, and after the last stop bit of a
frame that RESTART or COMMISSION left in transmission (R170). A WRITE that finds the slot IDLE makes it itself
(`State.roofWordWritten`); after an exchange it is a step of its own (log entry 70). -/
def State.roofApply (s : State) : State :=
  if s.roof.applyWord = true ∧ s.rb.slot = .idle ∧ s.roof.sending = none ∧ s.roof.mode = .running then
    let n := s.jobs.roofSettings
    let s := s.onJobs (fun j => j.touch 1)
    match n with
    | some n => s.setRoof { s.roof.enterRunning n with applyWord := false }
    | none => (s.setRoof { s.roof with applyWord := false }).linkError .roof .setting
  else s

/-! ### Transmitting on the train port (R134, R152) -/

/-- R134: the train port begins the frame at the head of its queue. -/
def State.transmitStart (s : State) : State :=
  match s.fr.up with
  | q :: _ =>
    if s.train.mode = .running ∧ s.train.sending = none ∧ s.train.newSettings = none then
      s.setTrain { s.train with sending := some q.frame.chars }
    else s
  | [] => s

/-- R134, R152: the last stop bit of a frame takes it from the queue. -/
def State.trainSent (s : State) : State :=
  if s.train.sending.isSome then
    (s.setTrain { s.train with sending := none }).setFr { s.fr with up := s.fr.up.tail }
  else s

end Sys2Proof.Machine
end

