-- ==== Sys2Proof/Machine/Status.lean ====
section
/-! DEFINITION. The status window: its five pages (13.6, R195), each item in the order the page table lists it,
with the codes of 13.3. The place of a field inside a section's words, and the codes of what 13.3 gives no code
for, are the model's choice (log entry 7). -/

namespace Sys2Proof.Machine

open Sys2Proof

/-! ### Encoding helpers -/

/-- A section of the window: its words, filled up with 0 to its size. -/
def padded (n : Nat) (ws : List Word) : List Word := (ws ++ List.replicate n 0).take n

def flagBit (b : Bool) (n : Nat) : Nat := if b then 2 ^ n else 0

def flagWord (b : Bool) : Word := if b then 1 else 0

/-- A 32-bit item, low half first. -/
def pair (v : Long) : List Word := [lowHalf v, highHalf v]

/-- A number as a 32-bit item. -/
def pairNat (n : Nat) : List Word := pair (BitVec.ofNat 32 n)

/-- A signed result as a word. -/
def intWord (i : Int) : Word := BitVec.ofInt 16 i

/-! ### Page 0 -/

def LmuState.code : LmuState → Nat
  | .idle => 0
  | .waiting => 1
  | .measuring => 2
  | .starved => 3

def FeatureKind.code : FeatureKind → Nat
  | .neutral => 0
  | .boundary => 1
  | .select => 2
  | .energise => 3

def Lead.code : Lead → Nat
  | .unknown => 0
  | .p1 => 1
  | .p2 => 2

def causeCode : Option Cause → Nat
  | none => 0
  | some .raiseTimeout => 1
  | some .lowerTimeout => 2
  | some .drop => 3
  | some .blind => 4

def scraperCode : Option Panto → Nat
  | none => 0
  | some x => x.num

/-- The device words: time tag, device state, flag word, notice-lost count, SAFE and the force flags. -/
def State.deviceWords (s : State) : List Word :=
  pair s.jobs.tag ++ [toWord s.jobs.dev.code] ++ pair s.nu.flags ++
    [toWord s.fr.lost, toWord (flagBit s.jobs.oc.safe 0 + flagBit s.jobs.oc.lowerAll 1 + flagBit s.jobs.oc.hold 2)]

/-- A result record. -/
def Record.words (r : Record) : List Word :=
  [r.number, intWord r.mean, toWord r.totalRms, toWord r.acRms] ++ pairNat r.freq ++
    [toWord r.periods, toWord r.saturated, toWord (flagBit r.broken 0 + flagBit (decide (0 < r.saturated)) 1)]

/-- The LMU words (R17). -/
def Lmu.words (l : Lmu) : List Word :=
  [toWord (l.state.code + flagBit l.last.isSome 14 + flagBit l.expected.isSome 15), l.expected.getD 0,
   toWord ((l.window.map (fun w => w.taken)).getD 0), l.number] ++ (l.last.map Record.words).getD []

/-- The LSI words (R31). -/
def Lsi.words (l : Lsi) : List Word :=
  [toWord l.confirmed.code] ++ pair l.since ++
    [toWord (lineCode l.candidate), toWord l.agreement, toWord (lineCode l.last), flagWord l.settling]

/-- A feature's eight words. -/
def Feature.words (f : Feature) : List Word :=
  [toWord (f.kind.code + flagBit f.dueMark 8 + flagBit f.staleMark 9 + flagBit f.due.isSome 13 + flagBit f.arrival.isSome 14
      + flagBit true 15),
   toWord ((f.number.getD 0).toNat + (match f.target with | .code c => c.toNat * 256 | .any => 0x4000)
      + flagBit f.number.isSome 15)] ++ pair (f.due.getD 0) ++ pairNat f.coast ++ pair (f.arrival.getD 0)

/-- The words of a feature that may be absent. -/
def featureWords : Option Feature → List Word
  | some f => f.words
  | none => List.replicate 8 0

/-- The CS record (R58). -/
def Jobs.csWords (j : Jobs) : List Word :=
  let c := j.cs
  padded 24
    ([toWord c.state.code, toWord (reasonCode c.reason), toWord ((c.stepOfFailure.map CsState.code).getD 255),
      flagWord c.deadSeen, flagWord (c.command == .close), flagWord c.pulse, toWord j.fb.brk.code, toWord j.fb.sel.code,
      toWord (Sys2Proof.Machine.lineCode c.expected), toWord (Sys2Proof.Machine.lineCode (c.closingSystem.map Line.system)), flagWord j.speed.isKnown,
      toWord j.speed.kmh] ++ pair j.speed.arrival ++ [toWord j.speed.lead.code, toWord c.refused])
    ++ featureWords c.current ++ padded 32 (c.list.flatMap Feature.words)

/-- A pantograph record (R79). -/
def PantoRec.words (p : PantoRec) : List Word :=
  padded 14
    [toWord p.state.code, toWord p.role.code,
     toWord (flagBit p.connected 0 + flagBit p.height.isSome 1 + flagBit p.press.isSome 2 + flagBit p.reached 3
       + flagBit p.burst 4),
     p.height.getD 0, p.press.getD 0, toWord p.contact, toWord p.loss, toWord p.low, toWord (causeCode p.cause), p.raises,
     toWord p.excess]

/-- An arc input: last sample and accepted level, each with its presence. -/
def ArcInput.stateWord (a : ArcInput) : Word :=
  toWord (flagBit (a.last.getD false) 0 + flagBit a.last.isSome 1 + flagBit (a.level.getD false) 2 + flagBit a.level.isSome 3)

def State.page0 (s : State) : List Word :=
  let j := s.jobs
  padded 8 s.deviceWords ++ padded 16 j.lmu.words ++ padded 8 j.lsi.words ++ padded 64 j.csWords ++ j.p1.words ++ j.p2.words
    ++ [toWord j.arc.in1.count, toWord j.arc.in2.count, j.arc.in1.stateWord, j.arc.in2.stateWord]

/-! ### Page 1 -/

def Policy.code : Policy → Nat
  | .auto => 0
  | .off => 1
  | .heat => 2
  | .scrape => 3

def HeatPhase.code : HeatPhase → Nat
  | .idle => 0
  | .on => 1
  | .off => 2

/-- The last assessment's words. -/
def Assessment.words (a : Assessment) : List Word :=
  [a.temp.getD 0, a.probe.getD 0, toWord a.drop, toWord (a.tally * 256 + a.raw.code * 16 + a.level.code)] ++ pair a.tag

/-- The ice record (R99). -/
def Ice.words (c : Ice) : List Word :=
  [toWord (c.level.code * 256 + c.mode.code),
   toWord (c.policy.code * 256 + flagBit c.zone 0 + flagBit c.barred 1 + flagBit c.temp.isSome 2 + flagBit c.probe.isSome 3
     + flagBit c.last.isSome 4 + flagBit (c.last.any (fun a => a.temp.isSome)) 5
     + flagBit (c.last.any (fun a => a.probe.isSome)) 6),
   toWord (c.tally * 256 + c.decay), toWord (scraperCode c.scraper * 256 + c.phase1.code * 16 + c.phase2.code),
   c.temp.getD 0, c.probe.getD 0] ++ (c.last.map Assessment.words).getD []

/-- An image as bits 0..9, in point map order. -/
def Image.bitsNat (i : Image) : Nat :=
  flagBit i.raise1 0 + flagBit i.raise2 1 + flagBit i.isol1 2 + flagBit i.isol2 3 + flagBit i.heat1 4 + flagBit i.heat2 5
    + flagBit i.brkClose 6 + flagBit i.brkTrip 7 + flagBit i.selAc 8 + flagBit i.selDc 9

/-- 13.3: the feedback codes 0 OPEN, 1 CLOSED, 2 UNKNOWN. -/
def EarthFb.code : EarthFb → Nat
  | .open => 0
  | .closed => 1
  | .unknown => 2

/-- The pending point set: bit n for the n-th point of the table. -/
def pendingBits : Nat → List PointEntry → Nat
  | _, [] => 0
  | n, e :: rest => flagBit e.pending n + pendingBits (n + 1) rest

/-- A point of the point image table. -/
def PointEntry.words (e : PointEntry) : List Word := [e.point, e.mask, e.lastWord, e.lastSent]

/-- The output words (R115, R160), with the present sending values. -/
def Outputs.words (shown : Image) (o : Outputs) : List Word :=
  padded 20
    [toWord o.image.bitsNat, toWord shown.bitsNat,
     toWord ((o.frozen.map Image.bitsNat).getD 0 + flagBit o.frozen.isSome 15), toWord (pendingBits 0 o.table),
     toWord o.earth.code, o.seq.setWidth 16] ++ padded 44 (o.table.flatMap PointEntry.words)

/-- The mode, run state and held mark of a timer. -/
def Timer.modeWord (t : Timer) : Word :=
  toWord (flagBit (t.mode == .periodic) 0 + flagBit t.running 1 + flagBit t.held 2)

def Timer.words (t : Timer) : List Word := [toWord t.count, toWord t.reload, t.modeWord]

/-- R124, 13.6: a cascaded pair as its two timers, the even one holding the low half. -/
def Timer.pairWords (t : Timer) : List Word :=
  [toWord t.count, toWord t.reload, t.modeWord, toWord (t.count / 65536), toWord (t.reload / 65536), t.modeWord]

def Timers.words (t : Timers) : List Word :=
  t.t0.words ++ t.t1.words ++ t.t2.words ++ t.t3.words ++ t.t4.words ++ t.t5.words ++ t.t67.pairWords ++ t.t89.pairWords
    ++ t.t10.words ++ t.t11.words ++ t.t12.words ++ t.t13.words ++ t.t14.words ++ t.t15.words

def State.page1 (s : State) : List Word :=
  padded 16 s.jobs.ice.words ++ padded 64 (s.jobs.oc.words s.jobs.presentSending) ++ padded 48 s.jobs.tmr.words

/-! ### Page 2 -/

def PortMode.code : PortMode → Nat
  | .stopped => 0
  | .discovery => 1
  | .running => 2

def Parity.code : Parity → Nat
  | .even => 0
  | .odd => 1
  | .none => 2
  | .zero => 3

/-- A port (R142); the discovery record and locked divisor are the train port's. -/
def PortState.words (v : PortState) : List Word :=
  padded 16
    [toWord v.mode.code, toWord v.settings.divisor, toWord v.settings.parity.code, flagWord v.settings.twoStops,
     toWord v.buffers.length, toWord v.parityErrors, toWord v.framingErrors, toWord v.overruns, toWord v.checkErrors,
     toWord (v.lastMeasured.getD 0), toWord v.runCount, toWord (v.locked.getD 0)]

/-- A port's ten counters (R150), two words each. -/
def Counters.words (c : Counters) : List Word :=
  pair c.received ++ pair c.forwarded ++ pair c.consumed ++ pair c.dropped ++ pair c.misdirected ++ pair c.unclaimed
    ++ pair c.blocked ++ pair c.queueFull ++ pair c.stray ++ pair c.originated

def Slot.code : Slot → Nat
  | .idle => 0
  | .sending => 1
  | .awaiting => 2

def ExchangeKind.code : ExchangeKind → Nat
  | .composer => 0
  | .poll => 1
  | .queuedOrder => 2
  | .queuedQuery => 3

def LastKind.code : LastKind → Nat
  | .poll => 0
  | .queue => 1

/-- The exchange record. -/
def Exchange.words (e : Exchange) : List Word :=
  [toWord (e.kind.code + flagBit true 15), toWord e.node, e.point, e.seq.setWidth 16, toWord e.queryCount,
   flagWord e.answerBegun]

/-- The RB words (R171). -/
def Sched.words (b : Sched) : List Word :=
  [toWord b.slot.code] ++ padded 6 ((b.exchange.map Exchange.words).getD []) ++
    [toWord b.lastKind.code, toWord b.cursor] ++ pairNat b.pass ++ [b.pollSeq.setWidth 16]

def CaptureMode.code : CaptureMode → Nat
  | .mixed => 0
  | .frames => 1
  | .events => 2

def CaptureState.code : CaptureState → Nat
  | .armed => 0
  | .triggered => 1
  | .frozen => 2

/-- 13.4: the applied trigger as its descriptor, point and mask words. DESIGN CHOICE (log entry 64): what an applied
trigger does not use reads 0, whatever the settings words held at the REARM. -/
def Trigger.words : Trigger → List Word
  | .disabled => [0, 0, 0]
  | .frame d k point mask =>
    [toWord (0x4000 + (match d with | some .up => 0x1000 | some .down => 0x2000 | none => 0)
      + (match k with | some k => k.code * 256 | none => 0x800)), point, mask]
  | .event c => [toWord (0x8000 + c), 0, 0]

/-- The CB words (R179). -/
def Capture.words (c : Capture) : List Word :=
  [toWord c.state.code, toWord (c.mode.code + flagBit c.unmatched 8)] ++ c.trigger.words ++
    [toWord c.post, toWord c.remaining, toWord c.frameIndex, toWord c.eventIndex,
     toWord ((c.place.map (fun p => p.1)).getD 0 + flagBit c.place.isSome 15)] ++
    pair ((c.place.map (fun p => p.2)).getD 0)

def State.page2 (s : State) : List Word :=
  s.train.words ++ s.roof.words ++
    padded 48 (s.fr.train.words ++ s.fr.roof.words ++
      [toWord s.fr.up.length, toWord s.fr.down.length, toWord s.fr.share]) ++
    padded 16 s.rb.words ++
    padded 32 ([toWord s.jobs.tm.corrected, toWord s.jobs.tm.scrub] ++ s.cb.words)

/-! ### Pages 3 and 4 -/

def NodeState.code : NodeState → Nat
  | .unused => 0
  | .waiting => 1
  | .active => 2
  | .lost => 3

/-- 13.6: a node's state in bits 9..8 and missed count in bits 1..0. -/
def NodeRec.word (r : NodeRec) : Word := toWord (r.state.code * 256 + r.missed)

def State.page3 (s : State) : List Word :=
  (List.range Config.lastNode).map (fun n => (s.jobs.node (n + 1)).word)

def State.page4 (s : State) : List Word :=
  (List.range Config.lastNode).flatMap (fun n => pair ((s.jobs.node (n + 1)).last.getD 0xFFFFFFFF))

/-! ### The window (R187, R195) -/

/-- The words of a page, from 1800h on. -/
def State.page (s : State) : Nat → List Word
  | 0 => s.page0
  | 1 => s.page1
  | 2 => s.page2
  | 3 => s.page3
  | _ => s.page4

/-- R195: a word of the window; an address of a page that no item uses reads 0. -/
def State.statusWord (page a : Nat) (s : State) : Word := (s.page page).getD (a - 0x1800) 0

/-- Pairs of consecutive words, `n` of them from an offset. -/
def evenPairs (start n : Nat) : List (Nat × Nat) := (List.range n).map (fun i => (start + 2 * i, start + 2 * i + 1))

/-- The 32-bit items of a page, as the offsets of their low and high words. -/
def longItems : Nat → List (Nat × Nat)
  | 0 => [(0, 1), (3, 4), (16, 17), (25, 26), (44, 45)] ++ (List.range 5).flatMap (fun k => evenPairs (58 + 8 * k) 3)
  | 1 => [(10, 11), (98, 101), (99, 102), (104, 107), (105, 108)]
  | 2 => evenPairs 32 20 ++ [(89, 90), (108, 109)]
  | 3 => []
  | _ => evenPairs 0 62

end Sys2Proof.Machine
end

