-- ==== Sys2Proof/Machine/Service.lean ====
section
/-! DEFINITION. Table Memory and Service: the SERVICE operations, the split-read latch, the lock, COMMISSION,
RESTART, the scrubber and the tick, and the resets (chapter 12, R181 to R193; chapter 7, R116, R123). -/

namespace Sys2Proof.Machine

open Sys2Proof

/-! ### Replies (R186) -/

/-- R186: a SERVICE frame other than READ is answered when a reply is wanted or its status is not OK. -/
def State.reply (f : Frame) (c : SvcControl) (op : Nat) (st : Status) (s : State) : State :=
  if c.reply || decide (st ≠ .ok) then s.onJobs (fun j => j.report (.frame (serviceReply f.seq op st))) else s

/-- 13.3: the count field, n − 1 for n words. -/
def wordCount (c : SvcControl) : Nat := c.cnt.toNat + 1

/-! ### READ (R181, R187, R195) -/

/-- R187: the word an address delivers, in the state of the READ's snapshot. -/
def State.serviceWord (page a : Nat) (s : State) : Word :=
  match regionOf a with
  | .live => s.jobs.word a
  | .roof => s.jobs.word a
  | .capture => ((Store.read CaptureEntry.empty ((a - 0x1000) / 6) s.cb.mem).words).getD ((a - 0x1000) % 6) 0
  | .status => if page ≤ 4 then s.statusWord page a else 0xFFFF#16
  | .nothing => 0xFFFF#16

/-- R181, R195: the address is a word of the part. -/
def isWord (page a : Nat) : Bool :=
  match regionOf a with
  | .nothing => false
  | .status => decide (page ≤ 4)
  | _ => true

/-- R187: the low word's address of the 32-bit item whose high word is at an address of the window. -/
def lowOf (page a : Nat) : Option Nat :=
  ((longItems page).find? (fun q => 0x1800 + q.2 == a)).map (fun q => 0x1800 + q.1)

/-- R187: the latch is not empty. -/
def State.liveLatch (s : State) : Option Latch := s.latch.filter (fun l => decide (l.ticks < 2))

/-- R187: a READ of these addresses includes the latched high word without its low word. -/
def Latch.serves (page : Nat) (as : List Nat) (l : Latch) : Bool :=
  l.page == page && as.contains l.addr && !((lowOf page l.addr).any (fun b => as.contains b))

/-- R187: the words a READ delivers. -/
def State.readWords (page : Nat) (as : List Nat) (s : State) : List Word :=
  as.map (fun a =>
    match s.liveLatch with
    | some l => if l.serves page as && l.addr == a then l.value else s.serviceWord page a
    | none => s.serviceWord page a)

/-- R187: the high word a READ latches: of the last 32-bit item whose low word it includes without its high
word. -/
def State.newLatch (page : Nat) (as : List Nat) (s : State) : Option Latch :=
  if 4 < page then none
  else
    (((longItems page).filter (fun q => as.contains (0x1800 + q.1) && !as.contains (0x1800 + q.2))).getLast?).map
      (fun q => { page := page, addr := 0x1800 + q.2, value := s.statusWord page (0x1800 + q.2), ticks := 0 })

/-- R187: the latch after a READ. -/
def State.latchAfter (page : Nat) (as : List Nat) (s : State) : Option Latch :=
  match s.newLatch page as with
  | some l => some l
  | none => if s.liveLatch.any (fun l => l.serves page as) then none else s.latch

/-- R181: the address is a word of table memory that the service map names. -/
def isTableWord (a : Nat) : Bool := regionOf a == .live || regionOf a == .roof

/-- R186: the status of a READ. -/
def State.readStatus (page : Nat) (as : List Nat) (s : State) : Status :=
  if !as.all (fun a => isWord page a) then .address
  else if as.any (fun a => isTableWord a && s.jobs.bad a) then .poisoned
  else .ok

/-- R186, R187: READ. DESIGN CHOICE (log entries 25 and 62): the snapshot is taken after the READ's own FRAME entry and
before a CAPTURE_FROZEN that this entry causes. -/
def State.serviceRead (f : Frame) (c : SvcControl) (addr : Word) (s : State) : State :=
  let s := s.consume f
  let as := span addr.toNat (wordCount c)
  let page := c.field.toNat
  let reply := readReply f.seq (s.readStatus page as) (s.readWords page as)
  let s := s.setLatch (s.latchAfter page as)
  (s.onJobs (fun j => (j.touchAll (as.filter isTableWord)).report (.frame reply))).finish

/-! ### WRITE and CHECK_WRITE (R182, R185) -/

/-- R182: the roof tables may be written. -/
def State.unlocked (s : State) : Bool := s.jobs.dev == .config || s.jobs.oc.safe

/-- R182, R186: the status of a WRITE or CHECK_WRITE of these addresses. -/
def State.writeStatus (as : List Nat) (s : State) : Status :=
  if as.any (fun a => regionOf a == .roof) && !s.unlocked then .locked
  else if as.all writable then .ok
  else .address

/-- R182, R185: one word is stored, with its check bits inverted by a pattern and its mark cleared. -/
def Jobs.storeWord (a : Nat) (w : Word) (pattern : BitVec 6) (j : Jobs) : Jobs :=
  if writable a then j.setTm (j.tm.store a { data := w, check := pattern }) else j

/-- R182: the words are written in ascending address order. -/
def Jobs.storeWords (a : Nat) (ws : List Word) (j : Jobs) : Jobs :=
  match ws with
  | [] => j
  | w :: rest => Jobs.storeWords (a + 1) rest (j.storeWord a w 0)

/-- R190: the status period; a poisoned word gives 100 ms. -/
def Jobs.statusPeriod (j : Jobs) : Nat := (j.param 4 100).toNat

/-- R190: a WRITE of the status period word acts on T13 at once, in RUN. -/
def Jobs.newPeriod (j : Jobs) : Jobs :=
  let n := j.statusPeriod
  if n = 0 then j.stop .t13
  else if (j.timer .t13).running then j.onTimer .t13 (Timer.setReload n)
  else j.load .t13 n .periodic

/-- R182: what a WRITE does beyond storing: measurement restart (R16), the point image table (R103), the status
period (R190), and every rule that reads the tables (R28, R39, R81). -/
def Jobs.afterWrite (as : List Nat) (j : Jobs) : Jobs :=
  let j := if j.dev = .run ∧ (0x090 ∈ as ∨ 0x091 ∈ as) then j.restartMeasurement else j
  let j := if as.any (fun a => decide (0x090 ≤ a ∧ a ≤ 0x0B9)) then j.rebuild true else j
  let j := if j.dev = .run ∧ 4 ∈ as then j.newPeriod else j
  j.push .look

/-- R140: a WRITE stores the roof settings word. While the exchange slot is IDLE it is applied at once. -/
def State.roofWordWritten (s : State) : State :=
  if (settingsOf (s.jobs.word 1)).divisor = 0 then
    (s.setRoof { s.roof with applyWord := false }).linkError .roof .setting
  else (s.setRoof { s.roof with applyWord := true }).roofApply

/-- R140: before the word at an address is stored, a setting whose exchange has completed is applied, if the address is
the roof settings word's (log entry 70). -/
def State.roofWordDue (as : List Nat) (s : State) : State := if 1 ∈ as then s.roofApply else s

/-- R182, R186: WRITE. -/
def State.serviceWrite (f : Frame) (c : SvcControl) (addr : Word) (data : List Word) (s : State) : State :=
  let s := s.consume f
  let as := span addr.toNat (wordCount c)
  let st := s.writeStatus as
  let s :=
    if st = .locked then s
    else
      let s := (s.roofWordDue as).onJobs (fun j => (j.storeWords addr.toNat (data.take (wordCount c))).afterWrite (as.filter writable))
      if 1 ∈ as then s.roofWordWritten else s
  (s.reply f c 1 st).finish

/-- R185, R186: CHECK_WRITE, of one word whatever its count field. -/
def State.serviceCheckWrite (f : Frame) (c : SvcControl) (addr data : Word) (s : State) : State :=
  let s := s.consume f
  let st := s.writeStatus [addr.toNat]
  let s := if st = .ok then (s.roofWordDue [addr.toNat]).onJobs (fun j => (j.storeWord addr.toNat data c.field).push .look)
    else s
  (s.reply f c 2 st).finish

/-! ### CLEAR_FLAGS, REARM and frames that name no operation -/

/-- R186: CLEAR_FLAGS. DESIGN CHOICE (log entry 62): a CAPTURE_FROZEN that its own FRAME entry causes is set after the
clear. -/
def State.serviceClear (f : Frame) (c : SvcControl) (low high : Word) (s : State) : State :=
  let s := s.consume f
  let s := s.setNu { s.nu with flags := clearFlags low high s.nu.flags }
  (s.reply f c 3 .ok).finish

/-- R178, R186: REARM. What the taking of its own frame has to report is delivered first, so that a CAPTURE_FROZEN
its entry has caused finds the CB FROZEN (R175; log entry 23). -/
def State.serviceRearm (f : Frame) (c : SvcControl) (s : State) : State :=
  (((((s.consume f).drain 1024).rearm)).reply f c 4 .ok).finish

/-- R186: the operation field of a payload's word 0; a payload with no word has no operation (log entry 1). -/
def operationOf (seq : Byte) : List Word → Nat
  | [] => (Config.unstatedOperation seq).toNat
  | w :: _ => w.toNat / 8192

/-- R186: a frame that names no operation, or is too short for its own, does nothing and is answered ADDRESS. DESIGN
CHOICE (log entry 63): a READ too short for its address word is answered by the one-word form too, which carries no words
read. -/
def State.serviceUnknown (f : Frame) (s : State) : State :=
  ((s.consume f).onJobs (fun j => j.report (.frame (serviceReply f.seq (operationOf f.seq f.payload) .address)))).finish

/-! ### COMMISSION (R191) -/

/-- R191: the roles check 1 needs. -/
def commissionRoles : List MapRole :=
  [.lineV, .raise .p1, .height .p1, .press .p1, .brkClose, .brkTrip, .brkPos, .selAc, .selDc, .selPos]

/-- R191: the line-system entry at which check 2 ends: the first that is usable or holds an uncorrectable word (log
entry 58). -/
def Jobs.lastLine (j : Jobs) : Option (Fin 8) :=
  lineEntries.find? (fun k => j.lineUsable k || j.anyBad (span (lineAddr k) 6))

/-- R191: the usable line-system entry check 2 finds; a read that finds a word uncorrectable fails it. -/
def Jobs.anyLine (j : Jobs) : Option (Fin 8) := j.lastLine.filter (fun k => j.lineUsable k)

/-- R191: the poll slot at which check 3 ends: the first that is uncorrectable or names the node of LINE_V (log
entry 58). -/
def Jobs.lastSlot (j : Jobs) : Option Nat :=
  (List.range Config.pollSlots).find? (fun i => j.bad (slotAddr i) || (j.slotUsable i && j.slotNode i == j.mapNode .lineV))

/-- R191: the usable poll slot that names the node of the LINE_V point; a read that finds a word uncorrectable fails
check 3. -/
def Jobs.lineSlot (j : Jobs) : Option Nat := j.lastSlot.filter (fun i => !j.bad (slotAddr i))

/-- R191: the roof settings word is fit for RUN. -/
def Jobs.roofWordFit (j : Jobs) : Bool := (settingsOf (j.word 1)).divisor != 0 && !j.bad 1

/-- R191: the number of the first check that fails. -/
def Jobs.failedCheck (j : Jobs) : Option Nat :=
  if !commissionRoles.all (fun r => j.mapUsable r) then some 1
  else if j.anyLine.isNone then some 2
  else if j.lineSlot.isNone then some 3
  else if !j.pantoValid .p1 then some 4
  else if j.bad 0x145 || !j.raisable j.startPanto then some 5
  else if !j.roofWordFit then some 6
  else none

/-- R191: the reads the checks make, up to the one that fails. DEDUCED (log entry 58): the words of checks 1 and 5 are
read to the end, and so are the six words of a line-system entry, also after a word that fails the check. -/
def Jobs.touchChecks (j : Jobs) : Jobs :=
  let n := j.failedCheck.getD 6
  let upTo (i : Nat) (as : List Nat) : List Nat := if i ≤ n then as else []
  j.touchAll
    (commissionRoles.flatMap (fun r => span r.addr 2)
      ++ upTo 2 ((linesUpTo j.lastLine).flatMap (fun k => span (lineAddr k) 6))
      ++ upTo 3 (((List.range Config.pollSlots).filter (fun i => decide (i ≤ j.lastSlot.getD 31))).map slotAddr)
      ++ upTo 4 [pantoAddr .p1 0]
      ++ upTo 5 (0x145 :: (raiseRoles j.startPanto).flatMap (fun r => span r.addr 2) ++ [pantoAddr j.startPanto 0])
      ++ upTo 6 [1])

/-- R168: the node records at COMMISSION: each node a usable slot names is WAITING. -/
def Jobs.polledNodes (j : Jobs) : Store NodeRec :=
  ((List.range Config.pollSlots).filter (fun i => j.slotUsable i)).foldl
    (fun m i => Store.write {} (j.slotNode i) { state := .waiting } m) []

/-- R78: the step timer of a LOWERING record with a stopped, unloaded step timer is loaded. -/
def Jobs.startLowering (x : Panto) (j : Jobs) : Jobs :=
  if (j.panto x).state = .lowering ∧ (j.timer x.stepTimer).running = false ∧ (j.timer x.stepTimer).count = 0 then
    let t := timing (j.pantoParam x 6)
    (j.touch (pantoAddr x 6)).load x.stepTimer t .oneShot
  else j

/-- R191: the roof jobs on entry to RUN (R16, R30, R58, R78, R98, R114, R168, R170, R190, R83, R108). DESIGN CHOICE (log
entry 65): all poll slots are read. -/
def Jobs.enterRun (j : Jobs) : Jobs :=
  let nodes := j.polledNodes
  let j := j.touchAll ((List.range Config.pollSlots).map slotAddr)
  let j := (((((j.setCs {}).setSpeed {}).setFb {}).setIce {}).setLsi { since := j.tag }).setNodes nodes
  let j := ((j.setOc { ({} : Outputs) with table := [] }).rebuild false).setDev .run
  let j := ((j.restartMeasurement).startLowering .p1).startLowering .p2
  let assess := j.assessPeriod
  let period := j.statusPeriod
  let j := ((j.touchIce [12]).load .t10 assess .periodic).load .t14 Config.refreshTime .periodic
  let j := j.touch 4
  if period = 0 then j.stop .t13 else j.load .t13 period .periodic

/-- R191: COMMISSION. -/
def State.serviceCommission (f : Frame) (c : SvcControl) (s : State) : State :=
  let s := s.consume f
  if s.jobs.dev = .run then (s.reply f c 5 .state).finish
  else
    match s.jobs.failedCheck with
    | some n => ((s.onJobs Jobs.touchChecks).reply f c 5 (.checkFail n)).finish
    | none => (((s.abandon).onJobs (fun j => j.touchChecks.enterRun)).reply f c 5 .ok).finish

/-! ### RESTART and the resets (R192, R193) -/

/-- The roof jobs at their resets, in CONFIG (R16, R30, R58, R78, R98, R114, R124, R125, R127, R170), with
table memory kept; `tag` is the time tag and `cause` keeps a pantograph's latched cause (R78). -/
def Jobs.resetJobs (tag : Long) (tm : TableMem) (cause1 cause2 : Option Cause) : Jobs :=
  Jobs.rebuild false
    { ({} : Jobs) with tag := tag, tm := tm, lsi := { since := tag }, p1 := { cause := cause1 }, p2 := { cause := cause2 } }

/-- R192: RESTART, once taken. -/
def State.restart (s : State) : State :=
  let before := s.jobs.dev.code
  let j := s.jobs
  let out := j.out
  let fresh := Jobs.resetJobs j.tag j.tm j.p1.cause j.p2.cause
  let s := (s.setJobs (fresh.setOut (out ++ fresh.out))).abandon
  let s := ((s.setFr { s.fr with down := [] }).setLatch none).restartTrain
  (s.rearm).onJobs (fun j => j.flag .restarted before)

/-- R186, R192: RESTART. What the taking of its own frame has to report is delivered first (R175; log entry 23). -/
def State.serviceRestart (f : Frame) (c : SvcControl) (s : State) : State :=
  let s := s.consume f
  if s.jobs.dev = .config ∨ s.jobs.oc.safe = true then (((s.drain 1024).restart).reply f c 6 .ok).finish
  else (s.reply f c 6 .state).finish

/-- R193: the RESET line is asserted. -/
def State.resetAssert (s : State) : State :=
  if s.inReset then s
  else
    let s := s.setInReset true
    let s := s.setTrain { s.train with mode := .stopped, sending := none }
    let s := s.setRoof { s.roof with mode := .stopped, sending := none }
    (s.setCb { s.cb with state := .frozen }).onJobs (fun j => j.setOc { j.oc with safe := false })

/-- R141: the roof port's settings at the end of a reset, and whether the word holds the prohibited divisor. -/
def Jobs.roofAtReset (j : Jobs) : Settings × Bool :=
  match j.roofSettings with
  | some n => (n, false)
  | none => (roofDefault, true)

/-- R193: the RESET line is released: the part starts in CONFIG with the RST values. -/
def State.resetRelease (s : State) : State :=
  if s.inReset then
    let j := Jobs.resetJobs 0 { mem := s.jobs.tm.mem } none none
    let train := j.trainSettings
    let (roof, prohibited) := j.roofAtReset
    let j := (j.touch 0).touch 1
    let s : State :=
      { pending := s.pending, inReset := false, jobs := j,
        train := PortState.restart train { mode := .stopped, settings := trainDefault },
        roof := { mode := .running, settings := roof, settling := true },
        fr := {}, rb := {}, cb := { s.cb with state := .frozen }, nu := {}, latch := none }
    (if prohibited then s.linkError .roof .setting else s).finish
  else s

/-! ### The tick (R116, R123, R184, R187) -/

/-- R33: at the tick the speed's age reaches 2,000 ms. -/
def SpeedRec.age (tag : Long) (v : SpeedRec) : SpeedRec :=
  { v with aged := v.aged || (v.known && decide ((Config.speedLife : Int) ≤ tagDiff tag v.arrival)) }

/-- R184: the scrubber reads one address and advances its pointer. -/
def Jobs.scrubRead (j : Jobs) : Jobs :=
  let a := j.tm.scrub
  let j := j.touch a
  j.setTm { j.tm with scrub := (a + 1) % Config.tableWords }

/-- R116, R123: the time tag advances and every counting timer is decremented; the marks that follow the
time tag are brought up to date (R33, R37). -/
def Jobs.tick (j : Jobs) : Jobs :=
  let j := (j.setTag (j.tag + 1)).setTmr (j.tmr.map (Timer.tick (j.tag + 1)))
  (j.setSpeed (j.speed.age j.tag)).ageFeatures

/-- R184, with the tick it belongs to (log entry 3). -/
def State.tick (s : State) : State :=
  let s := s.setLatch (s.latch.map (fun l => { l with ticks := l.ticks + 1 }))
  (s.onJobs (fun j => j.tick.scrubRead)).finish

/-- R187: the latch empties at the second tick after the latching READ. -/
def State.latchExpiry (s : State) : State :=
  if s.latch.any (fun l => decide (2 ≤ l.ticks)) then s.setLatch none else s

/-! ### Timers of the NU and the OC (R108, R190) -/

/-- R190: T13 expires. -/
def Jobs.statusExpiry (j : Jobs) : Jobs :=
  if j.expired .t13 then
    let j := j.takeExpiry .t13
    if j.dev = .run then
      let n := j.statusPeriod
      let j := (j.touch 4).report .status
      if n = 0 then j.stop .t13 else j.onTimer .t13 (Timer.setReload n)
    else j
  else j

/-- R108: T14 expires. -/
def Jobs.refreshExpiry (j : Jobs) : Jobs := if j.expired .t14 then (j.takeExpiry .t14).markAll else j

end Sys2Proof.Machine
end

