-- ==== Sys2Proof/Machine/AheadSteps.lean ====
section
/-! DEFINITION. The meanings of the AHEAD frames (R32 to R37, R82). -/

namespace Sys2Proof.Machine

open Sys2Proof

/-- AHEAD NEUTRAL (R32 to R35). -/
def execAheadNeutral (h : Header) (a : Announcement) (s : State) : Host.Outcome State Fault Refusal :=
  s.taking .train (aheadFrame h 0 a) fun f s => s.ahead f a (Jobs.offerFeature .neutral a)

/-- AHEAD BOUNDARY (R32 to R35). -/
def execAheadBoundary (h : Header) (a : Announcement) (s : State) : Host.Outcome State Fault Refusal :=
  s.taking .train (aheadFrame h 1 a) fun f s => s.ahead f a (Jobs.offerFeature .boundary a)

/-- AHEAD CANCEL (R36). -/
def execAheadCancel (h : Header) (a : Announcement) (s : State) : Host.Outcome State Fault Refusal :=
  s.taking .train (aheadFrame h 2 a) fun f s => s.ahead f a (Jobs.cancel a.number)

/-- AHEAD SPEED, or a kind code that names none (R32, R33). -/
def execAheadSpeed (h : Header) (code : BitVec 4) (a : Announcement) (s : State) : Host.Outcome State Fault Refusal :=
  s.taking .train (aheadFrame h code a) fun f s => s.ahead f a (fun j => j)

/-- AHEAD ICE_ZONE (R82). -/
def execAheadIceZone (h : Header) (a : Announcement) (s : State) : Host.Outcome State Fault Refusal :=
  s.taking .train (aheadFrame h 4 a) fun f s => s.ahead f a (Jobs.iceZone a)

/-- An AHEAD frame too short for its layout is consumed (R194). -/
def execShortAheadFrame (h : Header) (payload : List Word) (s : State) : Host.Outcome State Fault Refusal :=
  s.taking .train (h.frame .ahead payload) fun f s => (s.consume f).finish

end Sys2Proof.Machine
end

