-- ==== Sys2Proof/Machine/BusSteps.lean ====
section
/-! DEFINITION. The meanings of the steps of the roof bus (chapter 10). -/

namespace Sys2Proof.Machine

open Sys2Proof

/-- EXCHANGE_CHOICE (R162, R165, R106, R107). -/
def execExchangeChoice (s : State) : Host.Outcome State Fault Refusal :=
  s.unlessReset fun s => s.choice.finish

/-- ANSWER_START (R166). -/
def execAnswerStart (s : State) : Host.Outcome State Fault Refusal :=
  s.unlessReset fun s => s.answerStart

/-- ANSWER_TIMEOUT (R166, R168, R169). -/
def execAnswerTimeout (s : State) : Host.Outcome State Fault Refusal :=
  s.unlessReset fun s => s.answerTimeout.finish

/-- ANSWER_LIMIT_EXPIRY (R130, R166). -/
def execAnswerLimitExpiry (s : State) : Host.Outcome State Fault Refusal :=
  s.unlessReset fun s => s.answerLimitExpiry.finish

end Sys2Proof.Machine
end

