-- ==== Sys2Proof/Machine/FrameSteps.lean ====
section
/-! DEFINITION. The meanings of the steps by which the FR takes a frame that names a roof point or does not belong on its
port (chapter 9). -/

namespace Sys2Proof.Machine

open Sys2Proof

/-- MISDIRECTED_FRAME (R145, R167). -/
def execMisdirectedFrame (p : Port) (k : Kind) (h : Header) (payload : List Word) (s : State) : Host.Outcome State Fault Refusal :=
  s.taking p (h.frame k payload) fun f s => s.misdirected p f

/-- ROOF_MEASURE_FRAME (R149, R167). -/
def execRoofMeasureFrame (h : Header) (payload : List Word) (s : State) : Host.Outcome State Fault Refusal :=
  s.taking .roof (h.frame .measure payload) fun f s => s.roofFrame f

/-- ROOF_ANSWER_FRAME (R149, R167). -/
def execRoofAnswerFrame (h : Header) (payload : List Word) (s : State) : Host.Outcome State Fault Refusal :=
  s.taking .roof (h.frame .answer payload) fun f s => s.roofFrame f

/-- TRAIN_ORDER (R147, R154). -/
def execTrainOrder (h : Header) (payload : List Word) (s : State) : Host.Outcome State Fault Refusal :=
  s.taking .train (h.frame .order payload) fun f s => (s.trainOrder f).finish

/-- TRAIN_QUERY (R147, R148). -/
def execTrainQuery (h : Header) (payload : List Word) (s : State) : Host.Outcome State Fault Refusal :=
  s.taking .train (h.frame .query payload) fun f s => (s.trainQuery f).finish

end Sys2Proof.Machine
end

