-- ==== Sys2Proof/Machine/LinkSteps.lean ====
section
/-! DEFINITION. The meanings of the steps of the two ports (chapter 8). -/

namespace Sys2Proof.Machine

open Sys2Proof

/-- DISCOVERY_MEASUREMENT (R137). -/
def execDiscoveryMeasurement (m : Measurement) (s : State) : Host.Outcome State Fault Refusal :=
  s.unlessReset fun s => s.setTrain (s.train.discover m)

/-- RECEIVER_SETTLE_GAP (R136, R140). -/
def execReceiverSettleGap (p : Port) (s : State) : Host.Outcome State Fault Refusal :=
  s.unlessReset fun s => (s.settleGap p).finish

/-- FRAME_COMPLETE (R130, R131, R132, R166). -/
def execFrameComplete (p : Port) (s : State) : Host.Outcome State Fault Refusal :=
  s.unlessReset fun s => (s.frameComplete p).finish

/-- TRAIN_FRAME_SENT (R134, R152). -/
def execTrainFrameSent (s : State) : Host.Outcome State Fault Refusal :=
  s.unlessReset fun s => s.trainSent

/-- TRAIN_SETTINGS_APPLY (R139). -/
def execTrainSettingsApply (s : State) : Host.Outcome State Fault Refusal :=
  s.unlessReset fun s => s.trainApply

/-- ROOF_FRAME_SENT (R161). -/
def execRoofFrameSent (s : State) : Host.Outcome State Fault Refusal :=
  s.unlessReset fun s => s.roofFrameSent

/-- ROOF_SETTINGS_APPLY (R140). -/
def execRoofSettingsApply (s : State) : Host.Outcome State Fault Refusal :=
  s.unlessReset fun s => s.roofApply.finish

/-- CHARACTER_RECEIVED (R129, R130, R133). -/
def execCharacterReceived (p : Port) (data : Byte) (parityBit stopHigh : Bool) (s : State) : Host.Outcome State Fault Refusal :=
  s.unlessReset fun s => (s.character p data parityBit stopHigh).finish

/-- TRAIN_TRANSMIT_START (R134). -/
def execTrainTransmitStart (s : State) : Host.Outcome State Fault Refusal :=
  s.unlessReset fun s => s.transmitStart

end Sys2Proof.Machine
end

