-- ==== Sys2Proof/Machine/RequestSteps.lean ====
section
/-! DEFINITION. The meanings of the REQUEST frames (R54 to R56, R74, R75, R97, R109 to R112, R189). -/

namespace Sys2Proof.Machine

open Sys2Proof

/-- BREAKER_CLOSE (R54). -/
def execBreakerClose (h : Header) (arg : Byte) (extra : List Word) (s : State) : Host.Outcome State Fault Refusal :=
  s.taking .train (requestFrame h 1 arg extra) fun f s => s.request f 1 (Jobs.requestClose)

/-- BREAKER_OPEN (R54). -/
def execBreakerOpen (h : Header) (arg : Byte) (extra : List Word) (s : State) : Host.Outcome State Fault Refusal :=
  s.taking .train (requestFrame h 2 arg extra) fun f s => s.request f 2 (Jobs.requestOpen)

/-- SELECT (R55). -/
def execSelect (h : Header) (arg : Byte) (extra : List Word) (s : State) : Host.Outcome State Fault Refusal :=
  s.taking .train (requestFrame h 3 arg extra) fun f s => s.request f 3 (Jobs.requestSelect arg)

/-- ENERGISE (R55). -/
def execEnergise (h : Header) (arg : Byte) (extra : List Word) (s : State) : Host.Outcome State Fault Refusal :=
  s.taking .train (requestFrame h 4 arg extra) fun f s => s.request f 4 (Jobs.requestEnergise)

/-- CHANGEOVER_RESUME (R56). -/
def execChangeoverResume (h : Header) (arg : Byte) (extra : List Word) (s : State) : Host.Outcome State Fault Refusal :=
  s.taking .train (requestFrame h 5 arg extra) fun f s => s.request f 5 (Jobs.requestResume)

/-- CHANGEOVER_ABORT (R56). -/
def execChangeoverAbort (h : Header) (arg : Byte) (extra : List Word) (s : State) : Host.Outcome State Fault Refusal :=
  s.taking .train (requestFrame h 6 arg extra) fun f s => s.request f 6 (Jobs.requestAbort)

/-- RAISE (R74). -/
def execRaise (h : Header) (arg : Byte) (extra : List Word) (s : State) : Host.Outcome State Fault Refusal :=
  s.taking .train (requestFrame h 7 arg extra) fun f s => s.request f 7 (Jobs.requestRaise arg)

/-- LOWER (R75). -/
def execLower (h : Header) (arg : Byte) (extra : List Word) (s : State) : Host.Outcome State Fault Refusal :=
  s.taking .train (requestFrame h 8 arg extra) fun f s => s.request f 8 (Jobs.requestLower arg)

/-- FAULT_CLEAR (R75). -/
def execFaultClear (h : Header) (arg : Byte) (extra : List Word) (s : State) : Host.Outcome State Fault Refusal :=
  s.taking .train (requestFrame h 9 arg extra) fun f s => s.request f 9 (Jobs.requestFaultClear arg)

/-- ICE_MODE (R97). -/
def execIceMode (h : Header) (arg : Byte) (extra : List Word) (s : State) : Host.Outcome State Fault Refusal :=
  s.taking .train (requestFrame h 10 arg extra) fun f s => s.request f 10 (Jobs.requestIceMode arg)

/-- LOWER_ALL with an argument other than OFF (R109). -/
def execLowerAllOn (h : Header) (arg : Byte) (extra : List Word) (s : State) : Host.Outcome State Fault Refusal :=
  s.taking .train (requestFrame h 11 arg extra) fun f s => s.request f 11 (Jobs.requestLowerAllOn arg)

/-- LOWER_ALL(OFF) (R110). -/
def execLowerAllOff (h : Header) (extra : List Word) (s : State) : Host.Outcome State Fault Refusal :=
  s.taking .train (requestFrame h 11 0 extra) fun f s => s.request f 11 (Jobs.requestLowerAllOff)

/-- HOLD with an argument other than OFF (R111). -/
def execHoldOn (h : Header) (arg : Byte) (extra : List Word) (s : State) : Host.Outcome State Fault Refusal :=
  s.taking .train (requestFrame h 12 arg extra) fun f s => s.request f 12 (Jobs.requestHoldOn arg)

/-- HOLD(OFF) (R111). -/
def execHoldOff (h : Header) (extra : List Word) (s : State) : Host.Outcome State Fault Refusal :=
  s.taking .train (requestFrame h 12 0 extra) fun f s => s.request f 12 (Jobs.requestHoldOff)

/-- A REQUEST whose code names no request, or too short to hold a code (R189, R194). -/
def execRequestUnknown (h : Header) (payload : List Word) (s : State) : Host.Outcome State Fault Refusal :=
  s.taking .train (h.frame .request payload) fun f s => s.request f ((payload.headD 0).toNat / 256) (fun j => (.invalid, j))

end Sys2Proof.Machine
end

