-- ==== Sys2Proof/Machine/ResetSteps.lean ====
section
/-! DEFINITION. The meanings of the steps of power, reset and the train line (R138, R193). -/

namespace Sys2Proof.Machine

open Sys2Proof

/-- POWER_ON (R193): the PON values of every block; the commands that wait are kept. -/
def execPowerOn (s : State) : Host.Outcome State Fault Refusal :=
  .next { State.reset with pending := s.pending }

/-- RESET_ASSERT (R193): both ports stopped, SAFE deasserted, the capture buffer frozen. -/
def execResetAssert (s : State) : Host.Outcome State Fault Refusal :=
  .next s.resetAssert

/-- RESET_RELEASE (R193): the RST values of every block, table memory kept. -/
def execResetRelease (s : State) : Host.Outcome State Fault Refusal :=
  .next s.resetRelease

/-- BREAK_BEGIN (R138). -/
def execBreakBegin (s : State) : Host.Outcome State Fault Refusal :=
  s.unlessReset fun s => s.breakBegin

/-- BREAK_END (R138, R136): the train port reads its word and restarts. -/
def execBreakEnd (s : State) : Host.Outcome State Fault Refusal :=
  s.unlessReset fun s => s.breakEnd.finish

end Sys2Proof.Machine
end

