-- ==== Sys2Proof/Machine/ServiceSteps.lean ====
section
/-! DEFINITION. The meanings of the SERVICE frames (R186). -/

namespace Sys2Proof.Machine

open Sys2Proof

/-- READ (R186, R187, R195). -/
def execServiceRead (h : Header) (c : SvcControl) (addr : Word) (extra : List Word) (s : State) : Host.Outcome State Fault Refusal :=
  s.taking .train (serviceFrame h 0 c (addr :: extra)) fun f s => s.serviceRead f c addr

/-- WRITE (R182). -/
def execServiceWrite (h : Header) (c : SvcControl) (addr : Word) (data : List Word) (s : State) : Host.Outcome State Fault Refusal :=
  s.taking .train (serviceFrame h 1 c (addr :: data)) fun f s => s.serviceWrite f c addr data

/-- CHECK_WRITE (R185). -/
def execServiceCheckWrite (h : Header) (c : SvcControl) (addr : Word) (data : Word) (extra : List Word) (s : State) : Host.Outcome State Fault Refusal :=
  s.taking .train (serviceFrame h 2 c (addr :: data :: extra)) fun f s => s.serviceCheckWrite f c addr data

/-- CLEAR_FLAGS (R186). -/
def execServiceClearFlags (h : Header) (c : SvcControl) (addr : Word) (low : Word) (high : Word) (extra : List Word) (s : State) : Host.Outcome State Fault Refusal :=
  s.taking .train (serviceFrame h 3 c (addr :: low :: high :: extra)) fun f s => s.serviceClear f c low high

/-- REARM (R178). -/
def execServiceRearm (h : Header) (c : SvcControl) (extra : List Word) (s : State) : Host.Outcome State Fault Refusal :=
  s.taking .train (serviceFrame h 4 c extra) fun f s => s.serviceRearm f c

/-- COMMISSION (R191). -/
def execServiceCommission (h : Header) (c : SvcControl) (extra : List Word) (s : State) : Host.Outcome State Fault Refusal :=
  s.taking .train (serviceFrame h 5 c extra) fun f s => s.serviceCommission f c

/-- RESTART (R192). -/
def execServiceRestart (h : Header) (c : SvcControl) (extra : List Word) (s : State) : Host.Outcome State Fault Refusal :=
  s.taking .train (serviceFrame h 6 c extra) fun f s => s.serviceRestart f c

/-- A SERVICE frame that names no operation or is too short for it (R186). -/
def execServiceUnknown (h : Header) (payload : List Word) (s : State) : Host.Outcome State Fault Refusal :=
  s.taking .train (h.frame .service payload) fun f s => s.serviceUnknown f

end Sys2Proof.Machine
end

