-- ==== Sys2Proof/Machine/TimeSteps.lean ====
section
/-! DEFINITION. The meanings of the steps of time: the tick, the expiries and the arc inputs (chapter 7). -/

namespace Sys2Proof.Machine

open Sys2Proof

/-- FEATURE_DUE (R41). -/
def execFeatureDue (s : State) : Host.Outcome State Fault Refusal :=
  s.unlessReset fun s => s.work Jobs.featureDue

/-- SPEED_AGED (R33, R90). -/
def execSpeedAged (s : State) : Host.Outcome State Fault Refusal :=
  s.unlessReset fun s => s.work Jobs.speedAged

/-- CS_STEP_TIMEOUT (R42 to R49, R51). -/
def execCsStepTimeout (s : State) : Host.Outcome State Fault Refusal :=
  s.unlessReset fun s => s.work Jobs.csStepTimeout

/-- COAST_EXPIRY (R43, R44). -/
def execCoastExpiry (s : State) : Host.Outcome State Fault Refusal :=
  s.unlessReset fun s => s.work Jobs.coastExpiry

/-- CLOSE_PULSE_EXPIRY (R39). -/
def execClosePulseExpiry (s : State) : Host.Outcome State Fault Refusal :=
  s.unlessReset fun s => s.work Jobs.closePulseExpiry

/-- RAISE_TIMEOUT (R65). -/
def execRaiseTimeout (x : Panto) (s : State) : Host.Outcome State Fault Refusal :=
  s.unlessReset fun s => s.work (Jobs.raiseTimeout x)

/-- LOWER_TIMEOUT (R69). -/
def execLowerTimeout (x : Panto) (s : State) : Host.Outcome State Fault Refusal :=
  s.unlessReset fun s => s.work (Jobs.lowerTimeout x)

/-- SETTLE_TIMER_EXPIRY (R63). -/
def execSettleTimerExpiry (x : Panto) (s : State) : Host.Outcome State Fault Refusal :=
  s.unlessReset fun s => s.work (Jobs.settleExpiry x)

/-- ARC_INTERVAL_EXPIRY (R77). -/
def execArcIntervalExpiry (x : Panto) (s : State) : Host.Outcome State Fault Refusal :=
  s.unlessReset fun s => s.work (Jobs.arcInterval x)

/-- ARC_EDGE (R126, R76). -/
def execArcEdge (x : Panto) (s : State) : Host.Outcome State Fault Refusal :=
  s.unlessReset fun s => s.work (Jobs.arcEdge x)

/-- HEATER_PAIR_EXPIRY (R92). -/
def execHeaterPairExpiry (x : Panto) (s : State) : Host.Outcome State Fault Refusal :=
  s.unlessReset fun s => s.work (Jobs.heaterExpiry x)

/-- ICE_ASSESSMENT (R83 to R85). -/
def execIceAssessment (s : State) : Host.Outcome State Fault Refusal :=
  s.unlessReset fun s => s.work Jobs.iceAssessment

/-- STATUS_TIMER_EXPIRY (R190). -/
def execStatusTimerExpiry (s : State) : Host.Outcome State Fault Refusal :=
  s.unlessReset fun s => s.work Jobs.statusExpiry

/-- REFRESH_TIMER_EXPIRY (R108). -/
def execRefreshTimerExpiry (s : State) : Host.Outcome State Fault Refusal :=
  s.unlessReset fun s => s.work Jobs.refreshExpiry

/-- STARVATION_TIMER_EXPIRY (R7). -/
def execStarvationTimerExpiry (s : State) : Host.Outcome State Fault Refusal :=
  s.unlessReset fun s => s.work Jobs.starvationExpiry

/-- SPLIT_READ_LATCH_EXPIRY (R187). -/
def execSplitReadLatchExpiry (s : State) : Host.Outcome State Fault Refusal :=
  s.unlessReset fun s => s.latchExpiry

/-- SCRUB_READ, the 1 ms tick (R184, R116, R123). -/
def execScrubRead (s : State) : Host.Outcome State Fault Refusal :=
  s.unlessReset fun s => s.tick

/-- ARC_INPUT_SAMPLE (R125). -/
def execArcInputSample (x : Panto) (high : Bool) (s : State) : Host.Outcome State Fault Refusal :=
  s.unlessReset fun s => s.work (Jobs.arcSample x high)

end Sys2Proof.Machine
end

