-- ==== Sys2Proof/Machine/Dispatch.lean ====
section
/-! DEFINITION. Every command and its meaning. -/

namespace Sys2Proof.Machine

open Sys2Proof

def exec (i : Instr) (s : State) : Host.Outcome State Fault Refusal :=
  match i with
  | .powerOn => Sys2Proof.Machine.execPowerOn s
  | .resetAssert => Sys2Proof.Machine.execResetAssert s
  | .resetRelease => Sys2Proof.Machine.execResetRelease s
  | .breakBegin => Sys2Proof.Machine.execBreakBegin s
  | .breakEnd => Sys2Proof.Machine.execBreakEnd s
  | .discoveryMeasurement m => Sys2Proof.Machine.execDiscoveryMeasurement m s
  | .receiverSettleGap p => Sys2Proof.Machine.execReceiverSettleGap p s
  | .frameComplete p => Sys2Proof.Machine.execFrameComplete p s
  | .trainFrameSent => Sys2Proof.Machine.execTrainFrameSent s
  | .trainSettingsApply => Sys2Proof.Machine.execTrainSettingsApply s
  | .roofFrameSent => Sys2Proof.Machine.execRoofFrameSent s
  | .roofSettingsApply => Sys2Proof.Machine.execRoofSettingsApply s
  | .exchangeChoice => Sys2Proof.Machine.execExchangeChoice s
  | .answerStart => Sys2Proof.Machine.execAnswerStart s
  | .answerTimeout => Sys2Proof.Machine.execAnswerTimeout s
  | .answerLimitExpiry => Sys2Proof.Machine.execAnswerLimitExpiry s
  | .misdirectedFrame p k h payload => Sys2Proof.Machine.execMisdirectedFrame p k h payload s
  | .roofMeasureFrame h payload => Sys2Proof.Machine.execRoofMeasureFrame h payload s
  | .roofAnswerFrame h payload => Sys2Proof.Machine.execRoofAnswerFrame h payload s
  | .trainOrder h payload => Sys2Proof.Machine.execTrainOrder h payload s
  | .trainQuery h payload => Sys2Proof.Machine.execTrainQuery h payload s
  | .breakerClose h arg extra => Sys2Proof.Machine.execBreakerClose h arg extra s
  | .breakerOpen h arg extra => Sys2Proof.Machine.execBreakerOpen h arg extra s
  | .select h arg extra => Sys2Proof.Machine.execSelect h arg extra s
  | .energise h arg extra => Sys2Proof.Machine.execEnergise h arg extra s
  | .changeoverResume h arg extra => Sys2Proof.Machine.execChangeoverResume h arg extra s
  | .changeoverAbort h arg extra => Sys2Proof.Machine.execChangeoverAbort h arg extra s
  | .raise h arg extra => Sys2Proof.Machine.execRaise h arg extra s
  | .lower h arg extra => Sys2Proof.Machine.execLower h arg extra s
  | .faultClear h arg extra => Sys2Proof.Machine.execFaultClear h arg extra s
  | .iceMode h arg extra => Sys2Proof.Machine.execIceMode h arg extra s
  | .lowerAllOn h arg extra => Sys2Proof.Machine.execLowerAllOn h arg extra s
  | .lowerAllOff h extra => Sys2Proof.Machine.execLowerAllOff h extra s
  | .holdOn h arg extra => Sys2Proof.Machine.execHoldOn h arg extra s
  | .holdOff h extra => Sys2Proof.Machine.execHoldOff h extra s
  | .requestUnknown h payload => Sys2Proof.Machine.execRequestUnknown h payload s
  | .aheadNeutral h a => Sys2Proof.Machine.execAheadNeutral h a s
  | .aheadBoundary h a => Sys2Proof.Machine.execAheadBoundary h a s
  | .aheadCancel h a => Sys2Proof.Machine.execAheadCancel h a s
  | .aheadSpeed h code a => Sys2Proof.Machine.execAheadSpeed h code a s
  | .aheadIceZone h a => Sys2Proof.Machine.execAheadIceZone h a s
  | .shortAheadFrame h payload => Sys2Proof.Machine.execShortAheadFrame h payload s
  | .serviceRead h c addr extra => Sys2Proof.Machine.execServiceRead h c addr extra s
  | .serviceWrite h c addr data => Sys2Proof.Machine.execServiceWrite h c addr data s
  | .serviceCheckWrite h c addr data extra => Sys2Proof.Machine.execServiceCheckWrite h c addr data extra s
  | .serviceClearFlags h c addr low high extra => Sys2Proof.Machine.execServiceClearFlags h c addr low high extra s
  | .serviceRearm h c extra => Sys2Proof.Machine.execServiceRearm h c extra s
  | .serviceCommission h c extra => Sys2Proof.Machine.execServiceCommission h c extra s
  | .serviceRestart h c extra => Sys2Proof.Machine.execServiceRestart h c extra s
  | .serviceUnknown h payload => Sys2Proof.Machine.execServiceUnknown h payload s
  | .featureDue => Sys2Proof.Machine.execFeatureDue s
  | .speedAged => Sys2Proof.Machine.execSpeedAged s
  | .csStepTimeout => Sys2Proof.Machine.execCsStepTimeout s
  | .coastExpiry => Sys2Proof.Machine.execCoastExpiry s
  | .closePulseExpiry => Sys2Proof.Machine.execClosePulseExpiry s
  | .raiseTimeout x => Sys2Proof.Machine.execRaiseTimeout x s
  | .lowerTimeout x => Sys2Proof.Machine.execLowerTimeout x s
  | .settleTimerExpiry x => Sys2Proof.Machine.execSettleTimerExpiry x s
  | .arcIntervalExpiry x => Sys2Proof.Machine.execArcIntervalExpiry x s
  | .arcEdge x => Sys2Proof.Machine.execArcEdge x s
  | .heaterPairExpiry x => Sys2Proof.Machine.execHeaterPairExpiry x s
  | .iceAssessment => Sys2Proof.Machine.execIceAssessment s
  | .statusTimerExpiry => Sys2Proof.Machine.execStatusTimerExpiry s
  | .refreshTimerExpiry => Sys2Proof.Machine.execRefreshTimerExpiry s
  | .starvationTimerExpiry => Sys2Proof.Machine.execStarvationTimerExpiry s
  | .splitReadLatchExpiry => Sys2Proof.Machine.execSplitReadLatchExpiry s
  | .scrubRead => Sys2Proof.Machine.execScrubRead s
  | .arcInputSample x high => Sys2Proof.Machine.execArcInputSample x high s
  | .characterReceived p data parityBit stopHigh => Sys2Proof.Machine.execCharacterReceived p data parityBit stopHigh s
  | .trainTransmitStart => Sys2Proof.Machine.execTrainTransmitStart s

end Sys2Proof.Machine
end

