-- ==== Sys2Proof/Safety.lean ====
section
/-! DEFINITION. What the part keeps at all times and the shapes of answer the statements speak of: the laws the spec
states of its records, queues, tables and outputs, in the terms the statements use. -/

namespace Sys2Proof.Machine

open Sys2Proof

/-! ### Laws of the state -/

/-- R150: on each port, received = forwarded + consumed + dropped, and dropped is the sum of its reasons. -/
def Conserved (s : State) : Prop := s.fr.train.balanced = true ∧ s.fr.roof.balanced = true

/-- R151, R153: the train transmit queue holds at most 16 frames, at most 14 of them forwarded; the downstream
queue holds at most 8. -/
def QueuesBounded (s : State) : Prop :=
  s.fr.up.length ≤ Config.trainRoom ∧ s.fr.share ≤ Config.forwardedRoom ∧ s.fr.down.length ≤ Config.downstreamRoom

/-- R132: a port's buffers hold at most 2 frames. -/
def BuffersBounded (s : State) : Prop :=
  s.train.buffers.length ≤ Config.receiveBuffers ∧ s.roof.buffers.length ≤ Config.receiveBuffers

/-- R35: the feature list holds at most 4 entries. -/
def FeaturesBounded (s : State) : Prop := s.jobs.cs.list.length ≤ Config.featureRoom

/-- Table memory, the node records and capture memory are in canonical form. -/
def StoresWf (s : State) : Prop :=
  Store.wf {} s.jobs.tm.mem = true ∧ Store.wf {} s.jobs.nodes = true ∧ Store.wf CaptureEntry.empty s.cb.mem = true

/-- R110: lower-all and output hold are never on together. -/
def ForcesApart (s : State) : Prop := s.jobs.oc.lowerAll = true → s.jobs.oc.hold = false

/-- R39: BRK_CLOSE and BRK_TRIP are never both asserted in the image: the close pulse is on only while the command
is CLOSE. -/
def PulseOnlyClosing (s : State) : Prop := s.jobs.cs.pulse = true → s.jobs.cs.command = .close

/-- R62: at most one pantograph has isolator command CONNECTED, and that pantograph has role COLLECTOR; with it the law
that carries it, that the two are never both COLLECTOR. -/
def IsolatorLaw (s : State) : Prop :=
  (s.jobs.p1.connected = true → s.jobs.p1.role = .collector) ∧
  (s.jobs.p2.connected = true → s.jobs.p2.role = .collector) ∧
  ¬ (s.jobs.p1.role = .collector ∧ s.jobs.p2.role = .collector)

/-- R102, R104, R113: outside a reset the image is what the writers want, the sending values are those of the image
under the force flags (every row of R104 but the first, which is applied where they are sent or read: log entry 53), the
frozen image is absent without output hold (R111), and SAFE is asserted exactly when both records are LOWERED and the
breaker reads OPEN. -/
def OutputsFollow (s : State) : Prop :=
  s.inReset = false →
    s.jobs.oc.image = s.jobs.wanted ∧ s.jobs.oc.sending = s.jobs.oc.sendingOf s.jobs.oc.image ∧
    (s.jobs.oc.hold = false → s.jobs.oc.frozen = none) ∧
    (s.jobs.oc.safe = true ↔ s.jobs.p1.state = .lowered ∧ s.jobs.p2.state = .lowered ∧ s.jobs.fb.brk = .open)

/-- R161, R164: the exchange record is present exactly while the slot is not IDLE, the answer timer runs only in
AWAITING, and the poll cursor and the pass number stay within their ranges. -/
def ScheduleWf (s : State) : Prop :=
  (s.rb.slot = .idle ↔ s.rb.exchange = none) ∧ (s.rb.answerTimer = true → s.rb.slot = .awaiting) ∧
  s.rb.cursor < Config.pollSlots ∧ s.rb.pass < Config.passModulus

/-- R8: the accumulators of a window in progress: fewer than 1,024 samples, none beyond 32,767 in size, the square of
their sum within their number times the sum of their squares, and every counted period of 3..1,024 samples. -/
def Window.sound (w : Window) : Prop :=
  w.taken < Config.windowSamples ∧ w.sumSq ≤ w.taken * 32767 ^ 2 ∧ w.sum * w.sum ≤ w.taken * w.sumSq ∧
  3 * w.periods ≤ w.lengths ∧ w.lengths ≤ 1024 * w.periods

/-- R14: AcRMS ≤ TotalRMS ≤ 32,767, and Freq is 0 or lies in 625..213,333; a BROKEN record carries 0 in every result. -/
def Record.bounded (r : Record) : Prop :=
  r.acRms ≤ r.totalRms ∧ r.totalRms ≤ 32767 ∧ (r.freq = 0 ∨ (625 ≤ r.freq ∧ r.freq ≤ 213333)) ∧
  (r.broken = true → r.mean = 0 ∧ r.totalRms = 0 ∧ r.acRms = 0 ∧ r.freq = 0 ∧ r.periods = 0)

/-- R14, with the bounds of the accumulators that carry it (R8). -/
def RecordsBounded (s : State) : Prop :=
  (∀ w, s.jobs.lmu.window = some w → w.sound) ∧ (∀ r, s.jobs.lmu.last = some r → r.bounded)

/-- Between steps nothing is left to answer or to report. -/
def Rested (s : State) : Prop := s.jobs.todo = [] ∧ s.jobs.out = []

/-! ### Shapes of hypothesis and answer -/

/-- The RESET line is not asserted, and the memories are in canonical form. -/
def Live (s : State) : Prop := s.inReset = false ∧ StoresWf s

/-- The part is in RUN, outside a reset. -/
def Running (s : State) : Prop := Live s ∧ s.jobs.dev = .run

/-- The part is in RUN with output hold off: the case in which a request's own rule answers it (R112, R189). -/
def TakesRequests (s : State) : Prop := Running s ∧ s.jobs.oc.hold = false

/-- R132: the frame the command takes, where it takes one, is the oldest in the buffers of its port (log entry 2). -/
def FrameAtHand (i : Instr) (s : State) : Prop := ∀ p f, i.frame? = some (p, f) → (s.port p).holds f = true

/-- The step answers the state `u` brought to a step's end: its changes answered, its reports delivered. A command that
takes a frame does so where that frame is at hand. -/
def EndsFrom (i : Instr) (s u : State) : Prop := FrameAtHand i s → exec i s = .next u.finish

/-- R146, R189: the REQUEST frame `f` of code `c` is consumed, `j` is what its owner makes of the roof jobs, the answer is
`a`, and the step ends from there. -/
def Answers (i : Instr) (f : Frame) (c : Nat) (a : Answer) (j : Jobs) (s : State) : Prop :=
  EndsFrom i s ((s.consume f).setJobs (j.report (.frame (resultNotice f.seq c a))))

/-- The roof jobs once the frame `f` has been consumed from the train port (R146). -/
def State.after (f : Frame) (s : State) : Jobs := (s.consume f).jobs

/-- `k` differs from `j` at most in the changeover record, the step timers, table memory's bookkeeping and the step's
lists. -/
def OnlyChangeover (j k : Jobs) : Prop :=
  k = { j with cs := k.cs, tmr := k.tmr, tm := k.tm, todo := k.todo, out := k.out }

/-- `k` differs from `j` at most in the pantograph's record, the step timers, table memory's bookkeeping and the step's
lists. -/
def OnlyPanto (x : Panto) (j k : Jobs) : Prop :=
  k = { j.setPanto x (k.panto x) with tmr := k.tmr, tm := k.tm, todo := k.todo, out := k.out }

/-- `k` differs from `j` at most in table memory's bookkeeping and the step's lists. -/
def OnlyReads (j k : Jobs) : Prop := k = { j with tm := k.tm, todo := k.todo, out := k.out }

/-- R132, R145, R150, R174: `u` is `s` with the frame `f` taken from port `p` under disposition `d`: it has left its
buffer where it was the oldest there, it is counted, it has been offered to the capture buffer where its deciding entry
(or the unmatched option) selects it, and nothing else has changed but table memory's bookkeeping. -/
def Took (p : Port) (f : Frame) (d : Disposition) (s u : State) : Prop :=
  OnlyReads s.jobs u.jobs ∧
  u = { s with
    jobs := u.jobs,
    train := if p = .train ∧ s.train.holds f = true then { s.train with buffers := s.train.buffers.tail } else s.train,
    roof := if p = .roof ∧ s.roof.holds f = true then { s.roof with buffers := s.roof.buffers.tail } else s.roof,
    fr := s.fr.count p (fun c => c.take.outcome d),
    cb := if s.selects (s.jobs.routeOf f) then
        (s.cb.offer true (s.cb.trigger.hitsFrame (Port.inward p) f)
          (frameEntry s.jobs.tag p (Port.inward p) f d (s.jobs.routeOf f))).1
      else s.cb }

/-- R188: the setting of the event flag `f` with subject `n` is among the reports. -/
def Flagged (f : Flag) (n : Word) (l : List Report) : Prop :=
  ∃ (dev : Device) (line : Line), Report.flag f n dev line ∈ l

/-- R174, R177: `u` is `s` so far as the capture buffer goes once the frame `f` has been offered to it with disposition
`d`: selected by its deciding entry, or by the unmatched option where it has none, and CAPTURE_FROZEN set where it
freezes the buffer. -/
def Offered (p : Port) (dir : Direction) (f : Frame) (d : Disposition) (s u : State) : Prop :=
  ∀ (k : Option Nat) (selected : Bool) (b : Capture × Bool), k = s.jobs.routeOf f →
    selected = (match k with | some i => s.jobs.routeCapture i | none => s.cb.unmatched) →
    b = s.cb.offer true (s.cb.trigger.hitsFrame dir f) (frameEntry s.jobs.tag p dir f d k) →
    (selected = false → u.cb = s.cb) ∧
    (selected = true → u.cb = b.1 ∧ (b.2 = true → Flagged .captureFrozen 0 u.jobs.out))

/-- R103, R160: the point image table of `k` is rebuilt from its point map: the distinct points of the usable output-role
entries in point map order, each with its owned bits and earthing bit, `pending` or not, and with the words that the table
of `old` holds for it, or 0 for a new point (that a WRITE keeps the last sent word too: log entry 19). -/
def Rebuilt (old : Outputs) (pending : Bool) (k : Jobs) : Prop :=
  (∀ p, (∃ e ∈ k.oc.table, e.point = p) ↔ ∃ r ∈ outputRoles, k.mapUsable r = true ∧ k.mapPoint r = p) ∧
  (∀ (a b : Nat) (e e' : PointEntry), k.oc.table[a]? = some e → k.oc.table[b]? = some e' → a < b →
    ∃ r ∈ outputRoles, k.mapUsable r = true ∧ k.mapPoint r = e.point ∧
      ∀ r' ∈ outputRoles, k.mapUsable r' = true → k.mapPoint r' = e'.point → r.index < r'.index) ∧
  ∀ e ∈ k.oc.table,
    (∀ (r : OwnedRole) (b : BitRef), (r, b) ∈ e.owned ↔
      k.mapUsable r.mapRole = true ∧ k.mapPoint r.mapRole = e.point ∧ b = k.mapBit r.mapRole) ∧
    e.earth = (if k.mapUsable .earth = true ∧ k.mapPoint .earth = e.point then some (k.mapBit .earth) else none) ∧
    e.pending = pending ∧
    (∀ o, old.entry e.point = some o → e.lastWord = o.lastWord ∧ e.lastSent = o.lastSent) ∧
    (old.entry e.point = none → e.lastWord = 0 ∧ e.lastSent = 0)

/-- R191: check `n` of COMMISSION passes. That a check ends at the first word it finds uncorrectable, and fails, is the
model's reading (log entry 58). -/
def CheckPasses (j : Jobs) : Nat → Prop
  | 1 => ∀ r ∈ [MapRole.lineV, .raise .p1, .height .p1, .press .p1, .brkClose, .brkTrip, .brkPos, .selAc, .selDc, .selPos],
      j.mapUsable r = true
  | 2 => ∃ k, j.lineUsable k = true ∧ ∀ i, i < k → j.anyBad (span (lineAddr i) 6) = false
  | 3 => ∃ i, i < 32 ∧ j.slotUsable i = true ∧ j.slotNode i = j.mapNode .lineV ∧ ∀ k, k < i → j.bad (0x0C0 + k) = false
  | 4 => j.pantoValid .p1 = true
  | 5 => j.bad 0x145 = false ∧ j.pantoValid j.startPanto = true ∧
      ∀ r ∈ [MapRole.raise j.startPanto, .isol j.startPanto, .height j.startPanto, .press j.startPanto],
        j.mapUsable r = true
  | 6 => bits (j.word 1) 8 8 ≠ 0 ∧ j.bad 1 = false
  | _ => True

/-- R140: the roof settings that the settings word of table memory gives at application. -/
def Jobs.roofWord (j : Jobs) : Settings := if j.bad 1 then roofDefault else settingsOf (j.word 1)

/-- R140: a settings word is applied at once, or one that waits may be: the slot is IDLE, nothing is being sent (R170) and
the port runs. -/
def RoofFree (s : State) : Prop := s.rb.slot = .idle ∧ s.roof.sending = none ∧ s.roof.mode = .running

/-- R140: the roof port with settings applied: its receiver marked until a gap, and its frame in assembly to be discarded. -/
def PortState.applied (n : Settings) (v : PortState) : PortState :=
  { v with settings := n, settling := true, applyWord := false,
           assembly := v.assembly.map (fun a => { a with discard := true }) }

/-- R195: from the address `a` on, page `page` of the status window holds the words `ws`. -/
def Shows (s : State) (page a : Nat) (ws : List Word) : Prop := ∀ i w, ws[i]? = some w → s.statusWord page (a + i) = w

/-- R117: the timer has been loaded with a value and a mode and runs. -/
def Timer.loaded (n : Nat) (m : TimerMode) (t : Timer) : Prop :=
  t.count = n ∧ t.reload = n ∧ t.mode = m ∧ t.running = true ∧ t.owed = []

/-- R118: the timer is stopped. -/
def Timer.stopped (t : Timer) : Prop := t.running = false ∧ t.owed = []

/-- R51: `k` is in HOLD with a reason and a step of failure: the command OPEN, its pulse and the selector outputs off,
the step timers stopped, CHANGEOVER_HOLD set. -/
def HeldFor (r : HoldReason) (step : CsState) (k : Jobs) : Prop :=
  k.cs.state = .hold ∧ k.cs.reason = some r ∧ k.cs.stepOfFailure = some step ∧ k.cs.command = .open ∧
  k.cs.pulse = false ∧ k.cs.selOut = none ∧ (k.timer .t0).stopped ∧ (k.timer .t1).stopped ∧
  Flagged .changeoverHold (BitVec.ofNat 16 r.code) k.out

/-- R45: `k` is `j` once LOWERING has been entered. -/
def EntersLowering (j k : Jobs) : Prop :=
  k.cs.state = .lowering ∧
  (∀ x, ((j.panto x).state.raised = true → (k.panto x).state = .lowering) ∧
    ((j.panto x).state.raised = false → k.panto x = j.panto x)) ∧
  ∀ lowerTime : Panto → Nat,
    (∀ x, lowerTime x = if j.pantoValid x then timing (j.pantoParam x 6) else 6000) →
    (k.timer .t0).count = min 65535 (max (lowerTime .p1) (lowerTime .p2) + timing (j.changeover 7)) ∧
    (k.timer .t0).running = true

/-- R46: `k` is `j` once SELECTING has been entered. -/
def EntersSelecting (j k : Jobs) : Prop :=
  (j.fb.brk ≠ .open → HeldFor .breaker .selecting k) ∧
  (j.fb.brk = .open → (j.p1.state ≠ .lowered ∨ j.p2.state ≠ .lowered) → HeldFor .pantograph .selecting k) ∧
  (j.fb.brk = .open → j.p1.state = .lowered → j.p2.state = .lowered →
    (j.targetEntry = none → HeldFor .mismatch .selecting k) ∧
    ∀ e, j.targetEntry = some e → k.cs.state = .selecting ∧ k.cs.selOut = some (j.lineSelector e) ∧
      (k.timer .t0).loaded (timing (j.changeover 5)) .oneShot)

/-- R47: `k` is `j` once RAISING has been entered; the IC has noted a pantograph so made the collector (R95). -/
def EntersRaising (j k : Jobs) : Prop :=
  (j.raiseChoice = none → HeldFor .mismatch .raising k) ∧
  ∀ x, j.raiseChoice = some x →
    (j.raiseAnswer x .collector .cs = .accepted → k.cs.state = .raising ∧ k.cs.chosen = some x ∧
      (k.panto x).state.raised = true ∧ (k.panto x).role = .collector ∧ (k.timer .t0).stopped ∧
      k.ice = { j.ice with made := if (j.panto x).state.raised = true then j.ice.made else some x }) ∧
    (j.raiseAnswer x .collector .cs ≠ .accepted → HeldFor .pantograph .raising k)

/-- R48: `k` is `j` once IDENTIFYING has been entered. -/
def EntersIdentifying (j k : Jobs) : Prop :=
  k.cs.state = .identifying ∧ (k.timer .t0).loaded (timing (j.changeover 6)) .oneShot

/-- R49: `k` is `j` once CLOSING has been entered. -/
def EntersClosing (j k : Jobs) : Prop :=
  (∀ r, j.closeFailure = some r → HeldFor r .closing k) ∧
  (j.closeFailure = none → k.cs.state = .closing ∧ k.cs.command = .close ∧ k.cs.pulse = true ∧
    (k.timer .t1).loaded (timing (j.changeover 3)) .oneShot ∧
    (k.timer .t0).loaded (timing (j.changeover 4)) .oneShot)

/-- R26: `k` is `j` with the identification started afresh. -/
def Reidentifies (j k : Jobs) : Prop :=
  k.lsi = { candidate := none, agreement := 0, confirmed := .pending, since := j.tag, last := none,
            settling := j.lmu.window.isSome }

/-- R92: the pantograph's cycle in `k` is as at its start with an on-time and an off-time in seconds. -/
def Started (x : Panto) (on off : Nat) (k : Jobs) : Prop :=
  (0 < on → k.ice.phase x = .on ∧ (k.timer x.pair).count = on * 1000 ∧ (k.timer x.pair).running = k.supplied x) ∧
  (on = 0 → 0 < off → k.ice.phase x = .off ∧ (k.timer x.pair).count = off * 1000 ∧
    (k.timer x.pair).running = k.supplied x) ∧
  (on = 0 → off = 0 → k.ice.phase x = .off ∧ (k.timer x.pair).stopped ∧ (k.timer x.pair).count = 0)

/-- R87 to R89: `k` is `j` after the mode choice under the policy `p`, the level `l` and scrape barred `b`. -/
def Chosen (p : Policy) (l : IceLevel) (b : Bool) (j k : Jobs) : Prop :=
  ∀ (scrapes : Bool) (back : IceMode), back = (if j.heatPermitted = true then .heat else .off) →
    (scrapes = true ↔ (p = .scrape ∨ p = .auto ∧ l = .heavy) ∧ j.scrapeConditions = true ∧ b = false) →
    (scrapes = false → k.ice.barred = b ∧ k.ice.mode = if p = .off ∨ p = .auto ∧ l = .none then .off else back) ∧
    (scrapes = true → j.ice.mode = .scrape → k.ice.mode = .scrape ∧ k.ice.barred = false) ∧
    (scrapes = true → j.ice.mode ≠ .scrape → ∀ x, j.leading = some x →
      (j.raiseAnswer x .scraper .ic = .accepted → k.ice.mode = .scrape ∧ k.ice.scraper = some x ∧
        k.ice.barred = false ∧ (k.panto x).state.raised = true) ∧
      (j.raiseAnswer x .scraper .ic ≠ .accepted → k.ice.mode = back ∧ k.ice.barred = true)) ∧
    (k.ice.mode = j.ice.mode → k.ice.scraper = j.ice.scraper) ∧
    (k.ice.mode ≠ j.ice.mode → Flagged .iceMode (BitVec.ofNat 16 k.ice.mode.code) k.out ∧
      (k.ice.mode ≠ .scrape → k.ice.scraper = none ∧ ∀ x, j.ice.scraper = some x →
        (j.panto x).state.raised = true → (k.panto x).state = .lowering))

/-- R161, R165: EXCHANGE_CHOICE answers `t`, in which an exchange of a kind has started and its frame `f` is being sent. The
query count is 0 where the frame is no QUERY (the model's choice, log entry 77). -/
def Starts (k : ExchangeKind) (f : Frame) (s t : State) : Prop :=
  exec .exchangeChoice s = .next t ∧ t.rb.slot = .sending ∧
  t.rb.exchange = some { kind := k, node := nodeOf f.point, point := f.point, seq := f.seq,
                         queryCount := if f.kind = .query then f.payload.length else 0, answerBegun := false } ∧
  t.roof = { s.roof with sending := some f.chars } ∧ t.train = s.train

/-- Every timer but those named is as it was. -/
def OtherTimers (is : List TimerId) (j k : Jobs) : Prop := ∀ i, i ∉ is → k.timer i = j.timer i

end Sys2Proof.Machine

namespace Sys2Proof

open Sys2Proof.Machine

/-- The REQUEST commands with their frame and request code (13.2). -/
def Instr.request? : Instr → Option (Frame × Nat)
  | .breakerClose h arg extra => some (requestFrame h 1 arg extra, 1)
  | .breakerOpen h arg extra => some (requestFrame h 2 arg extra, 2)
  | .select h arg extra => some (requestFrame h 3 arg extra, 3)
  | .energise h arg extra => some (requestFrame h 4 arg extra, 4)
  | .changeoverResume h arg extra => some (requestFrame h 5 arg extra, 5)
  | .changeoverAbort h arg extra => some (requestFrame h 6 arg extra, 6)
  | .raise h arg extra => some (requestFrame h 7 arg extra, 7)
  | .lower h arg extra => some (requestFrame h 8 arg extra, 8)
  | .faultClear h arg extra => some (requestFrame h 9 arg extra, 9)
  | .iceMode h arg extra => some (requestFrame h 10 arg extra, 10)
  | .lowerAllOn h arg extra => some (requestFrame h 11 arg extra, 11)
  | .lowerAllOff h extra => some (requestFrame h 11 0 extra, 11)
  | .holdOn h arg extra => some (requestFrame h 12 arg extra, 12)
  | .holdOff h extra => some (requestFrame h 12 0 extra, 12)
  | .requestUnknown h payload => some (h.frame .request payload, (payload.headD 0).toNat / 256)
  | _ => none

/-- The AHEAD commands that carry a whole announcement, with their frame (13.2). -/
def Instr.ahead? : Instr → Option (Frame × Announcement)
  | .aheadNeutral h a => some (aheadFrame h 0 a, a)
  | .aheadBoundary h a => some (aheadFrame h 1 a, a)
  | .aheadCancel h a => some (aheadFrame h 2 a, a)
  | .aheadSpeed h code a => some (aheadFrame h code a, a)
  | .aheadIceZone h a => some (aheadFrame h 4 a, a)
  | _ => none

/-- The commands that write table memory or set it anew. -/
def Instr.writesTables : Instr → Bool
  | .serviceWrite _ _ _ _ => true
  | .serviceCheckWrite _ _ _ _ _ => true
  | .powerOn => true
  | _ => false

end Sys2Proof
end

