-- ==== Sys2Proof/Certificates/Slice0/Obligations.lean ====
section
/-! DEFINITION. The statements for the provers: what the part and each of its commands do, by the rules of the spec.
`EndsFrom i s u` says that command `i` answers, at `s`, the next state that the end of a step makes of `u`, where the
frame it takes, if it takes one, is the oldest in its port's buffers (R132; log entry 2); what a step's end does is said
once, in `Obligations.StepEnd`. -/

open Sys2Proof Sys2Proof.Machine

/-! ### The queue and the step -/

/-- The command at the front of the queue runs on the state with the queue's rest; with no command waiting the part
idles (the model's own queue; log entry 5). -/
def Obligations.StepRunsFront : Prop :=
  (∀ (c : Instr) (rest : List Instr) (s : State), s.pending = c :: rest → step s = exec c (s.setPending rest)) ∧
  ∀ s : State, s.pending = [] → step s = .next s

/-- Every command answers a next state, whatever the state, one whose event is not at hand with no effect (the model's
choice, log entry 9), and none touches the commands that wait behind it in the model's own queue (log entry 5). -/
def Obligations.EveryCommandCompletes : Prop :=
  ∀ (i : Instr) (s : State), ∃ t : State, exec i s = .next t ∧ t.pending = s.pending

/-- While the RESET line is asserted only power-on and the line's release change anything: R193 says that nothing runs
then; that every other command, the tick included, changes nothing is the model's reading of it (log entry 41). -/
def Obligations.ResetLineHolds : Prop :=
  ∀ (i : Instr) (s : State), s.inReset = true → i ≠ .powerOn → i ≠ .resetRelease → exec i s = .next s

/-- What a step's end does to the state it is given: the ports, the bus, the latch, the queues it does not feed, the
counters, the clock, the node records and every word of table memory stand; frames only join the train transmit queue,
at its tail and none of them forwarded; no event flag is cleared, and every flag that was to be reported is set; where
no change waits to be answered, and in CONFIG in any case, the roof jobs but for the outputs and the bookkeeping of
table memory stand; and afterwards nothing is left to answer or to report. -/
def Obligations.StepEnd : Prop :=
  ∀ u : State,
    u.finish.train = u.train ∧ u.finish.roof = u.roof ∧ u.finish.rb = u.rb ∧ u.finish.latch = u.latch ∧
    u.finish.pending = u.pending ∧ u.finish.inReset = u.inReset ∧ u.finish.fr.roof = u.fr.roof ∧
    u.finish.fr.down = u.fr.down ∧
    u.finish.fr.train = { u.fr.train with originated := u.finish.fr.train.originated } ∧
    (∃ more, u.finish.fr.up = u.fr.up ++ more ∧ ∀ q ∈ more, q.forwarded = false) ∧
    u.finish.jobs.dev = u.jobs.dev ∧ u.finish.jobs.tag = u.jobs.tag ∧ u.finish.jobs.nodes = u.jobs.nodes ∧
    u.finish.jobs.speed = u.jobs.speed ∧ u.finish.jobs.lmu = u.jobs.lmu ∧ u.finish.jobs.arc = u.jobs.arc ∧
    u.finish.jobs.tm.scrub = u.jobs.tm.scrub ∧
    (∀ n, u.nu.flags.getLsbD n = true → u.finish.nu.flags.getLsbD n = true) ∧
    (∀ i f n dev line, i < 1000 → u.jobs.out[i]? = some (.flag f n dev line) →
      flagSet f u.finish.nu.flags = true) ∧
    (StoresWf u → ∀ a, u.finish.jobs.word a = u.jobs.word a ∧ u.finish.jobs.bad a = u.jobs.bad a) ∧
    (u.jobs.todo = [] ∨ u.jobs.dev = .config →
      u.finish.jobs = { u.jobs with oc := u.finish.jobs.oc, tm := u.finish.jobs.tm, todo := [], out := [] }) ∧
    Rested u.finish

/-! ### Frames and commands (chapter 13) -/

/-- 13.2, 13.3: the frame that a command names is taken by that command. -/
def Obligations.CommandOfItsFrame : Prop :=
  ∀ (i : Instr) (p : Port) (f : Frame), i.wellFormed = true → i.frame? = some (p, f) → commandOf p f = i

/-- Every frame a port can hold is taken by a well-formed command, and it names that frame, every bit of it. -/
def Obligations.FrameOfItsCommand : Prop :=
  ∀ (p : Port) (f : Frame), f.payload.length ≤ 16 →
    (commandOf p f).wellFormed = true ∧ (commandOf p f).frame? = some (p, f)

/-- R131: a frame's characters are read back as that frame, with its own check word and with no other. -/
def Obligations.FramesFromCharacters : Prop :=
  ∀ (f : Frame) (hi lo : Byte), f.payload.length ≤ 16 →
    f.chars.length = 7 + 2 * f.payload.length ∧ parseFrame f.chars = some f ∧
    parseFrame (f.body ++ [hi, lo]) = if charsWord hi lo = checkWord f.body then some f else none

/-! ### What every step keeps -/

/-- What the part has right after power-on: the laws that every step then keeps. -/
def Obligations.ResetHasTheLaws : Prop :=
  StoresWf State.reset ∧ Rested State.reset ∧ Conserved State.reset ∧ QueuesBounded State.reset ∧
  BuffersBounded State.reset ∧ FeaturesBounded State.reset ∧ ForcesApart State.reset ∧ PulseOnlyClosing State.reset ∧
  RecordsBounded State.reset ∧ IsolatorLaw State.reset ∧ OutputsFollow State.reset ∧ ScheduleWf State.reset

/-- Every step keeps the memories in canonical form and leaves nothing to answer or to report. -/
def Obligations.StoresStayCanonical : Prop :=
  (∀ s t : State, StoresWf s → step s = .next t → StoresWf t) ∧
  ∀ s t : State, Rested s → step s = .next t → Rested t

/-- R150: every step keeps the conservation of frames on both ports. -/
def Obligations.FramesAreConserved : Prop := ∀ s t : State, Conserved s → step s = .next t → Conserved t

/-- R35, R132, R151, R153: every step keeps the bounds of the queues, the receive buffers and the feature list. -/
def Obligations.QueuesStayBounded : Prop :=
  (∀ s t : State, QueuesBounded s → step s = .next t → QueuesBounded t) ∧
  (∀ s t : State, BuffersBounded s → step s = .next t → BuffersBounded t) ∧
  ∀ s t : State, FeaturesBounded s → step s = .next t → FeaturesBounded t

/-- R110, R39: no step puts lower-all and output hold on together, and none has the close pulse on while the breaker
command is OPEN. -/
def Obligations.ForcesStayApart : Prop :=
  (∀ s t : State, ForcesApart s → step s = .next t → ForcesApart t) ∧
  ∀ s t : State, PulseOnlyClosing s → step s = .next t → PulseOnlyClosing t

/-- R14: in every result record AcRMS ≤ TotalRMS ≤ 32,767 counts and Freq is 0 or lies in 625..213,333 cHz. Each record
is within these limits because every step keeps the law, with the accumulators' own bounds (R8) that carry it; a BROKEN
record carries 0 in every result; and Mean squared never exceeds Q, so that Q − Mean² is whole. -/
def Obligations.RecordsStayBounded : Prop :=
  (∀ s t : State, RecordsBounded s → step s = .next t → RecordsBounded t) ∧ RecordsBounded State.reset ∧
  (∀ (w : Window) (n : Word), (w.brokenOff n).bounded ∧ (w.brokenOff n).broken = true) ∧
  ∀ (w : Window) (n : Word), w.sum * w.sum ≤ 1024 * w.sumSq →
    (w.complete n).mean.natAbs * (w.complete n).mean.natAbs ≤ w.sumSq / 1024

/-- R62: at every step at most one pantograph is CONNECTED, it is the COLLECTOR, and the two are never both COLLECTOR. -/
def Obligations.IsolatorsStayLawful : Prop := ∀ s t : State, IsolatorLaw s → step s = .next t → IsolatorLaw t

/-- R102, R104, R113: after every step the image, the sending values and SAFE follow their sources. The sending values
held are those by every row of R104 but the first, which is applied where they are sent or read (the model's reading, log
entry 53). R105, R101: what the OC makes of the outputs each time it follows: the sending values by the force flags, with
the frozen image absent but under hold; a point is pending where it was, and in RUN where the sending value of one of its
owned roles has changed whose entry has not been found unusable, where at the release of a hold (R111) a sending value
differs from its frozen value, off being sent for a role whose entry has been found unusable, or where SAFE has changed and
it holds the EARTH bit; and INTERLOCK_HELD is set where an earthing switch that reads closed on a roof that is not safe did
not do so before. The OC follows before each change is answered, once the feedbacks have changed, after each act of the
answer and at the step's end (log entry 6), so that a change of SAFE counts though a later one of the same step takes it
back: the point with the EARTH bit stays marked, and INTERLOCK_HELD stands where SAFE went off over a closed switch; and so
that a sending value changed by the IC's suspension, or by the CS after it, has its point marked though the IC changes it
back within the answer. -/
def Obligations.OutputsKeepFollowing : Prop :=
  (∀ s t : State, OutputsFollow s → step s = .next t → OutputsFollow t) ∧
  (∀ u : State, u.finish.jobs.oc = (u.jobs.pump 64).ocSync.oc ∧ (u.jobs.todo = [] → u.jobs.pump 64 = u.jobs)) ∧
  (∀ j : Jobs, j.ocSync = j.ocFollow j.earthNow ∧
    j.ocReact = j.ocFollow (if j.earthNow = .unknown then .unknown else j.oc.earth)) ∧
  (∀ u : State, u.jobs.dev = .run → u.jobs.todo ≠ [] → u.jobs.oc.safe ≠ u.jobs.safeNow →
    (∀ e ∈ u.finish.jobs.oc.table, e.earth ≠ none → e.pending = true) ∧
    (u.jobs.safeNow = false → u.jobs.oc.earth = .closed → u.jobs.earthNow ≠ .unknown →
      Flagged .interlockHeld 18 u.jobs.settle.out)) ∧
  (∀ j f : Jobs, j.dev = .run → f = (j.lostEntries).syncFeedback → f.safeNow ≠ j.oc.safe →
    (∀ e ∈ j.levels.oc.table, e.earth ≠ none → e.pending = true) ∧
    (f.safeNow = false → f.earthNow = .closed → Flagged .interlockHeld 18 j.levels.out)) ∧
  (∀ (c : Change) (j f m k : Jobs), j.dev = .run → f = (j.lostEntries).suspendIfMust → m = (f.ocReact).csReact c →
    k = j.react c → ∀ (i : Nat) (e : PointEntry) (r : OwnedRole) (b : BitRef), j.oc.table[i]? = some e → (r, b) ∈ e.owned →
      ((j.oc.hold = true ∨ j.oc.frozen = none) → f.mapStands r.mapRole = true →
        f.ocReact.oc.sending.get r ≠ j.oc.sending.get r →
        ∃ e' : PointEntry, k.oc.table[i]? = some e' ∧ e'.pending = true) ∧
      (m.mapStands r.mapRole = true → m.ocReact.oc.sending.get r ≠ f.ocReact.oc.sending.get r →
        ∃ e' : PointEntry, k.oc.table[i]? = some e' ∧ e'.pending = true)) ∧
  ∀ (j k : Jobs) (earth : EarthFb), k = j.ocFollow earth →
    k = { j with oc := k.oc, out := k.out } ∧
    k.oc = { j.oc with image := j.wanted, sending := k.oc.sending, safe := j.safeNow, earth := earth,
                       frozen := k.oc.frozen, table := k.oc.table } ∧
    (j.oc.hold = true → k.oc.frozen = j.oc.frozen) ∧ (j.oc.hold = false → k.oc.frozen = none) ∧
    (∀ r : OwnedRole,
      (j.oc.lowerAll = true → k.oc.sending.get r = (if r = .brkTrip then true
        else if r = .isol1 ∨ r = .isol2 ∨ r = .selAc ∨ r = .selDc then j.wanted.get r else false)) ∧
      (j.oc.lowerAll = false → j.oc.hold = true → ∀ i, j.oc.frozen = some i → k.oc.sending.get r = i.get r) ∧
      (j.oc.lowerAll = false → j.oc.hold = false → k.oc.sending.get r = j.wanted.get r)) ∧
    k.oc.table.length = j.oc.table.length ∧
    (∀ (i : Nat) (e : PointEntry), j.oc.table[i]? = some e → ∃ e' : PointEntry, k.oc.table[i]? = some e' ∧
      e' = { e with pending := e'.pending } ∧
      (e'.pending = true ↔ e.pending = true ∨ j.dev = .run ∧
        (((j.oc.hold = true ∨ j.oc.frozen = none) ∧
            ∃ r b, (r, b) ∈ e.owned ∧ j.mapStands r.mapRole = true ∧ j.oc.sending.get r ≠ k.oc.sending.get r) ∨
          (j.oc.hold = false ∧ ∃ was r b, j.oc.frozen = some was ∧ (r, b) ∈ e.owned ∧
            ¬ (was.get r = true ↔ k.oc.sending.get r = true ∧ j.mapStands r.mapRole = true)) ∨
          (e.earth ≠ none ∧ j.oc.safe ≠ k.oc.safe)))) ∧
    ∀ before after : Prop, (before ↔ j.oc.earth = .closed ∧ j.oc.safe = false) →
      (after ↔ k.oc.earth = .closed ∧ k.oc.safe = false) →
      (after → ¬ before → k.out = j.out ++ [.flag .interlockHeld 18 j.dev j.lsi.confirmed]) ∧
      ((before ∨ ¬ after) → k.out = j.out)

/-- R161, R164: every step keeps the exchange record with its slot, and the poll cursor and pass within range. -/
def Obligations.ScheduleStaysWf : Prop := ∀ s t : State, ScheduleWf s → step s = .next t → ScheduleWf t

/-- R183, R193: no command but WRITE, CHECK_WRITE and power-on changes what any address of table memory reads as. -/
def Obligations.OnlyWritesChangeTables : Prop :=
  ∀ (i : Instr) (s t : State), StoresWf s → i.writesTables = false → exec i s = .next t →
    ∀ a, t.jobs.word a = s.jobs.word a ∧ t.jobs.bad a = s.jobs.bad a


/-! ### Power, the reset line and the train line -/

/-- R193 and the PON columns: POWER_ON gives every block its PON values, and what those values are. The commands that
wait in the model's own queue are kept (log entry 5); the reset state also holds values the spec does not give (log
entries 8 and 30), of which the clauses below name none. -/
def Obligations.PowerOnValues : Prop :=
  (∀ s : State, exec .powerOn s = .next (State.reset.setPending s.pending)) ∧
  State.reset.jobs.dev = .config ∧ State.reset.jobs.tag = 0 ∧
  (∀ a, State.reset.jobs.word a = 0 ∧ State.reset.jobs.bad a = false) ∧
  State.reset.train.mode = .discovery ∧ State.reset.train.settings = { divisor := 0, parity := .even, twoStops := false } ∧
  State.reset.roof.mode = .running ∧ State.reset.roof.settings = { divisor := 1, parity := .even, twoStops := false } ∧
  State.reset.jobs.lmu.state = .idle ∧ State.reset.jobs.lsi.confirmed = .pending ∧
  State.reset.jobs.cs.state = .idle ∧ State.reset.jobs.cs.command = .open ∧ State.reset.jobs.cs.list = [] ∧
  State.reset.jobs.p1 = {} ∧ State.reset.jobs.p2 = {} ∧ ({} : PantoRec).state = .lowering ∧ ({} : PantoRec).role = .none ∧
  State.reset.jobs.ice.mode = .off ∧ State.reset.jobs.ice.policy = .auto ∧
  State.reset.jobs.oc.image = { brkTrip := true } ∧ State.reset.jobs.oc.safe = false ∧
  State.reset.jobs.oc.lowerAll = false ∧ State.reset.jobs.oc.hold = false ∧
  (∀ n, (State.reset.jobs.node n).state = .unused) ∧ State.reset.rb.slot = .idle ∧
  State.reset.fr.up = [] ∧ State.reset.fr.down = [] ∧ State.reset.fr.lost = 0 ∧ State.reset.nu.flags = 0 ∧
  State.reset.cb.state = .armed ∧ State.reset.cb.mem = [] ∧ State.reset.latch = none

/-- R193: asserting the RESET line stops both ports, deasserts SAFE and freezes the capture buffer, and changes nothing
else; releasing it starts the part in CONFIG with the RST values, table memory and the capture entries kept, each port
by its settings word (R136, R141), and the point image table rebuilt (R103); the event flags, the notice sequence, the queues, the conservation counters and the
ports' error counters are 0 until the step's end reports what the reading of the settings words has found. That the
assertion changes nothing else is the model's reading (log entry 41), so is the mark set on the roof port's receiver (log
entry 30); a release outside a reset has no effect (log entry 9). The values of the CS, the speed record and the feedbacks
beyond those of R58 are the model's choice (log entry 8), and so are the settings in use of a train port in DISCOVERY (log
entry 78). -/
def Obligations.ResetLineSteps : Prop :=
  (∀ s : State, s.inReset = false → exec .resetAssert s = .next
    { s with inReset := true, train := { s.train with mode := .stopped, sending := none },
             roof := { s.roof with mode := .stopped, sending := none }, cb := { s.cb with state := .frozen },
             jobs := s.jobs.setOc { s.jobs.oc with safe := false } }) ∧
  (∀ s : State, s.inReset = false → exec .resetRelease s = .next s) ∧
  ∀ s : State, s.inReset = true → StoresWf s → ∃ t : State, exec .resetRelease s = .next t ∧
    t.inReset = false ∧ t.jobs.dev = .config ∧ t.jobs.tag = 0 ∧ t.jobs.tm.scrub = 0 ∧ t.jobs.nodes = [] ∧
    t.jobs.tmr = {} ∧ t.jobs.cs = {} ∧ t.jobs.p1 = {} ∧ t.jobs.p2 = {} ∧ t.jobs.ice = {} ∧ t.jobs.lmu = {} ∧
    t.jobs.lsi = {} ∧ t.jobs.speed = {} ∧ t.jobs.arc = {} ∧ t.jobs.fb = {} ∧
    t.jobs.oc.lowerAll = false ∧ t.jobs.oc.hold = false ∧ t.jobs.oc.safe = false ∧
    (∀ a, t.jobs.word a = s.jobs.word a ∧ t.jobs.bad a = s.jobs.bad a) ∧
    t.cb.mem = s.cb.mem ∧ t.cb.state = .frozen ∧ t.rb = {} ∧ t.latch = none ∧ t.fr.down = [] ∧ t.fr.roof = {} ∧
    t.train.mode = (if s.jobs.bad 0 = true ∨ bits (s.jobs.word 0) 8 8 = 0 then .discovery else .running) ∧
    t.train.settings = (if s.jobs.bad 0 then trainDefault else settingsOf (s.jobs.word 0)) ∧
    t.roof.mode = .running ∧ t.roof.settling = true ∧
    t.roof.settings = (if s.jobs.bad 1 = true ∨ bits (s.jobs.word 1) 8 8 = 0 then roofDefault
      else settingsOf (s.jobs.word 1)) ∧
    ∃ u : State, t = u.finish ∧ u.nu = {} ∧ u.fr = {} ∧ Rebuilt {} false u.jobs ∧
      ∀ p, (u.port p).buffers = [] ∧ (u.port p).parityErrors = 0 ∧ (u.port p).framingErrors = 0 ∧
        (u.port p).overruns = 0 ∧ (u.port p).checkErrors = 0

/-- R138, R136: a break stops the train port, whatever it was doing, and its frame in assembly will be discarded; when
the line is high again the port reads its settings word and restarts, in DISCOVERY where the divisor is 0. That a break ends
a settings change still waiting is the model's reading (log entry 33), a break's end outside a break has no effect
(log entry 9), and that the settings in use in DISCOVERY are the word's at once is the model's choice (log entry 78). -/
def Obligations.TrainBreak : Prop :=
  (∀ s : State, s.inReset = false → exec .breakBegin s = .next (s.setTrain
    { s.train with mode := .stopped, inBreak := true, sending := none, lastMeasured := none, runCount := 0,
                   timing := false, newSettings := none, settling := false,
                   assembly := s.train.assembly.map (fun a => { a with discard := true }) })) ∧
  (∀ s : State, s.inReset = false → s.train.inBreak = false → EndsFrom .breakEnd s s) ∧
  ∀ (s : State) (n : Settings), s.inReset = false → s.train.inBreak = true →
    n = (if s.jobs.bad 0 then trainDefault else settingsOf (s.jobs.word 0)) →
    EndsFrom .breakEnd s ((s.setTrain
      (if n.divisor = 0 then
        { s.train with mode := .discovery, settings := n, inBreak := false, newSettings := none, lastMeasured := none,
                       runCount := 0, timing := false }
      else
        { s.train with mode := .running, settings := n, inBreak := false, newSettings := none, settling := true,
                       assembly := s.train.assembly.map (fun a => { a with discard := true }) })).onJobs
      (fun j => j.touch 0))

/-- R137: discovery. A port in another state is unmoved (the model's choice, log entry 9); the first edge starts timing; a measurement of n periods is
quantised to (n + 16) / 32, which is a divisor within 1..255; the third equal one in a row locks the port to it, and it
is then RUNNING with that divisor; any other measurement clears the record. -/
def Obligations.DiscoveryLocks : Prop :=
  (∀ (s : State) (m : Measurement), s.inReset = false → s.train.mode ≠ .discovery →
    exec (.discoveryMeasurement m) s = .next s) ∧
  (∀ s : State, s.inReset = false → s.train.mode = .discovery → s.train.timing = false →
    exec (.discoveryMeasurement .overrun) s = .next s ∧
    ∀ n, exec (.discoveryMeasurement (.edge n)) s = .next (s.setTrain { s.train with timing := true })) ∧
  ∀ s : State, s.inReset = false → s.train.mode = .discovery → s.train.timing = true →
    exec (.discoveryMeasurement .overrun) s = .next (s.setTrain { s.train with lastMeasured := none, runCount := 0 }) ∧
    ∀ n,
      ((n < 16 ∨ 8176 ≤ n) → exec (.discoveryMeasurement (.edge n)) s
        = .next (s.setTrain { s.train with lastMeasured := none, runCount := 0 })) ∧
      ∀ d, 1 ≤ d → d ≤ 255 → 32 * d ≤ n + 16 → n + 16 < 32 * (d + 1) →
        (s.train.lastMeasured ≠ some d → exec (.discoveryMeasurement (.edge n)) s
          = .next (s.setTrain { s.train with lastMeasured := some d, runCount := 1 })) ∧
        (s.train.lastMeasured = some d → s.train.runCount = 1 → exec (.discoveryMeasurement (.edge n)) s
          = .next (s.setTrain { s.train with runCount := 2 })) ∧
        (s.train.lastMeasured = some d → 2 ≤ s.train.runCount → exec (.discoveryMeasurement (.edge n)) s
          = .next (s.setTrain
            { s.train with runCount := s.train.runCount + 1, mode := .running, settling := true, locked := some d,
                           settings := { s.train.settings with divisor := d },
                           assembly := s.train.assembly.map (fun a => { a with discard := true }) }))

/-! ### Characters and frames on the ports -/

/-- R128, R129, R130, R133: a character a port hears joins its frame in assembly, the 40th is not stored and marks the
frame for discard, and a wrong parity bit or a low stop bit marks the frame errored, is counted and flagged; a port that
is not RUNNING, or a roof port that is transmitting, hears nothing. EVEN is wrong where the 1s of the data bits and the
parity bit are odd in number, ODD where they are even, NONE and ZERO never. A character is sent as a low start bit, the
eight data bits least significant first, the parity bit its option calls for, and one or two high stop bits. (The first
character of an awaited answer is in `RoofTransmission`.) -/
def Obligations.CharacterReceived : Prop :=
  ∀ (s : State) (p : Port) (data : Byte) (parity stop : Bool), s.inReset = false →
    (((s.port p).mode ≠ .running ∨ (p = .roof ∧ s.roof.sending ≠ none)) →
      EndsFrom (.characterReceived p data parity stop) s s) ∧
    ((s.port p).mode = .running →
      (p = .train ∨ (s.roof.sending = none ∧
        (s.rb.slot ≠ .awaiting ∨ ∀ e, s.rb.exchange = some e → e.answerBegun = true))) →
      ∀ (a : Assembly) (wrong : Bool), a = (s.port p).assembly.getD { discard := (s.port p).settling } →
        wrong = (s.port p).settings.parity.wrong data parity →
        EndsFrom (.characterReceived p data parity stop) s
          ((s.setPort p { s.port p with
              assembly := some (if a.chars.length < 39 then
                  { a with chars := a.chars ++ [data], errored := a.errored || (wrong || !stop) }
                else { a with overlong := true, discard := true, errored := a.errored || (wrong || !stop) }),
              parityErrors := if wrong then min 65535 ((s.port p).parityErrors + 1) else (s.port p).parityErrors,
              framingErrors := if stop then (s.port p).framingErrors else min 65535 ((s.port p).framingErrors + 1) }).onJobs
            (fun j => j.setOut (j.out ++ (if wrong then [.flag (linkFlag p) 0 j.dev j.lsi.confirmed] else [])
              ++ (if stop then [] else [.flag (linkFlag p) 1 j.dev j.lsi.confirmed]))))) ∧
    (∀ ones : Nat, ones = ((List.range 8).filter (fun i => data.getLsbD i)).length + (if parity then 1 else 0) →
      ((.even : Parity).wrong data parity = true ↔ ones % 2 = 1) ∧
      ((.odd : Parity).wrong data parity = true ↔ ones % 2 = 0) ∧
      (.none : Parity).wrong data parity = false ∧ (.zero : Parity).wrong data parity = false) ∧
    ∀ v : PortState,
      (∀ cs, v.sending = some cs → v.onLine = some (cs.flatMap v.settings.lineBits)) ∧
      ∃ sent : List Bool, v.settings.lineBits data = [false] ++ (List.range 8).map (fun i => data.getLsbD i) ++ sent
          ++ List.replicate (if v.settings.twoStops then 2 else 1) true ∧
        (v.settings.parity = .none → sent = []) ∧ (v.settings.parity = .zero → sent = [false]) ∧
        (v.settings.parity = .even ∨ v.settings.parity = .odd →
          ∃ b, sent = [b] ∧ v.settings.parity.wrong data b = false)

/-- R130, R131, R132, R166: an idle gap closes the frame in assembly: one marked for discard, or with an errored
character, is dropped and reported no further; one too long (whatever else marked it, log entry 54) or failing the length or check-word test is a check error;
a good one takes a free buffer and is an overrun where there is none. An answer frame placed ends the answer limit; an
answer frame dropped is a missed exchange. RECEIVER_SETTLE_GAP does the same, and clears the port's mark where no frame
is in assembly (R136). -/
def Obligations.FrameCloses : Prop :=
  (∀ (s : State) (p : Port), s.inReset = false → (s.port p).assembly = none →
    EndsFrom (.frameComplete p) s s ∧
    EndsFrom (.receiverSettleGap p) s (s.setPort p { s.port p with settling := false })) ∧
  (∀ (s : State) (p : Port), (s.port p).assembly ≠ none →
    exec (.receiverSettleGap p) s = exec (.frameComplete p) s) ∧
  (∀ (s : State) (p : Port) (a : Assembly), s.inReset = false → (s.port p).assembly = some a →
    ((p = .train ∨ a.answer = false) → EndsFrom (.frameComplete p) s (s.judged p a)) ∧
    (p = .roof → a.answer = true → EndsFrom (.frameComplete p) s
      (if (s.judged .roof a).roof.buffers = s.roof.buffers then (s.judged .roof a).missed
        else (s.judged .roof a).setRb { s.rb with answerLimit := false }))) ∧
  ∀ (s : State) (p : Port) (a : Assembly),
    ((a.errored = true ∨ (a.discard = true ∧ a.overlong = false)) →
      s.judged p a = s.setPort p { s.port p with assembly := none, settling := false }) ∧
    (a.errored = false → (a.overlong = true ∨ (a.discard = false ∧ parseFrame a.chars = none)) →
      s.judged p a = (s.setPort p
        { s.port p with assembly := none, settling := false, checkErrors := min 65535 ((s.port p).checkErrors + 1) }).onJobs
        (fun j => j.flag (linkFlag p) 3)) ∧
    (a.errored = false → a.overlong = false → a.discard = false → ∀ f, parseFrame a.chars = some f →
      (2 ≤ (s.port p).buffers.length →
        s.judged p a = (s.setPort p
          { s.port p with assembly := none, settling := false, overruns := min 65535 ((s.port p).overruns + 1) }).onJobs
          (fun j => j.flag (linkFlag p) 2)) ∧
      ((s.port p).buffers.length < 2 →
        s.judged p a = s.setPort p
          { s.port p with assembly := none, settling := false,
                          buffers := (s.port p).buffers ++ [{ frame := f, answer := a.answer }] }))

/-- R134, R139, R152: the train port begins the head of its queue when it is RUNNING, not transmitting and has no
settings to apply; the last stop bit takes that frame from the queue; changed settings are applied once the port is not
transmitting, its receiver marked until a gap, and not before this step where RESTART found the port not transmitting (the
model's choice, log entry 79). Where those conditions fail the steps change nothing (the model's choice, log entry 9). -/
def Obligations.TrainTransmission : Prop :=
  (∀ (s : State) (q : QueuedFrame) (rest : List QueuedFrame), s.inReset = false → s.fr.up = q :: rest →
    s.train.mode = .running → s.train.sending = none → s.train.newSettings = none →
    exec .trainTransmitStart s = .next (s.setTrain { s.train with sending := some q.frame.chars })) ∧
  (∀ s : State, (s.fr.up = [] ∨ s.train.mode ≠ .running ∨ s.train.sending ≠ none ∨ s.train.newSettings ≠ none) →
    exec .trainTransmitStart s = .next s) ∧
  (∀ s : State, s.inReset = false → s.train.sending ≠ none → exec .trainFrameSent s
    = .next { s with train := { s.train with sending := none }, fr := { s.fr with up := s.fr.up.tail } }) ∧
  (∀ s : State, s.train.sending = none → exec .trainFrameSent s = .next s) ∧
  (∀ (s : State) (n : Settings), s.inReset = false → s.train.newSettings = some n → s.train.mode = .running →
    s.train.sending = none → exec .trainSettingsApply s = .next (s.setTrain
      { s.train with settings := n, newSettings := none, settling := true,
                     assembly := s.train.assembly.map (fun a => { a with discard := true }) })) ∧
  ∀ s : State, (s.train.newSettings = none ∨ s.train.mode ≠ .running ∨ s.train.sending ≠ none) →
    exec .trainSettingsApply s = .next s

/-! ### The roof port and the exchange slot (chapters 8 and 10) -/

/-- R161, R166, R140: the last stop bit of a poll or QUERY starts the wait for its answer with the answer timer, that of
an ORDER ends its exchange; a start bit while an answer is awaited and not begun begins it, and so does the first
character (the model's reading, log entry 40); any other start bit the roof port hears begins a frame in assembly that no
exchange awaits (log entry 40); a stored roof settings word is applied while the slot is IDLE and nothing is being sent:
a good word restarts the receiver, a poisoned one gives the built-in default; divisor 0 found there is a SETTING error
and the port keeps its settings (log entry 32). ROOF_SETTINGS_APPLY is the application after an exchange, a WRITE that finds
the slot IDLE making it itself (log entry 70). The wait for the end of a frame that RESTART or COMMISSION left in
transmission is R170's, as log entry 31 reads it. A step whose event is not at hand has no effect (log entry 9). -/
def Obligations.RoofTransmission : Prop :=
  (∀ s : State, s.roof.sending = none → exec .roofFrameSent s = .next s) ∧
  (∀ (s : State) (e : Exchange), s.inReset = false → s.roof.sending ≠ none → s.rb.slot = .sending →
    s.rb.exchange = some e →
    ((e.kind = .poll ∨ e.kind = .queuedQuery) → exec .roofFrameSent s
      = .next { s with roof := { s.roof with sending := none },
                       rb := { s.rb with slot := .awaiting, answerTimer := true, answerLimit := false } }) ∧
    ((e.kind = .composer ∨ e.kind = .queuedOrder) → exec .roofFrameSent s
      = .next { s with roof := { s.roof with sending := none },
                       rb := { s.rb with slot := .idle, exchange := none, answerTimer := false,
                                         answerLimit := false } })) ∧
  (∀ s : State, s.inReset = false → s.roof.sending ≠ none → s.rb.slot ≠ .sending →
    exec .roofFrameSent s = .next { s with roof := { s.roof with sending := none } }) ∧
  (∀ (s : State) (e : Exchange), s.inReset = false → s.rb.slot = .awaiting → s.rb.exchange = some e →
    e.answerBegun = false → s.roof.mode = .running → ∃ t : State, exec .answerStart s = .next t ∧
      t = { s with
        rb := { s.rb with exchange := some { e with answerBegun := true }, answerTimer := false, answerLimit := true },
        roof := { s.roof with
          assembly := some { s.roof.assembly.getD { discard := s.roof.settling } with answer := true } } } ∧
      (s.roof.sending = none → ∀ data parity stop,
        exec (.characterReceived .roof data parity stop) s = exec (.characterReceived .roof data parity stop) t)) ∧
  (∀ s : State, s.inReset = false →
    (s.rb.slot ≠ .awaiting ∨ s.roof.mode ≠ .running ∨ ∀ e, s.rb.exchange = some e → e.answerBegun = true) →
    (s.roof.mode = .running → s.roof.sending = none → exec .answerStart s = .next (s.setRoof
      { s.roof with assembly := some (s.roof.assembly.getD { discard := s.roof.settling }) })) ∧
    ((s.roof.mode ≠ .running ∨ s.roof.sending ≠ none) → exec .answerStart s = .next s)) ∧
  (∀ s : State, s.inReset = false → (s.roof.applyWord = false ∨ s.rb.slot ≠ .idle ∨ s.roof.sending ≠ none ∨
      s.roof.mode ≠ .running) → EndsFrom .roofSettingsApply s s) ∧
  ∀ s : State, s.inReset = false → s.roof.applyWord = true → s.rb.slot = .idle → s.roof.sending = none →
    s.roof.mode = .running →
    (∀ n, n = (if s.jobs.bad 1 then roofDefault else settingsOf (s.jobs.word 1)) → n.divisor ≠ 0 →
      EndsFrom .roofSettingsApply s ((s.onJobs (fun j => j.touch 1)).setRoof
        { s.roof with settings := n, settling := true, applyWord := false,
                      assembly := s.roof.assembly.map (fun a => { a with discard := true }) })) ∧
    (s.jobs.bad 1 = false → bits (s.jobs.word 1) 8 8 = 0 →
      EndsFrom .roofSettingsApply s (((s.onJobs (fun j => j.touch 1)).setRoof { s.roof with applyWord := false }).onJobs
        (fun j => j.flag .roofLinkError 4)))

/-- R166, R168, R169: the answer timer and the answer limit, each while it runs, end the exchange as missed; the limit
also marks the frame in assembly for discard, and that frame is then an answer no more (log entry 34). A timer or limit
that does not run has no effect (log entry 9). What a miss does: the slot is IDLE; in RUN the third miss in a row of a
node WAITING or ACTIVE makes it LOST with NODE_LOST, and no other node is touched; the QUERY of the train is answered
with NO_REPLY. -/
def Obligations.MissedExchanges : Prop :=
  (∀ s : State, s.inReset = false →
    (s.rb.slot = .awaiting ∧ s.rb.answerTimer = true → EndsFrom .answerTimeout s s.missed) ∧
    (s.rb.slot ≠ .awaiting ∨ s.rb.answerTimer = false → EndsFrom .answerTimeout s s) ∧
    (s.rb.slot = .awaiting ∧ s.rb.answerLimit = true → EndsFrom .answerLimitExpiry s (s.setRoof
      { s.roof with assembly := s.roof.assembly.map (fun a => { a with discard := true, answer := false }) }).missed) ∧
    (s.rb.slot ≠ .awaiting ∨ s.rb.answerLimit = false → EndsFrom .answerLimitExpiry s s)) ∧
  ∀ (s : State) (e : Exchange), StoresWf s → s.rb.exchange = some e →
    s.missed = { s with
      rb := { s.rb with slot := .idle, exchange := none, answerTimer := false, answerLimit := false },
      jobs := { s.jobs with nodes := s.missed.jobs.nodes, todo := s.missed.jobs.todo, out := s.missed.jobs.out } } ∧
    (∀ n, n ≠ e.node → s.missed.jobs.node n = s.jobs.node n) ∧
    (s.jobs.dev = .config → s.missed.jobs.node e.node = s.jobs.node e.node) ∧
    (s.jobs.dev = .run →
      ((s.jobs.node e.node).state = .unused → s.missed.jobs.node e.node = s.jobs.node e.node) ∧
      ((s.jobs.node e.node).state = .lost → s.missed.jobs.node e.node = { s.jobs.node e.node with missed := 3 }) ∧
      ((s.jobs.node e.node).state = .waiting ∨ (s.jobs.node e.node).state = .active →
        ((s.jobs.node e.node).missed < 2 → s.missed.jobs.node e.node
          = { s.jobs.node e.node with missed := (s.jobs.node e.node).missed + 1 }) ∧
        (2 ≤ (s.jobs.node e.node).missed → s.missed.jobs.node e.node
            = { s.jobs.node e.node with state := .lost, missed := 3 } ∧
          Flagged .nodeLost (BitVec.ofNat 16 e.node) s.missed.jobs.out))) ∧
    (e.kind = .queuedQuery → .frame (noReplyFrame e.point e.seq e.queryCount) ∈ s.missed.jobs.out)

/-- R162, R165, R106, R107, R174: the RB chooses while the slot is IDLE and the roof port free: in RUN the first pending
point's word, composed now; after a poll the queue head; else a poll that is due, in RUN; else the queue head; else
nothing. A composer ORDER and a poll are counted originated and offered to the capture buffer as ORIGINATED. A queued
ORDER's words are composed again; a poll is an empty QUERY to its slot's node, and the cursor moves
past its slot, from slot 31 to slot 0 of the next pass (the model's reading of R164, log entry 28). The exchange record's
query count is 0 for a poll, and for a composer or queued ORDER, of which R161 does not say it, by the model's choice (log
entry 77). The composed point leaves the pending set and its word becomes its last sent word, the words of a queued ORDER
become the last sent words of their points (R159), and no other entry of the point image table and no last word changes. -/
def Obligations.ExchangeChoice : Prop :=
  (∀ s : State, s.inReset = false → s.busFree = false → EndsFrom .exchangeChoice s s) ∧
  (∀ (s : State) (e : PointEntry), Running s → s.busFree = true → s.jobs.oc.firstPending = some e →
    ∃ t : State, Starts .composer
        { kind := .order, flags := 0, point := e.point, seq := s.jobs.oc.seq, payload := [s.jobs.composed e] } s t ∧
      t.fr.down = s.fr.down ∧ t.rb.lastKind = s.rb.lastKind ∧ t.rb.cursor = s.rb.cursor ∧
      t.fr.roof = { s.fr.roof with originated := s.fr.roof.originated + 1 } ∧ t.jobs.oc.seq = s.jobs.oc.seq + 1 ∧
      (∃ u : State, t = u.finish ∧ Offered .roof .down
        { kind := .order, flags := 0, point := e.point, seq := s.jobs.oc.seq, payload := [s.jobs.composed e] }
        .originated s u ∧
        u.jobs.oc = { s.jobs.oc with
          seq := s.jobs.oc.seq + 1,
          table := s.jobs.oc.table.map (fun e' => if e'.point = e.point then
            { e' with lastSent := s.jobs.composed e, pending := false } else e') }) ∧
      ∀ e' ∈ t.jobs.oc.table, e'.point = e.point → e'.lastSent = s.jobs.composed e) ∧
  (∀ (s : State) (f : Frame) (rest : List Frame), Live s → s.busFree = true →
    (s.jobs.dev = .run → s.jobs.oc.firstPending = none) → s.fr.down = f :: rest →
    (s.rb.lastKind = .poll ∨ s.jobs.dev = .config ∨ s.duePoll = none) →
    ∃ t : State, Starts (if f.kind = .order then .queuedOrder else .queuedQuery)
        (if f.kind = .order then
          { f with payload := f.payload.mapIdx (fun i w => if channelOf f.point + i ≤ 255 then
              s.jobs.recomposed (toWord (nodeOf f.point * 256 + (channelOf f.point + i))) w else w) }
        else f) s t ∧
      t.fr.down = rest ∧ t.rb.lastKind = .queue ∧ t.rb.cursor = s.rb.cursor ∧ t.rb.pass = s.rb.pass ∧
      t.fr.roof = s.fr.roof ∧
      (∃ u : State, t = u.finish ∧ u.jobs.oc = { s.jobs.oc with
        table := s.jobs.oc.table.map (fun e' =>
          if f.kind = .order ∧ nodeOf e'.point = nodeOf f.point ∧ channelOf f.point ≤ channelOf e'.point ∧
              channelOf e'.point < channelOf f.point + f.payload.length then
            { e' with lastSent :=
                s.jobs.recomposed e'.point (f.payload.getD (channelOf e'.point - channelOf f.point) 0) }
          else e') }) ∧
      (f.kind ≠ .order → s.jobs.dev = .run → (s.jobs.node (nodeOf f.point)).state = .unused →
        (t.jobs.node (nodeOf f.point)).state = .waiting)) ∧
  (∀ (s : State) (i q : Nat), Running s → s.busFree = true → s.jobs.oc.firstPending = none →
    (s.rb.lastKind = .queue ∨ s.fr.down = []) → s.duePoll = some (i, q) →
    ∃ t : State, Starts .poll
        { kind := .query, flags := 0, point := toWord (s.jobs.slotNode i * 256), seq := s.rb.pollSeq, payload := [] } s t ∧
      t.fr.down = s.fr.down ∧ t.rb.lastKind = .poll ∧ t.rb.pollSeq = s.rb.pollSeq + 1 ∧
      t.fr.roof = { s.fr.roof with originated := s.fr.roof.originated + 1 } ∧
      (∃ u : State, t = u.finish ∧ Offered .roof .down
        { kind := .query, flags := 0, point := toWord (s.jobs.slotNode i * 256), seq := s.rb.pollSeq, payload := [] }
        .originated s u ∧ u.jobs.oc = s.jobs.oc) ∧
      (i ≠ 31 → t.rb.cursor = i + 1 ∧ t.rb.pass = q) ∧
      (i = 31 → t.rb.cursor = 0 ∧ t.rb.pass = (q + 1) % 360360) ∧
      ((s.jobs.node (s.jobs.slotNode i)).state = .unused → (t.jobs.node (s.jobs.slotNode i)).state = .waiting)) ∧
  ∀ s : State, Live s → s.busFree = true → (s.jobs.dev = .run → s.jobs.oc.firstPending = none ∧ s.duePoll = none) →
    s.fr.down = [] → ∃ u : State, EndsFrom .exchangeChoice s u ∧ OnlyReads s.jobs u.jobs ∧ u = s.setJobs u.jobs

/-- R163, R164: the poll that is due. The search goes in ascending index from the cursor through the present pass and
then, pass after pass, from slot 0: the slot found is usable and due in the pass found, no usable slot that the search
comes to before it is due in its pass, and whenever any slot is usable one is found. No search goes beyond the sixteen
passes that follow (the model's bound, log entry 28). -/
def Obligations.PollsInOrder : Prop :=
  (∀ (s : State) (i q : Nat), s.rb.pass < 360360 → s.duePoll = some (i, q) →
    i < 32 ∧ s.jobs.slotUsable i = true ∧ q % s.jobs.slotDivisor i = 0 ∧
    ∃ n, n ≤ 16 ∧ q = (s.rb.pass + n) % 360360 ∧ (n = 0 → s.rb.cursor ≤ i) ∧
      ∀ k, k < 32 → s.jobs.slotUsable k = true →
        (n = 0 → s.rb.cursor ≤ k → k < i → s.rb.pass % s.jobs.slotDivisor k ≠ 0) ∧
        (0 < n → s.rb.cursor ≤ k → s.rb.pass % s.jobs.slotDivisor k ≠ 0) ∧
        (∀ m, 0 < m → m < n → (s.rb.pass + m) % 360360 % s.jobs.slotDivisor k ≠ 0) ∧
        (0 < n → k < i → q % s.jobs.slotDivisor k ≠ 0)) ∧
  ∀ (s : State) (k : Nat), k < 32 →
    (s.jobs.slotUsable k = true ↔ bit (s.jobs.word (0x0C0 + k)) 15 = true ∧ s.jobs.bad (0x0C0 + k) = false ∧
      1 ≤ s.jobs.slotNode k ∧ s.jobs.slotNode k ≤ 62) ∧
    (s.jobs.slotUsable k = true → s.rb.pass < 360360 → s.duePoll ≠ none)

/-! ### Frames (chapter 9) -/

/-- R132, R145, R146, R149, R150, R167: taking a frame from its port. The frames of a port are taken oldest first, so a
command whose frame is not the oldest in its port's buffers has no effect (the model's choice, log entry 2). A REQUEST, AHEAD or SERVICE frame is consumed; a frame
of a kind its port does not accept is dropped MISDIRECTED; a MEASURE or ANSWER frame that answers no exchange in
progress is dropped STRAY; and an answer frame so dropped is a missed exchange. -/
def Obligations.FramesAreTaken : Prop :=
  (∀ (s : State) (i : Instr) (p : Port) (f : Frame), i.frame? = some (p, f) → (s.port p).holds f = false →
    exec i s = .next s) ∧
  (∀ (s : State) (f : Frame), Took .train f .consumed s (s.consume f)) ∧
  (∀ (s : State) (p : Port) (k : Kind) (h : Header) (payload : List Word), s.inReset = false →
    ∃ u : State, Took p (h.frame k payload) (.dropped .misdirected) s u ∧
      EndsFrom (.misdirectedFrame p k h payload) s
        (if p = .roof ∧ s.isAnswer (h.frame k payload) = true then u.missed else u)) ∧
  ∀ (s : State) (i : Instr) (h : Header) (k : Kind) (payload : List Word), s.inReset = false →
    (i = .roofMeasureFrame h payload ∧ k = .measure ∨ i = .roofAnswerFrame h payload ∧ k = .answer) →
    (s.isAnswer (h.frame k payload) = false ∨ ∀ e, s.rb.exchange = some e → e.accepts (h.frame k payload) = false) →
    ∃ u : State, Took .roof (h.frame k payload) (.dropped .stray) s u ∧
      EndsFrom i s (if s.isAnswer (h.frame k payload) then u.missed else u)

/-- R144, R149, R151, R167, R168: an answer to the exchange in progress is matched as it is taken, so that what the match's
reads report comes before what follows; it ends the exchange and makes its node ACTIVE in RUN, with NODE_RETURNED where it
was LOST; the frame goes to the train transmit queue where no entry decides it or its deciding
entry passes upward frames without keep-local, if there is room, and is dropped QUEUE_FULL where there is none. That the room is
tested, and the forwarded frame placed, before the EVENT notices of the flags that the same frame sets, by its match, the
bindings or as NODE_RETURNED, is the model's choice, which R149 and R151 do not settle (log entry 68); so is that
CAPTURE_FROZEN, where the frame's own entry freezes the buffer, goes before them (log entry 23). -/
def Obligations.RoofAnswers : Prop :=
  ∀ (s : State) (i : Instr) (h : Header) (k : Kind) (payload : List Word) (f : Frame) (e : Exchange), Live s →
    (i = .roofMeasureFrame h payload ∧ k = .measure ∨ i = .roofAnswerFrame h payload ∧ k = .answer) →
    f = h.frame k payload → s.isAnswer f = true → s.rb.exchange = some e → e.accepts f = true →
    ∃ u : State, EndsFrom i s u ∧
      u.rb = { s.rb with slot := .idle, exchange := none, answerTimer := false, answerLimit := false } ∧
      u.roof = { s.roof with buffers := s.roof.buffers.tail } ∧ u.train = s.train ∧ u.fr.down = s.fr.down ∧
      u.fr.train = s.fr.train ∧ u.nu = s.nu ∧ u.latch = s.latch ∧
      (s.jobs.dev = .config → OnlyReads s.jobs u.jobs) ∧
      (s.jobs.dev = .run → ∀ n, u.jobs.node n
        = if n = e.node then { state := .active, missed := 0, last := some s.jobs.tag } else s.jobs.node n) ∧
      (∃ first later : List Report, u.jobs.out = first ++ (s.jobs.touchRouteOf f).out ++ later ∧
        (∀ r ∈ first, ∃ (dev : Device) (line : Line), r = .flag .captureFrozen 0 dev line) ∧
        (s.jobs.dev = .run → (s.jobs.node e.node).state = .lost →
          Flagged .nodeReturned (BitVec.ofNat 16 e.node) later)) ∧
      ∀ pass : Bool, pass = (s.jobs.deciding f.point).all (fun r => s.jobs.routeUp r) →
        (pass = false → u.fr.up = s.fr.up ∧
          u.fr.roof = { s.fr.roof with received := s.fr.roof.received + 1, consumed := s.fr.roof.consumed + 1 }) ∧
        (pass = true → s.fr.share < 14 → s.fr.up.length < 16 →
          u.fr.up = s.fr.up ++ [{ frame := f, forwarded := true }] ∧
          u.fr.roof = { s.fr.roof with received := s.fr.roof.received + 1, forwarded := s.fr.roof.forwarded + 1 }) ∧
        (pass = true → (14 ≤ s.fr.share ∨ 16 ≤ s.fr.up.length) → u.fr.up = s.fr.up ∧
          u.fr.roof = { s.fr.roof with received := s.fr.roof.received + 1, dropped := s.fr.roof.dropped + 1,
                                       queueFull := s.fr.roof.queueFull + 1 } ∧
          Flagged .queueDrop 0 u.jobs.out)

/-- R144, R147, R148, R150, R153, R154: the deciding entry is the lowest usable entry that covers the point, and a point
has none only where no usable entry covers it. An ORDER or QUERY of the train is UNCLAIMED where its node is no roof node or no
entry decides it, BLOCKED where its deciding entry does not pass downward frames, a queue drop where the downstream
queue is full, and otherwise joins that queue, an ORDER with its words admitted. A written word becomes the last word of
its point. A refused QUERY is answered with NO_REPLY. Each is offered to the capture buffer with its disposition, an ORDER
that passes the route check as it was received, with its words not yet admitted (the model's reading of R172, log entry
56). -/
def Obligations.FramesForTheRoof : Prop :=
  (∀ (j : Jobs) (p : Word) (k : Nat), j.deciding p = some k →
    k < 16 ∧ j.routeUsable k = true ∧ j.routeCovers k p = true ∧
    ∀ i, i < k → j.routeUsable i = true → j.routeCovers i p = false) ∧
  (∀ (j : Jobs) (p : Word), j.deciding p = none → ∀ i, i < 16 → j.routeUsable i = true → j.routeCovers i p = false) ∧
  (∀ (j : Jobs) (k : Nat) (p : Word), j.routeCovers k p = true ↔
    (j.word (0x011 + 4 * k)).toNat / 16 ≤ p.toNat / 16 ∧ p.toNat / 16 ≤ (j.word (0x012 + 4 * k)).toNat / 16) ∧
  (∀ (s : State) (h : Header) (payload : List Word), Live s →
    ((roofNode (nodeOf h.point) = false ∨ s.jobs.deciding h.point = none) →
      ∃ u v : State, Took .train (h.frame .order payload) (.dropped .unclaimed) s u ∧
        Took .train (h.frame .query payload) (.dropped .unclaimed) s v ∧ EndsFrom (.trainOrder h payload) s u ∧
        EndsFrom (.trainQuery h payload) s
          (v.onJobs (fun j => j.report (.frame (noReplyFrame h.point h.seq payload.length))))) ∧
    ∀ k, roofNode (nodeOf h.point) = true → s.jobs.deciding h.point = some k →
      (s.jobs.routeDown k = false →
        ∃ u v : State, Took .train (h.frame .order payload) (.dropped .blocked) s u ∧
          Took .train (h.frame .query payload) (.dropped .blocked) s v ∧ EndsFrom (.trainOrder h payload) s u ∧
          EndsFrom (.trainQuery h payload) s
            (v.onJobs (fun j => j.report (.frame (noReplyFrame h.point h.seq payload.length))))) ∧
      (s.jobs.routeDown k = true → s.fr.down.length < 8 →
        ∃ u : State, Took .train (h.frame .query payload) .forwarded s u ∧
          EndsFrom (.trainQuery h payload) s (u.setFr { u.fr with down := s.fr.down ++ [h.frame .query payload] })) ∧
      (s.jobs.routeDown k = true → 8 ≤ s.fr.down.length →
        ∃ u : State, Took .train (h.frame .query payload) (.dropped .queueFull) s u ∧
          EndsFrom (.trainQuery h payload) s (u.onJobs (fun j => j.flag .queueDrop 1)))) ∧
  ∀ (s : State) (h : Header) (payload : List Word) (k : Nat), Live s → roofNode (nodeOf h.point) = true →
    s.jobs.deciding h.point = some k → s.jobs.routeDown k = true →
    ∃ u : State, EndsFrom (.trainOrder h payload) s u ∧ u.rb = s.rb ∧ u.roof = s.roof ∧ u.latch = s.latch ∧
      u.nu = s.nu ∧ u.fr.roof = s.fr.roof ∧ u.fr.up = s.fr.up ∧
      OnlyReads (s.jobs.setOc { s.jobs.oc with table := u.jobs.oc.table }) u.jobs ∧
      (s.fr.down.length < 8 →
        u.fr.down = s.fr.down ++ [h.frame .order (payload.mapIdx (fun i w => if channelOf h.point + i ≤ 255 then
          s.jobs.admitted (toWord (nodeOf h.point * 256 + (channelOf h.point + i))) w else w))] ∧
        u.fr.train = { s.fr.train with received := s.fr.train.received + 1, forwarded := s.fr.train.forwarded + 1 } ∧
        Offered .train .down (h.frame .order payload) .forwarded s u) ∧
      (8 ≤ s.fr.down.length → u.fr.down = s.fr.down ∧ Flagged .queueDrop 1 u.jobs.out ∧
        Offered .train .down (h.frame .order payload) (.dropped .queueFull) s u ∧
        u.fr.train = { s.fr.train with received := s.fr.train.received + 1, dropped := s.fr.train.dropped + 1,
                                       queueFull := s.fr.train.queueFull + 1 }) ∧
      u.jobs.oc.table = s.jobs.oc.table.map (fun e => { e with
        lastWord := if nodeOf e.point = nodeOf h.point ∧ channelOf h.point ≤ channelOf e.point then
            payload.getD (channelOf e.point - channelOf h.point) e.lastWord else e.lastWord }) ∧
      ∀ (i : Nat) (w p : Word), payload[i]? = some w → channelOf h.point + i ≤ 255 →
        p = toWord (nodeOf h.point * 256 + (channelOf h.point + i)) →
        heldBits (s.jobs.oc.entry p) w (s.jobs.admitted p w) = true → Flagged .interlockHeld p u.jobs.out

/-- R155 to R158, R104, R100: what CA sends, and what the OC composes, for a point. An owned bit carries its role's
sending value under its polarity, and the inactive value where its entry is no longer usable; the earthing bit is sent
active only while SAFE is asserted and the EARTH entry is usable, and is then what the rows make of the bit as written;
every other bit is what the rows make of it. The rows: the usable or poisoned row of lowest index that covers the bit
decides it; where none covers it, or every condition in the deciding row's set holds, the bit stays as written; else
HOLD_PREVIOUS gives the bit last sent, 0 for a point not in the table, and FORCE_OFF, the illegal value and a poisoned
row give the inactive value. A row whose point or mask word is uncorrectable covers every bit of every point. -/
def Obligations.AdmittedBits : Prop :=
  (∀ (j : Jobs) (p w : Word) (e : PointEntry), j.oc.entry p = some e → ∀ v : Word,
    (v = j.admitted p w ∨ v = j.composed { e with lastWord := w }) →
    (∀ b, e.earth = some b → b.reads v = true → j.oc.safe = true ∧ j.mapUsable .earth = true) ∧
    (∀ b, e.earth = some b → j.oc.safe = true → j.mapUsable .earth = true → e.owns b.bit.val = false →
      bit v b.bit.val = j.rowBit p (some e) b.bit.val (bit w b.bit.val)) ∧
    (∀ i r, i < 16 → e.owned.find? (fun o => o.2.bit.val == i) = some r → (∀ b, e.earth = some b → b.bit.val ≠ i) →
      r.2.reads v = (j.mapUsable r.1.mapRole && j.oc.sending.get r.1)) ∧
    ∀ i, i < 16 → e.owns i = false → (∀ b, e.earth = some b → b.bit.val ≠ i) →
      bit v i = j.rowBit p (some e) i (bit w i)) ∧
  (∀ (j : Jobs) (p w : Word), j.oc.entry p = none → ∀ i, i < 16 → bit (j.admitted p w) i = j.rowBit p none i (bit w i)) ∧
  ∀ (j : Jobs) (p : Word) (e : Option PointEntry) (i : Nat) (v last off : Bool) (row : Nat → Nat → Word)
    (poisoned covers : Nat → Prop) (holds : Nat → Prop), i < 16 →
    (∀ r n, row r n = j.word (0x050 + 4 * r + n)) →
    (∀ r, poisoned r ↔ ∃ n, n < 4 ∧ j.bad (0x050 + 4 * r + n) = true) →
    (∀ r, covers r ↔ (poisoned r ∧ (j.bad (0x050 + 4 * r + 2) = true ∨ j.bad (0x050 + 4 * r + 3) = true)) ∨
      ((poisoned r ∨ bit (row r 0) 15 = true) ∧ row r 2 = p ∧ bit (row r 3) i = true)) →
    (holds 0 ↔ j.fb.brk = .open) → (holds 1 ↔ j.p1.state = .lowered ∧ j.p2.state = .lowered) →
    (holds 2 ↔ j.speed.known = true ∧ j.speed.aged = false ∧ j.speed.kmh = 0) → (holds 3 ↔ j.fb.sel = .ac) →
    (holds 4 ↔ j.fb.sel = .dc) → (holds 5 ↔ ∃ k, j.lsi.confirmed = .system k) → (holds 6 ↔ j.cs.state = .idle) →
    (holds 7 ↔ j.ice.mode = .off ∨ j.ice.mode = .suspended) →
    (∀ f, e = some f → last = bit f.lastSent i) → (e = none → last = false) →
    (off = true ↔ ∃ f b, e = some f ∧ f.earth = some b ∧ b.bit.val = i ∧ b.low = true) →
    ((∀ r, r < 16 → ¬ covers r) → j.rowBit p e i v = v) ∧
    ∀ r, r < 16 → covers r → (∀ k, k < r → ¬ covers k) →
      (poisoned r → j.rowBit p e i v = off) ∧
      (¬ poisoned r →
        ((∀ n, n < 8 → bit (row r 1) n = true → holds n) → j.rowBit p e i v = v) ∧
        ∀ n, n < 8 → bit (row r 1) n = true → ¬ holds n →
          (bits (row r 0) 0 2 = 0 → j.rowBit p e i v = last) ∧ (bits (row r 0) 0 2 ≠ 0 → j.rowBit p e i v = off))

/-! ### Requests (13.2, chapters 3 to 6) -/

/-- R112, R146, R189: a REQUEST frame is consumed and answered: CONFIG outside RUN, whatever it asks; BUSY under output
hold but for LOWER_ALL and HOLD; INVALID where its code names no request. That a REQUEST which names no code is BUSY
under hold and INVALID else, with code 0 sent back for an empty one, is the model's reading (log entry 26); the clauses
for it also hold of a term that puts a known code there, which is not well-formed. -/
def Obligations.RequestsRefused : Prop :=
  (∀ (s : State) (i : Instr) (f : Frame) (c : Nat), s.inReset = false → i.request? = some (f, c) →
    s.jobs.dev = .config → Answers i f c .config (s.after f) s) ∧
  (∀ (s : State) (i : Instr) (f : Frame) (c : Nat), Running s → i.request? = some (f, c) → s.jobs.oc.hold = true →
    c ≠ 11 → c ≠ 12 → Answers i f c .busy (s.after f) s) ∧
  ∀ (s : State) (h : Header) (payload : List Word), TakesRequests s →
    Answers (.requestUnknown h payload) (h.frame .request payload) ((payload.headD 0).toNat / 256) .invalid
      (s.after (h.frame .request payload)) s

/-- R54: BREAKER_CLOSE and BREAKER_OPEN; and a feedback change under a commanded OPEN sets no BREAKER_TRIPPED, being
only another change at which the CS makes its tests, the due-time check apart (the model's choice, log entry 12). That a
pulse BREAKER_OPEN ends stops T1 is the model's reading (log entry 38). -/
def Obligations.BreakerRequests : Prop :=
  (∀ (j : Jobs) (old new : BreakerFb), j.cs.command = .open → j.csReact (.breaker old new) = j.csTest false) ∧
  ∀ (s : State) (h : Header) (arg : Byte) (extra : List Word) (fc fo : Frame), TakesRequests s →
    fc = requestFrame h 1 arg extra → fo = requestFrame h 2 arg extra →
    (s.jobs.cs.state ≠ .idle →
      Answers (.breakerClose h arg extra) fc 1 .busy (s.after fc) s ∧
      Answers (.breakerOpen h arg extra) fo 2 .busy (s.after fo) s) ∧
    (s.jobs.cs.state = .idle →
      (s.jobs.cs.command = .close → Answers (.breakerClose h arg extra) fc 1 .accepted (s.after fc) s) ∧
      (s.jobs.cs.command = .open → s.jobs.closeLaw = false → ∃ j : Jobs, OnlyReads s.jobs j ∧
        Answers (.breakerClose h arg extra) fc 1 .interlock j s) ∧
      (s.jobs.cs.command = .open → s.jobs.closeLaw = true → ∃ j : Jobs, OnlyChangeover s.jobs j ∧
        j.cs = { s.jobs.cs with state := .closing, command := .close, pulse := true, current := none } ∧
        (j.timer .t1).loaded (timing (s.jobs.changeover 3)) .oneShot ∧
        (j.timer .t0).loaded (timing (s.jobs.changeover 4)) .oneShot ∧ OtherTimers [.t0, .t1] s.jobs j ∧
        Answers (.breakerClose h arg extra) fc 1 .accepted j s) ∧
      ∃ j : Jobs, OnlyChangeover s.jobs j ∧
        j.cs = { s.jobs.cs with command := .open, pulse := false, closingSystem := none } ∧
        (s.jobs.cs.pulse = true → (j.timer .t1).stopped) ∧ (s.jobs.cs.pulse = false → j.tmr = s.jobs.tmr) ∧
        OtherTimers [.t1] s.jobs j ∧ Answers (.breakerOpen h arg extra) fo 2 .accepted j s)

/-- R55, R28, R42, R47, R61: SELECT and ENERGISE. That the confirmed system which SELECT expects is the one left once an
entry that its own code resolution finds poisoned is lost is the model's reading of R28 (log entry 69), and so is that the
feature ENERGISE builds has coast time 0 (log entry 72), and that its raise is noted for R95 (log entry 51). -/
def Obligations.SelectAndEnergise : Prop :=
  ∀ (s : State) (h : Header) (arg : Byte) (extra : List Word) (fs fe : Frame), TakesRequests s →
    fs = requestFrame h 3 arg extra → fe = requestFrame h 4 arg extra →
    (s.jobs.cs.state ≠ .idle →
      Answers (.select h arg extra) fs 3 .busy (s.after fs) s ∧
      Answers (.energise h arg extra) fe 4 .busy (s.after fe) s) ∧
    (s.jobs.cs.state = .idle →
      ((arg.toNat = 0 ∨ 16 ≤ arg.toNat) → Answers (.select h arg extra) fs 3 .invalid (s.after fs) s) ∧
      (∀ c : BitVec 4, c ≠ 0 → arg.toNat = c.toNat →
        (s.jobs.resolve c = none → ∃ j : Jobs, OnlyReads s.jobs j ∧ Answers (.select h arg extra) fs 3 .invalid j s) ∧
        (s.jobs.resolve c ≠ none → ∃ j : Jobs, OnlyChangeover { s.jobs with lsi := j.lsi } j ∧
          j.lsi = ({ s.jobs with tm := j.tm } : Jobs).lostEntries.lsi ∧
          j.cs = { s.jobs.cs with
            state := .opening, command := .open, pulse := false, expected := some j.lsi.confirmed,
            deadSeen := false,
            current := some { kind := .select, number := none, target := .code c, due := none, coast := 0,
                              arrival := none } } ∧
          (j.timer .t0).loaded (timing (s.jobs.changeover 2)) .oneShot ∧ OtherTimers [.t0, .t1] s.jobs j ∧
          Answers (.select h arg extra) fs 3 .accepted j s)) ∧
      (∀ j : Jobs, j = s.jobs →
        (j.cs.command = .close ∨ j.p1.state ≠ .lowered ∨ j.p2.state ≠ .lowered ∨ j.oc.lowerAll = true) →
        Answers (.energise h arg extra) fe 4 .state (s.after fe) s) ∧
      (s.jobs.cs.command = .open → s.jobs.p1.state = .lowered → s.jobs.p2.state = .lowered →
        s.jobs.oc.lowerAll = false → ∃ j : Jobs, Answers (.energise h arg extra) fe 4 .accepted j s ∧
          j.cs.expected = some .pending ∧
          j.cs.current = some { kind := .energise, number := none, target := .any, due := none, coast := 0,
                                arrival := none } ∧
          ∀ x, x = s.jobs.startPanto →
            (s.jobs.raiseAnswer x .collector .cs = .accepted → j.cs.state = .raising ∧ j.cs.chosen = some x ∧
              (j.panto x).state = .preparing ∧ (j.panto x).role = .collector ∧ j.ice.made = some x) ∧
            (s.jobs.raiseAnswer x .collector .cs ≠ .accepted → j.cs.state = .hold ∧ j.cs.reason = some .pantograph ∧
              j.cs.stepOfFailure = some .raising ∧ j.panto x = s.jobs.panto x)))

/-- R56: RESUME and ABORT are for HOLD only, RESUME not under lower-all; RESUME clears the hold reason and enters the
step of failure afresh: COASTING with its kept coast time and dead-seen set anew, IDENTIFYING without a restart of the
identification, ARMED with a feature in hand by acting on it at once (log entry 52) and without one by way of IDLE (the
model's reading, log entry 16), every other step as at a first entry, with its own tests and timers; ABORT drops the feature
in hand and ends in IDLE with the breaker command OPEN; both discard the stale entries. A step of failure that is absent,
IDLE or HOLD, which no run has, is left to IDLE (log entry 16). -/
def Obligations.ResumeAndAbort : Prop :=
  ∀ (s : State) (h : Header) (arg : Byte) (extra : List Word) (fr fa : Frame), TakesRequests s →
    fr = requestFrame h 5 arg extra → fa = requestFrame h 6 arg extra →
    (s.jobs.cs.state ≠ .hold →
      Answers (.changeoverResume h arg extra) fr 5 .state (s.after fr) s ∧
      Answers (.changeoverAbort h arg extra) fa 6 .state (s.after fa) s) ∧
    (s.jobs.cs.state = .hold → s.jobs.oc.lowerAll = true →
      Answers (.changeoverResume h arg extra) fr 5 .state (s.after fr) s) ∧
    (s.jobs.cs.state = .hold →
      (s.jobs.oc.lowerAll = false → ∀ step, step = s.jobs.cs.stepOfFailure.getD .idle →
        ∃ (j : Jobs) (c : Cs), Answers (.changeoverResume h arg extra) fr 5 .accepted j s ∧
          c = { s.jobs.cs with reason := none, list := s.jobs.cs.list.filter (fun g => !g.staleMark) } ∧
          j.cs.list = c.list ∧ (j.cs.state ≠ .hold → j.cs.reason = none) ∧
          (∀ g ∈ s.jobs.cs.list, g.staleMark = true → Flagged .featureDiscarded (BitVec.ofNat 16 g.subject) j.out) ∧
          ((step = .idle ∨ step = .hold ∨ step = .armed ∧ c.current = none) → OnlyChangeover s.jobs j ∧
            j.cs = { c with state := .idle } ∧ (j.timer .t0).stopped ∧ OtherTimers [.t0] s.jobs j) ∧
          (step = .armed → c.current ≠ none → OnlyChangeover s.jobs j ∧
            (s.jobs.lsi.confirmed.isSystem = true →
              j.cs = { c with state := .opening, expected := some s.jobs.lsi.confirmed, deadSeen := false,
                              command := .open, pulse := false } ∧
              (j.timer .t0).loaded (timing (s.jobs.changeover 2)) .oneShot) ∧
            (s.jobs.lsi.confirmed.isSystem = false → HeldFor .identify .armed j ∧ j.cs.current = c.current ∧
              j.cs.expected = some s.jobs.lsi.confirmed ∧ j.cs.deadSeen = false)) ∧
          (step = .opening → OnlyChangeover s.jobs j ∧
            j.cs = { c with state := .opening, command := .open, pulse := false } ∧
            (j.timer .t0).loaded (timing (s.jobs.changeover 2)) .oneShot) ∧
          (step = .coasting → OnlyChangeover s.jobs j ∧ ∀ coast, coast = (c.current.map (fun f => f.coast)).getD 0 →
            j.cs = { c with state := .coasting, deadSeen := decide (s.jobs.lsi.confirmed = .dead),
                            coastEnded := decide (coast = 0) } ∧
            (0 < coast → (j.timer .t1).loaded (min coast 65535) .oneShot ∧ (j.timer .t0).stopped) ∧
            (coast = 0 → s.jobs.crossing = false → c.expected ≠ some s.jobs.lsi.confirmed →
              s.jobs.lsi.confirmed.isSystem = false → (j.timer .t0).loaded (timing (s.jobs.changeover 6)) .oneShot)) ∧
          (step = .lowering → EntersLowering s.jobs j) ∧ (step = .selecting → EntersSelecting s.jobs j) ∧
          (step = .raising → EntersRaising s.jobs j) ∧
          (step = .identifying → OnlyChangeover s.jobs j ∧ j.cs = { c with state := .identifying } ∧
            (j.timer .t0).loaded (timing (s.jobs.changeover 6)) .oneShot) ∧
          (step = .closing → EntersClosing s.jobs j)) ∧
      ∃ j : Jobs, OnlyChangeover s.jobs j ∧
        j.cs = { s.jobs.cs with state := .idle, current := none, expected := none, reason := none, stepOfFailure := none,
                                deadSeen := false, command := .open, pulse := false,
                                list := s.jobs.cs.list.filter (fun g => !g.staleMark) } ∧
        (j.timer .t0).stopped ∧ OtherTimers [.t0, .t1] s.jobs j ∧
        (∀ g ∈ s.jobs.cs.list, g.staleMark = true → Flagged .featureDiscarded (BitVec.ofNat 16 g.subject) j.out) ∧
        Answers (.changeoverAbort h arg extra) fa 6 .accepted j s)

/-- R61, R62, R74: REQUEST RAISE of P1, P2 or AUTO, which chooses the confirmed entry's pantograph or the start
pantograph; BUSY outside IDLE and ARMED. A raised pantograph is answered ACCEPTED and left alone; one LOWERING is BUSY;
one DROPPED or FAULTED, lower-all, an entry or a parameter set not there and a lost node are STATE; the other one
collecting or raised is INTERLOCK; else it enters PREPARING as COLLECTOR, CONNECTED, with the settle timer loaded. -/
def Obligations.RaiseRequests : Prop :=
  ∀ (s : State) (h : Header) (arg : Byte) (extra : List Word) (f : Frame), TakesRequests s →
    f = requestFrame h 7 arg extra →
    ((arg.toNat < 1 ∨ 3 < arg.toNat) → Answers (.raise h arg extra) f 7 .invalid (s.after f) s) ∧
    (1 ≤ arg.toNat → arg.toNat ≤ 3 →
      (s.jobs.cs.state ≠ .idle → s.jobs.cs.state ≠ .armed → Answers (.raise h arg extra) f 7 .busy (s.after f) s) ∧
      ((s.jobs.cs.state = .idle ∨ s.jobs.cs.state = .armed) →
        ∀ x, x = (if arg = 1 then .p1 else if arg = 2 then .p2 else s.jobs.autoPanto) →
        ∀ p o : PantoRec, p = s.jobs.panto x → o = s.jobs.panto x.other →
          ((p.state = .preparing ∨ p.state = .raising ∨ p.state = .inContact) →
            ∃ j, OnlyReads s.jobs j ∧ Answers (.raise h arg extra) f 7 .accepted j s) ∧
          (p.state = .lowering → ∃ j, OnlyReads s.jobs j ∧ Answers (.raise h arg extra) f 7 .busy j s) ∧
          ((p.state = .dropped ∨ p.state = .faulted) →
            ∃ j, OnlyReads s.jobs j ∧ Answers (.raise h arg extra) f 7 .state j s) ∧
          (p.state = .lowered →
            ((s.jobs.oc.lowerAll = true ∨ s.jobs.raisable x = false ∨ (s.jobs.pantoNode x).state = .lost) →
              ∃ j, OnlyReads s.jobs j ∧ Answers (.raise h arg extra) f 7 .state j s) ∧
            (s.jobs.oc.lowerAll = false → s.jobs.raisable x = true → (s.jobs.pantoNode x).state ≠ .lost →
              ((o.role = .collector ∨ o.state = .preparing ∨ o.state = .raising ∨ o.state = .inContact) →
                ∃ j, OnlyReads s.jobs j ∧ Answers (.raise h arg extra) f 7 .interlock j s) ∧
              (o.role ≠ .collector → o.state ≠ .preparing → o.state ≠ .raising → o.state ≠ .inContact →
                ∃ j, OnlyPanto x s.jobs j ∧
                  j.panto x = { p with state := .preparing, role := .collector, connected := true, cause := none,
                                       reached := false, contact := 0, loss := 0, low := 0, raises := p.raises + 1 } ∧
                  (j.timer x.settleTimer).loaded (timing (s.jobs.pantoParam x 7)) .oneShot ∧
                  OtherTimers [x.settleTimer] s.jobs j ∧ Answers (.raise h arg extra) f 7 .accepted j s)))))

/-- R68, R73, R75: LOWER and FAULT_CLEAR are BUSY in a changeover step. LOWER of one pantograph raised puts it in
LOWERING with its lower timer loaded and its settle and arc interval timers stopped, of one already down is ACCEPTED and
changes nothing, of one DROPPED or FAULTED is STATE; LOWER of both lowers whatever is raised. FAULT_CLEAR takes a
pantograph DROPPED or FAULTED whose height has come down to LOWERED. -/
def Obligations.LowerAndFaultClear : Prop :=
  ∀ (s : State) (h : Header) (arg : Byte) (extra : List Word) (fl fc : Frame), TakesRequests s →
    fl = requestFrame h 8 arg extra → fc = requestFrame h 9 arg extra →
    ((arg.toNat < 1 ∨ 3 < arg.toNat) → Answers (.lower h arg extra) fl 8 .invalid (s.after fl) s) ∧
    ((arg.toNat < 1 ∨ 2 < arg.toNat) → Answers (.faultClear h arg extra) fc 9 .invalid (s.after fc) s) ∧
    (s.jobs.cs.state.stepping = true →
      (1 ≤ arg.toNat → arg.toNat ≤ 3 → Answers (.lower h arg extra) fl 8 .busy (s.after fl) s) ∧
      (1 ≤ arg.toNat → arg.toNat ≤ 2 → Answers (.faultClear h arg extra) fc 9 .busy (s.after fc) s)) ∧
    (s.jobs.cs.state.stepping = false →
      (arg = 3 → Answers (.lower h arg extra) fl 8 .accepted (((s.after fl).lower .p1).lower .p2) s) ∧
      ∀ x : Panto, arg.toNat = x.num →
        ((s.jobs.panto x).state = .dropped ∨ (s.jobs.panto x).state = .faulted →
          Answers (.lower h arg extra) fl 8 .state (s.after fl) s ∧
          ∃ j, OnlyPanto x s.jobs j ∧ j.tmr = s.jobs.tmr ∧
            ((∃ v, (s.jobs.panto x).height = some v ∧ v.toNat ≤ (s.jobs.pantoParam x 1).toNat) →
              j.panto x = { s.jobs.panto x with state := .lowered, role := .none, connected := false } ∧
              Answers (.faultClear h arg extra) fc 9 .accepted j s) ∧
            ((∀ v, (s.jobs.panto x).height = some v → (s.jobs.pantoParam x 1).toNat < v.toNat) →
              j.panto x = s.jobs.panto x ∧ Answers (.faultClear h arg extra) fc 9 .state j s)) ∧
        ((s.jobs.panto x).state = .lowered ∨ (s.jobs.panto x).state = .lowering →
          Answers (.lower h arg extra) fl 8 .accepted (s.after fl) s ∧
          Answers (.faultClear h arg extra) fc 9 .state (s.after fc) s) ∧
        ((s.jobs.panto x).state.raised = true →
          Answers (.faultClear h arg extra) fc 9 .state (s.after fc) s ∧
          ∃ j, OnlyPanto x s.jobs j ∧ j.panto x = { s.jobs.panto x with state := .lowering, low := 0 } ∧
            (j.timer x.stepTimer).loaded (timing (s.jobs.pantoParam x 6)) .oneShot ∧ (j.timer x.settleTimer).stopped ∧
            (j.timer x.arcTimer).stopped ∧ OtherTimers [x.stepTimer, x.settleTimer, x.arcTimer] s.jobs j ∧
            Answers (.lower h arg extra) fl 8 .accepted j s))

/-- R86, R87, R97: ICE_MODE. While SUSPENDED only AUTO and OFF are taken, and set the policy alone. Else the policy is set,
SCRAPE also lifting the bar, and the mode is chosen at once: OFF under OFF and under AUTO at NONE; SCRAPE under SCRAPE and
under AUTO at HEAVY where the scrape conditions hold, scrape barred is clear and the raise of the scraper is accepted, a
refused raise setting the bar; in every other case HEAT with heat permission and OFF without. HEAT and SCRAPE are answered
ACCEPTED where they come to be the mode and STATE where they do not, AUTO and OFF always ACCEPTED. That the scrape conditions
go by the node of the HEIGHT entry's point word also while that entry is invalid or poisoned is the model's choice (log
entry 76). -/
def Obligations.IceModeRequests : Prop :=
  (∀ j : Jobs,
    (j.heatPermitted = true ↔ bit (j.param 0x180 0) 15 = true ∧
      ∃ k, j.lsi.confirmed = .system k ∧ j.lineUsable k = true ∧ j.lineHeat k = true) ∧
    (j.scrapeConditions = true ↔ bit (j.param 0x180 0) 15 = true ∧ bit (j.param 0x180 0) 0 = true ∧
      (∃ k, j.lsi.confirmed = .system k ∧ j.lineUsable k = true ∧ j.lineScrape k = true) ∧
      j.speed.known = true ∧ j.speed.aged = false ∧ j.speed.kmh ≤ (j.iceParam 13).toNat ∧
      (j.cs.state = .idle ∨ j.cs.state = .armed) ∧ j.oc.lowerAll = false ∧
      ∃ x, j.leading = some x ∧ (j.panto x).role ≠ .collector ∧ (j.pantoNode x).state = .active)) ∧
  ∀ (s : State) (h : Header) (arg : Byte) (extra : List Word) (f : Frame), TakesRequests s →
    f = requestFrame h 10 arg extra →
    (3 < arg.toNat → Answers (.iceMode h arg extra) f 10 .invalid (s.after f) s) ∧
    ∀ p : Policy, (arg = 0 ∧ p = .auto ∨ arg = 1 ∧ p = .off ∨ arg = 2 ∧ p = .heat ∨ arg = 3 ∧ p = .scrape) →
      (s.jobs.ice.mode = .suspended →
        ((p = .auto ∨ p = .off) → Answers (.iceMode h arg extra) f 10 .accepted
          ((s.after f).setIce { s.jobs.ice with policy := p }) s) ∧
        ((p = .heat ∨ p = .scrape) → Answers (.iceMode h arg extra) f 10 .busy (s.after f) s)) ∧
      (s.jobs.ice.mode ≠ .suspended → ∃ j : Jobs, j.ice.policy = p ∧ j.ice.level = s.jobs.ice.level ∧
        Chosen p s.jobs.ice.level (if p = .scrape then false else s.jobs.ice.barred) s.jobs j ∧
        Answers (.iceMode h arg extra) f 10
          (if p = .heat ∧ j.ice.mode ≠ .heat ∨ p = .scrape ∧ j.ice.mode ≠ .scrape then .state else .accepted) j s)

/-- R109, R110, R50, R51: LOWER_ALL(ON) sets lower-all with its flag, releases output hold and lowers both pantographs,
and the CS then acts; under lower-all it is ACCEPTED again and changes nothing. LOWER_ALL(OFF) clears it. Neither waits
for output hold. -/
def Obligations.LowerAllRequests : Prop :=
  ∀ (s : State) (h : Header) (arg : Byte) (extra : List Word) (fon foff : Frame), Running s →
    fon = requestFrame h 11 arg extra → foff = requestFrame h 11 0 extra →
    (arg ≠ 1 → Answers (.lowerAllOn h arg extra) fon 11 .invalid (s.after fon) s) ∧
    (arg = 1 → s.jobs.oc.lowerAll = true → Answers (.lowerAllOn h arg extra) fon 11 .accepted (s.after fon) s) ∧
    (arg = 1 → s.jobs.oc.lowerAll = false → ∃ j : Jobs, Answers (.lowerAllOn h arg extra) fon 11 .accepted j s ∧
      j.oc = { s.jobs.oc with lowerAll := true, hold := false } ∧
      Flagged .lowerAll 0 j.out ∧ .lowerAllOn ∈ j.todo ∧ j.cs = s.jobs.cs ∧ j.ice = s.jobs.ice ∧
      ∀ x, ((s.jobs.panto x).state.raised = true → j.panto x = { s.jobs.panto x with state := .lowering, low := 0 }) ∧
        ((s.jobs.panto x).state.raised = false → j.panto x = s.jobs.panto x)) ∧
    (s.jobs.oc.lowerAll = true → Answers (.lowerAllOff h extra) foff 11 .accepted
      (((s.after foff).setOc { s.jobs.oc with lowerAll := false }).push .look) s) ∧
    (s.jobs.oc.lowerAll = false → Answers (.lowerAllOff h extra) foff 11 .accepted (s.after foff) s)

/-- R111, R120: HOLD(ON) freezes the present sending values and holds the timers T0 to T12, but not under lower-all;
HOLD(OFF) lets them go (the frozen image serves the comparison when the OC next follows and is then absent:
OutputsKeepFollowing); each is ACCEPTED again where it already stands. A role whose bit is in an owned mask is frozen off
where its entry has been found not usable (R104's first row, as log entry 53 reads it between compositions). -/
def Obligations.HoldRequests : Prop :=
  ∀ (s : State) (h : Header) (arg : Byte) (extra : List Word) (fon foff : Frame), Running s →
    fon = requestFrame h 12 arg extra → foff = requestFrame h 12 0 extra →
    (arg ≠ 1 → Answers (.holdOn h arg extra) fon 12 .invalid (s.after fon) s) ∧
    (arg = 1 → s.jobs.oc.lowerAll = true → Answers (.holdOn h arg extra) fon 12 .state (s.after fon) s) ∧
    (arg = 1 → s.jobs.oc.lowerAll = false → s.jobs.oc.hold = true →
      Answers (.holdOn h arg extra) fon 12 .accepted (s.after fon) s) ∧
    (arg = 1 → s.jobs.oc.lowerAll = false → s.jobs.oc.hold = false → ∃ (j : Jobs) (frozen : Image),
      Answers (.holdOn h arg extra) fon 12 .accepted j s ∧
      j = { s.after fon with oc := { s.jobs.oc with hold := true, frozen := some frozen }, tmr := j.tmr } ∧
      (∀ r : OwnedRole, frozen.get r = true ↔ s.jobs.oc.sending.get r = true ∧
        ((∃ e ∈ s.jobs.oc.table, ∃ b, (r, b) ∈ e.owned) → s.jobs.mapStands r.mapRole = true)) ∧
      ∀ i, (i ∈ [TimerId.t13, .t14, .t15] → j.timer i = s.jobs.timer i) ∧
        (i ∉ [TimerId.t13, .t14, .t15] → (j.timer i).held = true ∧ (j.timer i).owed = [] ∧
          ((s.jobs.timer i).owed = [] → j.timer i = { s.jobs.timer i with held := true }))) ∧
    (s.jobs.oc.hold = false → Answers (.holdOff h extra) foff 12 .accepted (s.after foff) s) ∧
    (s.jobs.oc.hold = true → ∃ j : Jobs, Answers (.holdOff h extra) foff 12 .accepted j s ∧
      j = { s.after foff with oc := { s.jobs.oc with hold := false }, tmr := j.tmr, todo := j.todo } ∧
      .cs ∈ j.todo ∧
      ∀ i, (i ∈ [TimerId.t13, .t14, .t15] → j.timer i = s.jobs.timer i) ∧
        (i ∉ [TimerId.t13, .t14, .t15] → j.timer i = { s.jobs.timer i with held := false }))

/-! ### Announcements (13.2, R32 to R37, R82) -/

/-- R32, R33, R194: every AHEAD frame is consumed; in CONFIG it does no more; in RUN one with its whole layout takes
the speed, above 400 km/h as 400, with its arrival, and at standstill the leading end; a frame too short for its layout,
and a kind that names none, do no more than that. -/
def Obligations.SpeedFromAhead : Prop :=
  (∀ (s : State) (i : Instr) (f : Frame) (a : Announcement), s.inReset = false → i.ahead? = some (f, a) →
    s.jobs.dev = .config → EndsFrom i s (s.consume f)) ∧
  (∀ (s : State) (i : Instr) (f : Frame) (a : Announcement), Running s → FrameAtHand i s → i.ahead? = some (f, a) →
    ∃ t : State, exec i s = .next t ∧ t.jobs.speed =
      { known := true, aged := false, kmh := if 400 < a.speed.toNat then 400 else a.speed.toNat,
        arrival := s.jobs.tag,
        lead := if a.speed ≠ 0 then s.jobs.speed.lead
          else if bits a.tail 0 2 = 1 then .p1 else if bits a.tail 0 2 = 2 then .p2 else .unknown }) ∧
  (∀ (s : State) (h : Header) (code : BitVec 4) (a : Announcement), Running s →
    EndsFrom (.aheadSpeed h code a) s ((s.consume (aheadFrame h code a)).onJobs (Jobs.takeSpeed a))) ∧
  ∀ (s : State) (h : Header) (payload : List Word), s.inReset = false →
    EndsFrom (.shortAheadFrame h payload) s (s.consume (h.frame .ahead payload))

/-- R34, R35, R37: NEUTRAL and BOUNDARY announce a feature: its due time, from the distance less the margin at the
speed taken as at least 5 km/h, and its coast; a number in hand, and a BOUNDARY to a code no usable entry carries, are
discarded; a number in the list is replaced; a full list keeps its four earliest. -/
def Obligations.FeatureOffers : Prop :=
  ∀ (s : State) (i : Instr) (h : Header) (a : Announcement) (k : FeatureKind) (f : Frame) (g : Feature) (v t : Nat),
    Running s →
    (i = .aheadNeutral h a ∧ k = .neutral ∧ f = aheadFrame h 0 a ∨
      i = .aheadBoundary h a ∧ k = .boundary ∧ f = aheadFrame h 1 a) →
    v = max (min 400 a.speed.toNat) 5 → t = (a.distance.toNat - (s.jobs.changeover 0).toNat) * 3600 / v →
    g = { kind := k, number := some a.number, target := .code a.target, due := some (s.jobs.tag + BitVec.ofNat 32 t),
          arrival := some s.jobs.tag, coast := (a.length.toNat + (s.jobs.changeover 1).toNat) * 3600 / v,
          dueMark := t == 0 } →
    ∃ j : Jobs, EndsFrom i s ((s.consume f).setJobs j) ∧
      j = { s.jobs with speed := j.speed, cs := { s.jobs.cs with list := j.cs.list }, tm := j.tm, todo := j.todo,
                        out := j.out } ∧
      (((∃ c, s.jobs.cs.current = some c ∧ c.number = some a.number) ∨
          (k = .boundary ∧ s.jobs.resolve a.target = none)) →
        j.cs.list = s.jobs.cs.list ∧ Flagged .featureDiscarded (BitVec.ofNat 16 a.number.toNat) j.out) ∧
      ((∀ c, s.jobs.cs.current = some c → c.number ≠ some a.number) →
        (k = .boundary → s.jobs.resolve a.target ≠ none) →
        (((∃ o ∈ s.jobs.cs.list, o.number = some a.number) ∨ s.jobs.cs.list.length < 4) →
          j.cs.list = insertFeature g (s.jobs.cs.list.filter (fun o => o.number != some a.number))) ∧
        ((∀ o ∈ s.jobs.cs.list, o.number ≠ some a.number) → ∀ z, 4 ≤ s.jobs.cs.list.length →
          s.jobs.cs.list.getLast? = some z →
          (g.earlier z = true → j.cs.list = insertFeature g s.jobs.cs.list.dropLast ∧
            Flagged .featureDiscarded (BitVec.ofNat 16 z.subject) j.out) ∧
          (g.earlier z = false → j.cs.list = s.jobs.cs.list ∧
            Flagged .featureDiscarded (BitVec.ofNat 16 a.number.toNat) j.out)))

/-- R35, R36, R82: the place of a feature in the list, what CANCEL does, and ICE_ZONE. -/
def Obligations.CancelsAndZones : Prop :=
  (∀ (f : Feature) (l : List Feature), ∃ before after : List Feature, l = before ++ after ∧
    insertFeature f l = before ++ f :: after ∧ (∀ g ∈ before, f.earlier g = false) ∧
    ∀ g, after.head? = some g → f.earlier g = true) ∧
  ∀ (s : State) (h : Header) (a : Announcement), Running s →
    ((∃ c, s.jobs.cs.current = some c ∧ c.number = some a.number) → EndsFrom (.aheadCancel h a) s
      ((s.consume (aheadFrame h 2 a)).onJobs (fun j =>
        (j.takeSpeed a).setCs { s.jobs.cs with refused := min 255 (s.jobs.cs.refused + 1) }))) ∧
    ((∀ c, s.jobs.cs.current = some c → c.number ≠ some a.number) → EndsFrom (.aheadCancel h a) s
      ((s.consume (aheadFrame h 2 a)).onJobs (fun j => ((j.takeSpeed a).setCs { s.jobs.cs with
        list := s.jobs.cs.list.filter (fun g => g.number != some a.number) }).push .cs))) ∧
    EndsFrom (.aheadIceZone h a) s ((s.consume (aheadFrame h 4 a)).onJobs (fun j =>
      (j.takeSpeed a).setIce { s.jobs.ice with zone := bit a.tail 8 }))

/-! ### SERVICE operations (chapter 12) -/

/-- R181, R183, R186, R187, R195: READ answers the words of its addresses as they are once its frame is consumed (log entry 25): ADDRESS
where one is no word (addresses do not wrap, log entry 27), else POISONED where a table word is uncorrectable, else OK; an address that is no word reads as
FFFFh; the latched high word is delivered where its low word is not read with it, which empties the latch, and the last low
word read without its high word latches that (log entry 29); any other READ leaves the latch. A correctable word is corrected, counted and flagged; an uncorrectable one is marked
once. And what the status window holds, page by page: the items of 13.6 in the order it lists them, each the live value of
its owner, a 32-bit item low half first, and 0 where no item stands. The place of an item within its range, the packing of small
fields and the codes for which 13.3 has none are the model's choice (log entries 7 and 64), and so is the query count an exchange with an ORDER shows (log entry 77). -/
def Obligations.ServiceReads : Prop :=
  (∀ (s : State) (h : Header) (c : SvcControl) (addr : Word) (extra : List Word) (f : Frame) (page n : Nat), Live s →
    f = serviceFrame h 0 c (addr :: extra) → page = c.field.toNat → n = c.cnt.toNat + 1 →
    ∃ (u : State) (ws : List Word) (st : Status), EndsFrom (.serviceRead h c addr extra) s u ∧
      OnlyReads s.jobs u.jobs ∧ u = { s.consume f with jobs := u.jobs, latch := u.latch } ∧
      .frame (readReply h.seq st ws) ∈ u.jobs.out ∧ ws.length = n ∧
      ((∃ i, i < n ∧ isWord page (addr.toNat + i) = false) → st = .address) ∧
      ((∀ i, i < n → isWord page (addr.toNat + i) = true) →
        ((∃ i, i < n ∧ isTableWord (addr.toNat + i) = true ∧ s.jobs.bad (addr.toNat + i) = true) → st = .poisoned) ∧
        ((∀ i, i < n → isTableWord (addr.toNat + i) = true → s.jobs.bad (addr.toNat + i) = false) → st = .ok)) ∧
      (∀ i a, i < n → a = addr.toNat + i → (∀ l, s.latch = some l → l.addr = a → 2 ≤ l.ticks ∨ l.page ≠ page ∨
          ∃ b, lowOf page a = some b ∧ addr.toNat ≤ b ∧ b < addr.toNat + n) →
        (isTableWord a = true → ws[i]? = some (s.jobs.word a)) ∧
        (isWord page a = false → ws[i]? = some 0xFFFF#16) ∧
        (0x1800 ≤ a → a ≤ 0x187F → page ≤ 4 → ws[i]? = some ((s.consume f).statusWord page a)) ∧
        (∀ k r, r < 6 → k < 256 → a = 0x1000 + 6 * k + r →
          ws[i]? = (Store.read CaptureEntry.empty k (s.consume f).cb.mem).words[r]?)) ∧
      (∀ i l, i < n → s.latch = some l → l.ticks < 2 → l.page = page → l.addr = addr.toNat + i →
        (∀ b, lowOf page l.addr = some b → b < addr.toNat ∨ addr.toNat + n ≤ b) → ws[i]? = some l.value) ∧
      (∀ q, page ≤ 4 → ((longItems page).filter (fun q =>
          (span addr.toNat n).contains (0x1800 + q.1) && !(span addr.toNat n).contains (0x1800 + q.2))).getLast? = some q →
        u.latch = some { page := page, addr := 0x1800 + q.2, value := (s.consume f).statusWord page (0x1800 + q.2),
                         ticks := 0 }) ∧
      ((∀ q ∈ longItems page, page ≤ 4 → addr.toNat ≤ 0x1800 + q.1 → 0x1800 + q.1 < addr.toNat + n →
          addr.toNat ≤ 0x1800 + q.2 ∧ 0x1800 + q.2 < addr.toNat + n) →
        (s.latch = none → u.latch = none) ∧
        ∀ l, s.latch = some l →
          (l.ticks < 2 → l.page = page → addr.toNat ≤ l.addr → l.addr < addr.toNat + n →
            (∀ b, lowOf page l.addr = some b → b < addr.toNat ∨ addr.toNat + n ≤ b) → u.latch = none) ∧
          (2 ≤ l.ticks ∨ l.page ≠ page ∨ l.addr < addr.toNat ∨ addr.toNat + n ≤ l.addr ∨
            (∃ b, lowOf page l.addr = some b ∧ addr.toNat ≤ b ∧ b < addr.toNat + n) → u.latch = s.latch))) ∧
  (∀ (s : State) (j : Jobs) (long : Long → List Word) (on : Bool → Nat), j = s.jobs →
    (∀ v, long v = [lowHalf v, highHalf v]) → on false = 0 → on true = 1 →
    Shows s 0 0x1800 (long j.tag ++ [toWord j.dev.code] ++ long s.nu.flags ++ [toWord s.fr.lost,
      toWord (on j.oc.safe + 2 * on j.oc.lowerAll + 4 * on j.oc.hold)]) ∧
    Shows s 0 0x1808 [toWord (j.lmu.state.code + 0x4000 * on j.lmu.last.isSome + 0x8000 * on j.lmu.expected.isSome),
      j.lmu.expected.getD 0, toWord ((j.lmu.window.map (fun w => w.taken)).getD 0), j.lmu.number] ∧
    (∀ r, j.lmu.last = some r → Shows s 0 0x180C ([r.number, BitVec.ofInt 16 r.mean, toWord r.totalRms, toWord r.acRms]
      ++ long (BitVec.ofNat 32 r.freq) ++ [toWord r.periods, toWord r.saturated,
        toWord (on r.broken + 2 * on (decide (0 < r.saturated)))])) ∧
    Shows s 0 0x1818 ([toWord j.lsi.confirmed.code] ++ long j.lsi.since ++ [toWord (lineCode j.lsi.candidate),
      toWord j.lsi.agreement, toWord (lineCode j.lsi.last), toWord (on j.lsi.settling)]) ∧
    Shows s 0 0x1820 ([toWord j.cs.state.code, toWord (reasonCode j.cs.reason),
      toWord ((j.cs.stepOfFailure.map CsState.code).getD 255), toWord (on j.cs.deadSeen),
      toWord (on (decide (j.cs.command = .close))), toWord (on j.cs.pulse), toWord j.fb.brk.code, toWord j.fb.sel.code,
      toWord (lineCode j.cs.expected), toWord (lineCode (j.cs.closingSystem.map Line.system)),
      toWord (on (j.speed.known && !j.speed.aged)), toWord j.speed.kmh] ++ long j.speed.arrival
      ++ [toWord j.speed.lead.code, toWord j.cs.refused]) ∧
    (∀ (a : Nat) (f : Feature), (a = 0x1838 ∧ j.cs.current = some f ∨
        ∃ n, n < 4 ∧ a = 0x1840 + 8 * n ∧ j.cs.list[n]? = some f) →
      Shows s 0 a ([toWord (f.kind.code + 0x100 * on f.dueMark + 0x200 * on f.staleMark + 0x2000 * on f.due.isSome
          + 0x4000 * on f.arrival.isSome + 0x8000),
        toWord ((f.number.getD 0).toNat + 0x8000 * on f.number.isSome
          + match f.target with | .code c => 0x100 * c.toNat | .any => 0x4000)]
        ++ long (f.due.getD 0) ++ long (BitVec.ofNat 32 f.coast) ++ long (f.arrival.getD 0))) ∧
    (∀ x p, p = j.panto x → Shows s 0 (if x = .p1 then 0x1860 else 0x186E) [toWord p.state.code, toWord p.role.code,
      toWord (on p.connected + 2 * on p.height.isSome + 4 * on p.press.isSome + 8 * on p.reached + 16 * on p.burst),
      p.height.getD 0, p.press.getD 0, toWord p.contact, toWord p.loss, toWord p.low, toWord (causeCode p.cause), p.raises,
      toWord p.excess]) ∧
    Shows s 0 0x187C [toWord (j.arcIn .p1).count, toWord (j.arcIn .p2).count, (j.arcIn .p1).stateWord,
      (j.arcIn .p2).stateWord] ∧
    Shows s 1 0x1800 [toWord (j.ice.level.code * 256 + j.ice.mode.code),
      toWord (j.ice.policy.code * 256 + on j.ice.zone + 2 * on j.ice.barred + 4 * on j.ice.temp.isSome
        + 8 * on j.ice.probe.isSome + 16 * on j.ice.last.isSome + 32 * on (j.ice.last.any (fun a => a.temp.isSome))
        + 64 * on (j.ice.last.any (fun a => a.probe.isSome))),
      toWord (j.ice.tally * 256 + j.ice.decay),
      toWord (scraperCode j.ice.scraper * 256 + j.ice.phase1.code * 16 + j.ice.phase2.code), j.ice.temp.getD 0,
      j.ice.probe.getD 0] ∧
    (∀ a, j.ice.last = some a → Shows s 1 0x1806 ([a.temp.getD 0, a.probe.getD 0, toWord a.drop,
      toWord (a.tally * 256 + a.raw.code * 16 + a.level.code)] ++ long a.tag)) ∧
    (∀ (r : OwnedRole) (n : Nat), n + 1 = r.mapRole.index →
      bit (s.statusWord 1 0x1810) n = j.oc.image.get r ∧ bit (s.statusWord 1 0x1811) n = j.presentSending.get r ∧
      (bit (s.statusWord 1 0x1812) n = true ↔ ∃ i, j.oc.frozen = some i ∧ i.get r = true)) ∧
    bit (s.statusWord 1 0x1812) 15 = j.oc.frozen.isSome ∧
    (∀ n, 10 ≤ n → bit (s.statusWord 1 0x1810) n = false ∧ bit (s.statusWord 1 0x1811) n = false ∧
      (n ≠ 15 → bit (s.statusWord 1 0x1812) n = false)) ∧
    (∀ n, n < 16 → (bit (s.statusWord 1 0x1813) n = true ↔ ∃ e, j.oc.table[n]? = some e ∧ e.pending = true)) ∧
    Shows s 1 0x1814 [match j.oc.earth with | .open => 0 | .closed => 1 | .unknown => 2, j.oc.seq.setWidth 16] ∧
    (∀ (n : Nat) (e : PointEntry), n < 11 → j.oc.table[n]? = some e →
      Shows s 1 (0x1824 + 4 * n) [e.point, e.mask, e.lastWord, e.lastSent]) ∧
    (∀ (i : TimerId) (a : Nat) (t : Timer), t = j.timer i →
      (i, a) ∈ [(TimerId.t0, 0x1850), (.t1, 0x1853), (.t2, 0x1856), (.t3, 0x1859), (.t4, 0x185C), (.t5, 0x185F),
        (.t67, 0x1862), (.t89, 0x1868), (.t10, 0x186E), (.t11, 0x1871), (.t12, 0x1874), (.t13, 0x1877), (.t14, 0x187A),
        (.t15, 0x187D)] → ∀ m, m = toWord (on (decide (t.mode = .periodic)) + 2 * on t.running + 4 * on t.held) →
      Shows s 1 a [toWord t.count, toWord t.reload, m] ∧
      ((i = .t67 ∨ i = .t89) → Shows s 1 (a + 3) [toWord (t.count / 65536), toWord (t.reload / 65536), m])) ∧
    (∀ p a v, v = s.port p → a = (if p = .train then 0x1800 else 0x1810) →
      Shows s 2 a [toWord v.mode.code, toWord v.settings.divisor, toWord v.settings.parity.code,
        toWord (on v.settings.twoStops), toWord v.buffers.length, toWord v.parityErrors, toWord v.framingErrors,
        toWord v.overruns, toWord v.checkErrors, toWord (v.lastMeasured.getD 0), toWord v.runCount,
        toWord (v.locked.getD 0)]) ∧
    (∀ p a c, c = s.fr.counters p → a = (if p = .train then 0x1820 else 0x1834) →
      Shows s 2 a (long c.received ++ long c.forwarded ++ long c.consumed ++ long c.dropped ++ long c.misdirected
        ++ long c.unclaimed ++ long c.blocked ++ long c.queueFull ++ long c.stray ++ long c.originated)) ∧
    Shows s 2 0x1848 [toWord s.fr.up.length, toWord s.fr.down.length, toWord s.fr.share] ∧
    Shows s 2 0x1850 [toWord s.rb.slot.code] ∧
    (∀ e, s.rb.exchange = some e → Shows s 2 0x1851 [toWord (e.kind.code + 0x8000), toWord e.node, e.point,
      e.seq.setWidth 16, toWord e.queryCount, toWord (on e.answerBegun)]) ∧
    Shows s 2 0x1857 ([toWord s.rb.lastKind.code, toWord s.rb.cursor] ++ long (BitVec.ofNat 32 s.rb.pass)
      ++ [s.rb.pollSeq.setWidth 16]) ∧
    Shows s 2 0x1860 ([toWord j.tm.corrected, toWord j.tm.scrub, toWord s.cb.state.code,
      toWord (s.cb.mode.code + 0x100 * on s.cb.unmatched)] ++ s.cb.trigger.words ++ [toWord s.cb.post,
      toWord s.cb.remaining, toWord s.cb.frameIndex, toWord s.cb.eventIndex,
      toWord ((s.cb.place.map (fun p => p.1)).getD 0 + 0x8000 * on s.cb.place.isSome)]
      ++ long ((s.cb.place.map (fun p => p.2)).getD 0)) ∧
    (∀ n, 1 ≤ n → n ≤ 62 →
      s.statusWord 3 (0x17FF + n) = toWord ((j.node n).state.code * 256 + (j.node n).missed) ∧
      Shows s 4 (0x1800 + 2 * (n - 1)) (long ((j.node n).last.getD 0xFFFFFFFF))) ∧
    (∀ page first last a, first ≤ a → a ≤ last →
      ((page, first, last) ∈ [(0, 0x1807, 0x1807), (0, 0x1815, 0x1817), (0, 0x181F, 0x181F), (0, 0x1830, 0x1837),
          (0, 0x186B, 0x186D), (0, 0x1879, 0x187B), (1, 0x180C, 0x180F), (1, 0x1816, 0x1823), (2, 0x180C, 0x180F),
          (2, 0x181C, 0x181F), (2, 0x184B, 0x184F), (2, 0x185C, 0x185F), (2, 0x186E, 0x187F), (3, 0x183E, 0x187F),
          (4, 0x187C, 0x187F)] ∨
        j.lmu.last = none ∧ (page, first, last) = (0, 0x180C, 0x1814) ∨
        j.cs.current = none ∧ (page, first, last) = (0, 0x1838, 0x183F) ∨
        (page, first, last) = (0, 0x1840 + 8 * j.cs.list.length, 0x185F) ∨
        j.ice.last = none ∧ (page, first, last) = (1, 0x1806, 0x180B) ∨
        (page, first, last) = (1, 0x1824 + 4 * j.oc.table.length, 0x184F) ∨
        s.rb.exchange = none ∧ (page, first, last) = (2, 0x1851, 0x1856)) → s.statusWord page a = 0) ∧
    ∀ page a, (page = 2 ∧ (a = 0x184B ∨ 0x186F ≤ a) ∨ page = 3 ∧ 0x183E ≤ a ∨ page = 4 ∧ 0x187C ≤ a) →
      s.statusWord page a = 0) ∧
  ∀ (j : Jobs) (a : Nat) (w : TWord), Store.wf {} j.tm.mem = true → w = j.cell a →
    (∀ b, b ≠ a → (j.touch a).cell b = j.cell b) ∧
    (w.mark = false → inverted w.check = 0 → j.touch a = j) ∧ (w.mark = true → j.touch a = j) ∧
    (w.mark = false → inverted w.check = 1 →
      (j.touch a).cell a = { data := w.data } ∧ (j.touch a).tm.corrected = min 255 (j.tm.corrected + 1) ∧
      (j.touch a).out = j.out ++ [.flag .tableCorrected (BitVec.ofNat 16 a) j.dev j.lsi.confirmed]) ∧
    (w.mark = false → 2 ≤ inverted w.check →
      (j.touch a).cell a = { w with mark := true } ∧ (j.touch a).tm.corrected = j.tm.corrected ∧
      (j.touch a).out = j.out ++ [.flag .tablePoisoned (BitVec.ofNat 16 a) j.dev j.lsi.confirmed])

/-- R182, R185, R186, R140: WRITE stores its words at the addresses it may write, in ascending order, and each is good
from then on; ADDRESS where one may not be written; with the roof tables locked it writes nothing and is answered
LOCKED. A stored roof settings word is applied at once while the exchange slot is IDLE, and else after the exchange; one of
divisor 0 is a SETTING error, is not applied, and cancels an application that waits for the end of an exchange (the model's
reading, log entry 32; addresses do not wrap, log entry 27). An application that the end of an exchange has made due is made
before the word is stored anew (log entry 70). What a WRITE does
beyond storing (R103, R160, R16, R190): a point map word rebuilds the point image table, which in RUN marks every point; a
word of the LINE_V entry restarts measurement in RUN; the status period word acts on T13 at once in RUN. CHECK_WRITE stores
one word with its check bits inverted by the pattern, and has none of these effects (the model's reading, log entry 21).
That the effects of a WRITE come once, after its words, is the model's (log entry 19). Each is answered where a reply is
wanted or the status is not OK. -/
def Obligations.ServiceWrites : Prop :=
  (∀ (s : State) (h : Header) (c : SvcControl) (addr : Word) (data : List Word) (n : Nat) (locked : Bool), Live s →
    n = c.cnt.toNat + 1 → n ≤ data.length →
    (locked = true ↔ (∃ i, i < n ∧ regionOf (addr.toNat + i) = .roof) ∧ s.jobs.dev = .run ∧ s.jobs.oc.safe = false) →
    ∃ u : State, EndsFrom (.serviceWrite h c addr data) s u ∧ u.rb = s.rb ∧ u.nu = s.nu ∧ u.latch = s.latch ∧
      u.fr.up = s.fr.up ∧ u.fr.down = s.fr.down ∧ u.jobs.dev = s.jobs.dev ∧ u.jobs.tag = s.jobs.tag ∧
      u.jobs.nodes = s.jobs.nodes ∧ u.jobs.cs = s.jobs.cs ∧ u.jobs.p1 = s.jobs.p1 ∧ u.jobs.p2 = s.jobs.p2 ∧
      (locked = true → OnlyReads s.jobs u.jobs ∧ u.roof = s.roof ∧
        .frame (serviceReply h.seq 1 .locked) ∈ u.jobs.out ∧
        ∀ a, u.jobs.word a = s.jobs.word a ∧ u.jobs.bad a = s.jobs.bad a) ∧
      (locked = false →
        (∀ a, (addr.toNat ≤ a ∧ a < addr.toNat + n ∧ writable a = true →
            u.jobs.word a = data.getD (a - addr.toNat) 0 ∧ u.jobs.bad a = false) ∧
          (a < addr.toNat ∨ addr.toNat + n ≤ a ∨ writable a = false →
            u.jobs.word a = s.jobs.word a ∧ u.jobs.bad a = s.jobs.bad a)) ∧
        ((∀ i, i < n → writable (addr.toNat + i) = true) → c.reply = true →
          .frame (serviceReply h.seq 1 .ok) ∈ u.jobs.out) ∧
        ((∃ i, i < n ∧ writable (addr.toNat + i) = false) → .frame (serviceReply h.seq 1 .address) ∈ u.jobs.out) ∧
        (∀ (m : Nat) (wrote : Nat → Prop), (∀ a, wrote a ↔ addr.toNat ≤ a ∧ a < addr.toNat + n ∧ writable a = true) →
          m = (u.jobs.word 4).toNat →
          ((∃ a, 0x090 ≤ a ∧ a ≤ 0x0B9 ∧ wrote a) → u.jobs.oc = { s.jobs.oc with table := u.jobs.oc.table } ∧
            Rebuilt s.jobs.oc (s.jobs.dev == .run) u.jobs) ∧
          ((∀ a, 0x090 ≤ a → a ≤ 0x0B9 → ¬ wrote a) → u.jobs.oc = s.jobs.oc) ∧
          (s.jobs.dev = .run → (wrote 0x090 ∨ wrote 0x091) → u.jobs.lmu = { state := .waiting } ∧
            (u.jobs.timer .t15).loaded 200 .oneShot) ∧
          ((s.jobs.dev = .config ∨ (¬ wrote 0x090 ∧ ¬ wrote 0x091)) → u.jobs.lmu = s.jobs.lmu ∧
            u.jobs.timer .t15 = s.jobs.timer .t15) ∧
          (s.jobs.dev = .run → wrote 4 →
            (m = 0 → (u.jobs.timer .t13).stopped) ∧
            (0 < m → (s.jobs.timer .t13).running = true → u.jobs.timer .t13 = { s.jobs.timer .t13 with reload := m }) ∧
            (0 < m → (s.jobs.timer .t13).running = false → (u.jobs.timer .t13).loaded m .periodic)) ∧
          ((s.jobs.dev = .config ∨ ¬ wrote 4) → u.jobs.timer .t13 = s.jobs.timer .t13) ∧
          OtherTimers [.t13, .t15] s.jobs u.jobs ∧ u.jobs.lsi = s.jobs.lsi ∧ .look ∈ u.jobs.todo) ∧
        (1 < addr.toNat → u.roof = s.roof) ∧
        ∀ w, addr.toNat ≤ 1 → 1 < addr.toNat + n → data[1 - addr.toNat]? = some w →
          (bits w 8 8 ≠ 0 →
            (RoofFree s → u.roof = s.roof.applied (settingsOf w)) ∧
            (¬ RoofFree s → u.roof = { s.roof with applyWord := true })) ∧
          (bits w 8 8 = 0 → Flagged .roofLinkError 4 u.jobs.out ∧
            (s.roof.applyWord = true → RoofFree s → s.jobs.roofWord.divisor ≠ 0 →
              u.roof = s.roof.applied s.jobs.roofWord) ∧
            ((s.roof.applyWord = false ∨ ¬ RoofFree s ∨ s.jobs.roofWord.divisor = 0) →
              u.roof = { s.roof with applyWord := false })))) ∧
  ∀ (s : State) (h : Header) (c : SvcControl) (addr data : Word) (extra : List Word) (a : Nat), Live s → a = addr.toNat →
    ∃ u : State, EndsFrom (.serviceCheckWrite h c addr data extra) s u ∧ OnlyReads s.jobs u.jobs ∧
      u = { s.consume (serviceFrame h 2 c (addr :: data :: extra)) with jobs := u.jobs, roof := u.roof } ∧
      ((a ≠ 1 ∨ s.roof.applyWord = false ∨ ¬ RoofFree s) → u.roof = s.roof) ∧
      (a = 1 → s.roof.applyWord = true → RoofFree s →
        (s.jobs.roofWord.divisor ≠ 0 → u.roof = s.roof.applied s.jobs.roofWord) ∧
        (s.jobs.roofWord.divisor = 0 → u.roof = { s.roof with applyWord := false } ∧
          Flagged .roofLinkError 4 u.jobs.out)) ∧
      (∀ b, b ≠ a → u.jobs.word b = s.jobs.word b ∧ u.jobs.bad b = s.jobs.bad b) ∧
      (writable a = true → (regionOf a = .live ∨ s.jobs.dev = .config ∨ s.jobs.oc.safe = true) →
        u.jobs.cell a = { data := data, check := c.field } ∧
        (c.reply = true → .frame (serviceReply h.seq 2 .ok) ∈ u.jobs.out)) ∧
      (regionOf a = .roof → s.jobs.dev = .run → s.jobs.oc.safe = false → u.jobs.word a = s.jobs.word a ∧
        .frame (serviceReply h.seq 2 .locked) ∈ u.jobs.out) ∧
      (writable a = false → u.jobs.word a = s.jobs.word a ∧ .frame (serviceReply h.seq 2 .address) ∈ u.jobs.out)

/-- R178, R176, R186: CLEAR_FLAGS clears the flags its mask names, bits 27 to 31 ignored; REARM, once what
the taking of its own frame has to report is delivered (the model's reading of R175 and R177, log entry 23), takes the
capture settings words, each by its fields of 13.4 and by its default where it is uncorrectable, and starts in ARMED with
the entries kept (the index that the new mode does not use keeps its value,
the model's choice, log entry 57); a frame that names no operation or is too short for its own is
answered ADDRESS whatever it asks, in the one-word form also for a READ (log entry 63; for one with no word at all the
operation in that answer is the free value of log entry 1). A CAPTURE_FROZEN that the frame of a CLEAR_FLAGS causes is set
at the step's end, after the clear (log entry 62). -/
def Obligations.FlagsAndRearm : Prop :=
  (∀ (s : State) (h : Header) (c : SvcControl) (addr low high : Word) (extra : List Word) (f : Frame),
    s.inReset = false → f = serviceFrame h 3 c (addr :: low :: high :: extra) →
    ∃ u : State, EndsFrom (.serviceClearFlags h c addr low high extra) s u ∧
      u = ((s.consume f).setNu { s.nu with flags := u.nu.flags }).onJobs
        (fun j => if c.reply then j.report (.frame (serviceReply h.seq 3 .ok)) else j) ∧
      ∀ n, u.nu.flags.getLsbD n = (s.nu.flags.getLsbD n &&
        !(if n < 16 then low.getLsbD n else if n < 27 then high.getLsbD (n - 16) else false))) ∧
  (∀ (s : State) (h : Header) (c : SvcControl) (extra : List Word) (f : Frame) (d : State) (b : Capture)
    (m : CaptureMode), Live s →
    f = serviceFrame h 4 c extra → d = (s.consume f).drain 1024 → b = d.cb → m = captureMode (bits (s.jobs.param 5 0) 0 2) →
    ∃ u : State, EndsFrom (.serviceRearm h c extra) s u ∧ OnlyReads s.jobs u.jobs ∧
      u = { d with jobs := u.jobs, cb := u.cb } ∧
      u.cb = { mem := b.mem, mode := m, unmatched := bit (s.jobs.param 5 0) 8,
               trigger := triggerOf (s.jobs.param 6 0) (s.jobs.param 7 0) (s.jobs.param 8 0),
               post := min 255 (s.jobs.param 9 0).toNat, state := .armed, remaining := 0, place := none,
               frameIndex := if b.mode = m ∨ m = .events then b.frameIndex else 0,
               eventIndex := if b.mode = m ∨ m = .frames then b.eventIndex else if m = .mixed then 128 else 0 } ∧
      (c.reply = true → .frame (serviceReply h.seq 4 .ok) ∈ u.jobs.out)) ∧
  (∀ n : Nat, (captureMode n = .frames ↔ n = 1) ∧ (captureMode n = .events ↔ n = 2) ∧
    (captureMode n = .mixed ↔ n ≠ 1 ∧ n ≠ 2)) ∧
  (∀ (descriptor point mask : Word) (t : Trigger), t = triggerOf descriptor point mask →
    ((bits descriptor 14 2 = 0 ∨ bits descriptor 14 2 = 3) → t = .disabled) ∧
    (bits descriptor 14 2 = 2 → t = .event (bits descriptor 0 5)) ∧
    (bits descriptor 14 2 = 1 → ∃ (d : Option Direction) (k : Option Kind), t = .frame d k point mask ∧
      (d = some .up ↔ bits descriptor 12 2 = 1) ∧ (d = some .down ↔ bits descriptor 12 2 = 2) ∧
      (d = none ↔ bits descriptor 12 2 = 0 ∨ bits descriptor 12 2 = 3) ∧
      (∀ x : Kind, k = some x ↔ x.code = bits descriptor 8 4) ∧ (k = none ↔ 8 ≤ bits descriptor 8 4))) ∧
  (∀ (j : Jobs) (i : Nat) (default : Word), (j.bad i = true → j.param i default = default) ∧
    (j.bad i = false → j.param i default = j.word i)) ∧
  ∀ (s : State) (h : Header) (payload : List Word), s.inReset = false →
    EndsFrom (.serviceUnknown h payload) s ((s.consume (h.frame .service payload)).onJobs
      (fun j => j.report (.frame (serviceReply h.seq
        (match payload with | [] => (Config.unstatedOperation h.seq).toNat | w :: _ => bits w 13 3) .address))))

/-- R191, R168, R170, R16, R83, R103, R108, R160, R190: COMMISSION outside CONFIG is answered STATE; the first of the six
checks that fails answers CHECK_FAIL with its number and nothing starts; with all six passed the part is in RUN (a check
ends at the first word it finds uncorrectable, and fails: the model's reading, log entry 58): the exchange in progress
abandoned, every node a usable poll slot names WAITING and no other in use, the LMU waiting for samples, the point image
table rebuilt from the point map with no point pending and every word 0, and the timers of the LMU, the IC, the OC and,
but for a status period of 0, the NU running. The values of the CS, the speed record and the feedbacks beyond those of R58
are the model's choice (log entry 8). -/
def Obligations.Commissioning : Prop :=
  (∀ j : Jobs, j.failedCheck = none ↔ ∀ n, 1 ≤ n → n ≤ 6 → CheckPasses j n) ∧
  (∀ (j : Jobs) (n : Nat), j.failedCheck = some n ↔
    1 ≤ n ∧ n ≤ 6 ∧ ¬ CheckPasses j n ∧ ∀ m, 1 ≤ m → m < n → CheckPasses j m) ∧
  ∀ (s : State) (h : Header) (c : SvcControl) (extra : List Word) (f : Frame), Live s → f = serviceFrame h 5 c extra →
    (s.jobs.dev = .run → EndsFrom (.serviceCommission h c extra) s
      ((s.consume f).onJobs (fun j => j.report (.frame (serviceReply h.seq 5 .state))))) ∧
    (∀ n, s.jobs.dev = .config → s.jobs.failedCheck = some n → ∃ j : Jobs, OnlyReads s.jobs j ∧
      EndsFrom (.serviceCommission h c extra) s ((s.consume f).setJobs j) ∧
      .frame (serviceReply h.seq 5 (.checkFail n)) ∈ j.out) ∧
    (s.jobs.dev = .config → s.jobs.failedCheck = none → ∃ u : State, EndsFrom (.serviceCommission h c extra) s u ∧
      u.jobs.dev = .run ∧ u.rb = {} ∧ u.fr.down = s.fr.down ∧ u.fr.up = s.fr.up ∧ u.latch = s.latch ∧ u.nu = s.nu ∧
      u.jobs.cs = {} ∧ u.jobs.ice = {} ∧ u.jobs.speed = {} ∧ u.jobs.fb = {} ∧ u.jobs.lsi = { since := s.jobs.tag } ∧
      u.jobs.lmu = { state := .waiting } ∧ u.jobs.p1 = s.jobs.p1 ∧ u.jobs.p2 = s.jobs.p2 ∧ u.jobs.arc = s.jobs.arc ∧
      u.jobs.tag = s.jobs.tag ∧ (u.jobs.timer .t15).loaded 200 .oneShot ∧ (u.jobs.timer .t14).loaded 20 .periodic ∧
      (u.jobs.timer .t10).loaded (max 1000 (s.jobs.iceParam 12).toNat) .periodic ∧
      (∀ n, n = (s.jobs.param 4 100).toNat → (n ≠ 0 → (u.jobs.timer .t13).loaded n .periodic) ∧
        (n = 0 → (u.jobs.timer .t13).stopped ∧
          ((s.jobs.timer .t13).stopped → u.jobs.timer .t13 = s.jobs.timer .t13))) ∧
      (∀ x, (s.jobs.panto x).state = .lowering → (s.jobs.timer x.stepTimer).running = false →
        (s.jobs.timer x.stepTimer).count = 0 →
        (u.jobs.timer x.stepTimer).loaded (timing (s.jobs.pantoParam x 6)) .oneShot) ∧
      OtherTimers [.t2, .t3, .t10, .t13, .t14, .t15] s.jobs u.jobs ∧
      (∀ m, (u.jobs.node m).missed = 0 ∧ (u.jobs.node m).last = none ∧
        ((∃ i, i < 32 ∧ s.jobs.slotUsable i = true ∧ s.jobs.slotNode i = m) → (u.jobs.node m).state = .waiting) ∧
        ((∀ i, i < 32 → s.jobs.slotUsable i = true → s.jobs.slotNode i ≠ m) → (u.jobs.node m).state = .unused)) ∧
      u.jobs.oc = { table := u.jobs.oc.table } ∧ Rebuilt {} false u.jobs ∧
      (∀ e ∈ u.jobs.oc.table, e.pending = false ∧ e.lastWord = 0) ∧
      (∀ a, u.jobs.word a = s.jobs.word a ∧ u.jobs.bad a = s.jobs.bad a) ∧
      (c.reply = true → .frame (serviceReply h.seq 5 .ok) ∈ u.jobs.out))

/-- R192: RESTART in RUN with SAFE not asserted is answered STATE; else the roof jobs are at their resets, in CONFIG, with
the tables, the time tag and each pantograph's cause kept, once what the taking of its own frame has to report is
delivered (the model's reading, log entry 23); the point image table is rebuilt with no point pending and every word 0
(R103, R160); the exchange is abandoned, the downstream queue and the latch
emptied, the capture buffer rearmed, and RESTARTED set with the device state left; a train port in DISCOVERY restarts by
its word, a RUNNING one keeps running and will apply changed settings (R139), also one that is not transmitting at a later
step (the model's choice, log entry 79). The values of the CS, the speed record and the
feedbacks beyond those of R58 are the model's choice (log entry 8), and so are the settings in use of a train port in
DISCOVERY (log entry 78). -/
def Obligations.Restarting : Prop :=
  ∀ (s : State) (h : Header) (c : SvcControl) (extra : List Word) (f : Frame) (d : State), Live s →
    f = serviceFrame h 6 c extra → d = (s.consume f).drain 1024 →
    (s.jobs.dev = .run → s.jobs.oc.safe = false → EndsFrom (.serviceRestart h c extra) s
      ((s.consume f).onJobs (fun j => j.report (.frame (serviceReply h.seq 6 .state))))) ∧
    ((s.jobs.dev = .config ∨ s.jobs.oc.safe = true) → ∃ u : State, EndsFrom (.serviceRestart h c extra) s u ∧
      u.jobs = { ({} : Jobs) with tag := s.jobs.tag, tm := u.jobs.tm, lsi := { since := s.jobs.tag },
                                  p1 := { cause := s.jobs.p1.cause }, p2 := { cause := s.jobs.p2.cause },
                                  oc := { table := u.jobs.oc.table }, todo := u.jobs.todo, out := u.jobs.out } ∧
      Rebuilt {} false u.jobs ∧
      u.rb = {} ∧ u.fr.down = [] ∧ u.fr.up = d.fr.up ∧ u.fr.roof = s.fr.roof ∧ u.latch = none ∧ u.nu = d.nu ∧
      u.cb.state = .armed ∧ u.cb.mem = d.cb.mem ∧
      Flagged .restarted (BitVec.ofNat 16 s.jobs.dev.code) u.jobs.out ∧
      (∀ a, u.jobs.word a = s.jobs.word a ∧ u.jobs.bad a = s.jobs.bad a) ∧
      (∀ n, n = (if s.jobs.bad 0 then trainDefault else settingsOf (s.jobs.word 0)) →
        (s.train.mode = .stopped → u.train.mode = .stopped ∧ u.train.settings = s.train.settings) ∧
        (s.train.mode = .discovery → u.train.settings = n ∧
          u.train.mode = if n.divisor = 0 then .discovery else .running) ∧
        (s.train.mode = .running → u.train.mode = .running ∧ u.train.settings = s.train.settings ∧
          ∀ n', n' = { n with divisor := if n.divisor = 0 then s.train.settings.divisor else n.divisor } →
            u.train.newSettings = if n' = s.train.settings then none else some n')) ∧
      (c.reply = true → .frame (serviceReply h.seq 6 .ok) ∈ u.jobs.out))

/-! ### Time (chapter 7) -/

/-- R116, R119, R123, R183, R184, R187, R33, R37: SCRUB_READ, which the model takes for the tick it belongs to (its choice,
log entry 3): the time tag advances, every timer that runs and is not held counts down and at its end hands over an expiry
with the tag of that tick (log entry 4), the latch ages, the speed ages at 2,000 ms, the entries of the feature list take their marks, and the
scrubber reads the address its pointer holds, which corrects a correctable word with TABLE_CORRECTED and marks an
uncorrectable one, not yet marked, with TABLE_POISONED, and moves to the next of the 512. -/
def Obligations.TickOfTime : Prop :=
  (∀ (s : State) (b : Jobs) (a : Nat), s.inReset = false →
    b = (if s.jobs.cs.list = [] then s.jobs else s.jobs.touch 0x158) → a = s.jobs.tm.scrub →
    ∃ u : State, EndsFrom .scrubRead s u ∧
      u = { s with jobs := u.jobs, latch := s.latch.map (fun l => { l with ticks := l.ticks + 1 }) } ∧
      u.jobs = { s.jobs with tag := s.jobs.tag + 1, tmr := u.jobs.tmr, speed := u.jobs.speed,
                             cs := { s.jobs.cs with list := u.jobs.cs.list }, tm := u.jobs.tm, todo := u.jobs.todo,
                             out := u.jobs.out } ∧
      u.jobs.tm = { (b.touch a).tm with scrub := (a + 1) % 512 } ∧ (∀ i, u.jobs.timer i = (s.jobs.timer i).tick (s.jobs.tag + 1)) ∧
      u.jobs.speed = { s.jobs.speed with
        aged := s.jobs.speed.aged
          || (s.jobs.speed.known && decide (2000 ≤ tagDiff (s.jobs.tag + 1) s.jobs.speed.arrival)) } ∧
      u.jobs.cs.list = s.jobs.cs.list.map (Feature.age (s.jobs.tag + 1) (timing (s.jobs.changeover 8))) ∧
      (StoresWf s → ∀ w : TWord, w = b.cell a →
        (∀ c, c ≠ a → u.jobs.cell c = b.cell c) ∧
        (w.mark = false → inverted w.check = 1 → u.jobs.cell a = { data := w.data } ∧
          u.jobs.tm.corrected = min 255 (b.tm.corrected + 1) ∧ Flagged .tableCorrected (BitVec.ofNat 16 a) u.jobs.out) ∧
        (w.mark = false → 2 ≤ inverted w.check → u.jobs.cell a = { w with mark := true } ∧
          Flagged .tablePoisoned (BitVec.ofNat 16 a) u.jobs.out) ∧
        ((w.mark = true ∨ inverted w.check = 0) → u.jobs.cell a = w))) ∧
  ∀ (tag : Long) (t : Timer),
    ((t.running = false ∨ t.held = true ∨ t.count = 0) → t.tick tag = t) ∧
    (t.running = true → t.held = false →
      (2 ≤ t.count → t.tick tag = { t with count := t.count - 1 }) ∧
      (t.count = 1 → t.mode = .oneShot → t.tick tag = { t with count := 0, running := false, owed := t.owed ++ [tag] }) ∧
      (t.count = 1 → t.mode = .periodic → t.tick tag = { t with count := t.reload, owed := t.owed ++ [tag] }))

/-- R40 to R53: the changeover. What each state of the CS tests and where it goes; what it makes of lower-all, of the loss
of its collector, of a change of the confirmed system and of the breaker feedback; and its step timers: one that has
expired in a step ends it in HOLD, with the reason of that step and that step as the step of failure, the command OPEN and
its pulse and the selector outputs off. Each change is answered in the order of its cause, within its step (log entry 6),
the due-time check being made at a change of the CS's own (log entry 12); ARMED, when its staleness test has emptied the list, is
thus left for IDLE again within the step. A NEUTRAL feature has target ANY (log entry 13),
a target that names no usable entry ends a step in MISMATCH (log entry 15), SELECTING tests the breaker first (log entry
36) and keeps the position asserted at entry (log entry 71), an ENERGISE feature has coast time 0 (log entry 72), and of EITHER a raised pantograph is taken first (log entry 42). A lost collector gives HOLD(PANTOGRAPH) with the
present step, whether or not lower-all is on (the reading of R50 in log entry 14), and a CS state carried as subject is the
state before the transition (log entry 35); CLOSING tests the close law before the feedback (log entry 66). Without an expiry (log entry 4), or in a state that
starts no step, the timers' steps have no effect (log entry 9). -/
def Obligations.ChangeoverTimeouts : Prop :=
  (∀ (n : Nat) (j : Jobs) (c : Change) (rest : List Change), j.dev = .run → j.todo = c :: rest →
    j.pump (n + 1) = ((((j.setTodo rest).ocReact).react c).levels).pump n) ∧
  (∀ (due : Bool) (j k : Jobs), Store.wf {} j.tm.mem = true → k = j.csTest due →
    (j.cs.state = .idle →
      ((j.cs.list = [] ∨ j.lsi.confirmed.isSystem = false) → k = j) ∧
      (j.cs.list ≠ [] → j.lsi.confirmed.isSystem = true →
        k.cs = { j.cs with state := .armed, list := j.cs.list.filter (fun g => !g.staleMark) } ∧ k.todo = j.todo ++ [.cs] ∧
        (∀ g ∈ j.cs.list, g.staleMark = true → Flagged .featureDiscarded (BitVec.ofNat 16 g.subject) k.out) ∧
        ((∀ g ∈ j.cs.list, g.staleMark = true) → (k.csReact .cs).cs = { j.cs with state := .idle, list := [] } ∧
          ((k.csReact .cs).timer .t0).stopped))) ∧
    (j.cs.state = .armed →
      (j.cs.list = [] → k.cs = { j.cs with state := .idle } ∧ (k.timer .t0).stopped) ∧
      ∀ f rest, j.cs.list = f :: rest →
        ((due = false ∨ f.dueMark = false ∨ j.oc.hold = true) → k = j) ∧
        (due = true → f.dueMark = true → j.oc.hold = false →
          (j.lsi.confirmed.isSystem = true →
            k.cs = { j.cs with state := .opening, list := rest, current := some f, expected := some j.lsi.confirmed,
                               deadSeen := false, command := .open, pulse := false } ∧
            (k.timer .t0).loaded (timing (j.changeover 2)) .oneShot) ∧
          (j.lsi.confirmed.isSystem = false → HeldFor .identify .armed k ∧ k.cs.list = rest ∧
            k.cs.current = some f ∧ k.cs.expected = some j.lsi.confirmed))) ∧
    (j.cs.state = .opening →
      (j.fb.brk ≠ .open → k = j) ∧
      (j.fb.brk = .open → ∀ coast, coast = (j.cs.current.map (fun f => f.coast)).getD 0 →
        k.cs = { j.cs with state := .coasting, deadSeen := decide (j.lsi.confirmed = .dead),
                           coastEnded := decide (coast = 0) } ∧
        (0 < coast → (k.timer .t1).loaded (min coast 65535) .oneShot ∧ (k.timer .t0).stopped) ∧
        (coast = 0 → j.crossing = false → j.cs.expected ≠ some j.lsi.confirmed → j.lsi.confirmed.isSystem = false →
          (k.timer .t0).loaded (timing (j.changeover 6)) .oneShot))) ∧
    (j.cs.state = .coasting →
      (j.cs.coastEnded = false → j.cs.deadSeen = false → j.lsi.confirmed ≠ .dead → k = j) ∧
      ((j.cs.coastEnded = true ∨ j.cs.deadSeen = true ∨ j.lsi.confirmed = .dead) →
        (j.crossing = false →
          (j.cs.expected = some j.lsi.confirmed → EntersClosing j k) ∧
          (j.cs.expected ≠ some j.lsi.confirmed → j.lsi.confirmed.isSystem = true → HeldFor .mismatch .coasting k) ∧
          (j.cs.expected ≠ some j.lsi.confirmed → j.lsi.confirmed.isSystem = false →
            k.cs.state = .coasting ∧ k.cs.coastEnded = true)) ∧
        (j.crossing = true →
          (j.targetEntry = none → HeldFor .mismatch .coasting k) ∧
          ∀ e, j.targetEntry = some e →
            (j.needsRoof e = true → EntersLowering j k) ∧
            (j.needsRoof e = false → EntersIdentifying j k ∧ Reidentifies j k)))) ∧
    (j.cs.state = .lowering →
      ((j.p1.state ≠ .lowered ∨ j.p2.state ≠ .lowered) → k = j) ∧
      (j.p1.state = .lowered → j.p2.state = .lowered →
        (j.targetEntry = none → HeldFor .mismatch .lowering k) ∧
        ∀ e, j.targetEntry = some e →
          (j.fb.sel.at (j.lineSelector e) = true → EntersRaising j k) ∧
          (j.fb.sel.at (j.lineSelector e) = false → EntersSelecting j k))) ∧
    (j.cs.state = .selecting →
      (j.fb.brk ≠ .open → HeldFor .breaker .selecting k) ∧
      (j.fb.brk = .open → (j.p1.state ≠ .lowered ∨ j.p2.state ≠ .lowered) → HeldFor .pantograph .selecting k) ∧
      (j.fb.brk = .open → j.p1.state = .lowered → j.p2.state = .lowered → ∀ pos, j.cs.selOut = some pos →
        (j.fb.sel.at pos = true → EntersRaising j k ∧ k.cs.selOut = none) ∧
        (j.fb.sel.at pos = false → (j.fb.sel = .illegal → HeldFor .selector .selecting k) ∧
          (j.fb.sel ≠ .illegal → k = j)))) ∧
    (j.cs.state = .raising → ∀ x, j.cs.chosen = some x →
      ((j.panto x).state ≠ .inContact → k = j) ∧
      ((j.panto x).state = .inContact → EntersIdentifying j k ∧ Reidentifies j k)) ∧
    (j.cs.state = .identifying →
      (j.lsi.confirmed = .pending → k = j) ∧
      (∀ c, j.csTarget = .code c → j.lsi.confirmed ≠ .pending → j.lsi.confirmed ≠ .none →
        (∀ e, j.resolve c = some e → j.lsi.confirmed = .system e → EntersClosing j k) ∧
        ((∀ e, j.resolve c = some e → j.lsi.confirmed ≠ .system e) → HeldFor .mismatch .identifying k)) ∧
      (j.csTarget = .any →
        (j.lsi.confirmed = .dead → HeldFor .dead .identifying k) ∧
        (j.lsi.confirmed = .unknown → HeldFor .identify .identifying k) ∧
        ∀ e, j.lsi.confirmed = .system e → j.lineUsable e = true →
          (∀ f, j.cs.current = some f → k.cs.current
            = some { f with target := .code (BitVec.ofNat 4 (j.lineCode e)), adopted := true }) ∧
          (j.needsRoof e = true → EntersLowering j k) ∧
          (j.needsRoof e = false → ∀ j' : Jobs, j' = j.adoptTarget e → EntersClosing j' k))) ∧
    (j.cs.state = .closing →
      (∀ r, j.closeFailure = some r → (r = .pantograph → ∀ x, j.collector = some x → (j.panto x).state ≠ .raising) →
        HeldFor r .closing k) ∧
      (j.closeFailure = some .pantograph → ∀ x, j.collector = some x → (j.panto x).state = .raising →
        EntersRaising j k ∧ k.cs.command = .open) ∧
      (j.closeFailure = none → j.fb.brk ≠ .closed → OnlyReads j k) ∧
      (j.closeFailure = none → j.fb.brk = .closed →
        k.cs = { j.cs with state := .idle, pulse := false, current := none, expected := none,
                           closingSystem := j.lsi.confirmed.index } ∧ (k.timer .t0).stopped ∧
        Flagged .changeoverDone (BitVec.ofNat 16 CsState.closing.code) k.out)) ∧
    (j.cs.state = .hold → k = j)) ∧
  (∀ (j : Jobs) (e : Fin 8),
    (j.oc.lowerAll = true → j.closeFailure = some .lowerAll) ∧
    (j.oc.lowerAll = false →
      ((∀ x, j.collector = some x → (j.panto x).state ≠ .inContact) → j.closeFailure = some .pantograph) ∧
      ∀ x, j.collector = some x → (j.panto x).state = .inContact →
        (j.lsi.confirmed.isSystem = false → j.closeFailure = some .mismatch) ∧
        (j.lsi.confirmed = .system e →
          (j.lineUsable e = false → j.closeFailure = some .mismatch) ∧
          (j.lineUsable e = true → ∀ meets : Bool,
            (j.cs.current = none → meets = true) →
            (∀ f, j.cs.current = some f → f.kind = .neutral →
              (meets = true ↔ j.cs.expected = some (.system e))) →
            (∀ f, j.cs.current = some f → f.kind ≠ .neutral →
              (meets = true ↔ f.target = .any ∨ ∃ c, f.target = .code c ∧ j.resolve c = some e)) →
            (meets = false → j.closeFailure = some .mismatch) ∧
            (meets = true → j.fb.sel.at (j.lineSelector e) = false → j.closeFailure = some .selector) ∧
            (meets = true → j.fb.sel.at (j.lineSelector e) = true → j.closeFailure = none)))) ∧
    (j.needsRoof e = true ↔ (j.lineSet e = 1 ∧ j.collector ≠ some .p1) ∨ (j.lineSet e = 2 ∧ j.collector ≠ some .p2) ∨
      (j.lineSet e ≠ 1 ∧ j.lineSet e ≠ 2 ∧ j.collector = none) ∨ j.fb.sel.at (j.lineSelector e) = false) ∧
    (∀ c, j.csTarget = .code c → j.resolve c = some e →
      (j.lineSet e = 1 → j.raiseChoice = some .p1) ∧ (j.lineSet e = 2 → j.raiseChoice = some .p2)) ∧
    (∀ x, (j.csTarget = .any ∨ ∃ c, j.csTarget = .code c ∧ j.resolve c = some e ∧ j.lineSet e ≠ 1 ∧ j.lineSet e ≠ 2) →
      j.raiseChoice = some x →
        ((∃ y, (j.panto y).state.raised = true) → (j.panto x).state.raised = true) ∧
        ((∀ y, (j.panto y).state.raised = false) → x = j.startPanto))) ∧
  (∀ (j k : Jobs), k = j.csReact .lowerAllOn →
    (j.cs.state = .idle → k.cs = { j.cs with command := .open, pulse := false }) ∧ (j.cs.state = .hold → k = j) ∧
    (j.cs.state ≠ .idle → j.cs.state ≠ .hold → HeldFor .lowerAll j.cs.state k)) ∧
  (∀ (j k : Jobs) (x : Panto) (old new : PState), Store.wf {} j.tm.mem = true →
    k = j.csReact (.panto x old new .collector) →
    ((old = .inContact ∨ old = .raising) → (new = .lowering ∨ new = .dropped ∨ new = .faulted) →
      k.cs.command = .open ∧ k.cs.pulse = false ∧
      ((j.cs.state = .idle ∨ j.cs.state = .armed) → k.cs.closingSystem = none) ∧
      ((j.cs.state = .idle ∧ (j.cs.list = [] ∨ j.lsi.confirmed.isSystem = false) ∨
        j.cs.state = .armed ∧ j.cs.list ≠ []) →
        k.cs = { j.cs with command := .open, pulse := false, closingSystem := none }) ∧
      ((j.cs.state = .opening ∨ j.cs.state = .coasting ∨ j.cs.state = .identifying ∨ j.cs.state = .closing) →
        HeldFor .pantograph j.cs.state k) ∧
      (j.cs.state = .hold → k.cs.state = .hold ∧ k.cs.reason = j.cs.reason ∧
        k.cs.stepOfFailure = j.cs.stepOfFailure)) ∧
    (old = .inContact → new = .raising → j.cs.state = .identifying → EntersRaising j k) ∧
    (j.cs.state = .raising → j.cs.chosen = some x → (new = .dropped ∨ new = .faulted ∨ new = .lowering) →
      HeldFor .pantograph .raising k)) ∧
  (∀ (j k : Jobs) (x : Panto) (old new : PState) (role : Role), Store.wf {} j.tm.mem = true →
    k = j.csReact (.panto x old new role) → j.cs.state = .lowering → (new = .dropped ∨ new = .faulted) →
    HeldFor .pantograph .lowering k) ∧
  (∀ (j k : Jobs), k = j.csReact .confirmed → (j.cs.state = .idle ∨ j.cs.state = .armed) → j.cs.command = .close →
    (∀ e, j.lsi.confirmed = .system e → j.cs.closingSystem ≠ some e →
      HeldFor .unexpected .identifying k ∧ Flagged .systemUnexpected (BitVec.ofNat 16 j.cs.state.code) k.out ∧
      k.cs.expected = some (.system e) ∧ k.cs.current = 
        some { kind := .energise, number := none, target := .any, due := none, coast := 0, arrival := none }) ∧
    (j.lsi.confirmed = .dead →
      k.cs.state = .coasting ∧ k.cs.command = .open ∧ k.cs.deadSeen = true ∧
      Flagged .deadUnannounced (BitVec.ofNat 16 j.cs.state.code) k.out ∧
      k.cs.expected = j.cs.closingSystem.map Line.system ∧
      ∀ kmh, kmh = (if j.speed.known = true ∧ j.speed.aged = false then j.speed.kmh else 0) →
        k.cs.current = some { kind := .neutral, number := none, target := .any, due := none, arrival := none,
                              coast := (j.changeover 1).toNat * 3600 / max 5 kmh })) ∧
  (∀ (j k : Jobs), k = j.csReact (.breaker .closed .open) → (j.cs.state = .idle ∨ j.cs.state = .armed) →
    j.cs.command = .close →
    k.cs = { j.cs with state := .idle, command := .open, pulse := false, closingSystem := none } ∧
    Flagged .breakerTripped (BitVec.ofNat 16 j.cs.state.code) k.out) ∧
  (∀ s : State, s.inReset = false → (s.jobs.timer .t0).owed = [] → EndsFrom .csStepTimeout s s) ∧
  (∀ (s : State) (r : HoldReason), s.inReset = false → (s.jobs.timer .t0).owed ≠ [] →
    (s.jobs.cs.state = .opening ∧ r = .breaker ∨
     s.jobs.cs.state = .coasting ∧ r = (if s.jobs.lsi.confirmed = .dead then .dead else .identify) ∨
     s.jobs.cs.state = .lowering ∧ r = .pantograph ∨
     s.jobs.cs.state = .selecting ∧ r = .selector ∨
     s.jobs.cs.state = .identifying ∧ s.jobs.lsi.confirmed = .pending ∧ r = .identify ∨
     s.jobs.cs.state = .closing ∧ r = .breaker) →
    ∃ j : Jobs, OnlyChangeover s.jobs j ∧ EndsFrom .csStepTimeout s (s.setJobs j) ∧
      j.cs = { s.jobs.cs with state := .hold, reason := some r, stepOfFailure := some s.jobs.cs.state,
                              command := .open, pulse := false, selOut := none } ∧
      Flagged .changeoverHold (BitVec.ofNat 16 r.code) j.out ∧ (j.timer .t0).stopped ∧ (j.timer .t1).stopped ∧
      OtherTimers [.t0, .t1] s.jobs j) ∧
  (∀ s : State, s.inReset = false → (s.jobs.timer .t0).owed ≠ [] →
    (s.jobs.cs.state = .idle ∨ s.jobs.cs.state = .armed ∨ s.jobs.cs.state = .raising ∨ s.jobs.cs.state = .hold ∨
      (s.jobs.cs.state = .identifying ∧ s.jobs.lsi.confirmed ≠ .pending)) →
    EndsFrom .csStepTimeout s (s.onJobs (fun j => j.takeExpiry .t0))) ∧
  (∀ s : State, s.inReset = false → ((s.jobs.timer .t1).owed = [] ∨ s.jobs.cs.state ≠ .coasting) →
    EndsFrom .coastExpiry s s) ∧
  (∀ (s : State) (f : Feature), Live s → (s.jobs.timer .t1).owed ≠ [] → s.jobs.cs.state = .coasting →
    s.jobs.cs.current = some f →
    (f.kind = .neutral →
      (s.jobs.cs.expected ≠ some s.jobs.lsi.confirmed → s.jobs.lsi.confirmed.isSystem = false →
        ∃ j : Jobs, OnlyChangeover s.jobs j ∧ EndsFrom .coastExpiry s (s.setJobs j) ∧
          j.cs = { s.jobs.cs with coastEnded := true } ∧
          (j.timer .t0).loaded (timing (s.jobs.changeover 6)) .oneShot) ∧
      (s.jobs.cs.expected ≠ some s.jobs.lsi.confirmed → s.jobs.lsi.confirmed.isSystem = true →
        ∃ j : Jobs, OnlyChangeover s.jobs j ∧ EndsFrom .coastExpiry s (s.setJobs j) ∧ j.cs.state = .hold ∧
          j.cs.reason = some .mismatch ∧ j.cs.stepOfFailure = some .coasting ∧ j.cs.command = .open) ∧
      (s.jobs.cs.expected = some s.jobs.lsi.confirmed → s.jobs.closeFailure = none →
        ∃ j : Jobs, OnlyChangeover s.jobs j ∧ EndsFrom .coastExpiry s (s.setJobs j) ∧ j.cs.state = .closing ∧
          j.cs.command = .close ∧ j.cs.pulse = true ∧
          (j.timer .t1).loaded (timing (s.jobs.changeover 3)) .oneShot ∧
          (j.timer .t0).loaded (timing (s.jobs.changeover 4)) .oneShot)) ∧
    ((f.kind = .boundary ∨ f.kind = .select) → ∃ j : Jobs, EndsFrom .coastExpiry s (s.setJobs j) ∧
      (s.jobs.targetEntry = none → HeldFor .mismatch .coasting j) ∧
      ∀ e, s.jobs.targetEntry = some e →
        (s.jobs.needsRoof e = true → EntersLowering s.jobs j) ∧
        (s.jobs.needsRoof e = false → EntersIdentifying s.jobs j ∧ Reidentifies s.jobs j))) ∧
  ∀ s : State, s.inReset = false →
    (((s.jobs.timer .t1).owed = [] ∨ s.jobs.cs.state = .coasting) → EndsFrom .closePulseExpiry s s) ∧
    ((s.jobs.timer .t1).owed ≠ [] → s.jobs.cs.state ≠ .coasting →
      EndsFrom .closePulseExpiry s (s.onJobs (fun j => (j.takeExpiry .t1).setCs { j.cs with pulse := false })))

/-- R63, R65, R69, R70: the settle timer takes a PREPARING pantograph to RAISING with the raise timeout loaded; the raise
timeout faults a RAISING one, the lower timeout a LOWERING one, each with its cause and flag; and none acts without an
expiry of its timer (log entries 4 and 9). A raised pantograph whose node is LOST, or whose HEIGHT or PRESS entry has been
found poisoned, is blind: it is lowered with cause BLIND, at the latest within the step in which something changes. -/
def Obligations.PantographTimeouts : Prop :=
  (∀ (j k : Jobs) (x : Panto) (blind : Bool), Store.wf {} j.tm.mem = true → k = j.lowerBlind x →
    (blind = true ↔ (j.pantoNode x).state = .lost ∨
      ∃ i, i < 2 ∧ (j.marked ((MapRole.height x).addr + i) = true ∨ j.marked ((MapRole.press x).addr + i) = true)) →
    (((j.panto x).state.raised = false ∨ blind = false) → k = j) ∧
    ((j.panto x).state.raised = true → blind = true → OnlyPanto x j k ∧
      k.panto x = { j.panto x with state := .lowering, low := 0, cause := some .blind } ∧
      (k.timer x.stepTimer).loaded (timing (j.pantoParam x 6)) .oneShot ∧ (k.timer x.settleTimer).stopped ∧
      (k.timer x.arcTimer).stopped)) ∧
  (∀ (u : State) (x : Panto), StoresWf u → u.jobs.dev = .run → u.jobs.todo ≠ [] →
    (u.jobs.panto x).state.raised = true → (u.jobs.pantoNode x).state = .lost →
    (u.finish.jobs.panto x).state = .lowering) ∧
  (∀ (s : State) (x : Panto), s.inReset = false →
    ((s.jobs.timer x.settleTimer).owed = [] → EndsFrom (.settleTimerExpiry x) s s) ∧
    ((s.jobs.timer x.stepTimer).owed = [] → EndsFrom (.raiseTimeout x) s s ∧ EndsFrom (.lowerTimeout x) s s) ∧
    ((s.jobs.panto x).state = .lowering → EndsFrom (.raiseTimeout x) s s) ∧
    ((s.jobs.panto x).state ≠ .lowering → EndsFrom (.lowerTimeout x) s s)) ∧
  ∀ (s : State) (x : Panto), s.inReset = false →
    ((s.jobs.timer x.settleTimer).owed ≠ [] → (s.jobs.panto x).state = .preparing →
      ∃ j : Jobs, OnlyPanto x s.jobs j ∧ EndsFrom (.settleTimerExpiry x) s (s.setJobs j) ∧
        j.panto x = { s.jobs.panto x with state := .raising, contact := 0 } ∧
        (j.timer x.stepTimer).loaded (timing (s.jobs.pantoParam x 5)) .oneShot ∧
        OtherTimers [x.stepTimer, x.settleTimer] s.jobs j) ∧
    ((s.jobs.timer x.settleTimer).owed ≠ [] → (s.jobs.panto x).state ≠ .preparing →
      EndsFrom (.settleTimerExpiry x) s (s.onJobs (fun j => j.takeExpiry x.settleTimer))) ∧
    ((s.jobs.timer x.stepTimer).owed ≠ [] →
      ((s.jobs.panto x).state = .raising → ∃ j : Jobs, OnlyPanto x s.jobs j ∧
        EndsFrom (.raiseTimeout x) s (s.setJobs j) ∧
        j.panto x = { s.jobs.panto x with state := .faulted, cause := some .raiseTimeout } ∧
        Flagged .pantoFaulted (BitVec.ofNat 16 x.num) j.out ∧ OtherTimers [x.stepTimer] s.jobs j) ∧
      ((s.jobs.panto x).state = .lowering → ∃ j : Jobs, OnlyPanto x s.jobs j ∧
        EndsFrom (.lowerTimeout x) s (s.setJobs j) ∧
        j.panto x = { s.jobs.panto x with state := .faulted, cause := some .lowerTimeout } ∧
        Flagged .pantoFaulted (BitVec.ofNat 16 x.num) j.out ∧ OtherTimers [x.stepTimer] s.jobs j) ∧
      ((s.jobs.panto x).state ≠ .raising → (s.jobs.panto x).state ≠ .lowering →
        EndsFrom (.raiseTimeout x) s (s.onJobs (fun j => j.takeExpiry x.stepTimer))))

/-- R125, R126, R127, R76, R77: an arc input's sample is accepted when it comes twice and differs from the accepted
level, the first accepted level giving no edge (it takes two samples: the model's reading, log entry 74); in RUN the polarity's active edge of a pantograph IN_CONTACT takes one
from its budget, or counts as excess, the first of them in an interval with ARC_BURST; the interval's end restores the
budget, without an expiry nothing (log entries 4 and 9). ARC_EDGE is that step at a sample equal to the last one, the
model's choice (log entry 43). -/
def Obligations.ArcSupervision : Prop :=
  (∀ (s : State) (x : Panto) (high : Bool) (a : ArcInput), s.inReset = false → a = s.jobs.arcIn x →
    ((a.last ≠ some high ∨ a.level = some high) →
      EndsFrom (.arcInputSample x high) s (s.onJobs (fun j => j.setArcIn x { a with last := some high }))) ∧
    (a.last = some high → a.level = none →
      EndsFrom (.arcInputSample x high) s (s.onJobs (fun j => j.setArcIn x { a with level := some high }))) ∧
    (∀ falling : Bool, falling = decide (s.jobs.pantoParam x 8 = 1) → a.last = some high → a.level = some (!high) →
      ((high = falling ∨ s.jobs.dev = .config ∨ (s.jobs.panto x).state ≠ .inContact) →
        EndsFrom (.arcInputSample x high) s (s.onJobs (fun j =>
          (j.setArcIn x { a with level := some high }).touch (pantoAddr x 8)))) ∧
      (high ≠ falling → s.jobs.dev = .run → (s.jobs.panto x).state = .inContact →
        (0 < a.count → EndsFrom (.arcInputSample x high) s (s.onJobs (fun j =>
          ((j.setArcIn x { a with level := some high }).touch (pantoAddr x 8)).setArcIn x
            { a with level := some high, count := a.count - 1 }))) ∧
        (a.count = 0 → ∃ j : Jobs, EndsFrom (.arcInputSample x high) s (s.setJobs j) ∧
          j.arcIn x = { a with level := some high } ∧
          j.panto x = { s.jobs.panto x with excess := min 255 ((s.jobs.panto x).excess + 1), burst := true } ∧
          j.panto x.other = s.jobs.panto x.other ∧ j.tmr = s.jobs.tmr ∧ j.cs = s.jobs.cs ∧
          ((s.jobs.panto x).burst = true → j.ice = s.jobs.ice) ∧
          ((s.jobs.panto x).burst = false → j.ice = { s.jobs.ice with tally := min 255 (s.jobs.ice.tally + 1) } ∧
            Flagged .arcBurst (BitVec.ofNat 16 x.num) j.out))))) ∧
  (∀ (s : State) (x : Panto) (high : Bool), (s.jobs.arcIn x).last = some high → (s.jobs.arcIn x).level = some (!high) →
    high ≠ decide (s.jobs.pantoParam x 8 = 1) → exec (.arcEdge x) s = exec (.arcInputSample x high) s) ∧
  (∀ (s : State) (x : Panto), s.inReset = false → ((s.jobs.arcIn x).last = none ∨ (s.jobs.arcIn x).level = none ∨
    (s.jobs.arcIn x).last = (s.jobs.arcIn x).level) → EndsFrom (.arcEdge x) s s) ∧
  ∀ (s : State) (x : Panto), s.inReset = false →
    ((s.jobs.timer x.arcTimer).owed = [] → EndsFrom (.arcIntervalExpiry x) s s) ∧
    ((s.jobs.timer x.arcTimer).owed ≠ [] →
      ((s.jobs.panto x).state ≠ .inContact →
        EndsFrom (.arcIntervalExpiry x) s (s.onJobs (fun j => j.takeExpiry x.arcTimer))) ∧
      ((s.jobs.panto x).state = .inContact → ∃ j : Jobs, EndsFrom (.arcIntervalExpiry x) s (s.setJobs j) ∧
        j.panto x = { s.jobs.panto x with excess := 0, burst := false } ∧
        j.arcIn x = { s.jobs.arcIn x with count := min 255 (s.jobs.pantoParam x 9).toNat } ∧
        OtherTimers [x.arcTimer] s.jobs j))

/-- R83 to R85, R90 to R95: the ice controller. An assessment forms the raw level by the rows of R84, moves the level up
at once to a worse raw level and down one step only at the third better one in a row, clears the tally and the bar,
records what it used, with the tag of the tick that brought it, starts afresh every cycle that is not idle where the level
has changed, and then, unless SUSPENDED, makes the mode choice; the heater pair's end takes a cycle to its other
phase, one of no length left out, and so does a cycle's start, which takes ON first. Neither acts without an expiry of its timer (log entries 4 and 9). A cycle follows the
heated set and the supply. The mode is SUSPENDED while the CS is out of IDLE and ARMED or lower-all is on, and the choice
is made when neither is so; SCRAPE is left for the fallback when a watched condition fails, with the bar set when the
scraper is no longer raised. Where policy and level call for SCRAPE and the CS has, since the last suspension's end, made
the leading pantograph the collector, that choice sets the bar and is the fallback (R95; the corners of it: log entry 51). A
heater that the restart at a change of the level puts on has its point marked, though the choice then puts it off (R105, log
entry 6). After a step in which something changed in RUN, all of this holds. -/
def Obligations.IceTimers : Prop :=
  (∀ (s : State) (x : Panto), s.inReset = false →
    ((s.jobs.timer .t10).owed = [] → EndsFrom .iceAssessment s s) ∧
    ((s.jobs.timer x.pair).owed = [] → EndsFrom (.heaterPairExpiry x) s s)) ∧
  (∀ (s : State) (raw : IceLevel) (tag : Long) (rest : List Long), Live s → (s.jobs.timer .t10).owed = tag :: rest →
    raw = s.jobs.rawLevel →
    ∃ j : Jobs, EndsFrom .iceAssessment s (s.setJobs j) ∧ j.ice.tally = 0 ∧ j.ice.zone = s.jobs.ice.zone ∧
      j.ice.policy = s.jobs.ice.policy ∧ (j.timer .t10).reload = max 1000 (s.jobs.iceParam 12).toNat ∧
      j.ice.last = some { temp := s.jobs.ice.temp, probe := s.jobs.ice.probe, drop := s.jobs.probeDrop,
                          tally := s.jobs.ice.tally, raw := raw, level := j.ice.level, tag := tag } ∧
      (j.timer .t10).owed = rest ∧
      (s.jobs.ice.level.code ≤ raw.code → j.ice.level = raw ∧ j.ice.decay = 0) ∧
      (raw.code < s.jobs.ice.level.code →
        (s.jobs.ice.decay < 2 → j.ice.level = s.jobs.ice.level ∧ j.ice.decay = s.jobs.ice.decay + 1) ∧
        (2 ≤ s.jobs.ice.decay → j.ice.level.code + 1 = s.jobs.ice.level.code ∧ j.ice.decay = 0)) ∧
      (j.ice.level ≠ s.jobs.ice.level → Flagged .iceLevel (BitVec.ofNat 16 j.ice.level.code) j.out) ∧
      (∀ (x : Panto) (on off : Nat), on = (s.jobs.iceParam (heatWords j.ice.level).1).toNat →
        off = (s.jobs.iceParam (heatWords j.ice.level).2).toNat →
        (j.ice.level ≠ s.jobs.ice.level → s.jobs.ice.phase x ≠ .idle → j.heated x = true → Started x on off j) ∧
        (j.ice.level = s.jobs.ice.level → s.jobs.ice.phase x ≠ .idle → j.heated x = true →
          j.ice.phase x = s.jobs.ice.phase x) ∧
        (s.jobs.ice.phase x = .idle → j.ice.mode = s.jobs.ice.mode → j.ice.phase x = .idle ∧
          j.timer x.pair = s.jobs.timer x.pair) ∧
        (∀ (r : OwnedRole) (i : Nat) (e : PointEntry) (b : BitRef), r = (if x = .p1 then .heat1 else .heat2) →
          s.jobs.dev = .run → s.jobs.oc.lowerAll = false → s.jobs.oc.hold = false → s.jobs.oc.frozen = none →
          s.jobs.oc.sending.get r = false → s.jobs.oc.table[i]? = some e → (r, b) ∈ e.owned →
          s.jobs.mapStands r.mapRole = true → s.jobs.heated x = true → s.jobs.supplied x = true →
          s.jobs.ice.phase x = .off → 0 < on → j.ice.level ≠ s.jobs.ice.level →
          ∃ e' : PointEntry, j.oc.table[i]? = some e' ∧ e'.pending = true)) ∧
      (s.jobs.ice.mode = .suspended → j.ice.mode = .suspended ∧ j.ice.barred = false ∧
        j.ice.scraper = s.jobs.ice.scraper) ∧
      (s.jobs.ice.mode ≠ .suspended → Chosen s.jobs.ice.policy j.ice.level false s.jobs j)) ∧
  (∀ (j : Jobs) (drop : Nat) (cold cool heavy light : Prop), drop = j.probeDrop →
    (cold ↔ ∃ t, j.ice.temp = some t ∧ t.toInt ≤ (j.iceParam 2).toInt) →
    (cool ↔ ∃ t, j.ice.temp = some t ∧ t.toInt ≤ (j.iceParam 1).toInt) →
    (heavy ↔ cold ∧ ((j.iceParam 9).toNat ≤ drop ∨ (j.iceParam 11).toNat ≤ j.ice.tally)) →
    (light ↔ cold ∧ ((j.iceParam 8).toNat ≤ drop ∨ (j.iceParam 10).toNat ≤ j.ice.tally)) →
    (heavy → j.rawLevel = .heavy) ∧ (¬ heavy → light → j.rawLevel = .light) ∧
    (¬ heavy → ¬ light → (cool ∨ j.ice.zone = true) → j.rawLevel = .risk) ∧
    (¬ heavy → ¬ light → ¬ cool → j.ice.zone = false → j.rawLevel = .none) ∧
    (j.ice.probe = none → drop = 0) ∧ (∀ p, j.ice.probe = some p → drop = (j.iceParam 5).toNat - p.toNat)) ∧
  (∀ (s : State) (x : Panto) (on off : Nat) (p : HeatPhase), Live s → (s.jobs.timer x.pair).owed ≠ [] →
    on = (s.jobs.iceParam (heatWords s.jobs.ice.level).1).toNat →
    off = (s.jobs.iceParam (heatWords s.jobs.ice.level).2).toNat → p = s.jobs.ice.phase x →
    (p = .idle → EndsFrom (.heaterPairExpiry x) s (s.onJobs (fun j => j.takeExpiry x.pair))) ∧
    (p ≠ .idle → ∃ j : Jobs, EndsFrom (.heaterPairExpiry x) s (s.setJobs j) ∧ OtherTimers [x.pair] s.jobs j ∧
      j.ice = s.jobs.ice.setPhase x (j.ice.phase x) ∧ j.ice.level = s.jobs.ice.level ∧
      ((p = .on ∧ 0 < off ∨ p = .off ∧ on = 0 ∧ 0 < off) → j.ice.phase x = .off ∧
        (j.timer x.pair).count = off * 1000 ∧ (j.timer x.pair).running = s.jobs.supplied x) ∧
      ((p = .off ∧ 0 < on ∨ p = .on ∧ off = 0 ∧ 0 < on) → j.ice.phase x = .on ∧
        (j.timer x.pair).count = on * 1000 ∧ (j.timer x.pair).running = s.jobs.supplied x) ∧
      (on = 0 → off = 0 → j.ice.phase x = .off ∧ (j.timer x.pair).stopped ∧ (j.timer x.pair).count = 0))) ∧
  (∀ (j k : Jobs) (x : Panto) (on off : Nat), Store.wf {} j.tm.mem = true → k = j.followCycle x →
    on = (j.iceParam (heatWords j.ice.level).1).toNat → off = (j.iceParam (heatWords j.ice.level).2).toNat →
    (j.heated x = true ↔ (j.ice.mode = .heat ∨ j.ice.mode = .scrape) ∧ (j.panto x).role = .collector ∨
      j.ice.mode = .scrape ∧ j.ice.scraper = some x) ∧
    (j.supplied x = true ↔ j.fb.brk = .closed ∧ ((j.panto x).state = .raising ∨ (j.panto x).state = .inContact)) ∧
    (j.heaterOn x = true ↔ j.heated x = true ∧ j.ice.phase x = .on ∧ j.supplied x = true) ∧
    (j.heated x = false → j.ice.phase x = .idle → k = j) ∧
    (j.heated x = false → j.ice.phase x ≠ .idle → k.ice = j.ice.setPhase x .idle ∧ (k.timer x.pair).stopped ∧
      (k.timer x.pair).count = 0) ∧
    (j.heated x = true → j.ice.phase x = .idle → k.ice = j.ice.setPhase x (k.ice.phase x) ∧ Started x on off k) ∧
    (j.heated x = true → j.ice.phase x ≠ .idle → k.ice = j.ice ∧
      (j.supplied x = false → (k.timer x.pair).running = false ∧
        ((j.timer x.pair).owed = [] → (k.timer x.pair).count = (j.timer x.pair).count)) ∧
      (j.supplied x = true → (k.timer x.pair).count = (j.timer x.pair).count ∧
        (0 < (j.timer x.pair).count → (k.timer x.pair).running = true)))) ∧
  (∀ (j k : Jobs), Store.wf {} j.tm.mem = true → k = j.suspension →
    (j.mustSuspend = true ↔ (j.cs.state ≠ .idle ∧ j.cs.state ≠ .armed) ∨ j.oc.lowerAll = true) ∧
    (j.mustSuspend = true → j.ice.mode = .suspended → k = j) ∧
    (j.mustSuspend = true → j.ice.mode ≠ .suspended → k.ice.mode = .suspended ∧ k.ice.scraper = none ∧
      k.ice.phase1 = .idle ∧ k.ice.phase2 = .idle ∧ k.ice.barred = j.ice.barred ∧
      Flagged .iceMode (BitVec.ofNat 16 IceMode.suspended.code) k.out ∧
      ∀ x, j.ice.scraper = some x → (j.panto x).state.raised = true → (k.panto x).state = .lowering) ∧
    (j.mustSuspend = false → j.ice.mode ≠ .suspended → k = j) ∧
    (j.mustSuspend = false → j.ice.mode = .suspended → ∀ made : Bool,
      (made = true ↔ (j.ice.policy = .scrape ∨ j.ice.policy = .auto ∧ j.ice.level = .heavy) ∧
        ∃ x, j.leading = some x ∧ j.ice.made = some x ∧ (j.panto x).role = .collector) →
      Chosen j.ice.policy j.ice.level (j.ice.barred || made) j k ∧ k.ice.made = none)) ∧
  (∀ (j k : Jobs) (back : IceMode) (lost fails : Prop), Store.wf {} j.tm.mem = true → k = j.watch →
    back = (if j.heatPermitted = true then .heat else .off) →
    (lost ↔ ∃ x, j.ice.scraper = some x ∧ (j.panto x).state.raised = false) →
    (fails ↔ j.speed.known = false ∨ j.speed.aged = true ∨ (j.iceParam 13).toNat < j.speed.kmh ∨
      j.scrapePermitted = false ∨ j.leading ≠ j.ice.scraper ∨
      ∃ x, j.ice.scraper = some x ∧ (j.pantoNode x).state ≠ .active) →
    (j.ice.mode ≠ .scrape → k = j) ∧
    (j.ice.mode = .scrape →
      (lost → k.ice.mode = back ∧ k.ice.barred = true) ∧
      (¬ lost → fails → k.ice.mode = back ∧ k.ice.barred = j.ice.barred) ∧
      (¬ lost → ¬ fails → OnlyReads j k))) ∧
  ∀ (u t : State), StoresWf u → u.jobs.dev = .run → u.jobs.todo ≠ [] → t = u.finish →
    (t.jobs.ice.mode = .suspended ↔
      (t.jobs.cs.state ≠ .idle ∧ t.jobs.cs.state ≠ .armed) ∨ t.jobs.oc.lowerAll = true) ∧
    (t.jobs.ice.mode = .scrape → t.jobs.scrapePermitted = true ∧ t.jobs.scrapeSpeed = true ∧
      t.jobs.leading = t.jobs.ice.scraper ∧
      ∀ x, t.jobs.ice.scraper = some x → (t.jobs.panto x).state.raised = true ∧
        (t.jobs.pantoNode x).state = .active) ∧
    ∀ x, (t.jobs.heated x = false → t.jobs.ice.phase x = .idle) ∧
      (t.jobs.heated x = true → t.jobs.ice.phase x ≠ .idle) ∧
      (t.jobs.ice.phase x ≠ .idle → t.jobs.supplied x = false → (t.jobs.timer x.pair).running = false)

/-- R33, R37, R41, R90, R108, R187 to R190: the remaining steps of time. T13 in RUN queues a STATUS notice and takes the
present period, 0 stopping it; T14 in RUN marks every point of the table; the latch empties at its second tick; a speed
that has aged is unknown; a head entry that is due in ARMED, with output hold off, becomes the current feature, and the CS
goes to OPENING, or to HOLD(IDENTIFY) where no system is confirmed, one whose entry has been found lost (R28) being none (the due-time check:
log entry 12). None acts where its
event has not come (log entries 4 and 9). Each setting of a flag sets its bit, is offered to the capture buffer as one
event, with the device state and the confirmed system of its moment (R175, log entry 45), and, where its mask bit is 1 or the mask word
is uncorrectable, queues one EVENT notice with the flag word, its code, its subject and the time tag, and the notice
sequence advances; a notice the queue refuses counts as lost, and the notice is offered to the capture buffer as an
originated frame, or as one dropped QUEUE_FULL (R174). And what the STATUS notice holds. That reports are delivered in
order at the step's end, at most 1,024 of them, is the model's (log entry 6); so is that an EVENT notice carries the flag
word at its delivery and a STATUS notice the state at the step's end (log entry 45). -/
def Obligations.OtherExpiries : Prop :=
  (∀ (s : State) (n : Nat), Live s → n = (s.jobs.param 4 100).toNat →
    ((s.jobs.timer .t13).owed = [] → EndsFrom .statusTimerExpiry s s) ∧
    ((s.jobs.timer .t13).owed ≠ [] → s.jobs.dev = .config →
      EndsFrom .statusTimerExpiry s (s.onJobs (fun j => j.takeExpiry .t13))) ∧
    ((s.jobs.timer .t13).owed ≠ [] → s.jobs.dev = .run → ∃ j : Jobs, EndsFrom .statusTimerExpiry s (s.setJobs j) ∧
      .status ∈ j.out ∧ OtherTimers [.t13] s.jobs j ∧ OnlyReads { s.jobs with tmr := j.tmr } j ∧
      (n = 0 → (j.timer .t13).stopped) ∧ (n ≠ 0 → (j.timer .t13).reload = n))) ∧
  (∀ s : State, Running s → Rested s → (s.jobs.timer .t13).owed ≠ [] → (s.jobs.cell 4).check = 0 →
    (s.jobs.cell 4).mark = false → ∃ t : State, exec .statusTimerExpiry s = .next t ∧
      (16 ≤ s.fr.up.length → t.fr.up = s.fr.up ∧ (s.fr.lost < t.fr.lost ∨ t.fr.lost = 65535)) ∧
      (s.fr.up.length < 16 → ∀ (p : List Word) (j : Jobs), j = s.jobs →
        p = [1, toWord (0x8000 + j.lsi.confirmed.code), toWord (j.cs.state.code * 256 + reasonCode j.cs.reason),
             toWord (j.p1.state.code * 4096 + j.p1.role.code * 256 + j.p2.state.code * 16 + j.p2.role.code),
             toWord ((if j.cs.command = .close then 0x8000 else 0) + j.fb.brk.code * 4096 + j.fb.sel.code * 256
               + j.ice.level.code * 16 + j.ice.mode.code),
             lowHalf s.nu.flags, highHalf s.nu.flags, toWord s.fr.lost] →
        t.fr.up[s.fr.up.length]? = some { forwarded := false, frame :=
          { kind := .notice, flags := 0, point := 0, seq := s.nu.seq, payload := p } })) ∧
  (∀ (u : State) (n : Nat) (r : Report) (rest : List Report), u.jobs.out = r :: rest →
    u.drain (n + 1) = ((u.onJobs (fun j => j.setOut rest)).deliver r).drain n) ∧
  (∀ u : State, u.finish = ((u.onJobs Jobs.settle).drain 1024).onJobs (fun j => j.setTodo [])) ∧
  (∀ (s u : State) (f : Flag) (n : Word) (dev : Device) (line : Line) (w : Long) (on : Bool),
    u = s.deliver (.flag f n dev line) → w = setFlag f s.nu.flags →
    on = (if s.jobs.bad f.maskAddr then true else (s.jobs.word f.maskAddr).getLsbD (f.code % 16)) →
    u.nu.flags = w ∧
    (on = false → u.nu.seq = s.nu.seq ∧ u.fr = s.fr) ∧
    (on = true → u.nu.seq = s.nu.seq + 1 ∧ u.fr.train.originated = s.fr.train.originated + 1 ∧
      (16 ≤ s.fr.up.length → u.fr.up = s.fr.up ∧ u.fr.lost = min 65535 (s.fr.lost + 1)) ∧
      (s.fr.up.length < 16 → u.fr.lost = s.fr.lost ∧
        u.fr.up = s.fr.up ++ [{ forwarded := false, frame :=
          { kind := .notice, flags := 0, point := 0, seq := s.nu.seq,
            payload := [0, lowHalf w, highHalf w, toWord f.code, n, lowHalf s.jobs.tag, highHalf s.jobs.tag] } }])) ∧
    ∀ (e : CaptureEntry) (b : Capture × Bool),
      e = { tag := s.jobs.tag, descriptor := 0x8000, w3 := toWord f.code, w4 := n,
            w5 := toWord ((if dev = .run then 0x8000 else 0) + line.code) } →
      b = s.cb.offer false (s.cb.trigger.hitsEvent f) e →
      (b.2 = true → Flagged .captureFrozen 0 u.jobs.out) ∧ (on = false → u.cb = b.1) ∧
      (on = true → StoresWf s → Offered .train .up
        { kind := .notice, flags := 0, point := 0, seq := s.nu.seq,
          payload := [0, lowHalf w, highHalf w, toWord f.code, n, lowHalf s.jobs.tag, highHalf s.jobs.tag] }
        (if s.fr.up.length < 16 then .originated else .dropped .queueFull) { s with cb := b.1 } u)) ∧
  (∀ s : State, s.inReset = false →
    ((s.jobs.timer .t14).owed = [] → EndsFrom .refreshTimerExpiry s s) ∧
    ((s.jobs.timer .t14).owed ≠ [] → s.jobs.dev = .config →
      EndsFrom .refreshTimerExpiry s (s.onJobs (fun j => j.takeExpiry .t14))) ∧
    ((s.jobs.timer .t14).owed ≠ [] → s.jobs.dev = .run →
      EndsFrom .refreshTimerExpiry s (s.onJobs (fun j => (j.takeExpiry .t14).setOc
        { s.jobs.oc with table := s.jobs.oc.table.map (fun e => { e with pending := true }) })))) ∧
  (∀ s : State, (∀ l, s.latch = some l → l.ticks < 2) → exec .splitReadLatchExpiry s = .next s) ∧
  (∀ (s : State) (l : Latch), s.inReset = false → s.latch = some l → 2 ≤ l.ticks →
    exec .splitReadLatchExpiry s = .next (s.setLatch none)) ∧
  (∀ (s : State) (f : Feature) (rest : List Feature), Running s → s.jobs.cs.list = f :: rest →
    (s.jobs.cs.state = .armed → f.dueMark = true → s.jobs.oc.hold = false →
      EndsFrom .featureDue s (s.onJobs (Jobs.push .cs))) ∧
    ((s.jobs.cs.state ≠ .armed ∨ f.dueMark = false ∨ s.jobs.oc.hold = true) → EndsFrom .featureDue s s)) ∧
  (∀ (s : State) (f : Feature) (rest : List Feature), Running s → Rested s → s.jobs.cs.list = f :: rest →
    s.jobs.cs.state = .armed → f.dueMark = true → s.jobs.oc.hold = false → s.jobs.fb.brk ≠ .open →
    s.jobs.brkNow ≠ .open → ∀ now : Line, now = s.jobs.lostEntries.lsi.confirmed →
    ∃ t : State, exec .featureDue s = .next t ∧ t.jobs.cs.list = rest ∧
      t.jobs.cs.current = some f ∧ t.jobs.cs.expected = some now ∧ t.jobs.cs.command = .open ∧
      (now.isSystem = false → t.jobs.cs.state = .hold ∧ t.jobs.cs.reason = some .identify ∧
        t.jobs.cs.stepOfFailure = some .armed) ∧
      (now.isSystem = true →
        (∀ x, (s.jobs.panto x).role = .collector → s.jobs.ice.scraper ≠ some x ∧ (s.jobs.pantoNode x).state ≠ .lost ∧
          s.jobs.mapUsable (.height x) = true ∧ s.jobs.mapUsable (.press x) = true) →
        t.jobs.cs.state = .opening)) ∧
  (∀ s : State, s.inReset = false → (s.jobs.dev = .config ∨ s.jobs.cs.list = []) → EndsFrom .featureDue s s) ∧
  ∀ s : State, s.inReset = false →
    (s.jobs.speed.known = true → s.jobs.speed.aged = true → EndsFrom .speedAged s
      (s.onJobs (fun j => (j.setSpeed { s.jobs.speed with known := false }).push .look))) ∧
    ((s.jobs.speed.known = false ∨ s.jobs.speed.aged = false) → EndsFrom .speedAged s s)

/-! ### Measurement, identification, contact and capture (chapters 1, 2, 4 and 11) -/

/-- R3 to R13: the samples of a MEASURE frame on the LINE_V point, in RUN. An idle LMU takes none; one waiting or starved
takes them whatever their first index, and so does one measuring at the index it expects; an index behind is a repeat and
is not taken; an index 1..32,767 ahead is a gap: SAMPLE_GAP, the window in progress closed as BROKEN, the crossing state
cleared, and the frame's samples the first of a new window. The samples of a frame are taken one after another: each joins
the accumulators, goes to the detector, which counts the period between two crossings where it is 3..1,024 samples, and
the 1,024th closes the window as complete, its Mean the new reference, its record with the window's number, periods and
saturated count (R15). The starvation timer's expiry breaks the window,
starves the LMU and makes the confirmed system UNKNOWN; without an expiry it does nothing (log entries 4 and 9). -/
def Obligations.Samples : Prop :=
  (∀ (s : State) (h : Header) (first w : Word) (rest : List Word) (f : Frame) (e : Exchange), Running s →
    f = h.frame .measure (first :: w :: rest) → s.isAnswer f = true → s.rb.exchange = some e →
    e.accepts f = true → s.jobs.mapUsable .lineV = true → bit (s.jobs.word 0x090) 5 = true →
    s.jobs.mapPoint .lineV = h.point →
    ∃ t : State, exec (.roofMeasureFrame h (first :: w :: rest)) s = .next t ∧
      t.jobs.lmu = (s.jobs.sampleFrame first (w :: rest)).lmu) ∧
  (∀ (j : Jobs) (first : Word) (ws : List Word), j.lmu.state = .idle → j.sampleFrame first ws = j) ∧
  (∀ (j : Jobs) (first e : Word) (ws : List Word), j.lmu.state = .measuring → j.lmu.expected = some e →
    32768 ≤ (first - e).toNat → j.sampleFrame first ws = j) ∧
  (∀ (j : Jobs) (first : Word) (ws : List Word) (win : Window), win = j.lmu.window.getD {} →
    (j.lmu.state = .waiting ∨ j.lmu.state = .starved ∨ (j.lmu.state = .measuring ∧ j.lmu.expected = some first)) →
    (j.sampleFrame first ws).lmu.state = .measuring ∧
    (j.sampleFrame first ws).lmu.expected = some (first + toWord ws.length) ∧
    ((j.sampleFrame first ws).timer .t15).loaded 200 .oneShot ∧
    (ws ≠ [] → win.taken + ws.length < 1024 → ∃ v : Window, (j.sampleFrame first ws).lmu.window = some v ∧
      v.taken = win.taken + ws.length ∧ v.sum = win.sum + (ws.map accumulated).sum ∧
      v.sumSq = win.sumSq + (ws.map (fun w => (accumulated w).natAbs ^ 2)).sum ∧
      v.saturated = win.saturated + (ws.filter overRange).length ∧
      (j.sampleFrame first ws).lmu.number = j.lmu.number ∧ (j.sampleFrame first ws).lmu.last = j.lmu.last)) ∧
  (∀ (j : Jobs) (first e : Word) (ws : List Word) (l : Lmu), Store.wf {} j.tm.mem = true → j.lmu.state = .measuring →
    j.lmu.expected = some e → first ≠ e → (first - e).toNat ≤ 32767 →
    (j.lmu.window = none → l.number = j.lmu.number ∧ l.last = j.lmu.last) →
    (∀ win, j.lmu.window = some win → l.number = j.lmu.number + 1 ∧
      l.last = some { number := j.lmu.number, mean := 0, totalRms := 0, acRms := 0, freq := 0, periods := 0,
                      saturated := win.saturated, broken := true }) →
    l = { state := .waiting, expected := none, window := none, detector := .disarmed, distance := none,
          ref := j.lmu.ref, number := l.number, last := l.last } →
    Flagged .sampleGap 0 (j.sampleFrame first ws).out ∧
    (j.sampleFrame first ws).lmu = ((j.setLmu l).sampleFrame first ws).lmu ∧
    ((j.sampleFrame first ws).timer .t15).loaded 200 .oneShot) ∧
  (∀ (j : Jobs) (first : Word) (a b : List Word), Store.wf {} j.tm.mem = true →
    (j.lmu.state = .waiting ∨ j.lmu.state = .starved ∨ (j.lmu.state = .measuring ∧ j.lmu.expected = some first)) →
    (j.sampleFrame first (a ++ b)).lmu = ((j.sampleFrame first a).sampleFrame (first + toWord a.length) b).lmu) ∧
  (∀ (j : Jobs) (first w : Word) (l : Lmu) (win next : Window) (dist : Option Nat) (v h : Int) (crossing : Bool),
    Store.wf {} j.tm.mem = true →
    (j.lmu.state = .waiting ∨ j.lmu.state = .starved ∨ (j.lmu.state = .measuring ∧ j.lmu.expected = some first)) →
    l = (j.sampleFrame first [w]).lmu → win = j.lmu.window.getD {} →
    v = (if w = 0x8000#16 then -32767 else w.toInt) →
    h = (min 32767 (if j.bad 0x140 then 250 else (j.word 0x140).toNat) : Nat) →
    dist = j.lmu.distance.map (fun d => min 1025 (d + 1)) →
    crossing = (j.lmu.detector == .rising && decide (j.lmu.ref - h < v) && decide (j.lmu.ref + h ≤ v)) →
    (v ≤ j.lmu.ref - h → l.detector = .armed) ∧
    (j.lmu.ref - h < v → j.lmu.ref + h ≤ v →
      l.detector = if j.lmu.detector = .armed then .rising else .disarmed) ∧
    (j.lmu.ref - h < v → v < j.lmu.ref + h →
      l.detector = if j.lmu.detector = .disarmed then .disarmed else .armed) ∧
    l.distance = (if crossing then some 0 else dist) ∧
    (∀ period : Option Nat, (∀ d, period = some d ↔ crossing = true ∧ dist = some d ∧ 3 ≤ d ∧ d ≤ 1024) →
      next = { sum := win.sum + v, sumSq := win.sumSq + v.natAbs * v.natAbs, taken := win.taken + 1,
               saturated := win.saturated + (if w = 0x7FFF#16 ∨ w = 0x8000#16 then 1 else 0),
               periods := win.periods + (if period.isSome then 1 else 0), lengths := win.lengths + period.getD 0 } →
      (next.taken < 1024 → l.window = some next ∧ l.number = j.lmu.number ∧ l.last = j.lmu.last ∧
        l.ref = j.lmu.ref) ∧
      (1024 ≤ next.taken → l.window = none ∧ l.number = j.lmu.number + 1 ∧
        l.last = some (next.complete j.lmu.number) ∧ l.ref = (next.complete j.lmu.number).mean ∧
        (j.sampleFrame first [w]).lsi.last = some (j.verdict (next.complete j.lmu.number))))) ∧
  (∀ (w : Window) (n : Word) (r : Record), r = w.complete n →
    r.number = n ∧ r.periods = w.periods ∧ r.saturated = w.saturated ∧ r.broken = false) ∧
  ∀ s : State, s.inReset = false →
    ((s.jobs.timer .t15).owed = [] → EndsFrom .starvationTimerExpiry s s) ∧
    ((s.jobs.timer .t15).owed ≠ [] → (s.jobs.lmu.state = .idle ∨ s.jobs.lmu.state = .starved) →
      EndsFrom .starvationTimerExpiry s (s.onJobs (fun j => j.takeExpiry .t15))) ∧
    ((s.jobs.timer .t15).owed ≠ [] → (s.jobs.lmu.state = .waiting ∨ s.jobs.lmu.state = .measuring) →
      ∃ j : Jobs, EndsFrom .starvationTimerExpiry s (s.setJobs j) ∧ j.lmu.state = .starved ∧ j.lmu.expected = none ∧
        j.lmu.window = none ∧ j.lmu.detector = .disarmed ∧ j.lmu.distance = none ∧ j.lmu.ref = s.jobs.lmu.ref ∧
        (s.jobs.lmu.window = none → j.lmu.last = s.jobs.lmu.last ∧ j.lmu.number = s.jobs.lmu.number) ∧
        (s.jobs.lmu.window ≠ none → j.lmu.number = s.jobs.lmu.number + 1 ∧
          ∃ r, j.lmu.last = some r ∧ r.broken = true ∧ r.mean = 0 ∧ r.totalRms = 0 ∧ r.freq = 0) ∧
        j.lsi.confirmed = .unknown ∧ j.lsi.candidate = none ∧ j.lsi.agreement = 0 ∧ j.lsi.settling = false ∧
        (s.jobs.lsi.confirmed ≠ .unknown → j.lsi.since = s.jobs.tag ∧
          Flagged .systemConfirmed (BitVec.ofNat 16 Line.unknown.code) j.out) ∧
        Flagged .measureStarved 0 j.out)

/-- R13: the sample with which a window closes as complete makes its record the last one, and that record's results are
computed from the accumulators, within their ranges (R8): Mean is Sum over 1,024 truncated toward zero, within ±32,767; with
Q = SumSq over 1,024 rounded down, TotalRMS is the root of Q rounded down and AcRMS that of max(0, Q − Mean²), each at most
32,767; Freq is 640,000 times the periods over the sum of their lengths, rounded down, within 625..213,333, and 0 without a
period. -/
def Obligations.WindowResults : Prop :=
  (∀ (j : Jobs) (hysteresis : Int) (sample : Word) (l : Lmu) (w : Window), l = j.lmu.take hysteresis sample →
    l.window = some w → 1024 ≤ w.taken → ∃ r, (j.takeSample hysteresis sample).lmu.last = some r ∧
      r = w.complete j.lmu.number ∧ (j.takeSample hysteresis sample).lmu.window = none) ∧
  ∀ (w : Window) (n : Word) (r : Record) (q : Nat) (beyond : Int), -33553408 ≤ w.sum → w.sum ≤ 33553408 →
    w.sumSq ≤ 1099444519936 → 3 * w.periods ≤ w.lengths → w.lengths ≤ 1024 * w.periods → r = w.complete n →
    q = w.sumSq / 1024 → beyond = max 0 ((q : Int) - r.mean * r.mean) →
    (0 ≤ w.sum → 1024 * r.mean ≤ w.sum ∧ w.sum < 1024 * (r.mean + 1)) ∧
    (w.sum ≤ 0 → w.sum ≤ 1024 * r.mean ∧ 1024 * (r.mean - 1) < w.sum) ∧ -32767 ≤ r.mean ∧ r.mean ≤ 32767 ∧
    q ≤ 1073676289 ∧ r.totalRms * r.totalRms ≤ q ∧ q < (r.totalRms + 1) * (r.totalRms + 1) ∧ r.totalRms ≤ 32767 ∧
    (r.acRms : Int) * r.acRms ≤ beyond ∧ beyond < ((r.acRms : Int) + 1) * (r.acRms + 1) ∧ r.acRms ≤ 32767 ∧
    (w.periods = 0 → r.freq = 0) ∧
    (0 < w.periods → r.freq * w.lengths ≤ 640000 * w.periods ∧ 640000 * w.periods < (r.freq + 1) * w.lengths ∧
      625 ≤ r.freq ∧ r.freq ≤ 213333)

/-- R21 to R26, R28: a result record's verdict: NONE while settling or where it is broken, UNKNOWN where a sample saturated,
DEAD below the dead threshold, else the lowest usable entry that matches, or UNKNOWN. Verdicts agree in a row up to 15, and
a candidate that has its confirm count and is not confirmed yet is, with its time and SYSTEM_CONFIRMED. An entry that has
stopped being usable, also one that the verdict's own reads find poisoned, is lost as candidate and as confirmed system,
which becomes UNKNOWN, before the verdict is debounced, before an identification restart, and before the CS acts on any
further change (that the loss comes before these is the model's reading of R28, log entry 69): IDLE is then not left for
ARMED, and a due head ends in HOLD(IDENTIFY). The restart makes the confirmed
system PENDING, with its time and no flag of its own, and the window in progress will be judged NONE. -/
def Obligations.LineIdentification : Prop :=
  (∀ (j : Jobs) (r : Record),
    ((j.lsi.settling = true ∨ r.broken = true) → j.verdict r = .none) ∧
    (j.lsi.settling = false → r.broken = false →
      (0 < r.saturated → j.verdict r = .unknown) ∧
      (r.saturated = 0 →
        (r.totalRms * 2 < (j.param 0x141 600).toNat → j.verdict r = .dead) ∧
        ((j.param 0x141 600).toNat ≤ r.totalRms * 2 →
          (∀ k, j.verdict r = .system k ↔ j.lineUsable k = true ∧ j.lineMatches r k = true ∧
            ∀ i, i < k → j.lineUsable i = true → j.lineMatches r i = false) ∧
          ((∀ k, j.lineUsable k = true → j.lineMatches r k = false) → j.verdict r = .unknown) ∧
          (Store.wf {} j.tm.mem = true → ∀ k, (∀ i, i < k → j.lineUsable i = true → j.lineMatches r i = false) →
            (j.touchVerdict r).lineStands k = j.lineUsable k))))) ∧
  (∀ j k : Jobs, k = j.lostEntries →
    k = { j with lsi := k.lsi, todo := k.todo, out := k.out } ∧ k.lsi.last = j.lsi.last ∧
    k.lsi.settling = j.lsi.settling ∧
    ((∃ i, j.lsi.candidate = some (.system i) ∧ j.lineStands i = false) →
      k.lsi.candidate = none ∧ k.lsi.agreement = 0) ∧
    ((∀ i, j.lsi.candidate = some (.system i) → j.lineStands i = true) →
      k.lsi.candidate = j.lsi.candidate ∧ k.lsi.agreement = j.lsi.agreement) ∧
    ((∃ i, j.lsi.confirmed = .system i ∧ j.lineStands i = false) → k.lsi.confirmed = .unknown ∧ k.lsi.since = j.tag ∧
      .confirmed ∈ k.todo ∧ Flagged .systemConfirmed (BitVec.ofNat 16 Line.unknown.code) k.out) ∧
    ((∀ i, j.lsi.confirmed = .system i → j.lineStands i = true) → k.lsi.confirmed = j.lsi.confirmed ∧
      k.lsi.since = j.lsi.since ∧ k.todo = j.todo ∧ k.out = j.out)) ∧
  (∀ (u : State) (i : Fin 8), StoresWf u → u.jobs.dev = .run → u.jobs.todo ≠ [] → u.jobs.lsi.confirmed = .system i →
    u.jobs.lineStands i = false →
    u.finish.jobs.lsi.confirmed = .unknown ∨ u.finish.jobs.lsi.confirmed = .pending) ∧
  (∀ (c : Change) (j k : Jobs) (i : Fin 8), k = j.react c → j.lsi.confirmed = .system i → j.lineStands i = false →
    (k.lsi.confirmed = .unknown ∨ k.lsi.confirmed = .pending) ∧
    (j.cs.state = .idle → (c = .look ∨ c = .cs ∨ c = .confirmed) → k.cs = j.cs) ∧
    (j.cs.state = .armed → c = .cs → j.oc.hold = false → ∀ f rest, j.cs.list = f :: rest → f.dueMark = true →
      k.cs.state = .hold ∧ k.cs.reason = some .identify ∧ k.cs.stepOfFailure = some .armed ∧ k.cs.list = rest ∧
      k.cs.current = some f ∧ k.cs.expected = some .unknown)) ∧
  (∀ j k : Jobs, k = j.lsiRestart → Reidentifies j k ∧ k = { j with lsi := k.lsi, todo := k.todo, out := k.out } ∧
    (j.lsi.confirmed ≠ .pending → .confirmed ∈ k.todo) ∧
    ((∃ i, j.lsi.confirmed = .system i ∧ j.lineStands i = false) →
      k.out = j.out ++ [.flag .systemConfirmed (BitVec.ofNat 16 Line.unknown.code) j.dev .unknown]) ∧
    ((∀ i, j.lsi.confirmed = .system i → j.lineStands i = true) → k.out = j.out)) ∧
  ∀ (j m k : Jobs) (r : Record) (l : Line), Store.wf {} j.tm.mem = true → l = j.verdict r →
    m = (j.touchVerdict r).lostEntries → k = j.lsiRecord r →
    k.lsi.last = some l ∧ k.lsi.settling = false ∧
    (l = .none → k.lsi.candidate = m.lsi.candidate ∧ k.lsi.agreement = m.lsi.agreement ∧
      k.lsi.confirmed = m.lsi.confirmed ∧ k.lsi.since = m.lsi.since) ∧
    (l ≠ .none → k.lsi.candidate = some l ∧
      k.lsi.agreement = (if m.lsi.candidate = some l then min 15 (m.lsi.agreement + 1) else 1) ∧
      ∀ n, j.needed l = some n →
        (n ≤ k.lsi.agreement → m.lsi.confirmed ≠ l → k.lsi.confirmed = l ∧ k.lsi.since = j.tag ∧
          .confirmed ∈ k.todo ∧ Flagged .systemConfirmed (BitVec.ofNat 16 l.code) k.out) ∧
        ((k.lsi.agreement < n ∨ m.lsi.confirmed = l) → k.lsi.confirmed = m.lsi.confirmed ∧
          k.lsi.since = m.lsi.since))

/-- R2, R39, R60, R64, R66, R67, R69, R81, R101: a MEASURE frame that answers its exchange, in RUN, reaches every use of
the point map whose entry it carries: the LMU, each pantograph, the stored temperature and probe frequency, absent where
implausible, and the breaker, selector and earthing values, each under its bit and polarity. One sample of a pantograph,
its values stored: three in a row at contact height and contact pressure make contact and load the arc budget; three in a
row below contact height lose it; a pressure below the drop pressure, once contact pressure has been reached, is a drop,
which ends output hold; three in a row at the lowered height end a lowering. A value that is absent fails its comparisons.
All uses take the frame before the changes they make are answered (log entry 11), and a value is read under its entry when
it is received (log entry 37). A feedback reads the last value kept while its entry stands and its node is ACTIVE, also one
kept over a loss of the node (log entry 10) or from before the entry was bound anew (log entry 49). -/
def Obligations.ContactSamples : Prop :=
  (∀ (j : Jobs) (r : MapRole) (q : Word) (payload : List Word) (i : Nat),
    ((j.mapUsable r = false ∨ j.mapNode r ≠ nodeOf q ∨ (j.mapPoint r).toNat < q.toNat ∨
      q.toNat + payload.length ≤ (j.mapPoint r).toNat) → j.carriedFor r q payload = none) ∧
    (j.mapUsable r = true → j.mapNode r = nodeOf q → (j.mapPoint r).toNat = q.toNat + i → i < payload.length →
      j.carriedFor r q payload = payload[i]?)) ∧
  (∀ (s : State) (h : Header) (payload : List Word) (f : Frame) (e : Exchange) (v : MapRole → Option Word), Running s →
    f = h.frame .measure payload → s.isAnswer f = true → s.rb.exchange = some e → e.accepts f = true →
    (∀ r, v r = s.jobs.carriedFor r h.point payload) →
    ∃ j : Jobs, (∃ u, EndsFrom (.roofMeasureFrame h payload) s u ∧ j = u.jobs) ∧
      ((s.jobs.mapUsable .lineV = false ∨ bit (s.jobs.word 0x090) 5 = false ∨ s.jobs.mapPoint .lineV ≠ h.point ∨
        payload.length < 2) → j.lmu = s.jobs.lmu) ∧
      (∀ first w rest, payload = first :: w :: rest → s.jobs.mapUsable .lineV = true →
        bit (s.jobs.word 0x090) 5 = true → s.jobs.mapPoint .lineV = h.point →
        j.lmu = (s.jobs.sampleFrame first (w :: rest)).lmu) ∧
      (∀ x, (v (.height x) = none → v (.press x) = none → j.panto x = s.jobs.panto x) ∧
        ((v (.height x) ≠ none ∨ v (.press x) ≠ none) → j.panto x = ((s.jobs.setPanto x
          { s.jobs.panto x with height := (v (.height x)).or (s.jobs.panto x).height,
                                press := (v (.press x)).or (s.jobs.panto x).press }).evaluate x).panto x)) ∧
      j.ice.temp = (match v .roofTemp with
        | some w => if (s.jobs.iceParam 3).toInt ≤ w.toInt ∧ w.toInt ≤ (s.jobs.iceParam 4).toInt then some w else none
        | none => s.jobs.ice.temp) ∧
      j.ice.probe = (match v .iceProbe with
        | some w => if (s.jobs.iceParam 6).toNat ≤ w.toNat ∧ w.toNat ≤ (s.jobs.iceParam 7).toNat then some w else none
        | none => s.jobs.ice.probe) ∧
      j.fb.brkRaw = ((v .brkPos).map (fun w => (s.jobs.mapBit .brkPos).reads w)).or s.jobs.fb.brkRaw ∧
      j.fb.selRaw = (v .selPos).or s.jobs.fb.selRaw ∧
      j.oc.earthRaw = ((v .earthPos).map (fun w => (s.jobs.mapBit .earthPos).reads w)).or s.jobs.oc.earthRaw) ∧
  (∀ j : Jobs, (∀ r : MapRole, (j.mapStands r = false ∨ (j.node (j.mapNode r)).state ≠ .active) →
      (r = .brkPos → j.brkNow = .unknown) ∧ (r = .selPos → j.selNow = .unknown) ∧
      (r = .earthPos → j.earthNow = .unknown)) ∧
    (j.mapStands .brkPos = true → (j.node (j.mapNode .brkPos)).state = .active →
      j.brkNow = match j.fb.brkRaw with
        | some true => .closed
        | some false => .open
        | none => .unknown) ∧
    (j.mapStands .selPos = true → (j.node (j.mapNode .selPos)).state = .active →
      j.selNow = match j.fb.selRaw.map BitVec.toNat with
        | some 0 => .moving
        | some 1 => .ac
        | some 2 => .dc
        | some _ => .illegal
        | none => .unknown) ∧
    (j.mapStands .earthPos = true → (j.node (j.mapNode .earthPos)).state = .active →
      j.earthNow = match j.oc.earthRaw with
        | some true => .closed
        | some false => .open
        | none => .unknown)) ∧
  ∀ (j : Jobs) (x : Panto) (p : PantoRec) (up down low hard weak : Bool), Store.wf {} j.tm.mem = true → p = j.panto x →
    up = optTest p.height (fun v => decide ((j.pantoParam x 2).toNat ≤ v)) →
    down = optTest p.height (fun v => decide (v < (j.pantoParam x 2).toNat)) →
    low = optTest p.height (fun v => decide (v ≤ (j.pantoParam x 1).toNat)) →
    hard = optTest p.press (fun v => decide ((j.pantoParam x 3).toNat ≤ v)) →
    weak = optTest p.press (fun v => decide (v < (j.pantoParam x 4).toNat)) →
    ((p.state = .lowered ∨ p.state = .preparing ∨ p.state = .dropped ∨ p.state = .faulted) → j.evaluate x = j) ∧
    ((p.state = .raising ∨ p.state = .inContact) → weak = true → (p.reached = true ∨ hard = true) →
      (j.evaluate x).panto x = { p with state := .dropped, cause := some .drop, reached := true } ∧
      (j.evaluate x).oc.hold = false ∧ Flagged .pantoDropped (BitVec.ofNat 16 x.num) (j.evaluate x).out) ∧
    (p.state = .lowering →
      (low = false → (j.evaluate x).panto x = { p with low := 0 }) ∧
      (low = true →
        (p.low < 2 → (j.evaluate x).panto x = { p with low := p.low + 1 }) ∧
        (2 ≤ p.low → (j.evaluate x).panto x
          = { p with low := p.low + 1, state := .lowered, role := .none, connected := false }))) ∧
    ∀ reached : Bool, reached = (p.reached || hard) → (reached = false ∨ weak = false) →
      (p.state = .raising →
        ((up = false ∨ hard = false) → (j.evaluate x).panto x = { p with reached := reached, contact := 0 }) ∧
        (up = true → hard = true →
          (p.contact < 2 → (j.evaluate x).panto x = { p with reached := reached, contact := p.contact + 1 }) ∧
          (2 ≤ p.contact →
            (j.evaluate x).panto x = { p with reached := reached, contact := p.contact + 1, state := .inContact,
                                              loss := 0, excess := 0, burst := false } ∧
            ((j.evaluate x).arcIn x).count = min 255 (j.pantoParam x 9).toNat ∧
            ((j.evaluate x).timer x.stepTimer).stopped ∧
            Flagged .pantoContact (BitVec.ofNat 16 x.num) (j.evaluate x).out))) ∧
      (p.state = .inContact →
        (up = true → (j.evaluate x).panto x = { p with reached := reached, loss := 0 }) ∧
        (down = true →
          (p.loss < 2 → (j.evaluate x).panto x = { p with reached := reached, loss := p.loss + 1 }) ∧
          (2 ≤ p.loss → (j.evaluate x).panto x
              = { p with reached := reached, loss := p.loss + 1, state := .raising, contact := 0 } ∧
            Flagged .contactLost (BitVec.ofNat 16 x.num) (j.evaluate x).out)) ∧
        (up = false → down = false → (j.evaluate x).panto x = { p with reached := reached }))

/-- R172 to R177: which entries match a trigger; a FRAME entry's words; and an originated frame is offered with
disposition ORIGINATED, or as dropped QUEUE_FULL where the train transmit queue refuses it. An entry offered to the capture
buffer: one of a class its mode does not record, or while FROZEN, is
not written; any other is written at its region's place, which advances within the region; a match in ARMED starts the
count of entries still to come, and the buffer is FROZEN when that reaches 0. -/
def Obligations.CaptureEntries : Prop :=
  (∀ (d : Option Direction) (kind : Option Kind) (point mask : Word) (code : Nat) (dir : Direction) (f : Frame) (g : Flag),
    ((Trigger.frame d kind point mask).hitsFrame dir f = true ↔ (∀ x, d = some x → x = dir) ∧
      (∀ x, kind = some x → x = f.kind) ∧ ∀ i, mask.getLsbD i = true → f.point.getLsbD i = point.getLsbD i) ∧
    ((Trigger.event code).hitsEvent g = true ↔ code = g.code) ∧
    (Trigger.event code).hitsFrame dir f = false ∧ (Trigger.frame d kind point mask).hitsEvent g = false ∧
    Trigger.disabled.hitsFrame dir f = false ∧ Trigger.disabled.hitsEvent g = false) ∧
  (∀ (tag : Long) (p : Port) (dir : Direction) (f : Frame) (d : Disposition) (k : Option Nat) (e : CaptureEntry),
    e = frameEntry tag p dir f d k → (∀ i, k = some i → i < 16) → f.payload.length ≤ 16 →
    e.tag = tag ∧ bits e.descriptor 14 2 = 1 ∧ (bit e.descriptor 13 = true ↔ p = .roof) ∧
    (bit e.descriptor 12 = true ↔ dir = .down) ∧ bits e.descriptor 9 3 = f.kind.code ∧ bits e.descriptor 6 3 = d.code ∧
    bits e.descriptor 0 5 = k.getD 31 ∧ e.w3 = f.point ∧ bits e.w4 8 5 = f.payload.length ∧
    bits e.w4 0 8 = f.seq.toNat ∧ e.w5 = f.payload.headD 0) ∧
  (∀ (s u : State) (f : Frame), u = s.originate f → s.deliver (.frame f) = u ∧
    u.fr.train = { s.fr.train with originated := s.fr.train.originated + 1 } ∧
    (s.fr.up.length < 16 → u.fr.up = s.fr.up ++ [{ forwarded := false, frame := f }] ∧ u.fr.lost = s.fr.lost ∧
      Offered .train .up f .originated s u) ∧
    (16 ≤ s.fr.up.length → u.fr.up = s.fr.up ∧ u.fr.lost = min 65535 (s.fr.lost + 1) ∧
      Offered .train .up f (.dropped .queueFull) s u)) ∧
  ∀ (c : Capture) (frame hit : Bool) (e : CaptureEntry) (i next : Nat), i = (if frame then c.frameIndex else c.eventIndex) →
    next = (if c.mode = .mixed then (if frame then (if i = 127 then 0 else i + 1) else if i = 255 then 128 else i + 1)
      else if i = 255 then 0 else i + 1) →
    ((c.mode = .frames ∧ frame = false ∨ c.mode = .events ∧ frame = true ∨ c.state = .frozen) →
      c.offer frame hit e = (c, false)) ∧
    ((c.mode = .mixed ∨ c.mode = .frames ∧ frame = true ∨ c.mode = .events ∧ frame = false) → c.state ≠ .frozen →
      Store.wf CaptureEntry.empty c.mem = true →
      (∀ a, Store.read CaptureEntry.empty a (c.offer frame hit e).1.mem
        = if a = i then e else Store.read CaptureEntry.empty a c.mem) ∧
      (c.offer frame hit e).1 = { c with
        mem := (c.offer frame hit e).1.mem,
        frameIndex := if frame then next else c.frameIndex, eventIndex := if frame then c.eventIndex else next,
        state := (c.offer frame hit e).1.state, remaining := (c.offer frame hit e).1.remaining,
        place := (c.offer frame hit e).1.place } ∧
      (c.state = .armed → hit = false → (c.offer frame hit e).1.state = .armed ∧ (c.offer frame hit e).2 = false ∧
        (c.offer frame hit e).1.place = c.place) ∧
      (c.state = .armed → hit = true → (c.offer frame hit e).1.place = some (i, e.tag) ∧
        (c.offer frame hit e).1.remaining = c.post ∧
        (c.post = 0 → (c.offer frame hit e).1.state = .frozen ∧ (c.offer frame hit e).2 = true) ∧
        (0 < c.post → (c.offer frame hit e).1.state = .triggered ∧ (c.offer frame hit e).2 = false)) ∧
      (c.state = .triggered → (c.offer frame hit e).1.remaining = c.remaining - 1 ∧
        (c.offer frame hit e).1.place = c.place ∧
        (c.remaining ≤ 1 → (c.offer frame hit e).1.state = .frozen ∧ (c.offer frame hit e).2 = true) ∧
        (2 ≤ c.remaining → (c.offer frame hit e).1.state = .triggered ∧ (c.offer frame hit e).2 = false)))
end

