-- ==== Sys2Proof/Laws/State.lean ====
section
/-! SUPPORT. One lemma per field per update of `Jobs` and of `State`, each true by `rfl`, so that no later
proof unfolds a record update. -/

namespace Sys2Proof.Machine

@[simp] theorem Jobs.setDev_dev (v : Device) (j : Jobs) : (Jobs.setDev v j).dev = v := rfl
@[simp] theorem Jobs.setDev_tag (v : Device) (j : Jobs) : (Jobs.setDev v j).tag = j.tag := rfl
@[simp] theorem Jobs.setDev_tmr (v : Device) (j : Jobs) : (Jobs.setDev v j).tmr = j.tmr := rfl
@[simp] theorem Jobs.setDev_arc (v : Device) (j : Jobs) : (Jobs.setDev v j).arc = j.arc := rfl
@[simp] theorem Jobs.setDev_tm (v : Device) (j : Jobs) : (Jobs.setDev v j).tm = j.tm := rfl
@[simp] theorem Jobs.setDev_lmu (v : Device) (j : Jobs) : (Jobs.setDev v j).lmu = j.lmu := rfl
@[simp] theorem Jobs.setDev_lsi (v : Device) (j : Jobs) : (Jobs.setDev v j).lsi = j.lsi := rfl
@[simp] theorem Jobs.setDev_speed (v : Device) (j : Jobs) : (Jobs.setDev v j).speed = j.speed := rfl
@[simp] theorem Jobs.setDev_cs (v : Device) (j : Jobs) : (Jobs.setDev v j).cs = j.cs := rfl
@[simp] theorem Jobs.setDev_fb (v : Device) (j : Jobs) : (Jobs.setDev v j).fb = j.fb := rfl
@[simp] theorem Jobs.setDev_p1 (v : Device) (j : Jobs) : (Jobs.setDev v j).p1 = j.p1 := rfl
@[simp] theorem Jobs.setDev_p2 (v : Device) (j : Jobs) : (Jobs.setDev v j).p2 = j.p2 := rfl
@[simp] theorem Jobs.setDev_ice (v : Device) (j : Jobs) : (Jobs.setDev v j).ice = j.ice := rfl
@[simp] theorem Jobs.setDev_oc (v : Device) (j : Jobs) : (Jobs.setDev v j).oc = j.oc := rfl
@[simp] theorem Jobs.setDev_nodes (v : Device) (j : Jobs) : (Jobs.setDev v j).nodes = j.nodes := rfl
@[simp] theorem Jobs.setDev_todo (v : Device) (j : Jobs) : (Jobs.setDev v j).todo = j.todo := rfl
@[simp] theorem Jobs.setDev_out (v : Device) (j : Jobs) : (Jobs.setDev v j).out = j.out := rfl
@[simp] theorem Jobs.setTag_dev (v : Long) (j : Jobs) : (Jobs.setTag v j).dev = j.dev := rfl
@[simp] theorem Jobs.setTag_tag (v : Long) (j : Jobs) : (Jobs.setTag v j).tag = v := rfl
@[simp] theorem Jobs.setTag_tmr (v : Long) (j : Jobs) : (Jobs.setTag v j).tmr = j.tmr := rfl
@[simp] theorem Jobs.setTag_arc (v : Long) (j : Jobs) : (Jobs.setTag v j).arc = j.arc := rfl
@[simp] theorem Jobs.setTag_tm (v : Long) (j : Jobs) : (Jobs.setTag v j).tm = j.tm := rfl
@[simp] theorem Jobs.setTag_lmu (v : Long) (j : Jobs) : (Jobs.setTag v j).lmu = j.lmu := rfl
@[simp] theorem Jobs.setTag_lsi (v : Long) (j : Jobs) : (Jobs.setTag v j).lsi = j.lsi := rfl
@[simp] theorem Jobs.setTag_speed (v : Long) (j : Jobs) : (Jobs.setTag v j).speed = j.speed := rfl
@[simp] theorem Jobs.setTag_cs (v : Long) (j : Jobs) : (Jobs.setTag v j).cs = j.cs := rfl
@[simp] theorem Jobs.setTag_fb (v : Long) (j : Jobs) : (Jobs.setTag v j).fb = j.fb := rfl
@[simp] theorem Jobs.setTag_p1 (v : Long) (j : Jobs) : (Jobs.setTag v j).p1 = j.p1 := rfl
@[simp] theorem Jobs.setTag_p2 (v : Long) (j : Jobs) : (Jobs.setTag v j).p2 = j.p2 := rfl
@[simp] theorem Jobs.setTag_ice (v : Long) (j : Jobs) : (Jobs.setTag v j).ice = j.ice := rfl
@[simp] theorem Jobs.setTag_oc (v : Long) (j : Jobs) : (Jobs.setTag v j).oc = j.oc := rfl
@[simp] theorem Jobs.setTag_nodes (v : Long) (j : Jobs) : (Jobs.setTag v j).nodes = j.nodes := rfl
@[simp] theorem Jobs.setTag_todo (v : Long) (j : Jobs) : (Jobs.setTag v j).todo = j.todo := rfl
@[simp] theorem Jobs.setTag_out (v : Long) (j : Jobs) : (Jobs.setTag v j).out = j.out := rfl
@[simp] theorem Jobs.setTmr_dev (v : Timers) (j : Jobs) : (Jobs.setTmr v j).dev = j.dev := rfl
@[simp] theorem Jobs.setTmr_tag (v : Timers) (j : Jobs) : (Jobs.setTmr v j).tag = j.tag := rfl
@[simp] theorem Jobs.setTmr_tmr (v : Timers) (j : Jobs) : (Jobs.setTmr v j).tmr = v := rfl
@[simp] theorem Jobs.setTmr_arc (v : Timers) (j : Jobs) : (Jobs.setTmr v j).arc = j.arc := rfl
@[simp] theorem Jobs.setTmr_tm (v : Timers) (j : Jobs) : (Jobs.setTmr v j).tm = j.tm := rfl
@[simp] theorem Jobs.setTmr_lmu (v : Timers) (j : Jobs) : (Jobs.setTmr v j).lmu = j.lmu := rfl
@[simp] theorem Jobs.setTmr_lsi (v : Timers) (j : Jobs) : (Jobs.setTmr v j).lsi = j.lsi := rfl
@[simp] theorem Jobs.setTmr_speed (v : Timers) (j : Jobs) : (Jobs.setTmr v j).speed = j.speed := rfl
@[simp] theorem Jobs.setTmr_cs (v : Timers) (j : Jobs) : (Jobs.setTmr v j).cs = j.cs := rfl
@[simp] theorem Jobs.setTmr_fb (v : Timers) (j : Jobs) : (Jobs.setTmr v j).fb = j.fb := rfl
@[simp] theorem Jobs.setTmr_p1 (v : Timers) (j : Jobs) : (Jobs.setTmr v j).p1 = j.p1 := rfl
@[simp] theorem Jobs.setTmr_p2 (v : Timers) (j : Jobs) : (Jobs.setTmr v j).p2 = j.p2 := rfl
@[simp] theorem Jobs.setTmr_ice (v : Timers) (j : Jobs) : (Jobs.setTmr v j).ice = j.ice := rfl
@[simp] theorem Jobs.setTmr_oc (v : Timers) (j : Jobs) : (Jobs.setTmr v j).oc = j.oc := rfl
@[simp] theorem Jobs.setTmr_nodes (v : Timers) (j : Jobs) : (Jobs.setTmr v j).nodes = j.nodes := rfl
@[simp] theorem Jobs.setTmr_todo (v : Timers) (j : Jobs) : (Jobs.setTmr v j).todo = j.todo := rfl
@[simp] theorem Jobs.setTmr_out (v : Timers) (j : Jobs) : (Jobs.setTmr v j).out = j.out := rfl
@[simp] theorem Jobs.setArc_dev (v : Arcs) (j : Jobs) : (Jobs.setArc v j).dev = j.dev := rfl
@[simp] theorem Jobs.setArc_tag (v : Arcs) (j : Jobs) : (Jobs.setArc v j).tag = j.tag := rfl
@[simp] theorem Jobs.setArc_tmr (v : Arcs) (j : Jobs) : (Jobs.setArc v j).tmr = j.tmr := rfl
@[simp] theorem Jobs.setArc_arc (v : Arcs) (j : Jobs) : (Jobs.setArc v j).arc = v := rfl
@[simp] theorem Jobs.setArc_tm (v : Arcs) (j : Jobs) : (Jobs.setArc v j).tm = j.tm := rfl
@[simp] theorem Jobs.setArc_lmu (v : Arcs) (j : Jobs) : (Jobs.setArc v j).lmu = j.lmu := rfl
@[simp] theorem Jobs.setArc_lsi (v : Arcs) (j : Jobs) : (Jobs.setArc v j).lsi = j.lsi := rfl
@[simp] theorem Jobs.setArc_speed (v : Arcs) (j : Jobs) : (Jobs.setArc v j).speed = j.speed := rfl
@[simp] theorem Jobs.setArc_cs (v : Arcs) (j : Jobs) : (Jobs.setArc v j).cs = j.cs := rfl
@[simp] theorem Jobs.setArc_fb (v : Arcs) (j : Jobs) : (Jobs.setArc v j).fb = j.fb := rfl
@[simp] theorem Jobs.setArc_p1 (v : Arcs) (j : Jobs) : (Jobs.setArc v j).p1 = j.p1 := rfl
@[simp] theorem Jobs.setArc_p2 (v : Arcs) (j : Jobs) : (Jobs.setArc v j).p2 = j.p2 := rfl
@[simp] theorem Jobs.setArc_ice (v : Arcs) (j : Jobs) : (Jobs.setArc v j).ice = j.ice := rfl
@[simp] theorem Jobs.setArc_oc (v : Arcs) (j : Jobs) : (Jobs.setArc v j).oc = j.oc := rfl
@[simp] theorem Jobs.setArc_nodes (v : Arcs) (j : Jobs) : (Jobs.setArc v j).nodes = j.nodes := rfl
@[simp] theorem Jobs.setArc_todo (v : Arcs) (j : Jobs) : (Jobs.setArc v j).todo = j.todo := rfl
@[simp] theorem Jobs.setArc_out (v : Arcs) (j : Jobs) : (Jobs.setArc v j).out = j.out := rfl
@[simp] theorem Jobs.setTm_dev (v : TableMem) (j : Jobs) : (Jobs.setTm v j).dev = j.dev := rfl
@[simp] theorem Jobs.setTm_tag (v : TableMem) (j : Jobs) : (Jobs.setTm v j).tag = j.tag := rfl
@[simp] theorem Jobs.setTm_tmr (v : TableMem) (j : Jobs) : (Jobs.setTm v j).tmr = j.tmr := rfl
@[simp] theorem Jobs.setTm_arc (v : TableMem) (j : Jobs) : (Jobs.setTm v j).arc = j.arc := rfl
@[simp] theorem Jobs.setTm_tm (v : TableMem) (j : Jobs) : (Jobs.setTm v j).tm = v := rfl
@[simp] theorem Jobs.setTm_lmu (v : TableMem) (j : Jobs) : (Jobs.setTm v j).lmu = j.lmu := rfl
@[simp] theorem Jobs.setTm_lsi (v : TableMem) (j : Jobs) : (Jobs.setTm v j).lsi = j.lsi := rfl
@[simp] theorem Jobs.setTm_speed (v : TableMem) (j : Jobs) : (Jobs.setTm v j).speed = j.speed := rfl
@[simp] theorem Jobs.setTm_cs (v : TableMem) (j : Jobs) : (Jobs.setTm v j).cs = j.cs := rfl
@[simp] theorem Jobs.setTm_fb (v : TableMem) (j : Jobs) : (Jobs.setTm v j).fb = j.fb := rfl
@[simp] theorem Jobs.setTm_p1 (v : TableMem) (j : Jobs) : (Jobs.setTm v j).p1 = j.p1 := rfl
@[simp] theorem Jobs.setTm_p2 (v : TableMem) (j : Jobs) : (Jobs.setTm v j).p2 = j.p2 := rfl
@[simp] theorem Jobs.setTm_ice (v : TableMem) (j : Jobs) : (Jobs.setTm v j).ice = j.ice := rfl
@[simp] theorem Jobs.setTm_oc (v : TableMem) (j : Jobs) : (Jobs.setTm v j).oc = j.oc := rfl
@[simp] theorem Jobs.setTm_nodes (v : TableMem) (j : Jobs) : (Jobs.setTm v j).nodes = j.nodes := rfl
@[simp] theorem Jobs.setTm_todo (v : TableMem) (j : Jobs) : (Jobs.setTm v j).todo = j.todo := rfl
@[simp] theorem Jobs.setTm_out (v : TableMem) (j : Jobs) : (Jobs.setTm v j).out = j.out := rfl
@[simp] theorem Jobs.setLmu_dev (v : Lmu) (j : Jobs) : (Jobs.setLmu v j).dev = j.dev := rfl
@[simp] theorem Jobs.setLmu_tag (v : Lmu) (j : Jobs) : (Jobs.setLmu v j).tag = j.tag := rfl
@[simp] theorem Jobs.setLmu_tmr (v : Lmu) (j : Jobs) : (Jobs.setLmu v j).tmr = j.tmr := rfl
@[simp] theorem Jobs.setLmu_arc (v : Lmu) (j : Jobs) : (Jobs.setLmu v j).arc = j.arc := rfl
@[simp] theorem Jobs.setLmu_tm (v : Lmu) (j : Jobs) : (Jobs.setLmu v j).tm = j.tm := rfl
@[simp] theorem Jobs.setLmu_lmu (v : Lmu) (j : Jobs) : (Jobs.setLmu v j).lmu = v := rfl
@[simp] theorem Jobs.setLmu_lsi (v : Lmu) (j : Jobs) : (Jobs.setLmu v j).lsi = j.lsi := rfl
@[simp] theorem Jobs.setLmu_speed (v : Lmu) (j : Jobs) : (Jobs.setLmu v j).speed = j.speed := rfl
@[simp] theorem Jobs.setLmu_cs (v : Lmu) (j : Jobs) : (Jobs.setLmu v j).cs = j.cs := rfl
@[simp] theorem Jobs.setLmu_fb (v : Lmu) (j : Jobs) : (Jobs.setLmu v j).fb = j.fb := rfl
@[simp] theorem Jobs.setLmu_p1 (v : Lmu) (j : Jobs) : (Jobs.setLmu v j).p1 = j.p1 := rfl
@[simp] theorem Jobs.setLmu_p2 (v : Lmu) (j : Jobs) : (Jobs.setLmu v j).p2 = j.p2 := rfl
@[simp] theorem Jobs.setLmu_ice (v : Lmu) (j : Jobs) : (Jobs.setLmu v j).ice = j.ice := rfl
@[simp] theorem Jobs.setLmu_oc (v : Lmu) (j : Jobs) : (Jobs.setLmu v j).oc = j.oc := rfl
@[simp] theorem Jobs.setLmu_nodes (v : Lmu) (j : Jobs) : (Jobs.setLmu v j).nodes = j.nodes := rfl
@[simp] theorem Jobs.setLmu_todo (v : Lmu) (j : Jobs) : (Jobs.setLmu v j).todo = j.todo := rfl
@[simp] theorem Jobs.setLmu_out (v : Lmu) (j : Jobs) : (Jobs.setLmu v j).out = j.out := rfl
@[simp] theorem Jobs.setLsi_dev (v : Lsi) (j : Jobs) : (Jobs.setLsi v j).dev = j.dev := rfl
@[simp] theorem Jobs.setLsi_tag (v : Lsi) (j : Jobs) : (Jobs.setLsi v j).tag = j.tag := rfl
@[simp] theorem Jobs.setLsi_tmr (v : Lsi) (j : Jobs) : (Jobs.setLsi v j).tmr = j.tmr := rfl
@[simp] theorem Jobs.setLsi_arc (v : Lsi) (j : Jobs) : (Jobs.setLsi v j).arc = j.arc := rfl
@[simp] theorem Jobs.setLsi_tm (v : Lsi) (j : Jobs) : (Jobs.setLsi v j).tm = j.tm := rfl
@[simp] theorem Jobs.setLsi_lmu (v : Lsi) (j : Jobs) : (Jobs.setLsi v j).lmu = j.lmu := rfl
@[simp] theorem Jobs.setLsi_lsi (v : Lsi) (j : Jobs) : (Jobs.setLsi v j).lsi = v := rfl
@[simp] theorem Jobs.setLsi_speed (v : Lsi) (j : Jobs) : (Jobs.setLsi v j).speed = j.speed := rfl
@[simp] theorem Jobs.setLsi_cs (v : Lsi) (j : Jobs) : (Jobs.setLsi v j).cs = j.cs := rfl
@[simp] theorem Jobs.setLsi_fb (v : Lsi) (j : Jobs) : (Jobs.setLsi v j).fb = j.fb := rfl
@[simp] theorem Jobs.setLsi_p1 (v : Lsi) (j : Jobs) : (Jobs.setLsi v j).p1 = j.p1 := rfl
@[simp] theorem Jobs.setLsi_p2 (v : Lsi) (j : Jobs) : (Jobs.setLsi v j).p2 = j.p2 := rfl
@[simp] theorem Jobs.setLsi_ice (v : Lsi) (j : Jobs) : (Jobs.setLsi v j).ice = j.ice := rfl
@[simp] theorem Jobs.setLsi_oc (v : Lsi) (j : Jobs) : (Jobs.setLsi v j).oc = j.oc := rfl
@[simp] theorem Jobs.setLsi_nodes (v : Lsi) (j : Jobs) : (Jobs.setLsi v j).nodes = j.nodes := rfl
@[simp] theorem Jobs.setLsi_todo (v : Lsi) (j : Jobs) : (Jobs.setLsi v j).todo = j.todo := rfl
@[simp] theorem Jobs.setLsi_out (v : Lsi) (j : Jobs) : (Jobs.setLsi v j).out = j.out := rfl
@[simp] theorem Jobs.setSpeed_dev (v : SpeedRec) (j : Jobs) : (Jobs.setSpeed v j).dev = j.dev := rfl
@[simp] theorem Jobs.setSpeed_tag (v : SpeedRec) (j : Jobs) : (Jobs.setSpeed v j).tag = j.tag := rfl
@[simp] theorem Jobs.setSpeed_tmr (v : SpeedRec) (j : Jobs) : (Jobs.setSpeed v j).tmr = j.tmr := rfl
@[simp] theorem Jobs.setSpeed_arc (v : SpeedRec) (j : Jobs) : (Jobs.setSpeed v j).arc = j.arc := rfl
@[simp] theorem Jobs.setSpeed_tm (v : SpeedRec) (j : Jobs) : (Jobs.setSpeed v j).tm = j.tm := rfl
@[simp] theorem Jobs.setSpeed_lmu (v : SpeedRec) (j : Jobs) : (Jobs.setSpeed v j).lmu = j.lmu := rfl
@[simp] theorem Jobs.setSpeed_lsi (v : SpeedRec) (j : Jobs) : (Jobs.setSpeed v j).lsi = j.lsi := rfl
@[simp] theorem Jobs.setSpeed_speed (v : SpeedRec) (j : Jobs) : (Jobs.setSpeed v j).speed = v := rfl
@[simp] theorem Jobs.setSpeed_cs (v : SpeedRec) (j : Jobs) : (Jobs.setSpeed v j).cs = j.cs := rfl
@[simp] theorem Jobs.setSpeed_fb (v : SpeedRec) (j : Jobs) : (Jobs.setSpeed v j).fb = j.fb := rfl
@[simp] theorem Jobs.setSpeed_p1 (v : SpeedRec) (j : Jobs) : (Jobs.setSpeed v j).p1 = j.p1 := rfl
@[simp] theorem Jobs.setSpeed_p2 (v : SpeedRec) (j : Jobs) : (Jobs.setSpeed v j).p2 = j.p2 := rfl
@[simp] theorem Jobs.setSpeed_ice (v : SpeedRec) (j : Jobs) : (Jobs.setSpeed v j).ice = j.ice := rfl
@[simp] theorem Jobs.setSpeed_oc (v : SpeedRec) (j : Jobs) : (Jobs.setSpeed v j).oc = j.oc := rfl
@[simp] theorem Jobs.setSpeed_nodes (v : SpeedRec) (j : Jobs) : (Jobs.setSpeed v j).nodes = j.nodes := rfl
@[simp] theorem Jobs.setSpeed_todo (v : SpeedRec) (j : Jobs) : (Jobs.setSpeed v j).todo = j.todo := rfl
@[simp] theorem Jobs.setSpeed_out (v : SpeedRec) (j : Jobs) : (Jobs.setSpeed v j).out = j.out := rfl
@[simp] theorem Jobs.setCs_dev (v : Cs) (j : Jobs) : (Jobs.setCs v j).dev = j.dev := rfl
@[simp] theorem Jobs.setCs_tag (v : Cs) (j : Jobs) : (Jobs.setCs v j).tag = j.tag := rfl
@[simp] theorem Jobs.setCs_tmr (v : Cs) (j : Jobs) : (Jobs.setCs v j).tmr = j.tmr := rfl
@[simp] theorem Jobs.setCs_arc (v : Cs) (j : Jobs) : (Jobs.setCs v j).arc = j.arc := rfl
@[simp] theorem Jobs.setCs_tm (v : Cs) (j : Jobs) : (Jobs.setCs v j).tm = j.tm := rfl
@[simp] theorem Jobs.setCs_lmu (v : Cs) (j : Jobs) : (Jobs.setCs v j).lmu = j.lmu := rfl
@[simp] theorem Jobs.setCs_lsi (v : Cs) (j : Jobs) : (Jobs.setCs v j).lsi = j.lsi := rfl
@[simp] theorem Jobs.setCs_speed (v : Cs) (j : Jobs) : (Jobs.setCs v j).speed = j.speed := rfl
@[simp] theorem Jobs.setCs_cs (v : Cs) (j : Jobs) : (Jobs.setCs v j).cs = v := rfl
@[simp] theorem Jobs.setCs_fb (v : Cs) (j : Jobs) : (Jobs.setCs v j).fb = j.fb := rfl
@[simp] theorem Jobs.setCs_p1 (v : Cs) (j : Jobs) : (Jobs.setCs v j).p1 = j.p1 := rfl
@[simp] theorem Jobs.setCs_p2 (v : Cs) (j : Jobs) : (Jobs.setCs v j).p2 = j.p2 := rfl
@[simp] theorem Jobs.setCs_ice (v : Cs) (j : Jobs) : (Jobs.setCs v j).ice = j.ice := rfl
@[simp] theorem Jobs.setCs_oc (v : Cs) (j : Jobs) : (Jobs.setCs v j).oc = j.oc := rfl
@[simp] theorem Jobs.setCs_nodes (v : Cs) (j : Jobs) : (Jobs.setCs v j).nodes = j.nodes := rfl
@[simp] theorem Jobs.setCs_todo (v : Cs) (j : Jobs) : (Jobs.setCs v j).todo = j.todo := rfl
@[simp] theorem Jobs.setCs_out (v : Cs) (j : Jobs) : (Jobs.setCs v j).out = j.out := rfl
@[simp] theorem Jobs.setFb_dev (v : Feedback) (j : Jobs) : (Jobs.setFb v j).dev = j.dev := rfl
@[simp] theorem Jobs.setFb_tag (v : Feedback) (j : Jobs) : (Jobs.setFb v j).tag = j.tag := rfl
@[simp] theorem Jobs.setFb_tmr (v : Feedback) (j : Jobs) : (Jobs.setFb v j).tmr = j.tmr := rfl
@[simp] theorem Jobs.setFb_arc (v : Feedback) (j : Jobs) : (Jobs.setFb v j).arc = j.arc := rfl
@[simp] theorem Jobs.setFb_tm (v : Feedback) (j : Jobs) : (Jobs.setFb v j).tm = j.tm := rfl
@[simp] theorem Jobs.setFb_lmu (v : Feedback) (j : Jobs) : (Jobs.setFb v j).lmu = j.lmu := rfl
@[simp] theorem Jobs.setFb_lsi (v : Feedback) (j : Jobs) : (Jobs.setFb v j).lsi = j.lsi := rfl
@[simp] theorem Jobs.setFb_speed (v : Feedback) (j : Jobs) : (Jobs.setFb v j).speed = j.speed := rfl
@[simp] theorem Jobs.setFb_cs (v : Feedback) (j : Jobs) : (Jobs.setFb v j).cs = j.cs := rfl
@[simp] theorem Jobs.setFb_fb (v : Feedback) (j : Jobs) : (Jobs.setFb v j).fb = v := rfl
@[simp] theorem Jobs.setFb_p1 (v : Feedback) (j : Jobs) : (Jobs.setFb v j).p1 = j.p1 := rfl
@[simp] theorem Jobs.setFb_p2 (v : Feedback) (j : Jobs) : (Jobs.setFb v j).p2 = j.p2 := rfl
@[simp] theorem Jobs.setFb_ice (v : Feedback) (j : Jobs) : (Jobs.setFb v j).ice = j.ice := rfl
@[simp] theorem Jobs.setFb_oc (v : Feedback) (j : Jobs) : (Jobs.setFb v j).oc = j.oc := rfl
@[simp] theorem Jobs.setFb_nodes (v : Feedback) (j : Jobs) : (Jobs.setFb v j).nodes = j.nodes := rfl
@[simp] theorem Jobs.setFb_todo (v : Feedback) (j : Jobs) : (Jobs.setFb v j).todo = j.todo := rfl
@[simp] theorem Jobs.setFb_out (v : Feedback) (j : Jobs) : (Jobs.setFb v j).out = j.out := rfl
@[simp] theorem Jobs.setP1_dev (v : PantoRec) (j : Jobs) : (Jobs.setP1 v j).dev = j.dev := rfl
@[simp] theorem Jobs.setP1_tag (v : PantoRec) (j : Jobs) : (Jobs.setP1 v j).tag = j.tag := rfl
@[simp] theorem Jobs.setP1_tmr (v : PantoRec) (j : Jobs) : (Jobs.setP1 v j).tmr = j.tmr := rfl
@[simp] theorem Jobs.setP1_arc (v : PantoRec) (j : Jobs) : (Jobs.setP1 v j).arc = j.arc := rfl
@[simp] theorem Jobs.setP1_tm (v : PantoRec) (j : Jobs) : (Jobs.setP1 v j).tm = j.tm := rfl
@[simp] theorem Jobs.setP1_lmu (v : PantoRec) (j : Jobs) : (Jobs.setP1 v j).lmu = j.lmu := rfl
@[simp] theorem Jobs.setP1_lsi (v : PantoRec) (j : Jobs) : (Jobs.setP1 v j).lsi = j.lsi := rfl
@[simp] theorem Jobs.setP1_speed (v : PantoRec) (j : Jobs) : (Jobs.setP1 v j).speed = j.speed := rfl
@[simp] theorem Jobs.setP1_cs (v : PantoRec) (j : Jobs) : (Jobs.setP1 v j).cs = j.cs := rfl
@[simp] theorem Jobs.setP1_fb (v : PantoRec) (j : Jobs) : (Jobs.setP1 v j).fb = j.fb := rfl
@[simp] theorem Jobs.setP1_p1 (v : PantoRec) (j : Jobs) : (Jobs.setP1 v j).p1 = v := rfl
@[simp] theorem Jobs.setP1_p2 (v : PantoRec) (j : Jobs) : (Jobs.setP1 v j).p2 = j.p2 := rfl
@[simp] theorem Jobs.setP1_ice (v : PantoRec) (j : Jobs) : (Jobs.setP1 v j).ice = j.ice := rfl
@[simp] theorem Jobs.setP1_oc (v : PantoRec) (j : Jobs) : (Jobs.setP1 v j).oc = j.oc := rfl
@[simp] theorem Jobs.setP1_nodes (v : PantoRec) (j : Jobs) : (Jobs.setP1 v j).nodes = j.nodes := rfl
@[simp] theorem Jobs.setP1_todo (v : PantoRec) (j : Jobs) : (Jobs.setP1 v j).todo = j.todo := rfl
@[simp] theorem Jobs.setP1_out (v : PantoRec) (j : Jobs) : (Jobs.setP1 v j).out = j.out := rfl
@[simp] theorem Jobs.setP2_dev (v : PantoRec) (j : Jobs) : (Jobs.setP2 v j).dev = j.dev := rfl
@[simp] theorem Jobs.setP2_tag (v : PantoRec) (j : Jobs) : (Jobs.setP2 v j).tag = j.tag := rfl
@[simp] theorem Jobs.setP2_tmr (v : PantoRec) (j : Jobs) : (Jobs.setP2 v j).tmr = j.tmr := rfl
@[simp] theorem Jobs.setP2_arc (v : PantoRec) (j : Jobs) : (Jobs.setP2 v j).arc = j.arc := rfl
@[simp] theorem Jobs.setP2_tm (v : PantoRec) (j : Jobs) : (Jobs.setP2 v j).tm = j.tm := rfl
@[simp] theorem Jobs.setP2_lmu (v : PantoRec) (j : Jobs) : (Jobs.setP2 v j).lmu = j.lmu := rfl
@[simp] theorem Jobs.setP2_lsi (v : PantoRec) (j : Jobs) : (Jobs.setP2 v j).lsi = j.lsi := rfl
@[simp] theorem Jobs.setP2_speed (v : PantoRec) (j : Jobs) : (Jobs.setP2 v j).speed = j.speed := rfl
@[simp] theorem Jobs.setP2_cs (v : PantoRec) (j : Jobs) : (Jobs.setP2 v j).cs = j.cs := rfl
@[simp] theorem Jobs.setP2_fb (v : PantoRec) (j : Jobs) : (Jobs.setP2 v j).fb = j.fb := rfl
@[simp] theorem Jobs.setP2_p1 (v : PantoRec) (j : Jobs) : (Jobs.setP2 v j).p1 = j.p1 := rfl
@[simp] theorem Jobs.setP2_p2 (v : PantoRec) (j : Jobs) : (Jobs.setP2 v j).p2 = v := rfl
@[simp] theorem Jobs.setP2_ice (v : PantoRec) (j : Jobs) : (Jobs.setP2 v j).ice = j.ice := rfl
@[simp] theorem Jobs.setP2_oc (v : PantoRec) (j : Jobs) : (Jobs.setP2 v j).oc = j.oc := rfl
@[simp] theorem Jobs.setP2_nodes (v : PantoRec) (j : Jobs) : (Jobs.setP2 v j).nodes = j.nodes := rfl
@[simp] theorem Jobs.setP2_todo (v : PantoRec) (j : Jobs) : (Jobs.setP2 v j).todo = j.todo := rfl
@[simp] theorem Jobs.setP2_out (v : PantoRec) (j : Jobs) : (Jobs.setP2 v j).out = j.out := rfl
@[simp] theorem Jobs.setIce_dev (v : Ice) (j : Jobs) : (Jobs.setIce v j).dev = j.dev := rfl
@[simp] theorem Jobs.setIce_tag (v : Ice) (j : Jobs) : (Jobs.setIce v j).tag = j.tag := rfl
@[simp] theorem Jobs.setIce_tmr (v : Ice) (j : Jobs) : (Jobs.setIce v j).tmr = j.tmr := rfl
@[simp] theorem Jobs.setIce_arc (v : Ice) (j : Jobs) : (Jobs.setIce v j).arc = j.arc := rfl
@[simp] theorem Jobs.setIce_tm (v : Ice) (j : Jobs) : (Jobs.setIce v j).tm = j.tm := rfl
@[simp] theorem Jobs.setIce_lmu (v : Ice) (j : Jobs) : (Jobs.setIce v j).lmu = j.lmu := rfl
@[simp] theorem Jobs.setIce_lsi (v : Ice) (j : Jobs) : (Jobs.setIce v j).lsi = j.lsi := rfl
@[simp] theorem Jobs.setIce_speed (v : Ice) (j : Jobs) : (Jobs.setIce v j).speed = j.speed := rfl
@[simp] theorem Jobs.setIce_cs (v : Ice) (j : Jobs) : (Jobs.setIce v j).cs = j.cs := rfl
@[simp] theorem Jobs.setIce_fb (v : Ice) (j : Jobs) : (Jobs.setIce v j).fb = j.fb := rfl
@[simp] theorem Jobs.setIce_p1 (v : Ice) (j : Jobs) : (Jobs.setIce v j).p1 = j.p1 := rfl
@[simp] theorem Jobs.setIce_p2 (v : Ice) (j : Jobs) : (Jobs.setIce v j).p2 = j.p2 := rfl
@[simp] theorem Jobs.setIce_ice (v : Ice) (j : Jobs) : (Jobs.setIce v j).ice = v := rfl
@[simp] theorem Jobs.setIce_oc (v : Ice) (j : Jobs) : (Jobs.setIce v j).oc = j.oc := rfl
@[simp] theorem Jobs.setIce_nodes (v : Ice) (j : Jobs) : (Jobs.setIce v j).nodes = j.nodes := rfl
@[simp] theorem Jobs.setIce_todo (v : Ice) (j : Jobs) : (Jobs.setIce v j).todo = j.todo := rfl
@[simp] theorem Jobs.setIce_out (v : Ice) (j : Jobs) : (Jobs.setIce v j).out = j.out := rfl
@[simp] theorem Jobs.setOc_dev (v : Outputs) (j : Jobs) : (Jobs.setOc v j).dev = j.dev := rfl
@[simp] theorem Jobs.setOc_tag (v : Outputs) (j : Jobs) : (Jobs.setOc v j).tag = j.tag := rfl
@[simp] theorem Jobs.setOc_tmr (v : Outputs) (j : Jobs) : (Jobs.setOc v j).tmr = j.tmr := rfl
@[simp] theorem Jobs.setOc_arc (v : Outputs) (j : Jobs) : (Jobs.setOc v j).arc = j.arc := rfl
@[simp] theorem Jobs.setOc_tm (v : Outputs) (j : Jobs) : (Jobs.setOc v j).tm = j.tm := rfl
@[simp] theorem Jobs.setOc_lmu (v : Outputs) (j : Jobs) : (Jobs.setOc v j).lmu = j.lmu := rfl
@[simp] theorem Jobs.setOc_lsi (v : Outputs) (j : Jobs) : (Jobs.setOc v j).lsi = j.lsi := rfl
@[simp] theorem Jobs.setOc_speed (v : Outputs) (j : Jobs) : (Jobs.setOc v j).speed = j.speed := rfl
@[simp] theorem Jobs.setOc_cs (v : Outputs) (j : Jobs) : (Jobs.setOc v j).cs = j.cs := rfl
@[simp] theorem Jobs.setOc_fb (v : Outputs) (j : Jobs) : (Jobs.setOc v j).fb = j.fb := rfl
@[simp] theorem Jobs.setOc_p1 (v : Outputs) (j : Jobs) : (Jobs.setOc v j).p1 = j.p1 := rfl
@[simp] theorem Jobs.setOc_p2 (v : Outputs) (j : Jobs) : (Jobs.setOc v j).p2 = j.p2 := rfl
@[simp] theorem Jobs.setOc_ice (v : Outputs) (j : Jobs) : (Jobs.setOc v j).ice = j.ice := rfl
@[simp] theorem Jobs.setOc_oc (v : Outputs) (j : Jobs) : (Jobs.setOc v j).oc = v := rfl
@[simp] theorem Jobs.setOc_nodes (v : Outputs) (j : Jobs) : (Jobs.setOc v j).nodes = j.nodes := rfl
@[simp] theorem Jobs.setOc_todo (v : Outputs) (j : Jobs) : (Jobs.setOc v j).todo = j.todo := rfl
@[simp] theorem Jobs.setOc_out (v : Outputs) (j : Jobs) : (Jobs.setOc v j).out = j.out := rfl
@[simp] theorem Jobs.setNodes_dev (v : Store NodeRec) (j : Jobs) : (Jobs.setNodes v j).dev = j.dev := rfl
@[simp] theorem Jobs.setNodes_tag (v : Store NodeRec) (j : Jobs) : (Jobs.setNodes v j).tag = j.tag := rfl
@[simp] theorem Jobs.setNodes_tmr (v : Store NodeRec) (j : Jobs) : (Jobs.setNodes v j).tmr = j.tmr := rfl
@[simp] theorem Jobs.setNodes_arc (v : Store NodeRec) (j : Jobs) : (Jobs.setNodes v j).arc = j.arc := rfl
@[simp] theorem Jobs.setNodes_tm (v : Store NodeRec) (j : Jobs) : (Jobs.setNodes v j).tm = j.tm := rfl
@[simp] theorem Jobs.setNodes_lmu (v : Store NodeRec) (j : Jobs) : (Jobs.setNodes v j).lmu = j.lmu := rfl
@[simp] theorem Jobs.setNodes_lsi (v : Store NodeRec) (j : Jobs) : (Jobs.setNodes v j).lsi = j.lsi := rfl
@[simp] theorem Jobs.setNodes_speed (v : Store NodeRec) (j : Jobs) : (Jobs.setNodes v j).speed = j.speed := rfl
@[simp] theorem Jobs.setNodes_cs (v : Store NodeRec) (j : Jobs) : (Jobs.setNodes v j).cs = j.cs := rfl
@[simp] theorem Jobs.setNodes_fb (v : Store NodeRec) (j : Jobs) : (Jobs.setNodes v j).fb = j.fb := rfl
@[simp] theorem Jobs.setNodes_p1 (v : Store NodeRec) (j : Jobs) : (Jobs.setNodes v j).p1 = j.p1 := rfl
@[simp] theorem Jobs.setNodes_p2 (v : Store NodeRec) (j : Jobs) : (Jobs.setNodes v j).p2 = j.p2 := rfl
@[simp] theorem Jobs.setNodes_ice (v : Store NodeRec) (j : Jobs) : (Jobs.setNodes v j).ice = j.ice := rfl
@[simp] theorem Jobs.setNodes_oc (v : Store NodeRec) (j : Jobs) : (Jobs.setNodes v j).oc = j.oc := rfl
@[simp] theorem Jobs.setNodes_nodes (v : Store NodeRec) (j : Jobs) : (Jobs.setNodes v j).nodes = v := rfl
@[simp] theorem Jobs.setNodes_todo (v : Store NodeRec) (j : Jobs) : (Jobs.setNodes v j).todo = j.todo := rfl
@[simp] theorem Jobs.setNodes_out (v : Store NodeRec) (j : Jobs) : (Jobs.setNodes v j).out = j.out := rfl
@[simp] theorem Jobs.setTodo_dev (v : List Change) (j : Jobs) : (Jobs.setTodo v j).dev = j.dev := rfl
@[simp] theorem Jobs.setTodo_tag (v : List Change) (j : Jobs) : (Jobs.setTodo v j).tag = j.tag := rfl
@[simp] theorem Jobs.setTodo_tmr (v : List Change) (j : Jobs) : (Jobs.setTodo v j).tmr = j.tmr := rfl
@[simp] theorem Jobs.setTodo_arc (v : List Change) (j : Jobs) : (Jobs.setTodo v j).arc = j.arc := rfl
@[simp] theorem Jobs.setTodo_tm (v : List Change) (j : Jobs) : (Jobs.setTodo v j).tm = j.tm := rfl
@[simp] theorem Jobs.setTodo_lmu (v : List Change) (j : Jobs) : (Jobs.setTodo v j).lmu = j.lmu := rfl
@[simp] theorem Jobs.setTodo_lsi (v : List Change) (j : Jobs) : (Jobs.setTodo v j).lsi = j.lsi := rfl
@[simp] theorem Jobs.setTodo_speed (v : List Change) (j : Jobs) : (Jobs.setTodo v j).speed = j.speed := rfl
@[simp] theorem Jobs.setTodo_cs (v : List Change) (j : Jobs) : (Jobs.setTodo v j).cs = j.cs := rfl
@[simp] theorem Jobs.setTodo_fb (v : List Change) (j : Jobs) : (Jobs.setTodo v j).fb = j.fb := rfl
@[simp] theorem Jobs.setTodo_p1 (v : List Change) (j : Jobs) : (Jobs.setTodo v j).p1 = j.p1 := rfl
@[simp] theorem Jobs.setTodo_p2 (v : List Change) (j : Jobs) : (Jobs.setTodo v j).p2 = j.p2 := rfl
@[simp] theorem Jobs.setTodo_ice (v : List Change) (j : Jobs) : (Jobs.setTodo v j).ice = j.ice := rfl
@[simp] theorem Jobs.setTodo_oc (v : List Change) (j : Jobs) : (Jobs.setTodo v j).oc = j.oc := rfl
@[simp] theorem Jobs.setTodo_nodes (v : List Change) (j : Jobs) : (Jobs.setTodo v j).nodes = j.nodes := rfl
@[simp] theorem Jobs.setTodo_todo (v : List Change) (j : Jobs) : (Jobs.setTodo v j).todo = v := rfl
@[simp] theorem Jobs.setTodo_out (v : List Change) (j : Jobs) : (Jobs.setTodo v j).out = j.out := rfl
@[simp] theorem Jobs.setOut_dev (v : List Report) (j : Jobs) : (Jobs.setOut v j).dev = j.dev := rfl
@[simp] theorem Jobs.setOut_tag (v : List Report) (j : Jobs) : (Jobs.setOut v j).tag = j.tag := rfl
@[simp] theorem Jobs.setOut_tmr (v : List Report) (j : Jobs) : (Jobs.setOut v j).tmr = j.tmr := rfl
@[simp] theorem Jobs.setOut_arc (v : List Report) (j : Jobs) : (Jobs.setOut v j).arc = j.arc := rfl
@[simp] theorem Jobs.setOut_tm (v : List Report) (j : Jobs) : (Jobs.setOut v j).tm = j.tm := rfl
@[simp] theorem Jobs.setOut_lmu (v : List Report) (j : Jobs) : (Jobs.setOut v j).lmu = j.lmu := rfl
@[simp] theorem Jobs.setOut_lsi (v : List Report) (j : Jobs) : (Jobs.setOut v j).lsi = j.lsi := rfl
@[simp] theorem Jobs.setOut_speed (v : List Report) (j : Jobs) : (Jobs.setOut v j).speed = j.speed := rfl
@[simp] theorem Jobs.setOut_cs (v : List Report) (j : Jobs) : (Jobs.setOut v j).cs = j.cs := rfl
@[simp] theorem Jobs.setOut_fb (v : List Report) (j : Jobs) : (Jobs.setOut v j).fb = j.fb := rfl
@[simp] theorem Jobs.setOut_p1 (v : List Report) (j : Jobs) : (Jobs.setOut v j).p1 = j.p1 := rfl
@[simp] theorem Jobs.setOut_p2 (v : List Report) (j : Jobs) : (Jobs.setOut v j).p2 = j.p2 := rfl
@[simp] theorem Jobs.setOut_ice (v : List Report) (j : Jobs) : (Jobs.setOut v j).ice = j.ice := rfl
@[simp] theorem Jobs.setOut_oc (v : List Report) (j : Jobs) : (Jobs.setOut v j).oc = j.oc := rfl
@[simp] theorem Jobs.setOut_nodes (v : List Report) (j : Jobs) : (Jobs.setOut v j).nodes = j.nodes := rfl
@[simp] theorem Jobs.setOut_todo (v : List Report) (j : Jobs) : (Jobs.setOut v j).todo = j.todo := rfl
@[simp] theorem Jobs.setOut_out (v : List Report) (j : Jobs) : (Jobs.setOut v j).out = v := rfl
@[simp] theorem State.setPending_pending (v : List Instr) (s : State) : (State.setPending v s).pending = v := rfl
@[simp] theorem State.setPending_inReset (v : List Instr) (s : State) : (State.setPending v s).inReset = s.inReset := rfl
@[simp] theorem State.setPending_jobs (v : List Instr) (s : State) : (State.setPending v s).jobs = s.jobs := rfl
@[simp] theorem State.setPending_train (v : List Instr) (s : State) : (State.setPending v s).train = s.train := rfl
@[simp] theorem State.setPending_roof (v : List Instr) (s : State) : (State.setPending v s).roof = s.roof := rfl
@[simp] theorem State.setPending_fr (v : List Instr) (s : State) : (State.setPending v s).fr = s.fr := rfl
@[simp] theorem State.setPending_rb (v : List Instr) (s : State) : (State.setPending v s).rb = s.rb := rfl
@[simp] theorem State.setPending_cb (v : List Instr) (s : State) : (State.setPending v s).cb = s.cb := rfl
@[simp] theorem State.setPending_nu (v : List Instr) (s : State) : (State.setPending v s).nu = s.nu := rfl
@[simp] theorem State.setPending_latch (v : List Instr) (s : State) : (State.setPending v s).latch = s.latch := rfl
@[simp] theorem State.setInReset_pending (v : Bool) (s : State) : (State.setInReset v s).pending = s.pending := rfl
@[simp] theorem State.setInReset_inReset (v : Bool) (s : State) : (State.setInReset v s).inReset = v := rfl
@[simp] theorem State.setInReset_jobs (v : Bool) (s : State) : (State.setInReset v s).jobs = s.jobs := rfl
@[simp] theorem State.setInReset_train (v : Bool) (s : State) : (State.setInReset v s).train = s.train := rfl
@[simp] theorem State.setInReset_roof (v : Bool) (s : State) : (State.setInReset v s).roof = s.roof := rfl
@[simp] theorem State.setInReset_fr (v : Bool) (s : State) : (State.setInReset v s).fr = s.fr := rfl
@[simp] theorem State.setInReset_rb (v : Bool) (s : State) : (State.setInReset v s).rb = s.rb := rfl
@[simp] theorem State.setInReset_cb (v : Bool) (s : State) : (State.setInReset v s).cb = s.cb := rfl
@[simp] theorem State.setInReset_nu (v : Bool) (s : State) : (State.setInReset v s).nu = s.nu := rfl
@[simp] theorem State.setInReset_latch (v : Bool) (s : State) : (State.setInReset v s).latch = s.latch := rfl
@[simp] theorem State.setJobs_pending (v : Jobs) (s : State) : (State.setJobs v s).pending = s.pending := rfl
@[simp] theorem State.setJobs_inReset (v : Jobs) (s : State) : (State.setJobs v s).inReset = s.inReset := rfl
@[simp] theorem State.setJobs_jobs (v : Jobs) (s : State) : (State.setJobs v s).jobs = v := rfl
@[simp] theorem State.setJobs_train (v : Jobs) (s : State) : (State.setJobs v s).train = s.train := rfl
@[simp] theorem State.setJobs_roof (v : Jobs) (s : State) : (State.setJobs v s).roof = s.roof := rfl
@[simp] theorem State.setJobs_fr (v : Jobs) (s : State) : (State.setJobs v s).fr = s.fr := rfl
@[simp] theorem State.setJobs_rb (v : Jobs) (s : State) : (State.setJobs v s).rb = s.rb := rfl
@[simp] theorem State.setJobs_cb (v : Jobs) (s : State) : (State.setJobs v s).cb = s.cb := rfl
@[simp] theorem State.setJobs_nu (v : Jobs) (s : State) : (State.setJobs v s).nu = s.nu := rfl
@[simp] theorem State.setJobs_latch (v : Jobs) (s : State) : (State.setJobs v s).latch = s.latch := rfl
@[simp] theorem State.setTrain_pending (v : PortState) (s : State) : (State.setTrain v s).pending = s.pending := rfl
@[simp] theorem State.setTrain_inReset (v : PortState) (s : State) : (State.setTrain v s).inReset = s.inReset := rfl
@[simp] theorem State.setTrain_jobs (v : PortState) (s : State) : (State.setTrain v s).jobs = s.jobs := rfl
@[simp] theorem State.setTrain_train (v : PortState) (s : State) : (State.setTrain v s).train = v := rfl
@[simp] theorem State.setTrain_roof (v : PortState) (s : State) : (State.setTrain v s).roof = s.roof := rfl
@[simp] theorem State.setTrain_fr (v : PortState) (s : State) : (State.setTrain v s).fr = s.fr := rfl
@[simp] theorem State.setTrain_rb (v : PortState) (s : State) : (State.setTrain v s).rb = s.rb := rfl
@[simp] theorem State.setTrain_cb (v : PortState) (s : State) : (State.setTrain v s).cb = s.cb := rfl
@[simp] theorem State.setTrain_nu (v : PortState) (s : State) : (State.setTrain v s).nu = s.nu := rfl
@[simp] theorem State.setTrain_latch (v : PortState) (s : State) : (State.setTrain v s).latch = s.latch := rfl
@[simp] theorem State.setRoof_pending (v : PortState) (s : State) : (State.setRoof v s).pending = s.pending := rfl
@[simp] theorem State.setRoof_inReset (v : PortState) (s : State) : (State.setRoof v s).inReset = s.inReset := rfl
@[simp] theorem State.setRoof_jobs (v : PortState) (s : State) : (State.setRoof v s).jobs = s.jobs := rfl
@[simp] theorem State.setRoof_train (v : PortState) (s : State) : (State.setRoof v s).train = s.train := rfl
@[simp] theorem State.setRoof_roof (v : PortState) (s : State) : (State.setRoof v s).roof = v := rfl
@[simp] theorem State.setRoof_fr (v : PortState) (s : State) : (State.setRoof v s).fr = s.fr := rfl
@[simp] theorem State.setRoof_rb (v : PortState) (s : State) : (State.setRoof v s).rb = s.rb := rfl
@[simp] theorem State.setRoof_cb (v : PortState) (s : State) : (State.setRoof v s).cb = s.cb := rfl
@[simp] theorem State.setRoof_nu (v : PortState) (s : State) : (State.setRoof v s).nu = s.nu := rfl
@[simp] theorem State.setRoof_latch (v : PortState) (s : State) : (State.setRoof v s).latch = s.latch := rfl
@[simp] theorem State.setFr_pending (v : Router) (s : State) : (State.setFr v s).pending = s.pending := rfl
@[simp] theorem State.setFr_inReset (v : Router) (s : State) : (State.setFr v s).inReset = s.inReset := rfl
@[simp] theorem State.setFr_jobs (v : Router) (s : State) : (State.setFr v s).jobs = s.jobs := rfl
@[simp] theorem State.setFr_train (v : Router) (s : State) : (State.setFr v s).train = s.train := rfl
@[simp] theorem State.setFr_roof (v : Router) (s : State) : (State.setFr v s).roof = s.roof := rfl
@[simp] theorem State.setFr_fr (v : Router) (s : State) : (State.setFr v s).fr = v := rfl
@[simp] theorem State.setFr_rb (v : Router) (s : State) : (State.setFr v s).rb = s.rb := rfl
@[simp] theorem State.setFr_cb (v : Router) (s : State) : (State.setFr v s).cb = s.cb := rfl
@[simp] theorem State.setFr_nu (v : Router) (s : State) : (State.setFr v s).nu = s.nu := rfl
@[simp] theorem State.setFr_latch (v : Router) (s : State) : (State.setFr v s).latch = s.latch := rfl
@[simp] theorem State.setRb_pending (v : Sched) (s : State) : (State.setRb v s).pending = s.pending := rfl
@[simp] theorem State.setRb_inReset (v : Sched) (s : State) : (State.setRb v s).inReset = s.inReset := rfl
@[simp] theorem State.setRb_jobs (v : Sched) (s : State) : (State.setRb v s).jobs = s.jobs := rfl
@[simp] theorem State.setRb_train (v : Sched) (s : State) : (State.setRb v s).train = s.train := rfl
@[simp] theorem State.setRb_roof (v : Sched) (s : State) : (State.setRb v s).roof = s.roof := rfl
@[simp] theorem State.setRb_fr (v : Sched) (s : State) : (State.setRb v s).fr = s.fr := rfl
@[simp] theorem State.setRb_rb (v : Sched) (s : State) : (State.setRb v s).rb = v := rfl
@[simp] theorem State.setRb_cb (v : Sched) (s : State) : (State.setRb v s).cb = s.cb := rfl
@[simp] theorem State.setRb_nu (v : Sched) (s : State) : (State.setRb v s).nu = s.nu := rfl
@[simp] theorem State.setRb_latch (v : Sched) (s : State) : (State.setRb v s).latch = s.latch := rfl
@[simp] theorem State.setCb_pending (v : Capture) (s : State) : (State.setCb v s).pending = s.pending := rfl
@[simp] theorem State.setCb_inReset (v : Capture) (s : State) : (State.setCb v s).inReset = s.inReset := rfl
@[simp] theorem State.setCb_jobs (v : Capture) (s : State) : (State.setCb v s).jobs = s.jobs := rfl
@[simp] theorem State.setCb_train (v : Capture) (s : State) : (State.setCb v s).train = s.train := rfl
@[simp] theorem State.setCb_roof (v : Capture) (s : State) : (State.setCb v s).roof = s.roof := rfl
@[simp] theorem State.setCb_fr (v : Capture) (s : State) : (State.setCb v s).fr = s.fr := rfl
@[simp] theorem State.setCb_rb (v : Capture) (s : State) : (State.setCb v s).rb = s.rb := rfl
@[simp] theorem State.setCb_cb (v : Capture) (s : State) : (State.setCb v s).cb = v := rfl
@[simp] theorem State.setCb_nu (v : Capture) (s : State) : (State.setCb v s).nu = s.nu := rfl
@[simp] theorem State.setCb_latch (v : Capture) (s : State) : (State.setCb v s).latch = s.latch := rfl
@[simp] theorem State.setNu_pending (v : Notices) (s : State) : (State.setNu v s).pending = s.pending := rfl
@[simp] theorem State.setNu_inReset (v : Notices) (s : State) : (State.setNu v s).inReset = s.inReset := rfl
@[simp] theorem State.setNu_jobs (v : Notices) (s : State) : (State.setNu v s).jobs = s.jobs := rfl
@[simp] theorem State.setNu_train (v : Notices) (s : State) : (State.setNu v s).train = s.train := rfl
@[simp] theorem State.setNu_roof (v : Notices) (s : State) : (State.setNu v s).roof = s.roof := rfl
@[simp] theorem State.setNu_fr (v : Notices) (s : State) : (State.setNu v s).fr = s.fr := rfl
@[simp] theorem State.setNu_rb (v : Notices) (s : State) : (State.setNu v s).rb = s.rb := rfl
@[simp] theorem State.setNu_cb (v : Notices) (s : State) : (State.setNu v s).cb = s.cb := rfl
@[simp] theorem State.setNu_nu (v : Notices) (s : State) : (State.setNu v s).nu = v := rfl
@[simp] theorem State.setNu_latch (v : Notices) (s : State) : (State.setNu v s).latch = s.latch := rfl
@[simp] theorem State.setLatch_pending (v : Option Latch) (s : State) : (State.setLatch v s).pending = s.pending := rfl
@[simp] theorem State.setLatch_inReset (v : Option Latch) (s : State) : (State.setLatch v s).inReset = s.inReset := rfl
@[simp] theorem State.setLatch_jobs (v : Option Latch) (s : State) : (State.setLatch v s).jobs = s.jobs := rfl
@[simp] theorem State.setLatch_train (v : Option Latch) (s : State) : (State.setLatch v s).train = s.train := rfl
@[simp] theorem State.setLatch_roof (v : Option Latch) (s : State) : (State.setLatch v s).roof = s.roof := rfl
@[simp] theorem State.setLatch_fr (v : Option Latch) (s : State) : (State.setLatch v s).fr = s.fr := rfl
@[simp] theorem State.setLatch_rb (v : Option Latch) (s : State) : (State.setLatch v s).rb = s.rb := rfl
@[simp] theorem State.setLatch_cb (v : Option Latch) (s : State) : (State.setLatch v s).cb = s.cb := rfl
@[simp] theorem State.setLatch_nu (v : Option Latch) (s : State) : (State.setLatch v s).nu = s.nu := rfl
@[simp] theorem State.setLatch_latch (v : Option Latch) (s : State) : (State.setLatch v s).latch = v := rfl

end Sys2Proof.Machine
end

