-- ==== Sys2Proof/Laws/Store.lean ====
section
/-! SUPPORT. The sparse memories: a read after a write, and the canonical form every operation keeps. -/

namespace Sys2Proof.Machine

variable {α : Type}

theorem Store.risingFrom_mono {m : Store α} {a b : Nat} (h : Store.risingFrom b m = true) (hab : a ≤ b) :
    Store.risingFrom a m = true := by
  cases m with
  | nil => rfl
  | cons e rest =>
    simp only [Store.risingFrom, Bool.and_eq_true, decide_eq_true_eq] at h ⊢
    exact ⟨by omega, h.2⟩

/-- Nothing below its first possible address is listed. -/
theorem Store.find_of_lt {m : Store α} {a b : Nat} (h : Store.risingFrom b m = true) (hab : a < b) :
    Store.find a m = none := by
  cases m with
  | nil => rfl
  | cons e rest =>
    simp only [Store.risingFrom, Bool.and_eq_true, decide_eq_true_eq] at h
    simp only [Store.find]
    rw [if_neg (by omega), if_pos (by omega)]

/-- Read after a listing: the entry listed, and every other address as before. -/
theorem Store.find_put (m : Store α) (a b : Nat) (v : α) :
    Store.find b (Store.put a v m) = if b = a then some v else Store.find b m := by
  induction m with
  | nil => simp only [Store.put, Store.find]; grind
  | cons e rest ih => simp only [Store.put]; grind [Store.find]

theorem Store.risingFrom_put {m : Store α} {n a : Nat} {v : α} (h : Store.risingFrom n m = true) (hn : n ≤ a) :
    Store.risingFrom n (Store.put a v m) = true := by
  induction m generalizing n with
  | nil => simp [Store.put, Store.risingFrom, hn]
  | cons e rest ih =>
    simp only [Store.risingFrom, Bool.and_eq_true, decide_eq_true_eq] at h
    simp only [Store.put]
    split
    · simp only [Store.risingFrom, Bool.and_eq_true, decide_eq_true_eq]
      exact ⟨hn, by omega, h.2⟩
    · split
      · simp only [Store.risingFrom, Bool.and_eq_true, decide_eq_true_eq]
        subst_vars
        exact ⟨hn, h.2⟩
      · simp only [Store.risingFrom, Bool.and_eq_true, decide_eq_true_eq]
        exact ⟨h.1, ih h.2 (by omega)⟩

/-- Read after an unlisting, in canonical order. -/
theorem Store.find_erase {m : Store α} {n : Nat} (h : Store.risingFrom n m = true) (a b : Nat) :
    Store.find b (Store.erase a m) = if b = a then none else Store.find b m := by
  induction m generalizing n with
  | nil => simp [Store.erase, Store.find]
  | cons e rest ih =>
    simp only [Store.risingFrom, Bool.and_eq_true, decide_eq_true_eq] at h
    have := ih h.2
    have hl := @Store.find_of_lt α rest b (e.1 + 1) h.2
    simp only [Store.erase]
    grind [Store.find]

theorem Store.risingFrom_erase {m : Store α} {n a : Nat} (h : Store.risingFrom n m = true) :
    Store.risingFrom n (Store.erase a m) = true := by
  induction m generalizing n with
  | nil => rfl
  | cons e rest ih =>
    have h' := h
    simp only [Store.risingFrom, Bool.and_eq_true, decide_eq_true_eq] at h
    simp only [Store.erase]
    split
    · exact h'
    · split
      · exact Store.risingFrom_mono h.2 (by omega)
      · simp only [Store.risingFrom, Bool.and_eq_true, decide_eq_true_eq]
        exact ⟨h.1, ih h.2⟩

theorem Store.mem_put {m : Store α} {a : Nat} {v : α} {e : Nat × α} (h : e ∈ Store.put a v m) :
    e = (a, v) ∨ e ∈ m := by
  induction m with
  | nil => simpa [Store.put] using h
  | cons f rest ih => simp only [Store.put] at h; grind

theorem Store.mem_erase {m : Store α} {a : Nat} {e : Nat × α} (h : e ∈ Store.erase a m) : e ∈ m := by
  induction m with
  | nil => simp [Store.erase] at h
  | cons f rest ih => simp only [Store.erase] at h; grind

variable [DecidableEq α]

theorem Store.wf_nil (d : α) : Store.wf d [] = true := rfl

/-- Every write keeps the canonical form. -/
theorem Store.wf_write {d : α} {m : Store α} (h : Store.wf d m = true) (a : Nat) (v : α) :
    Store.wf d (Store.write d a v m) = true := by
  simp only [Store.wf, Bool.and_eq_true, List.all_eq_true, decide_eq_true_eq] at h ⊢
  unfold Store.write
  split
  · exact ⟨Store.risingFrom_erase h.1, fun e he => h.2 e (Store.mem_erase he)⟩
  · refine ⟨Store.risingFrom_put h.1 (Nat.zero_le a), fun e he => ?_⟩
    rcases Store.mem_put he with rfl | he
    · assumption
    · exact h.2 e he

/-- Read after write, in canonical form: the value written, and every other address as before. -/
theorem Store.read_write {d : α} {m : Store α} (h : Store.wf d m = true) (a b : Nat) (v : α) :
    Store.read d b (Store.write d a v m) = if b = a then v else Store.read d b m := by
  simp only [Store.wf, Bool.and_eq_true] at h
  unfold Store.read Store.write
  by_cases hv : v = d
  · rw [if_pos hv, Store.find_erase h.1]
    split <;> simp [hv]
  · rw [if_neg hv, Store.find_put]
    split <;> simp

end Sys2Proof.Machine
end

