-- ==== Sys2Proof/Laws/Memory.lean ====
section
/-! SUPPORT. Table memory: what a store and what a checked read do (R183, R185). A read never changes a word's
value nor whether it is found uncorrectable; it changes check bits, the mark, the count, the reports and the
changes to answer. -/

namespace Sys2Proof.Machine

open Sys2Proof

/-- The canonical form of table memory. -/
abbrev Jobs.tableWf (j : Jobs) : Prop := Store.wf ({} : TWord) j.tm.mem = true

theorem TableMem.wf_store {t : TableMem} (h : Store.wf ({} : TWord) t.mem = true) (a : Nat) (w : TWord) :
    Store.wf ({} : TWord) (t.store a w).mem = true := Store.wf_write h a w

theorem TableMem.read_store {t : TableMem} (h : Store.wf ({} : TWord) t.mem = true) (a b : Nat) (w : TWord) :
    Store.read {} b (t.store a w).mem = if b = a then w else Store.read {} b t.mem := Store.read_write h a b w

/-- A word with one bit in error is not uncorrectable. -/
theorem TWord.bad_of_correctable {w : TWord} (h : w.correctable = true) : w.bad = false := by
  simp only [TWord.correctable, TWord.bad, Bool.and_eq_true, Bool.not_eq_eq_eq_not, Bool.not_true,
    decide_eq_true_eq] at h ⊢
  simp [h.1, h.2]

theorem TWord.bad_corrected (d : Word) : ({ data := d } : TWord).bad = false := by simp [TWord.bad, inverted]

theorem TWord.bad_marked (w : TWord) : ({ w with mark := true } : TWord).bad = true := by simp [TWord.bad]

/-- What a read of one address does (R183), said once: a correctable word is corrected, counted and flagged, a word
newly found uncorrectable is marked and flagged, and any other read changes nothing. -/
theorem Jobs.touch_spec (a : Nat) (j : Jobs) :
    ((j.cell a).correctable = true ∧
      j.touch a = ((j.setTm { (j.tm.store a { data := (j.cell a).data }) with
        corrected := min 255 (j.tm.corrected + 1) }).flag .tableCorrected a)) ∨
    ((j.cell a).correctable = false ∧ (j.cell a).bad = true ∧ (j.cell a).mark = false ∧
      j.touch a = ((j.setTm (j.tm.store a { j.cell a with mark := true })).flag .tablePoisoned a).push .look) ∨
    (((j.cell a).correctable = false ∧ ((j.cell a).bad = false ∨ (j.cell a).mark = true)) ∧ j.touch a = j) := by
  unfold Jobs.touch
  grind

/-- After a read the memory is canonical still, and every word reads as before. -/
theorem Jobs.touch_mem (a : Nat) (j : Jobs) (h : j.tableWf) :
    (j.touch a).tableWf ∧ ∀ b, ((j.touch a).cell b).data = (j.cell b).data ∧ ((j.touch a).cell b).bad = (j.cell b).bad := by
  rcases Jobs.touch_spec a j with ⟨hc, e⟩ | ⟨-, hb, -, e⟩ | ⟨-, e⟩
  · rw [e]
    refine ⟨TableMem.wf_store h _ _, fun b => ?_⟩
    have hr := TableMem.read_store h a b ({ data := (j.cell a).data } : TWord)
    show (Store.read {} b (j.tm.store a { data := (j.cell a).data }).mem).data = _ ∧
      (Store.read {} b (j.tm.store a { data := (j.cell a).data }).mem).bad = _
    rw [hr]
    by_cases hba : b = a
    · subst hba
      refine ⟨by simp, ?_⟩
      rw [if_pos rfl]
      exact (TWord.bad_corrected _).trans (TWord.bad_of_correctable hc).symm
    · simp [hba, Jobs.cell]
  · rw [e]
    refine ⟨TableMem.wf_store h _ _, fun b => ?_⟩
    have hr := TableMem.read_store h a b ({ j.cell a with mark := true } : TWord)
    show (Store.read {} b (j.tm.store a { j.cell a with mark := true }).mem).data = _ ∧
      (Store.read {} b (j.tm.store a { j.cell a with mark := true }).mem).bad = _
    rw [hr]
    by_cases hba : b = a
    · subst hba
      simp [TWord.bad_marked, hb]
    · simp [hba, Jobs.cell]
  · rw [e]
    exact ⟨h, fun b => ⟨rfl, rfl⟩⟩

/-- A read of table memory changes nothing else of the roof jobs. -/
theorem Jobs.touch_frame (a : Nat) (j : Jobs) :
    (j.touch a).dev = j.dev ∧ (j.touch a).tag = j.tag ∧ (j.touch a).tmr = j.tmr ∧ (j.touch a).arc = j.arc ∧
    (j.touch a).tm.scrub = j.tm.scrub ∧ (j.touch a).lmu = j.lmu ∧ (j.touch a).lsi = j.lsi ∧
    (j.touch a).speed = j.speed ∧ (j.touch a).cs = j.cs ∧ (j.touch a).fb = j.fb ∧ (j.touch a).p1 = j.p1 ∧
    (j.touch a).p2 = j.p2 ∧ (j.touch a).ice = j.ice ∧ (j.touch a).oc = j.oc ∧ (j.touch a).nodes = j.nodes := by
  rcases Jobs.touch_spec a j with ⟨-, e⟩ | ⟨-, -, -, e⟩ | ⟨-, e⟩ <;> rw [e] <;>
    exact ⟨rfl, rfl, rfl, rfl, rfl, rfl, rfl, rfl, rfl, rfl, rfl, rfl, rfl, rfl, rfl⟩

end Sys2Proof.Machine
end

