-- ==== Sys2Proof/Laws/Touch.lean ====
section
/-! SUPPORT. The reads of table memory leave the roof jobs as they were: one lemma per field for each kind of
read, tagged for `simp`. -/

namespace Sys2Proof.Machine

open Sys2Proof

@[simp] theorem Jobs.touch_dev (a : Nat) (j : Jobs) : (j.touch a).dev = j.dev := (Jobs.touch_frame a j).1
@[simp] theorem Jobs.touch_tag (a : Nat) (j : Jobs) : (j.touch a).tag = j.tag := (Jobs.touch_frame a j).2.1
@[simp] theorem Jobs.touch_tmr (a : Nat) (j : Jobs) : (j.touch a).tmr = j.tmr := (Jobs.touch_frame a j).2.2.1
@[simp] theorem Jobs.touch_arc (a : Nat) (j : Jobs) : (j.touch a).arc = j.arc := (Jobs.touch_frame a j).2.2.2.1
@[simp] theorem Jobs.touch_scrub (a : Nat) (j : Jobs) : (j.touch a).tm.scrub = j.tm.scrub := (Jobs.touch_frame a j).2.2.2.2.1
@[simp] theorem Jobs.touch_lmu (a : Nat) (j : Jobs) : (j.touch a).lmu = j.lmu := (Jobs.touch_frame a j).2.2.2.2.2.1
@[simp] theorem Jobs.touch_lsi (a : Nat) (j : Jobs) : (j.touch a).lsi = j.lsi := (Jobs.touch_frame a j).2.2.2.2.2.2.1
@[simp] theorem Jobs.touch_speed (a : Nat) (j : Jobs) : (j.touch a).speed = j.speed := (Jobs.touch_frame a j).2.2.2.2.2.2.2.1
@[simp] theorem Jobs.touch_cs (a : Nat) (j : Jobs) : (j.touch a).cs = j.cs := (Jobs.touch_frame a j).2.2.2.2.2.2.2.2.1
@[simp] theorem Jobs.touch_fb (a : Nat) (j : Jobs) : (j.touch a).fb = j.fb := (Jobs.touch_frame a j).2.2.2.2.2.2.2.2.2.1
@[simp] theorem Jobs.touch_p1 (a : Nat) (j : Jobs) : (j.touch a).p1 = j.p1 := (Jobs.touch_frame a j).2.2.2.2.2.2.2.2.2.2.1
@[simp] theorem Jobs.touch_p2 (a : Nat) (j : Jobs) : (j.touch a).p2 = j.p2 := (Jobs.touch_frame a j).2.2.2.2.2.2.2.2.2.2.2.1
@[simp] theorem Jobs.touch_ice (a : Nat) (j : Jobs) : (j.touch a).ice = j.ice := (Jobs.touch_frame a j).2.2.2.2.2.2.2.2.2.2.2.2.1
@[simp] theorem Jobs.touch_oc (a : Nat) (j : Jobs) : (j.touch a).oc = j.oc := (Jobs.touch_frame a j).2.2.2.2.2.2.2.2.2.2.2.2.2.1
@[simp] theorem Jobs.touch_nodes (a : Nat) (j : Jobs) : (j.touch a).nodes = j.nodes := (Jobs.touch_frame a j).2.2.2.2.2.2.2.2.2.2.2.2.2.2
@[simp] theorem Jobs.touchAll_dev (as : List Nat) (j : Jobs) : (j.touchAll as).dev = j.dev := by
  induction as generalizing j with
  | nil => rfl
  | cons a as ih => exact (ih (j.touch a)).trans (j.touch_dev a)
@[simp] theorem Jobs.touchAll_tag (as : List Nat) (j : Jobs) : (j.touchAll as).tag = j.tag := by
  induction as generalizing j with
  | nil => rfl
  | cons a as ih => exact (ih (j.touch a)).trans (j.touch_tag a)
@[simp] theorem Jobs.touchAll_tmr (as : List Nat) (j : Jobs) : (j.touchAll as).tmr = j.tmr := by
  induction as generalizing j with
  | nil => rfl
  | cons a as ih => exact (ih (j.touch a)).trans (j.touch_tmr a)
@[simp] theorem Jobs.touchAll_arc (as : List Nat) (j : Jobs) : (j.touchAll as).arc = j.arc := by
  induction as generalizing j with
  | nil => rfl
  | cons a as ih => exact (ih (j.touch a)).trans (j.touch_arc a)
@[simp] theorem Jobs.touchAll_scrub (as : List Nat) (j : Jobs) : (j.touchAll as).tm.scrub = j.tm.scrub := by
  induction as generalizing j with
  | nil => rfl
  | cons a as ih => exact (ih (j.touch a)).trans (j.touch_scrub a)
@[simp] theorem Jobs.touchAll_lmu (as : List Nat) (j : Jobs) : (j.touchAll as).lmu = j.lmu := by
  induction as generalizing j with
  | nil => rfl
  | cons a as ih => exact (ih (j.touch a)).trans (j.touch_lmu a)
@[simp] theorem Jobs.touchAll_lsi (as : List Nat) (j : Jobs) : (j.touchAll as).lsi = j.lsi := by
  induction as generalizing j with
  | nil => rfl
  | cons a as ih => exact (ih (j.touch a)).trans (j.touch_lsi a)
@[simp] theorem Jobs.touchAll_speed (as : List Nat) (j : Jobs) : (j.touchAll as).speed = j.speed := by
  induction as generalizing j with
  | nil => rfl
  | cons a as ih => exact (ih (j.touch a)).trans (j.touch_speed a)
@[simp] theorem Jobs.touchAll_cs (as : List Nat) (j : Jobs) : (j.touchAll as).cs = j.cs := by
  induction as generalizing j with
  | nil => rfl
  | cons a as ih => exact (ih (j.touch a)).trans (j.touch_cs a)
@[simp] theorem Jobs.touchAll_fb (as : List Nat) (j : Jobs) : (j.touchAll as).fb = j.fb := by
  induction as generalizing j with
  | nil => rfl
  | cons a as ih => exact (ih (j.touch a)).trans (j.touch_fb a)
@[simp] theorem Jobs.touchAll_p1 (as : List Nat) (j : Jobs) : (j.touchAll as).p1 = j.p1 := by
  induction as generalizing j with
  | nil => rfl
  | cons a as ih => exact (ih (j.touch a)).trans (j.touch_p1 a)
@[simp] theorem Jobs.touchAll_p2 (as : List Nat) (j : Jobs) : (j.touchAll as).p2 = j.p2 := by
  induction as generalizing j with
  | nil => rfl
  | cons a as ih => exact (ih (j.touch a)).trans (j.touch_p2 a)
@[simp] theorem Jobs.touchAll_ice (as : List Nat) (j : Jobs) : (j.touchAll as).ice = j.ice := by
  induction as generalizing j with
  | nil => rfl
  | cons a as ih => exact (ih (j.touch a)).trans (j.touch_ice a)
@[simp] theorem Jobs.touchAll_oc (as : List Nat) (j : Jobs) : (j.touchAll as).oc = j.oc := by
  induction as generalizing j with
  | nil => rfl
  | cons a as ih => exact (ih (j.touch a)).trans (j.touch_oc a)
@[simp] theorem Jobs.touchAll_nodes (as : List Nat) (j : Jobs) : (j.touchAll as).nodes = j.nodes := by
  induction as generalizing j with
  | nil => rfl
  | cons a as ih => exact (ih (j.touch a)).trans (j.touch_nodes a)

end Sys2Proof.Machine
end

