-- ==== Sys2Proof/Laws/Held.lean ====
section
/-! SUPPORT. What every function of the roof jobs holds to. `Held j k` says that `k` came from `j` by work of the
roof jobs: the device state, the time tag, the scrub pointer and the node records stand, table memory reads as
before, reports are only added, lower-all stands and output hold is at most released, and the bounds of the
changeover record are kept. One lemma per function: the commands' own statements rest on these. -/

namespace Sys2Proof.Machine

open Sys2Proof

/-- R39: the close pulse is on only while the command is CLOSE. -/
def Cs.pulseCloses (c : Cs) : Prop := c.pulse = true → c.command = .close

/-- R35: the feature list is within its bound. -/
def Cs.bounded (c : Cs) : Prop := c.list.length ≤ Config.featureRoom

structure Held (j k : Jobs) : Prop where
  mem : j.tableWf → k.tableWf ∧ ∀ b, (k.cell b).data = (j.cell b).data ∧ (k.cell b).bad = (j.cell b).bad
  dev : k.dev = j.dev
  tag : k.tag = j.tag
  scrub : k.tm.scrub = j.tm.scrub
  nodes : k.nodes = j.nodes
  out : j.out <+: k.out
  pulse : j.cs.pulseCloses → k.cs.pulseCloses
  list : j.cs.bounded → k.cs.bounded
  lowerAll : k.oc.lowerAll = j.oc.lowerAll
  hold : k.oc.hold = true → j.oc.hold = true

variable {j k l : Jobs}

theorem Held.refl (j : Jobs) : Held j j :=
  ⟨fun h => ⟨h, fun _ => ⟨rfl, rfl⟩⟩, rfl, rfl, rfl, rfl, List.prefix_rfl, id, id, rfl, id⟩

theorem Held.trans (h : Held j k) (h' : Held k l) : Held j l where
  mem hw := ⟨(h'.mem (h.mem hw).1).1, fun b =>
    ⟨((h'.mem (h.mem hw).1).2 b).1.trans ((h.mem hw).2 b).1, ((h'.mem (h.mem hw).1).2 b).2.trans ((h.mem hw).2 b).2⟩⟩
  dev := h'.dev.trans h.dev
  tag := h'.tag.trans h.tag
  scrub := h'.scrub.trans h.scrub
  nodes := h'.nodes.trans h.nodes
  out := h.out.trans h'.out
  pulse hp := h'.pulse (h.pulse hp)
  list hl := h'.list (h.list hl)
  lowerAll := h'.lowerAll.trans h.lowerAll
  hold hk := h.hold (h'.hold hk)

/-! ### Updates -/

theorem Held.setTmr (v : Timers) (j : Jobs) : Held j (j.setTmr v) := ⟨(Held.refl j).mem, rfl, rfl, rfl, rfl, List.prefix_rfl, id, id, rfl, id⟩
theorem Held.setArc (v : Arcs) (j : Jobs) : Held j (j.setArc v) := ⟨(Held.refl j).mem, rfl, rfl, rfl, rfl, List.prefix_rfl, id, id, rfl, id⟩
theorem Held.setLmu (v : Lmu) (j : Jobs) : Held j (j.setLmu v) := ⟨(Held.refl j).mem, rfl, rfl, rfl, rfl, List.prefix_rfl, id, id, rfl, id⟩
theorem Held.setLsi (v : Lsi) (j : Jobs) : Held j (j.setLsi v) := ⟨(Held.refl j).mem, rfl, rfl, rfl, rfl, List.prefix_rfl, id, id, rfl, id⟩
theorem Held.setSpeed (v : SpeedRec) (j : Jobs) : Held j (j.setSpeed v) := ⟨(Held.refl j).mem, rfl, rfl, rfl, rfl, List.prefix_rfl, id, id, rfl, id⟩
theorem Held.setFb (v : Feedback) (j : Jobs) : Held j (j.setFb v) := ⟨(Held.refl j).mem, rfl, rfl, rfl, rfl, List.prefix_rfl, id, id, rfl, id⟩
theorem Held.setP1 (v : PantoRec) (j : Jobs) : Held j (j.setP1 v) := ⟨(Held.refl j).mem, rfl, rfl, rfl, rfl, List.prefix_rfl, id, id, rfl, id⟩
theorem Held.setP2 (v : PantoRec) (j : Jobs) : Held j (j.setP2 v) := ⟨(Held.refl j).mem, rfl, rfl, rfl, rfl, List.prefix_rfl, id, id, rfl, id⟩
theorem Held.setIce (v : Ice) (j : Jobs) : Held j (j.setIce v) := ⟨(Held.refl j).mem, rfl, rfl, rfl, rfl, List.prefix_rfl, id, id, rfl, id⟩
theorem Held.setTodo (v : List Change) (j : Jobs) : Held j (j.setTodo v) := ⟨(Held.refl j).mem, rfl, rfl, rfl, rfl, List.prefix_rfl, id, id, rfl, id⟩

theorem Held.setOc (v : Outputs) (j : Jobs) (hl : v.lowerAll = j.oc.lowerAll) (hh : v.hold = true → j.oc.hold = true) :
    Held j (j.setOc v) := ⟨(Held.refl j).mem, rfl, rfl, rfl, rfl, List.prefix_rfl, id, id, hl, hh⟩

theorem Held.setCs (v : Cs) (j : Jobs) (hp : j.cs.pulseCloses → v.pulseCloses) (hl : j.cs.bounded → v.bounded) :
    Held j (j.setCs v) := ⟨(Held.refl j).mem, rfl, rfl, rfl, rfl, List.prefix_rfl, hp, hl, rfl, id⟩

/-- An update of the changeover record that leaves its list, command and pulse. -/
theorem Held.setCs_rest (v : Cs) (j : Jobs) (h1 : v.list = j.cs.list) (h2 : v.command = j.cs.command)
    (h3 : v.pulse = j.cs.pulse) : Held j (j.setCs v) :=
  Held.setCs v j (by unfold Cs.pulseCloses; rw [h2, h3]; exact id) (by unfold Cs.bounded; rw [h1]; exact id)

theorem Held.push (c : Change) (j : Jobs) : Held j (j.push c) := Held.setTodo _ j

theorem Held.report (r : Report) (j : Jobs) : Held j (j.report r) :=
  ⟨(Held.refl j).mem, rfl, rfl, rfl, rfl, List.prefix_append _ _, id, id, rfl, id⟩

theorem Held.flag (f : Flag) (n : Nat) (j : Jobs) : Held j (j.flag f n) := Held.report _ j

theorem Held.touch (a : Nat) (j : Jobs) : Held j (j.touch a) where
  mem := Jobs.touch_mem a j
  dev := by simp
  tag := by simp
  scrub := by simp
  nodes := by simp
  out := by
    rcases Jobs.touch_spec a j with ⟨-, e⟩ | ⟨-, -, -, e⟩ | ⟨-, e⟩ <;> rw [e]
    · exact List.prefix_append _ _
    · exact List.prefix_append _ _
  pulse := by simp
  list := by simp
  lowerAll := by simp
  hold := by simp

theorem Held.touchAll (as : List Nat) (j : Jobs) : Held j (j.touchAll as) := by
  induction as generalizing j with
  | nil => exact Held.refl j
  | cons a as ih => exact (Held.touch a j).trans (ih (j.touch a))

theorem Held.onTimer (i : TimerId) (f : Timer → Timer) (j : Jobs) : Held j (j.onTimer i f) := Held.setTmr _ j
theorem Held.load (i : TimerId) (n : Nat) (m : TimerMode) (j : Jobs) : Held j (j.load i n m) := Held.setTmr _ j
theorem Held.stop (i : TimerId) (j : Jobs) : Held j (j.stop i) := Held.setTmr _ j
theorem Held.takeExpiry (i : TimerId) (j : Jobs) : Held j (j.takeExpiry i) := Held.setTmr _ j

theorem Held.setPanto (x : Panto) (r : PantoRec) (j : Jobs) : Held j (j.setPanto x r) := by
  cases x
  · exact Held.setP1 r j
  · exact Held.setP2 r j

theorem Held.setArcIn (x : Panto) (v : ArcInput) (j : Jobs) : Held j (j.setArcIn x v) := by
  cases x <;> exact Held.setArc _ j

/-- A fold of work that holds is work that holds. -/
theorem Held.foldl {α : Type} (g : Jobs → α → Jobs) (hg : ∀ j a, Held j (g j a)) (as : List α) (j : Jobs) :
    Held j (as.foldl g j) := by
  induction as generalizing j with
  | nil => exact Held.refl j
  | cons a as ih => exact (hg j a).trans (ih (g j a))

/-! ### Tables -/

theorem Held.touchRoute (p : Word) (j : Jobs) : Held j (j.touchRoute p) := Held.touchAll _ j
theorem Held.touchMap (r : MapRole) (j : Jobs) : Held j (j.touchMap r) := Held.touchAll _ j
theorem Held.touchMaps (rs : List MapRole) (j : Jobs) : Held j (j.touchMaps rs) :=
  Held.foldl (fun j r => j.touchMap r) (fun j r => Held.touchMap r j) rs j
theorem Held.touchLine (i : Fin 8) (j : Jobs) : Held j (j.touchLine i) := Held.touchAll _ j
theorem Held.touchLines (is : List (Fin 8)) (j : Jobs) : Held j (is.foldl (fun j i => j.touchLine i) j) :=
  Held.foldl (fun j i => j.touchLine i) (fun j i => Held.touchLine i j) is j
theorem Held.touchResolve (c : BitVec 4) (j : Jobs) : Held j (j.touchResolve c) := Held.touchLines _ j
theorem Held.touchIce (is : List Nat) (j : Jobs) : Held j (j.touchIce is) := Held.touchAll _ j

/-! ### Line System Identifier -/

theorem Held.setConfirmed (v : Line) (j : Jobs) : Held j (j.setConfirmed v) := (Held.setLsi _ j).trans (Held.push _ _)
theorem Held.confirm (v : Line) (j : Jobs) : Held j (j.confirm v) := (Held.setConfirmed v j).trans (Held.flag _ _ _)

theorem Held.touchVerdict (r : Record) (j : Jobs) : Held j (j.touchVerdict r) := by
  unfold Jobs.touchVerdict
  grind [Held.trans, Held.refl, Held.touch, Held.touchLines]

theorem Held.touchNeeded (v : Line) (j : Jobs) : Held j (j.touchNeeded v) := by
  unfold Jobs.touchNeeded
  split
  · exact Held.touch _ j
  · exact Held.touch _ j
  · exact Held.touchLine _ j
  · exact Held.refl j

theorem Held.confirmCheck (v : Line) (j : Jobs) : Held j (j.confirmCheck v) := by
  unfold Jobs.confirmCheck
  grind [Held.trans, Held.touchNeeded, Held.confirm]

theorem Held.debounce (v : Line) (j : Jobs) : Held j (j.debounce v) := by
  unfold Jobs.debounce
  split
  · exact Held.refl j
  · exact (Held.setLsi _ j).trans (Held.confirmCheck _ _)

theorem Held.lostEntries (j : Jobs) : Held j (j.lostEntries) := by
  unfold Jobs.lostEntries
  grind [Held.trans, Held.refl, Held.setLsi, Held.confirm]

theorem Held.lsiRecord (r : Record) (j : Jobs) : Held j (j.lsiRecord r) :=
  (((Held.touchVerdict r j).trans (Held.lostEntries _)).trans (Held.setLsi _ _)).trans (Held.debounce _ _)

theorem Held.lsiAfresh (j : Jobs) : Held j (j.lsiAfresh) := by
  unfold Jobs.lsiAfresh
  grind [Held.trans, Held.refl, Held.setLsi, Held.push]

theorem Held.lsiRestart (j : Jobs) : Held j (j.lsiRestart) := (Held.lostEntries j).trans (Held.lsiAfresh _)

theorem Held.lsiStarve (j : Jobs) : Held j (j.lsiStarve) := by
  unfold Jobs.lsiStarve
  grind [Held.trans, Held.refl, Held.setLsi, Held.confirm]

/-! ### Line Measurement Unit -/

theorem Held.handRecord (r : Record) (j : Jobs) : Held j (j.handRecord r) := by
  unfold Jobs.handRecord
  grind [Held.trans, Held.refl, Held.setLmu, Held.lsiRecord]

theorem Held.breakWindow (j : Jobs) : Held j (j.breakWindow) := by
  unfold Jobs.breakWindow
  grind [Held.trans, Held.refl, Held.handRecord]

theorem Held.clearCrossing (j : Jobs) : Held j (j.clearCrossing) := by
  unfold Jobs.clearCrossing
  grind [Held.trans, Held.refl, Held.setLmu]

theorem Held.takeSample (h : Int) (w : Word) (j : Jobs) : Held j (j.takeSample h w) := by
  unfold Jobs.takeSample
  grind [Held.trans, Held.refl, Held.setLmu, Held.handRecord]

theorem Held.takeSamples (first : Word) (samples : List Word) (j : Jobs) : Held j (j.takeSamples first samples) :=
  (((Held.touch _ j).trans (Held.load _ _ _ _)).trans
    (Held.foldl (fun j w => j.takeSample _ w) (fun j w => Held.takeSample _ w j) samples _)).trans (Held.setLmu _ _)

theorem Held.sampleFrame (first : Word) (samples : List Word) (j : Jobs) : Held j (j.sampleFrame first samples) := by
  unfold Jobs.sampleFrame
  grind [Held.trans, Held.refl, Held.takeSamples, Held.flag, Held.breakWindow, Held.clearCrossing]

theorem Held.lmuMeasure (q : Word) (payload : List Word) (j : Jobs) : Held j (j.lmuMeasure q payload) := by
  unfold Jobs.lmuMeasure
  grind [Held.trans, Held.refl, Held.touchMap, Held.sampleFrame]

theorem Held.starve (j : Jobs) : Held j (j.starve) := by
  unfold Jobs.starve
  grind [Held.trans, Held.refl, Held.breakWindow, Held.clearCrossing, Held.setLmu, Held.flag, Held.lsiStarve]

theorem Held.restartMeasurement (j : Jobs) : Held j (j.restartMeasurement) := by
  unfold Jobs.restartMeasurement
  grind [Held.trans, Held.refl, Held.setLmu, Held.load]

theorem Held.starvationExpiry (j : Jobs) : Held j (j.starvationExpiry) := by
  unfold Jobs.starvationExpiry
  grind [Held.trans, Held.refl, Held.takeExpiry, Held.starve]

/-! ### Pantograph Controller -/

theorem Held.moveP (x : Panto) (r : PantoRec) (j : Jobs) : Held j (j.moveP x r) := by
  unfold Jobs.moveP
  grind [Held.trans, Held.refl, Held.setPanto, Held.push]

theorem Held.releaseHold (j : Jobs) : Held j j.releaseHold := by
  unfold Jobs.releaseHold
  split
  · exact ((Held.setOc { j.oc with hold := false } j rfl (fun h => absurd h Bool.false_ne_true)).trans (Held.setTmr _ _)).trans (Held.push _ _)
  · exact Held.refl j

theorem Held.touchRaise (x : Panto) (j : Jobs) : Held j (j.touchRaise x) := by
  unfold Jobs.touchRaise
  grind [Held.trans, Held.refl, Held.touchMaps, Held.touch]

theorem Held.prepare (x : Panto) (r : Role) (j : Jobs) : Held j (j.prepare x r) := by
  unfold Jobs.prepare
  grind [Held.trans, Held.refl, Held.touch, Held.moveP, Held.load]

theorem Held.raise (x : Panto) (r : Role) (b : Asker) (j : Jobs) : Held j (j.raise x r b).2 := by
  unfold Jobs.raise
  grind [Held.trans, Held.touchRaise, Held.prepare]

theorem Held.settleExpiry (x : Panto) (j : Jobs) : Held j (j.settleExpiry x) := by
  unfold Jobs.settleExpiry
  grind [Held.trans, Held.refl, Held.touch, Held.moveP, Held.load, Held.takeExpiry]

theorem Held.lower (x : Panto) (j : Jobs) : Held j (j.lower x) := by
  unfold Jobs.lower
  grind [Held.trans, Held.refl, Held.touch, Held.moveP, Held.load, Held.stop]

theorem Held.lowerBlind (x : Panto) (j : Jobs) : Held j (j.lowerBlind x) := by
  unfold Jobs.lowerBlind
  grind [Held.trans, Held.refl, Held.lower, Held.setPanto]

theorem Held.raiseTimeout (x : Panto) (j : Jobs) : Held j (j.raiseTimeout x) := by
  unfold Jobs.raiseTimeout
  grind [Held.trans, Held.refl, Held.takeExpiry, Held.moveP, Held.flag]

theorem Held.lowerTimeout (x : Panto) (j : Jobs) : Held j (j.lowerTimeout x) := by
  unfold Jobs.lowerTimeout
  grind [Held.trans, Held.refl, Held.takeExpiry, Held.moveP, Held.flag]

theorem Held.contactMade (x : Panto) (j : Jobs) : Held j (j.contactMade x) := by
  unfold Jobs.contactMade
  grind [Held.trans, Held.refl, Held.touchAll, Held.stop, Held.moveP, Held.setArcIn, Held.load, Held.flag]

theorem Held.contactGone (x : Panto) (j : Jobs) : Held j (j.contactGone x) := by
  unfold Jobs.contactGone
  grind [Held.trans, Held.refl, Held.touch, Held.stop, Held.moveP, Held.load, Held.flag]

theorem Held.drop (x : Panto) (j : Jobs) : Held j (j.drop x) := by
  unfold Jobs.drop
  grind [Held.trans, Held.refl, Held.stop, Held.moveP, Held.flag, Held.releaseHold]

theorem Held.loweredReached (x : Panto) (j : Jobs) : Held j (j.loweredReached x) := by
  unfold Jobs.loweredReached
  grind [Held.trans, Held.refl, Held.stop, Held.moveP]

theorem Held.evaluate (x : Panto) (j : Jobs) : Held j (j.evaluate x) := by
  unfold Jobs.evaluate
  grind [Held.trans, Held.refl, Held.touchAll, Held.touch, Held.setPanto, Held.drop, Held.contactMade, Held.contactGone, Held.loweredReached]

theorem Held.pantoMeasure (x : Panto) (q : Word) (payload : List Word) (j : Jobs) : Held j (j.pantoMeasure x q payload) := by
  unfold Jobs.pantoMeasure
  grind [Held.trans, Held.refl, Held.touchMaps, Held.setPanto, Held.evaluate]

theorem Held.faultClear (x : Panto) (j : Jobs) : Held j (j.faultClear x).2 := by
  unfold Jobs.faultClear
  grind [Held.trans, Held.refl, Held.touch, Held.moveP]

theorem Held.touchAuto (j : Jobs) : Held j (j.touchAuto) := by
  unfold Jobs.touchAuto
  grind [Held.trans, Held.refl, Held.touchLine, Held.touch]

theorem Held.requestRaise (arg : Byte) (j : Jobs) : Held j (j.requestRaise arg).2 := by
  unfold Jobs.requestRaise
  grind [Held.trans, Held.refl, Held.raise, Held.touchAuto]

theorem Held.requestLowerOne (x : Panto) (j : Jobs) : Held j (j.requestLowerOne x).2 := by
  unfold Jobs.requestLowerOne
  grind [Held.trans, Held.refl, Held.lower]

theorem Held.requestLower (arg : Byte) (j : Jobs) : Held j (j.requestLower arg).2 := by
  unfold Jobs.requestLower
  grind [Held.trans, Held.refl, Held.requestLowerOne, Held.lower]

theorem Held.requestFaultClear (arg : Byte) (j : Jobs) : Held j (j.requestFaultClear arg).2 := by
  unfold Jobs.requestFaultClear
  grind [Held.trans, Held.refl, Held.faultClear]

theorem Held.arcEvent (x : Panto) (j : Jobs) : Held j (j.arcEvent x) := by
  unfold Jobs.arcEvent
  grind [Held.trans, Held.refl, Held.setArcIn, Held.setPanto, Held.setIce, Held.flag]

theorem Held.arcInterval (x : Panto) (j : Jobs) : Held j (j.arcInterval x) := by
  unfold Jobs.arcInterval
  grind [Held.trans, Held.refl, Held.takeExpiry, Held.touch, Held.setPanto, Held.setArcIn]

theorem Held.arcSample (x : Panto) (high : Bool) (j : Jobs) : Held j (j.arcSample x high) := by
  unfold Jobs.arcSample
  grind [Held.trans, Held.refl, Held.setArcIn, Held.touch, Held.arcEvent]

theorem Held.arcEdge (x : Panto) (j : Jobs) : Held j (j.arcEdge x) := by
  unfold Jobs.arcEdge
  grind [Held.trans, Held.refl, Held.arcSample]

end Sys2Proof.Machine
end

