-- ==== Sys2Proof/Laws/HeldJobs.lean ====
section
/-! SUPPORT. What the functions of the changeover sequencer, the ice clearing controller and the output composer
hold to (see Held.lean), and what a step's end does to the roof jobs. -/

namespace Sys2Proof.Machine

open Sys2Proof

variable {j k l : Jobs}

/-! ### Changeover Sequencer -/

theorem Held.takeSpeed (a : Announcement) (j : Jobs) : Held j (j.takeSpeed a) := by
  unfold Jobs.takeSpeed
  grind (ematch := 20) [Held.trans, Held.refl, Held.setSpeed, Held.push]

theorem insertFeature_length (f : Feature) (fs : List Feature) : (insertFeature f fs).length = fs.length + 1 := by
  induction fs with
  | nil => rfl
  | cons g rest ih => simp only [insertFeature]; split <;> simp [ih]

/-- R35: an offer keeps the list within its bound. -/
theorem offerTo_bounded (f : Feature) (n : Byte) (fs : List Feature) (h : fs.length ≤ Config.featureRoom) :
    (offerTo f n fs).1.length ≤ Config.featureRoom := by
  have hr : (fs.filter (fun g => !g.has n)).length ≤ fs.length := List.length_filter_le _ _
  have hi := fun m => insertFeature_length f m
  simp only [offerTo, Config.featureRoom] at h ⊢
  generalize fs.filter (fun g => !g.has n) = rest at hr ⊢
  have hd : rest.dropLast.length = rest.length - 1 := List.length_dropLast
  grind

theorem Held.offerFeature (kind : FeatureKind) (a : Announcement) (j : Jobs) : Held j (j.offerFeature kind a) := by
  have hl : ∀ (f : Feature) (n : Byte) (k : Jobs),
      Held k (k.setCs { k.cs with list := (offerTo f n k.cs.list).1 }) :=
    fun f n k => Held.setCs _ k id (offerTo_bounded f n k.cs.list)
  unfold Jobs.offerFeature
  grind (ematch := 20) [Held.trans, Held.refl, Held.touchAll, Held.flag, Held.touchResolve, Held.push]

/-- An update that shortens the feature list. -/
theorem Held.setCs_list (v : Cs) (j : Jobs) (h2 : v.command = j.cs.command) (h3 : v.pulse = j.cs.pulse)
    (h1 : v.list.length ≤ j.cs.list.length) : Held j (j.setCs v) :=
  Held.setCs v j (by unfold Cs.pulseCloses; rw [h2, h3]; exact id) (Nat.le_trans h1)

theorem Held.cancel (n : Byte) (j : Jobs) : Held j (j.cancel n) := by
  unfold Jobs.cancel
  split
  · exact Held.setCs_rest _ j rfl rfl rfl
  · exact (Held.setCs_list _ j (by rfl) (by rfl) (List.length_filter_le _ _)).trans (Held.push _ _)

theorem Held.dropStale (j : Jobs) : Held j j.dropStale :=
  (Held.setCs_list _ j (by rfl) (by rfl) (List.length_filter_le _ _)).trans
    (Held.foldl (fun j (g : Feature) => j.flag .featureDiscarded g.subject) (fun j _ => Held.flag _ _ j) _ _)

theorem Held.ageFeatures (j : Jobs) : Held j j.ageFeatures := by
  unfold Jobs.ageFeatures
  split
  · exact Held.refl j
  · exact (Held.touch _ j).trans (Held.setCs _ _ id (fun h => by simpa [Cs.bounded] using h))

theorem Held.setOpen (j : Jobs) : Held j j.setOpen := by
  unfold Jobs.setOpen
  have h : ∀ k : Jobs, Held k (k.setCs { k.cs with command := .open, pulse := false }) :=
    fun k => Held.setCs _ k (fun _ hp => absurd hp Bool.false_ne_true) id
  grind (ematch := 20) [Held.trans, Held.refl, Held.stop]

theorem Held.touchConfirmed (j : Jobs) : Held j (j.touchConfirmed) := by
  unfold Jobs.touchConfirmed
  grind (ematch := 20) [Held.trans, Held.refl, Held.touchLine]

theorem Held.touchTarget (j : Jobs) : Held j (j.touchTarget) := by
  unfold Jobs.touchTarget
  grind (ematch := 20) [Held.trans, Held.refl, Held.touchResolve]

theorem Held.touchClosing (j : Jobs) : Held j (j.touchClosing) := by
  unfold Jobs.touchClosing
  grind (ematch := 20) [Held.trans, Held.refl, Held.touchConfirmed, Held.touchTarget]

theorem Held.csTo (s : CsState) (j : Jobs) : Held j (j.csTo s) :=
  (Held.setCs_rest _ j (by rfl) (by rfl) (by rfl)).trans (Held.push _ _)

theorem Held.enterHold (r : HoldReason) (step : CsState) (j : Jobs) : Held j (j.enterHold r step) := by
  unfold Jobs.enterHold
  grind (ematch := 20) [Held.trans, Held.refl, Held.setOpen, Held.stop, Held.setCs_rest, Held.flag, Held.csTo]

theorem Held.failStep (r : HoldReason) (j : Jobs) : Held j (j.failStep r) := by
  unfold Jobs.failStep
  grind (ematch := 20) [Held.trans, Held.refl, Held.enterHold]

theorem Held.loadStep (i : Nat) (j : Jobs) : Held j (j.loadStep i) := by
  unfold Jobs.loadStep
  grind (ematch := 20) [Held.trans, Held.refl, Held.touch, Held.load]

theorem Held.enterIdle (j : Jobs) : Held j (j.enterIdle) := by
  unfold Jobs.enterIdle
  grind (ematch := 20) [Held.trans, Held.refl, Held.stop, Held.csTo]

theorem Held.enterArmed (j : Jobs) : Held j (j.enterArmed) := by
  unfold Jobs.enterArmed
  grind (ematch := 20) [Held.trans, Held.refl, Held.dropStale, Held.csTo]

theorem Held.enterOpening (j : Jobs) : Held j (j.enterOpening) := by
  unfold Jobs.enterOpening
  grind (ematch := 20) [Held.trans, Held.refl, Held.setOpen, Held.loadStep, Held.csTo]

theorem Held.enterCoasting (j : Jobs) : Held j (j.enterCoasting) := by
  unfold Jobs.enterCoasting
  grind (ematch := 20) [Held.trans, Held.refl, Held.stop, Held.setCs_rest, Held.loadStep, Held.load, Held.csTo]

theorem Held.enterLowering (j : Jobs) : Held j (j.enterLowering) := by
  unfold Jobs.enterLowering
  grind (ematch := 20) [Held.trans, Held.refl, Held.lower, Held.touchAll, Held.load, Held.csTo]

theorem Held.enterSelecting (j : Jobs) : Held j (j.enterSelecting) := by
  unfold Jobs.enterSelecting
  grind (ematch := 20) [Held.trans, Held.refl, Held.enterHold, Held.touchTarget, Held.setCs_rest, Held.loadStep, Held.csTo]

theorem Held.noteMade (x : Panto) (was : PState) (j : Jobs) : Held j (j.noteMade x was) := by
  unfold Jobs.noteMade
  grind [Held.refl, Held.setIce]

theorem Held.enterRaising (j : Jobs) : Held j j.enterRaising := by
  have hr : ∀ (x : Panto) (r : Role) (b : Asker) (k : Jobs), Held k (k.raise x r b).2 := Held.raise
  unfold Jobs.enterRaising
  grind (ematch := 20) [Held.trans, Held.noteMade, Held.refl, Held.touchTarget, Held.touch, Held.stop, Held.enterHold, Held.setCs_rest, Held.csTo]

theorem Held.enterIdentifying (j : Jobs) : Held j (j.enterIdentifying) := by
  unfold Jobs.enterIdentifying
  grind (ematch := 20) [Held.trans, Held.refl, Held.loadStep, Held.csTo]

theorem Held.enterClosing (j : Jobs) : Held j j.enterClosing := by
  have h : ∀ k : Jobs, Held k (k.setCs { k.cs with command := .close, pulse := true }) :=
    fun k => Held.setCs _ k (fun _ _ => rfl) id
  unfold Jobs.enterClosing
  grind (ematch := 20) [Held.trans, Held.refl, Held.touchClosing, Held.enterHold, Held.touch, Held.load, Held.loadStep, Held.csTo]

theorem Held.takeHead (f : Feature) (rest : List Feature) (hr : j.cs.list = f :: rest) : Held j (j.takeHead f rest) := by
  have h : Held j (j.setCs { j.cs with list := rest, current := some f, expected := some j.lsi.confirmed, deadSeen := false }) :=
    Held.setCs _ j id (fun h => by simp only [Cs.bounded, hr, List.length_cons] at h ⊢; omega)
  unfold Jobs.takeHead
  grind (ematch := 20) [Held.trans, Held.enterOpening, Held.enterHold]

theorem Held.dueCheck (j : Jobs) : Held j (j.dueCheck) := by
  unfold Jobs.dueCheck
  grind (ematch := 20) [Held.trans, Held.refl, Held.takeHead]

theorem Held.coastToRoof (j : Jobs) : Held j (j.coastToRoof) := by
  unfold Jobs.coastToRoof
  grind (ematch := 20) [Held.trans, Held.refl, Held.touchTarget, Held.failStep, Held.stop, Held.enterLowering, Held.lsiRestart, Held.enterIdentifying]

theorem Held.coastOver (j : Jobs) : Held j (j.coastOver) := by
  unfold Jobs.coastOver
  grind (ematch := 20) [Held.trans, Held.refl, Held.coastToRoof, Held.stop, Held.enterClosing, Held.failStep]

theorem Held.coastingTest (j : Jobs) : Held j (j.coastingTest) := by
  unfold Jobs.coastingTest
  grind (ematch := 20) [Held.trans, Held.refl, Held.setCs_rest, Held.coastOver]

theorem Held.loweringTest (j : Jobs) : Held j (j.loweringTest) := by
  unfold Jobs.loweringTest
  grind (ematch := 20) [Held.trans, Held.refl, Held.touchTarget, Held.stop, Held.failStep, Held.enterRaising, Held.enterSelecting]

theorem Held.selectingTest (j : Jobs) : Held j (j.selectingTest) := by
  unfold Jobs.selectingTest
  grind (ematch := 20) [Held.trans, Held.refl, Held.failStep, Held.setCs_rest, Held.stop, Held.enterRaising]

theorem Held.raisingTest (j : Jobs) : Held j (j.raisingTest) := by
  unfold Jobs.raisingTest
  grind (ematch := 20) [Held.trans, Held.refl, Held.lsiRestart, Held.enterIdentifying]

theorem Held.adoptTarget (i : Fin 8) (j : Jobs) : Held j (j.adoptTarget i) := Held.setCs_rest _ j rfl rfl rfl

theorem Held.identifyingTest (j : Jobs) : Held j (j.identifyingTest) := by
  unfold Jobs.identifyingTest
  grind (ematch := 20) [Held.trans, Held.refl, Held.touchLine, Held.adoptTarget, Held.enterLowering, Held.enterClosing, Held.failStep, Held.touchResolve]

theorem Held.closingDone (j : Jobs) : Held j j.closingDone := by
  have h : ∀ k : Jobs, Held k (k.setCs { k.cs with
      pulse := false, closingSystem := k.lsi.confirmed.index, current := none, expected := none }) :=
    fun k => Held.setCs _ k (fun _ hp => absurd hp Bool.false_ne_true) id
  unfold Jobs.closingDone
  grind (ematch := 20) [Held.trans, Held.refl, Held.stop, Held.flag, Held.enterIdle]

theorem Held.closingTest (j : Jobs) : Held j (j.closingTest) := by
  unfold Jobs.closingTest
  grind (ematch := 20) [Held.trans, Held.refl, Held.touchClosing, Held.setOpen, Held.enterRaising, Held.failStep, Held.closingDone]

theorem Held.csTest (due : Bool) (j : Jobs) : Held j (j.csTest due) := by
  unfold Jobs.csTest
  grind (ematch := 20) [Held.trans, Held.refl, Held.enterArmed, Held.enterIdle, Held.dueCheck, Held.enterCoasting, Held.coastingTest, Held.loweringTest, Held.selectingTest, Held.raisingTest, Held.identifyingTest, Held.closingTest]

theorem Held.csConfirmed (j : Jobs) : Held j (j.csConfirmed) := by
  unfold Jobs.csConfirmed
  grind (ematch := 20) [Held.trans, Held.refl, Held.csTest, Held.flag, Held.setOpen, Held.setCs_rest, Held.enterHold, Held.touch, Held.enterCoasting]

theorem Held.csBreaker (old : BreakerFb) (new : BreakerFb) (j : Jobs) : Held j (j.csBreaker old new) := by
  unfold Jobs.csBreaker
  grind (ematch := 20) [Held.trans, Held.refl, Held.flag, Held.setOpen, Held.setCs_rest, Held.enterIdle, Held.csTest]

theorem Held.csCollectorGone (j : Jobs) : Held j (j.csCollectorGone) := by
  unfold Jobs.csCollectorGone
  grind (ematch := 20) [Held.trans, Held.refl, Held.setOpen, Held.setCs_rest, Held.failStep]

theorem Held.csPanto (x : Panto) (old : PState) (new : PState) (role : Role) (j : Jobs) : Held j (j.csPanto x old new role) := by
  unfold Jobs.csPanto
  grind (ematch := 20) [Held.trans, Held.refl, Held.csCollectorGone, Held.enterRaising, Held.failStep, Held.csTest]

theorem Held.csLowerAll (j : Jobs) : Held j (j.csLowerAll) := by
  unfold Jobs.csLowerAll
  grind (ematch := 20) [Held.trans, Held.refl, Held.setOpen, Held.failStep]

theorem Held.csReact (c : Change) (j : Jobs) : Held j (j.csReact c) := by
  unfold Jobs.csReact
  grind (ematch := 20) [Held.trans, Held.refl, Held.csTest, Held.csConfirmed, Held.csBreaker, Held.csPanto, Held.csLowerAll]

theorem Held.csStepTimeout (j : Jobs) : Held j (j.csStepTimeout) := by
  unfold Jobs.csStepTimeout
  grind (ematch := 20) [Held.trans, Held.refl, Held.takeExpiry, Held.failStep]

theorem Held.coastExpiry (j : Jobs) : Held j (j.coastExpiry) := by
  unfold Jobs.coastExpiry
  grind (ematch := 20) [Held.trans, Held.refl, Held.takeExpiry, Held.setCs_rest, Held.loadStep, Held.coastOver]

theorem Held.closePulseExpiry (j : Jobs) : Held j j.closePulseExpiry := by
  have h : ∀ k : Jobs, Held k (k.setCs { k.cs with pulse := false }) :=
    fun k => Held.setCs _ k (fun _ hp => absurd hp Bool.false_ne_true) id
  unfold Jobs.closePulseExpiry
  grind (ematch := 20) [Held.trans, Held.refl, Held.takeExpiry]

theorem Held.featureDue (j : Jobs) : Held j (j.featureDue) := by
  unfold Jobs.featureDue
  grind (ematch := 20) [Held.trans, Held.refl, Held.push]

theorem Held.speedAged (j : Jobs) : Held j (j.speedAged) := by
  unfold Jobs.speedAged
  grind (ematch := 20) [Held.trans, Held.refl, Held.setSpeed, Held.push]

theorem Held.requestClose (j : Jobs) : Held j ((j.requestClose).2) := by
  unfold Jobs.requestClose
  grind (ematch := 20) [Held.trans, Held.refl, Held.setCs_rest, Held.enterClosing, Held.touchConfirmed]

theorem Held.requestOpen (j : Jobs) : Held j ((j.requestOpen).2) := by
  unfold Jobs.requestOpen
  grind (ematch := 20) [Held.trans, Held.refl, Held.setCs_rest, Held.setOpen]

theorem Held.requestSelect (arg : Byte) (j : Jobs) : Held j ((j.requestSelect arg).2) := by
  unfold Jobs.requestSelect
  grind (ematch := 20) [Held.trans, Held.refl, Held.touchResolve, Held.lostEntries, Held.setCs_rest, Held.enterOpening]

theorem Held.requestEnergise (j : Jobs) : Held j ((j.requestEnergise).2) := by
  unfold Jobs.requestEnergise
  grind (ematch := 20) [Held.trans, Held.refl, Held.setCs_rest, Held.enterRaising]

theorem Held.reenter (step : CsState) (j : Jobs) : Held j (j.reenter step) := by
  unfold Jobs.reenter
  grind (ematch := 20) [Held.trans, Held.refl, Held.setCs_rest, Held.enterOpening, Held.enterHold, Held.enterIdle, Held.enterCoasting, Held.enterLowering, Held.enterSelecting, Held.enterRaising, Held.enterIdentifying, Held.enterClosing]

theorem Held.requestResume (j : Jobs) : Held j ((j.requestResume).2) := by
  unfold Jobs.requestResume
  grind (ematch := 20) [Held.trans, Held.refl, Held.dropStale, Held.setCs_rest, Held.reenter]

theorem Held.requestAbort (j : Jobs) : Held j ((j.requestAbort).2) := by
  unfold Jobs.requestAbort
  grind (ematch := 20) [Held.trans, Held.refl, Held.dropStale, Held.setCs_rest, Held.setOpen, Held.enterIdle]

/-! ### The Output Composer's following -/

/-- An update of the outputs that leaves both force flags. -/
theorem Held.setOc_rest (v : Outputs) (j : Jobs) (h1 : v.lowerAll = j.oc.lowerAll) (h2 : v.hold = j.oc.hold) :
    Held j (j.setOc v) := Held.setOc v j h1 (by rw [h2]; exact id)

theorem Held.ocFollow (e : EarthFb) (j : Jobs) : Held j (j.ocFollow e) := by
  unfold Jobs.ocFollow
  grind (ematch := 20) [Held.trans, Held.refl, Held.setOc_rest, Held.flag]

theorem Held.ocReact (j : Jobs) : Held j j.ocReact := Held.ocFollow _ j
theorem Held.ocSync (j : Jobs) : Held j j.ocSync := Held.ocFollow _ j

/-! ### Ice Clearing Controller -/

theorem Held.takeTemp (q : Word) (payload : List Word) (j : Jobs) : Held j (j.takeTemp q payload) := by
  unfold Jobs.takeTemp
  grind (ematch := 20) [Held.trans, Held.refl, Held.touchMap, Held.touchIce, Held.setIce]

theorem Held.takeProbe (q : Word) (payload : List Word) (j : Jobs) : Held j (j.takeProbe q payload) := by
  unfold Jobs.takeProbe
  grind (ematch := 20) [Held.trans, Held.refl, Held.touchMap, Held.touchIce, Held.setIce]

theorem Held.iceMeasure (q : Word) (payload : List Word) (j : Jobs) : Held j (j.iceMeasure q payload) :=
  (Held.takeTemp q payload j).trans (Held.takeProbe q payload _)

theorem Held.iceInputs (j : Jobs) : Held j j.iceInputs := Held.setIce _ j

theorem Held.iceZone (a : Announcement) (j : Jobs) : Held j (j.iceZone a) := Held.setIce _ j

theorem Held.touchPermits (j : Jobs) : Held j (j.touchPermits) := by
  unfold Jobs.touchPermits
  grind (ematch := 20) [Held.trans, Held.refl, Held.touchIce, Held.touchConfirmed, Held.touchMap]

theorem Held.loadPhase (x : Panto) (p : HeatPhase) (seconds : Nat) (j : Jobs) : Held j (j.loadPhase x p seconds) := by
  unfold Jobs.loadPhase
  grind (ematch := 20) [Held.trans, Held.refl, Held.setIce, Held.load, Held.stop]

theorem Held.restPhase (x : Panto) (j : Jobs) : Held j (j.restPhase x) := by
  unfold Jobs.restPhase
  grind (ematch := 20) [Held.trans, Held.refl, Held.setIce, Held.onTimer]

theorem Held.nextPhase (x : Panto) (onFirst : Bool) (j : Jobs) : Held j (j.nextPhase x onFirst) := by
  unfold Jobs.nextPhase
  grind (ematch := 20) [Held.trans, Held.refl, Held.touchIce, Held.loadPhase, Held.restPhase]

theorem Held.startCycle (x : Panto) (j : Jobs) : Held j (j.startCycle x) := by
  unfold Jobs.startCycle
  grind (ematch := 20) [Held.trans, Held.refl, Held.nextPhase]

theorem Held.endCycle (x : Panto) (j : Jobs) : Held j (j.endCycle x) := by
  unfold Jobs.endCycle
  grind (ematch := 20) [Held.trans, Held.refl, Held.setIce, Held.onTimer]

theorem Held.supplyCycle (x : Panto) (j : Jobs) : Held j (j.supplyCycle x) := by
  unfold Jobs.supplyCycle
  grind (ematch := 20) [Held.trans, Held.refl, Held.onTimer, Held.stop]

theorem Held.followCycle (x : Panto) (j : Jobs) : Held j (j.followCycle x) := by
  unfold Jobs.followCycle
  grind (ematch := 20) [Held.trans, Held.refl, Held.startCycle, Held.supplyCycle, Held.endCycle]

theorem Held.heaterExpiry (x : Panto) (j : Jobs) : Held j (j.heaterExpiry x) := by
  unfold Jobs.heaterExpiry
  grind (ematch := 20) [Held.trans, Held.refl, Held.takeExpiry, Held.nextPhase]

theorem Held.dropScraper (j : Jobs) : Held j (j.dropScraper) := by
  unfold Jobs.dropScraper
  grind (ematch := 20) [Held.trans, Held.refl, Held.lower, Held.setIce]

theorem Held.setMode (m : IceMode) (j : Jobs) : Held j (j.setMode m) := by
  unfold Jobs.setMode
  grind (ematch := 20) [Held.trans, Held.refl, Held.setIce, Held.followCycle, Held.flag, Held.push]

theorem Held.leaveTo (m : IceMode) (j : Jobs) : Held j (j.leaveTo m) := by
  unfold Jobs.leaveTo
  grind (ematch := 20) [Held.trans, Held.refl, Held.dropScraper, Held.setMode]

theorem Held.scraperRefused (m : IceMode) (j : Jobs) : Held j (j.scraperRefused m) := by
  unfold Jobs.scraperRefused
  grind (ematch := 20) [Held.trans, Held.refl, Held.setIce, Held.leaveTo]

theorem Held.enterScrape (j : Jobs) : Held j j.enterScrape := by
  have hr : ∀ (x : Panto) (r : Role) (b : Asker) (k : Jobs), Held k (k.raise x r b).2 := Held.raise
  unfold Jobs.enterScrape
  grind (ematch := 20) [Held.trans, Held.refl, Held.leaveTo, Held.setIce, Held.setMode, Held.scraperRefused]

theorem Held.choose (j : Jobs) : Held j (j.choose) := by
  unfold Jobs.choose
  grind (ematch := 20) [Held.trans, Held.refl, Held.touchPermits, Held.enterScrape, Held.leaveTo]

theorem Held.chooseUnlessSuspended (j : Jobs) : Held j (j.chooseUnlessSuspended) := by
  unfold Jobs.chooseUnlessSuspended
  grind (ematch := 20) [Held.trans, Held.refl, Held.choose]

theorem Held.watch (j : Jobs) : Held j (j.watch) := by
  unfold Jobs.watch
  grind (ematch := 20) [Held.trans, Held.refl, Held.touchPermits, Held.scraperRefused, Held.leaveTo]

theorem Held.suspendIfMust (j : Jobs) : Held j j.suspendIfMust := by
  unfold Jobs.suspendIfMust
  grind [Held.refl, Held.leaveTo]

theorem Held.endSuspension (j : Jobs) : Held j j.endSuspension := by
  unfold Jobs.endSuspension
  grind (ematch := 20) [Held.trans, Held.setIce, Held.choose]

theorem Held.suspension (j : Jobs) : Held j (j.suspension) := by
  unfold Jobs.suspension
  grind (ematch := 20) [Held.trans, Held.refl, Held.suspendIfMust, Held.endSuspension]

theorem Held.restartCycle (x : Panto) (j : Jobs) : Held j (j.restartCycle x) := by
  unfold Jobs.restartCycle
  grind (ematch := 20) [Held.trans, Held.refl, Held.startCycle]

theorem Held.assess (tag : Long) (j : Jobs) : Held j (j.assess tag) := by
  unfold Jobs.assess
  grind (ematch := 20) [Held.trans, Held.refl, Held.touchIce, Held.setIce, Held.flag, Held.restartCycle, Held.ocReact, Held.chooseUnlessSuspended]

theorem Held.iceAssessment (j : Jobs) : Held j (j.iceAssessment) := by
  unfold Jobs.iceAssessment
  grind (ematch := 20) [Held.trans, Held.refl, Held.takeExpiry, Held.assess, Held.touchIce, Held.onTimer]

theorem Held.requestIceMode (arg : Byte) (j : Jobs) : Held j ((j.requestIceMode arg).2) := by
  unfold Jobs.requestIceMode
  grind (ematch := 20) [Held.trans, Held.refl, Held.setIce, Held.choose]

/-! ### Output Composer and Command Admission -/

theorem Held.rebuild (keep : Bool) (j : Jobs) : Held j (j.rebuild keep) := by
  unfold Jobs.rebuild
  grind (ematch := 20) [Held.trans, Held.refl, Held.touchMaps, Held.setOc_rest]

theorem Held.markAll (j : Jobs) : Held j (j.markAll) := by
  unfold Jobs.markAll
  grind (ematch := 20) [Held.trans, Held.refl, Held.setOc_rest]

theorem Held.touchPoint (e : Option PointEntry) (j : Jobs) : Held j (j.touchPoint e) := by
  unfold Jobs.touchPoint
  grind (ematch := 20) [Held.trans, Held.refl, Held.touchMaps, Held.touchAll]

theorem Outputs.onEntry_lowerAll (p : Word) (f : PointEntry → PointEntry) (o : Outputs) : (o.onEntry p f).lowerAll = o.lowerAll := rfl
theorem Outputs.onEntry_hold (p : Word) (f : PointEntry → PointEntry) (o : Outputs) : (o.onEntry p f).hold = o.hold := rfl

theorem Held.onEntry (p : Word) (f : PointEntry → PointEntry) (j : Jobs) : Held j (j.setOc (j.oc.onEntry p f)) :=
  Held.setOc_rest _ j rfl rfl

theorem Held.admitWord (p w : Word) (j : Jobs) : Held j (j.admitWord p w).2 := by
  unfold Jobs.admitWord
  grind (ematch := 20) [Held.trans, Held.onEntry, Held.touchPoint, Held.flag]

theorem Held.admitWords (n c : Nat) (ws : List Word) (j : Jobs) : Held j (j.admitWords n c ws).2 := by
  induction ws generalizing c j with
  | nil => exact Held.refl j
  | cons w rest ih =>
    simp only [Jobs.admitWords]
    split
    · exact (Held.admitWord _ w j).trans (ih _ _)
    · exact ih _ _

theorem Held.recomposeWords (n c : Nat) (ws : List Word) (j : Jobs) : Held j (j.recomposeWords n c ws).2 := by
  induction ws generalizing c j with
  | nil => exact Held.refl j
  | cons w rest ih =>
    simp only [Jobs.recomposeWords]
    refine Held.trans ?_ (ih _ _)
    grind (ematch := 20) [Held.trans, Held.refl, Held.onEntry, Held.touchMaps]

theorem Held.compose (e : PointEntry) (j : Jobs) : Held j (j.compose e).2 := by
  unfold Jobs.compose
  generalize j.composed e = w
  dsimp only
  have h : Held j (j.setOc { j.oc.onEntry e.point (fun e => { e with lastSent := w, pending := false }) with
      seq := j.oc.seq + 1 }) := Held.setOc_rest _ j rfl rfl
  exact h.trans (Held.touchPoint (some e) _)

theorem Held.requestHoldOff (j : Jobs) : Held j ((j.requestHoldOff).2) := by
  unfold Jobs.requestHoldOff
  grind (ematch := 20) [Held.trans, Held.refl, Held.releaseHold]

/-! ### A step's end -/

theorem Held.syncFeedback (j : Jobs) : Held j (j.syncFeedback) := by
  unfold Jobs.syncFeedback
  grind (ematch := 20) [Held.trans, Held.refl, Held.setFb, Held.push]

theorem Held.feedbackMeasure (q : Word) (payload : List Word) (j : Jobs) : Held j (j.feedbackMeasure q payload) := by
  unfold Jobs.feedbackMeasure
  grind (ematch := 20) [Held.trans, Held.refl, Held.touchMaps, Held.setFb, Held.setOc_rest, Held.push]

theorem Held.react (c : Change) (j : Jobs) : Held j (j.react c) := by
  unfold Jobs.react
  grind (ematch := 20) [Held.trans, Held.refl, Held.lostEntries, Held.csReact, Held.ocReact, Held.suspendIfMust, Held.suspension, Held.chooseUnlessSuspended]

theorem Held.levels (j : Jobs) : Held j j.levels :=
  (((((((((((((Held.lostEntries j).trans (Held.syncFeedback _)).trans (Held.ocReact _)).trans (Held.ocSync _)).trans
    (Held.lowerBlind _ _)).trans (Held.lowerBlind _ _)).trans (Held.iceInputs _)).trans (Held.ocReact _)).trans (Held.suspension _)).trans
    (Held.ocReact _)).trans (Held.watch _)).trans (Held.ocReact _)).trans (Held.followCycle _ _)).trans (Held.followCycle _ _)

theorem Held.answer (c : Change) (j : Jobs) : Held j (j.answer c) := by
  unfold Jobs.answer
  grind (ematch := 20) [Held.trans, Held.refl, Held.ocReact, Held.react, Held.levels]

theorem Held.pump (n : Nat) (j : Jobs) : Held j (j.pump n) := by
  induction n generalizing j with
  | zero => exact Held.setTodo _ j
  | succ n ih =>
    simp only [Jobs.pump]
    split
    · exact Held.refl j
    · exact ((Held.setTodo _ j).trans (Held.answer _ _)).trans (ih _)

theorem Held.settle (j : Jobs) : Held j j.settle := (Held.pump _ j).trans (Held.ocSync _)

/-- With nothing to answer, a step's end is the outputs' own. -/
theorem Jobs.settle_of_nothing (h : j.todo = []) : j.settle = j.ocSync := by
  unfold Jobs.settle Jobs.pump
  rw [h]

/-- After its end a step has nothing left to answer. -/
theorem Jobs.pump_todo (n : Nat) (j : Jobs) : (j.pump n).todo = [] := by
  induction n generalizing j with
  | zero => rfl
  | succ n ih =>
    simp only [Jobs.pump]
    split
    · assumption
    · exact ih _


end Sys2Proof.Machine
end

