-- ==== Sys2Proof/Laws/Deliver.lean ====
section
/-! SUPPORT. What offering to the capture buffer, originating a frame, delivering a step's reports and ending a
step can do to the part, each said once. -/

namespace Sys2Proof.Machine

open Sys2Proof

/-- Delivery leaves the roof jobs as they are but for table memory's own bookkeeping and the step's two lists. -/
structure Still (j k : Jobs) : Prop where
  rest : k = { j with tm := k.tm, todo := k.todo, out := k.out }
  mem : j.tableWf → k.tableWf ∧ ∀ b, (k.cell b).data = (j.cell b).data ∧ (k.cell b).bad = (j.cell b).bad
  scrub : k.tm.scrub = j.tm.scrub

variable {i j k : Jobs} {s t u : State}

theorem Still.refl (j : Jobs) : Still j j := ⟨rfl, fun h => ⟨h, fun _ => ⟨rfl, rfl⟩⟩, rfl⟩

theorem Still.trans (h : Still i j) (h' : Still j k) : Still i k where
  rest := by rw [h'.rest, h.rest]
  mem hw := ⟨(h'.mem (h.mem hw).1).1, fun b =>
    ⟨((h'.mem (h.mem hw).1).2 b).1.trans ((h.mem hw).2 b).1, ((h'.mem (h.mem hw).1).2 b).2.trans ((h.mem hw).2 b).2⟩⟩
  scrub := h'.scrub.trans h.scrub

theorem Still.setOut (v : List Report) (j : Jobs) : Still j (j.setOut v) := ⟨rfl, fun h => ⟨h, fun _ => ⟨rfl, rfl⟩⟩, rfl⟩
theorem Still.setTodo (v : List Change) (j : Jobs) : Still j (j.setTodo v) := ⟨rfl, fun h => ⟨h, fun _ => ⟨rfl, rfl⟩⟩, rfl⟩

theorem Still.touch (a : Nat) (j : Jobs) : Still j (j.touch a) where
  rest := by rcases Jobs.touch_spec a j with ⟨-, e⟩ | ⟨-, -, -, e⟩ | ⟨-, e⟩ <;> rw [e] <;> rfl
  mem := Jobs.touch_mem a j
  scrub := by simp

theorem Still.touchAll (as : List Nat) (j : Jobs) : Still j (j.touchAll as) := by
  induction as generalizing j with
  | nil => exact Still.refl j
  | cons a as ih => exact (Still.touch a j).trans (ih (j.touch a))

theorem Still.touchRouteOf (f : Frame) (j : Jobs) : Still j (j.touchRouteOf f) := by
  unfold Jobs.touchRouteOf
  split
  · exact Still.refl j
  · exact Still.touchAll _ j

theorem Held.touchRouteOf (f : Frame) (j : Jobs) : Held j (j.touchRouteOf f) := by
  unfold Jobs.touchRouteOf
  split
  · exact Held.refl j
  · exact Held.touchRoute _ j

/-- What a delivery does to the part: the ports, the exchange, the roof counters, the downstream queue and the
latch stand; frames join the train transmit queue within its bound, none of them forwarded; flags are only set; the
capture settings stand and capture memory keeps its form. -/
structure Delivered (s t : State) : Prop where
  pending : t.pending = s.pending
  inReset : t.inReset = s.inReset
  train : t.train = s.train
  roof : t.roof = s.roof
  rb : t.rb = s.rb
  latch : t.latch = s.latch
  jobs : Still s.jobs t.jobs
  frRoof : t.fr.roof = s.fr.roof
  down : t.fr.down = s.fr.down
  frTrain : t.fr.train = { s.fr.train with originated := t.fr.train.originated }
  up : s.fr.up <+: t.fr.up
  room : s.fr.up.length ≤ Config.trainRoom → t.fr.up.length ≤ Config.trainRoom
  share : t.fr.share = s.fr.share
  flags : ∀ n, s.nu.flags.getLsbD n = true → t.nu.flags.getLsbD n = true
  capture : Store.wf CaptureEntry.empty s.cb.mem = true → Store.wf CaptureEntry.empty t.cb.mem = true
  settings : t.cb.mode = s.cb.mode ∧ t.cb.unmatched = s.cb.unmatched ∧ t.cb.trigger = s.cb.trigger ∧ t.cb.post = s.cb.post
  frozen : s.cb.state = .frozen → t.cb = s.cb

theorem Delivered.refl (s : State) : Delivered s s :=
  ⟨rfl, rfl, rfl, rfl, rfl, rfl, Still.refl _, rfl, rfl, rfl, List.prefix_rfl, id, rfl, fun _ => id, id, ⟨rfl, rfl, rfl, rfl⟩,
   fun _ => rfl⟩

theorem Delivered.trans (h : Delivered s t) (h' : Delivered t u) : Delivered s u where
  pending := h'.pending.trans h.pending
  inReset := h'.inReset.trans h.inReset
  train := h'.train.trans h.train
  roof := h'.roof.trans h.roof
  rb := h'.rb.trans h.rb
  latch := h'.latch.trans h.latch
  jobs := h.jobs.trans h'.jobs
  frRoof := h'.frRoof.trans h.frRoof
  down := h'.down.trans h.down
  frTrain := by rw [h'.frTrain, h.frTrain]
  up := h.up.trans h'.up
  room hr := h'.room (h.room hr)
  share := h'.share.trans h.share
  flags n hn := h'.flags n (h.flags n hn)
  capture hc := h'.capture (h.capture hc)
  settings := ⟨h'.settings.1.trans h.settings.1, h'.settings.2.1.trans h.settings.2.1,
    h'.settings.2.2.1.trans h.settings.2.2.1, h'.settings.2.2.2.trans h.settings.2.2.2⟩
  frozen hf := by
    have e := h.frozen hf
    exact (h'.frozen (by rw [e]; exact hf)).trans e

theorem Delivered.onJobs (f : Jobs → Jobs) (s : State) (h : Still s.jobs (f s.jobs)) : Delivered s (s.onJobs f) :=
  { Delivered.refl s with jobs := h }

/-! ### The capture buffer -/

theorem Capture.home_mem (m : CaptureMode) (c : Capture) : (c.home m).mem = c.mem := by
  unfold Capture.home
  split
  · rfl
  · split <;> rfl

theorem Capture.write_spec (frame : Bool) (e : CaptureEntry) (c : Capture) :
    (c.write frame e).mem = Store.write CaptureEntry.empty (c.index frame) e c.mem ∧
    (c.write frame e).mode = c.mode ∧ (c.write frame e).unmatched = c.unmatched ∧
    (c.write frame e).trigger = c.trigger ∧ (c.write frame e).post = c.post := by
  cases frame <;> exact ⟨rfl, rfl, rfl, rfl, rfl⟩

/-- R173, R177: an offer writes at most one entry, at its region's index, and keeps the settings; a frozen buffer
takes nothing. -/
theorem Capture.offer_spec (frame hit : Bool) (e : CaptureEntry) (c : Capture) :
    ((c.offer frame hit e).1.mem = c.mem ∨
      (c.offer frame hit e).1.mem = Store.write CaptureEntry.empty (c.index frame) e c.mem) ∧
    (c.offer frame hit e).1.mode = c.mode ∧ (c.offer frame hit e).1.unmatched = c.unmatched ∧
    (c.offer frame hit e).1.trigger = c.trigger ∧ (c.offer frame hit e).1.post = c.post ∧
    (c.state = .frozen → c.offer frame hit e = (c, false)) ∧
    ((c.offer frame hit e).2 = true → c.state ≠ .frozen ∧ (c.offer frame hit e).1.state = .frozen) := by
  have hw := Capture.write_spec frame e c
  unfold Capture.offer
  grind

theorem State.noteFrozen_eq (b : Bool) (s : State) :
    s.noteFrozen b = s ∨ (b = true ∧ s.noteFrozen b = s.onJobs (fun j =>
      j.setOut (.flag .captureFrozen 0 j.dev j.lsi.confirmed :: j.out))) := by
  unfold State.noteFrozen
  cases b
  · exact .inl rfl
  · exact .inr ⟨rfl, rfl⟩

/-- An offer to the capture buffer changes only the buffer, and puts CAPTURE_FROZEN in front of what is to be
reported where the buffer freezes. -/
theorem Delivered.setCb (frame hit : Bool) (e : CaptureEntry) (s : State) :
    Delivered s ((s.setCb (s.cb.offer frame hit e).1).noteFrozen (s.cb.offer frame hit e).2) := by
  obtain ⟨hm, h1, h2, h3, h4, hf, -⟩ := Capture.offer_spec frame hit e s.cb
  have hc : Delivered s (s.setCb (s.cb.offer frame hit e).1) :=
    { Delivered.refl s with
      capture := fun hw => by
        rcases hm with hm | hm
        · show Store.wf _ (s.cb.offer frame hit e).1.mem = true
          rw [hm]; exact hw
        · show Store.wf _ (s.cb.offer frame hit e).1.mem = true
          rw [hm]; exact Store.wf_write hw _ _
      settings := ⟨h1, h2, h3, h4⟩
      frozen := fun h => by
        show (s.cb.offer frame hit e).1 = s.cb
        rw [hf h] }
  rcases State.noteFrozen_eq (s.cb.offer frame hit e).2 (s.setCb (s.cb.offer frame hit e).1) with h | ⟨-, h⟩
  · rw [h]; exact hc
  · rw [h]; exact hc.trans (Delivered.onJobs _ _ (Still.setOut _ _))

theorem Delivered.offerFrame (p : Port) (dir : Direction) (f : Frame) (d : Disposition) (n : Option Nat) (s : State) :
    Delivered s (s.offerFrame p dir f d n) := by
  unfold State.offerFrame
  split
  · exact Delivered.setCb _ _ _ s
  · exact Delivered.refl s

theorem Delivered.offerEvent (f : Flag) (n : Word) (dev : Device) (line : Line) (s : State) :
    Delivered s (s.offerEvent f n dev line) := Delivered.setCb _ _ _ s

/-! ### Originated frames, notices, reports -/

theorem Router.share_pushUp (f : Frame) (r : Router) : (r.pushUp f false).share = r.share := by
  simp [Router.share, Router.pushUp, List.filter_append]

theorem Delivered.setFr (r : Router) (s : State) (h1 : r.roof = s.fr.roof) (h2 : r.down = s.fr.down)
    (h3 : r.train = { s.fr.train with originated := r.train.originated }) (h4 : s.fr.up <+: r.up)
    (h5 : s.fr.up.length ≤ Config.trainRoom → r.up.length ≤ Config.trainRoom) (h6 : r.share = s.fr.share) :
    Delivered s (s.setFr r) :=
  { Delivered.refl s with frRoof := h1, down := h2, frTrain := h3, up := h4, room := h5, share := h6 }

/-- R151: an originated frame joins the train transmit queue where there is room, and is counted. -/
theorem Delivered.originate (f : Frame) (s : State) : Delivered s (s.originate f) := by
  unfold State.originate
  refine Delivered.trans (Delivered.trans ?_ (Delivered.offerFrame _ _ _ _ _ _))
    (Delivered.onJobs _ _ (Still.touchRouteOf _ _))
  split
  · rename_i h
    refine Delivered.setFr _ s rfl rfl rfl (List.prefix_append _ _) (fun _ => ?_) (Router.share_pushUp _ _)
    simp only [Router.takesOriginated, decide_eq_true_eq] at h
    simp only [Router.pushUp, Router.count, List.length_append, List.length_cons, List.length_nil]
    omega
  · exact Delivered.setFr _ s rfl rfl rfl List.prefix_rfl id rfl

theorem Delivered.stepSeq (s : State) : Delivered s s.stepSeq := { Delivered.refl s with }

/-- R188: a flag is set and every other flag stands. -/
theorem setFlag_spec (f : Flag) (w : Long) :
    flagSet f (setFlag f w) = true ∧ ∀ n, w.getLsbD n = true → (setFlag f w).getLsbD n = true := by
  constructor
  · cases f <;> simp [flagSet, setFlag, Flag.mask, Flag.code]
  · intro n h
    simp [setFlag, h]

theorem Delivered.setFlag (f : Flag) (s : State) :
    Delivered s (s.setNu { s.nu with flags := Machine.setFlag f s.nu.flags }) :=
  { Delivered.refl s with flags := (setFlag_spec f s.nu.flags).2 }

theorem Delivered.deliver (r : Report) (s : State) : Delivered s (s.deliver r) := by
  cases r with
  | flag f n dev line =>
    simp only [State.deliver]
    have h := ((Delivered.setFlag f s).trans (Delivered.offerEvent f n dev line _)).trans
      (Delivered.onJobs (fun j => j.touch f.maskAddr) _ (Still.touch _ _))
    split
    · exact (h.trans (Delivered.originate _ _)).trans (Delivered.stepSeq _)
    · exact h
  | status => exact (Delivered.originate _ s).trans (Delivered.stepSeq _)
  | frame f => exact Delivered.originate f s

theorem Delivered.drain (n : Nat) (s : State) : Delivered s (s.drain n) := by
  induction n generalizing s with
  | zero => exact Delivered.onJobs _ s (Still.setOut _ _)
  | succ n ih =>
    simp only [State.drain]
    split
    · exact Delivered.refl s
    · exact ((Delivered.onJobs _ s (Still.setOut _ _)).trans (Delivered.deliver _ _)).trans (ih _)

theorem State.drain_out (n : Nat) (s : State) : (s.drain n).jobs.out = [] := by
  induction n generalizing s with
  | zero => rfl
  | succ n ih =>
    simp only [State.drain]
    split
    · assumption
    · exact ih _

/-! ### A step's end -/

/-- What the end of a step does, said once: the roof jobs are those that have settled (but for table memory's
bookkeeping), nothing is left to answer or report, and the rest of the part is as after deliveries. -/
theorem State.finish_spec (s : State) :
    Delivered (s.onJobs Jobs.settle) s.finish ∧ s.finish.jobs.todo = [] ∧ s.finish.jobs.out = [] ∧
    s.finish.jobs = { s.jobs.settle with tm := s.finish.jobs.tm, todo := [], out := [] } := by
  have h := Delivered.drain 1024 (s.onJobs Jobs.settle)
  have ho := State.drain_out 1024 (s.onJobs Jobs.settle)
  refine ⟨h.trans (Delivered.onJobs (fun j => j.setTodo []) _ (Still.setTodo _ _)), rfl, ho, ?_⟩
  have e := h.jobs.rest
  show ((s.onJobs Jobs.settle).drain 1024).jobs.setTodo [] = _
  rw [e, ho]
  rfl

/-- The end of a step keeps the ports, the exchange, the downstream queue, the latch, the roof counters, the device
state, the time tag, the node records and every word of table memory. -/
theorem State.finish_keeps (s : State) :
    s.finish.train = s.train ∧ s.finish.roof = s.roof ∧ s.finish.rb = s.rb ∧ s.finish.latch = s.latch ∧
    s.finish.pending = s.pending ∧ s.finish.inReset = s.inReset ∧ s.finish.fr.roof = s.fr.roof ∧
    s.finish.fr.down = s.fr.down ∧ s.finish.fr.train = { s.fr.train with originated := s.finish.fr.train.originated } ∧
    s.fr.up <+: s.finish.fr.up ∧ s.finish.jobs.dev = s.jobs.dev ∧ s.finish.jobs.tag = s.jobs.tag ∧
    s.finish.jobs.tm.scrub = s.jobs.tm.scrub ∧ s.finish.jobs.nodes = s.jobs.nodes := by
  obtain ⟨h, -, -, e⟩ := State.finish_spec s
  have hs := Held.settle s.jobs
  refine ⟨h.train, h.roof, h.rb, h.latch, h.pending, h.inReset, h.frRoof, h.down, h.frTrain, h.up, ?_, ?_, ?_, ?_⟩
  · rw [e]; exact hs.dev
  · rw [e]; exact hs.tag
  · exact h.jobs.scrub.trans hs.scrub
  · rw [e]; exact hs.nodes

/-- After the end of a step table memory is canonical still, and every word reads as before. -/
theorem State.finish_mem (s : State) (hw : s.jobs.tableWf) :
    s.finish.jobs.tableWf ∧ ∀ b, (s.finish.jobs.cell b).data = (s.jobs.cell b).data ∧
      (s.finish.jobs.cell b).bad = (s.jobs.cell b).bad := by
  obtain ⟨h, -, -, -⟩ := State.finish_spec s
  have h1 := (Held.settle s.jobs).mem hw
  have h2 := h.jobs.mem h1.1
  exact ⟨h2.1, fun b => ⟨(h2.2 b).1.trans (h1.2 b).1, (h2.2 b).2.trans (h1.2 b).2⟩⟩

/-- With nothing to answer, the end of a step leaves the roof jobs as they are but for the outputs. -/
theorem State.finish_jobs_of_nothing (h : s.jobs.todo = []) :
    s.finish.jobs = { s.jobs with oc := s.finish.jobs.oc, tm := s.finish.jobs.tm, todo := [], out := [] } := by
  obtain ⟨-, -, -, e⟩ := State.finish_spec s
  rw [e, Jobs.settle_of_nothing h]
  unfold Jobs.ocSync Jobs.ocFollow
  dsimp only
  split <;> rfl

end Sys2Proof.Machine
end

