-- ==== Sys2Proof/Laws/Reacts.lean ====
section
/-! SUPPORT. What the answering of changes within a step (Settle.lean) leaves alone: the speed record, the measurement
unit, the arc inputs, the values last received, the point image table but for its marks, and the ice record but for its mode, its scraper, its
barred mark, its stored inputs and its phases. -/

namespace Sys2Proof.Machine

open Sys2Proof

/-- R105: the point image table is as it was, but that more of its points may be pending. -/
def Marked (t u : List PointEntry) : Prop :=
  u.length = t.length ∧ ∀ (i : Nat) (e : PointEntry), t[i]? = some e →
    ∃ e' : PointEntry, u[i]? = some e' ∧ (e.pending = true → e'.pending = true) ∧ e' = { e with pending := e'.pending }

theorem Marked.refl (t : List PointEntry) : Marked t t := ⟨rfl, fun _ e h => ⟨e, h, id, rfl⟩⟩

theorem Marked.trans {t u v : List PointEntry} (h : Marked t u) (h' : Marked u v) : Marked t v := by
  refine ⟨h'.1.trans h.1, fun i e he => ?_⟩
  obtain ⟨e', h1, p1, q1⟩ := h.2 i e he
  obtain ⟨e'', h2, p2, q2⟩ := h'.2 i e' h1
  exact ⟨e'', h2, p2 ∘ p1, by rw [q2, q1]⟩

theorem Marked.mark (g : PointEntry → Bool) (t : List PointEntry) :
    Marked t (t.map (fun e => { e with pending := e.pending || g e })) :=
  ⟨List.length_map .., fun i e h => ⟨{ e with pending := e.pending || g e }, by simp [h], fun hp => by simp [hp], rfl⟩⟩

structure Reacts (j k : Jobs) : Prop where
  speed : k.speed = j.speed
  lmu : k.lmu = j.lmu
  arc : k.arc = j.arc
  brkRaw : k.fb.brkRaw = j.fb.brkRaw
  selRaw : k.fb.selRaw = j.fb.selRaw
  earthRaw : k.oc.earthRaw = j.oc.earthRaw
  table : Marked j.oc.table k.oc.table
  seq : k.oc.seq = j.oc.seq
  level : k.ice.level = j.ice.level
  decay : k.ice.decay = j.ice.decay
  zone : k.ice.zone = j.ice.zone
  policy : k.ice.policy = j.ice.policy
  tally : k.ice.tally = j.ice.tally
  last : k.ice.last = j.ice.last

variable {j k l : Jobs}

theorem Reacts.refl (j : Jobs) : Reacts j j := ⟨rfl, rfl, rfl, rfl, rfl, rfl, .refl _, rfl, rfl, rfl, rfl, rfl, rfl, rfl⟩

theorem Reacts.trans (h : Reacts j k) (h' : Reacts k l) : Reacts j l :=
  ⟨h'.speed.trans h.speed, h'.lmu.trans h.lmu, h'.arc.trans h.arc, h'.brkRaw.trans h.brkRaw, h'.selRaw.trans h.selRaw,
   h'.earthRaw.trans h.earthRaw, h.table.trans h'.table, h'.seq.trans h.seq, h'.level.trans h.level,
   h'.decay.trans h.decay, h'.zone.trans h.zone, h'.policy.trans h.policy, h'.tally.trans h.tally, h'.last.trans h.last⟩

theorem Reacts.setTmr (v : Timers) (j : Jobs) : Reacts j (j.setTmr v) := ⟨rfl, rfl, rfl, rfl, rfl, rfl, .refl _, rfl, rfl, rfl, rfl, rfl, rfl, rfl⟩
theorem Reacts.setLsi (v : Lsi) (j : Jobs) : Reacts j (j.setLsi v) := ⟨rfl, rfl, rfl, rfl, rfl, rfl, .refl _, rfl, rfl, rfl, rfl, rfl, rfl, rfl⟩
theorem Reacts.setP1 (v : PantoRec) (j : Jobs) : Reacts j (j.setP1 v) := ⟨rfl, rfl, rfl, rfl, rfl, rfl, .refl _, rfl, rfl, rfl, rfl, rfl, rfl, rfl⟩
theorem Reacts.setP2 (v : PantoRec) (j : Jobs) : Reacts j (j.setP2 v) := ⟨rfl, rfl, rfl, rfl, rfl, rfl, .refl _, rfl, rfl, rfl, rfl, rfl, rfl, rfl⟩
theorem Reacts.setTodo (v : List Change) (j : Jobs) : Reacts j (j.setTodo v) := ⟨rfl, rfl, rfl, rfl, rfl, rfl, .refl _, rfl, rfl, rfl, rfl, rfl, rfl, rfl⟩
theorem Reacts.setOut (v : List Report) (j : Jobs) : Reacts j (j.setOut v) := ⟨rfl, rfl, rfl, rfl, rfl, rfl, .refl _, rfl, rfl, rfl, rfl, rfl, rfl, rfl⟩
theorem Reacts.setCs (v : Cs) (j : Jobs) : Reacts j (j.setCs v) := ⟨rfl, rfl, rfl, rfl, rfl, rfl, .refl _, rfl, rfl, rfl, rfl, rfl, rfl, rfl⟩

theorem Reacts.setFb (v : Feedback) (j : Jobs) (h1 : v.brkRaw = j.fb.brkRaw) (h2 : v.selRaw = j.fb.selRaw) :
    Reacts j (j.setFb v) := ⟨rfl, rfl, rfl, h1, h2, rfl, .refl _, rfl, rfl, rfl, rfl, rfl, rfl, rfl⟩

theorem Reacts.setOc (v : Outputs) (j : Jobs) (h1 : v.earthRaw = j.oc.earthRaw) (h2 : Marked j.oc.table v.table)
    (h3 : v.seq = j.oc.seq) : Reacts j (j.setOc v) := ⟨rfl, rfl, rfl, rfl, rfl, h1, h2, h3, rfl, rfl, rfl, rfl, rfl, rfl⟩

theorem Reacts.setIce (v : Ice) (j : Jobs) (h1 : v.level = j.ice.level) (h2 : v.decay = j.ice.decay)
    (h3 : v.zone = j.ice.zone) (h4 : v.policy = j.ice.policy) (h5 : v.tally = j.ice.tally) (h6 : v.last = j.ice.last) :
    Reacts j (j.setIce v) := ⟨rfl, rfl, rfl, rfl, rfl, rfl, .refl _, rfl, h1, h2, h3, h4, h5, h6⟩

theorem Reacts.push (c : Change) (j : Jobs) : Reacts j (j.push c) := Reacts.setTodo _ j
theorem Reacts.report (r : Report) (j : Jobs) : Reacts j (j.report r) := Reacts.setOut _ j
theorem Reacts.flag (f : Flag) (n : Nat) (j : Jobs) : Reacts j (j.flag f n) := Reacts.report _ j

theorem Reacts.touch (a : Nat) (j : Jobs) : Reacts j (j.touch a) := by
  constructor <;> simp [Marked.refl]

theorem Reacts.touchAll (as : List Nat) (j : Jobs) : Reacts j (j.touchAll as) := by
  constructor <;> simp [Marked.refl]

theorem Reacts.onTimer (i : TimerId) (f : Timer → Timer) (j : Jobs) : Reacts j (j.onTimer i f) := Reacts.setTmr _ j
theorem Reacts.load (i : TimerId) (n : Nat) (m : TimerMode) (j : Jobs) : Reacts j (j.load i n m) := Reacts.setTmr _ j
theorem Reacts.stop (i : TimerId) (j : Jobs) : Reacts j (j.stop i) := Reacts.setTmr _ j

theorem Reacts.setPanto (x : Panto) (r : PantoRec) (j : Jobs) : Reacts j (j.setPanto x r) := by
  cases x
  · exact Reacts.setP1 r j
  · exact Reacts.setP2 r j

theorem Reacts.foldl {α : Type} (g : Jobs → α → Jobs) (hg : ∀ j a, Reacts j (g j a)) (as : List α) (j : Jobs) :
    Reacts j (as.foldl g j) := by
  induction as generalizing j with
  | nil => exact Reacts.refl j
  | cons a as ih => exact (hg j a).trans (ih (g j a))

theorem Reacts.touchMap (r : MapRole) (j : Jobs) : Reacts j (j.touchMap r) := Reacts.touchAll _ j
theorem Reacts.touchMaps (rs : List MapRole) (j : Jobs) : Reacts j (j.touchMaps rs) :=
  Reacts.foldl (fun j r => j.touchMap r) (fun j r => Reacts.touchMap r j) rs j
theorem Reacts.touchLine (i : Fin 8) (j : Jobs) : Reacts j (j.touchLine i) := Reacts.touchAll _ j
theorem Reacts.touchResolve (c : BitVec 4) (j : Jobs) : Reacts j (j.touchResolve c) :=
  Reacts.foldl (fun j i => j.touchLine i) (fun j i => Reacts.touchLine i j) _ j
theorem Reacts.touchIce (is : List Nat) (j : Jobs) : Reacts j (j.touchIce is) := Reacts.touchAll _ j

theorem Reacts.setPhase (x : Panto) (p : HeatPhase) (j : Jobs) : Reacts j (j.setIce (j.ice.setPhase x p)) := by
  cases x <;> exact Reacts.setIce _ j rfl rfl rfl rfl rfl rfl

theorem Reacts.setConfirmed (v : Line) (j : Jobs) : Reacts j (j.setConfirmed v) := by
  unfold Jobs.setConfirmed
  grind (ematch := 20) [Reacts.trans, Reacts.refl, Reacts.setLsi, Reacts.push]

theorem Reacts.confirm (v : Line) (j : Jobs) : Reacts j (j.confirm v) := by
  unfold Jobs.confirm
  grind (ematch := 20) [Reacts.trans, Reacts.refl, Reacts.setConfirmed, Reacts.flag]

theorem Reacts.lsiAfresh (j : Jobs) : Reacts j (j.lsiAfresh) := by
  unfold Jobs.lsiAfresh
  grind (ematch := 20) [Reacts.trans, Reacts.refl, Reacts.setLsi, Reacts.push]

theorem Reacts.lostEntries (j : Jobs) : Reacts j (j.lostEntries) := by
  unfold Jobs.lostEntries
  grind (ematch := 20) [Reacts.trans, Reacts.refl, Reacts.setLsi, Reacts.confirm]

theorem Reacts.lsiRestart (j : Jobs) : Reacts j (j.lsiRestart) := (Reacts.lostEntries j).trans (Reacts.lsiAfresh _)

theorem Reacts.moveP (x : Panto) (r : PantoRec) (j : Jobs) : Reacts j (j.moveP x r) := by
  unfold Jobs.moveP
  grind (ematch := 20) [Reacts.trans, Reacts.refl, Reacts.setPanto, Reacts.push]

theorem Reacts.releaseHold (j : Jobs) : Reacts j (j.releaseHold) := by
  unfold Jobs.releaseHold
  grind (ematch := 20) [Reacts.trans, Reacts.refl, Marked.refl, Reacts.setOc, Reacts.setTmr, Reacts.push]

theorem Reacts.touchRaise (x : Panto) (j : Jobs) : Reacts j (j.touchRaise x) := by
  unfold Jobs.touchRaise
  grind (ematch := 20) [Reacts.trans, Reacts.refl, Reacts.touchMaps, Reacts.touch]

theorem Reacts.prepare (x : Panto) (r : Role) (j : Jobs) : Reacts j (j.prepare x r) := by
  unfold Jobs.prepare
  grind (ematch := 20) [Reacts.trans, Reacts.refl, Reacts.touch, Reacts.moveP, Reacts.load]

theorem Reacts.raise (x : Panto) (r : Role) (b : Asker) (j : Jobs) : Reacts j (j.raise x r b).2 := by
  unfold Jobs.raise
  grind [Reacts.trans, Reacts.touchRaise, Reacts.prepare]

theorem Reacts.lower (x : Panto) (j : Jobs) : Reacts j (j.lower x) := by
  unfold Jobs.lower
  grind (ematch := 20) [Reacts.trans, Reacts.refl, Reacts.touch, Reacts.moveP, Reacts.load, Reacts.stop]

theorem Reacts.lowerBlind (x : Panto) (j : Jobs) : Reacts j (j.lowerBlind x) := by
  unfold Jobs.lowerBlind
  grind (ematch := 20) [Reacts.trans, Reacts.refl, Reacts.lower, Reacts.setPanto]

theorem Reacts.dropStale (j : Jobs) : Reacts j j.dropStale :=
  (Reacts.setCs _ j).trans
    (Reacts.foldl (fun j (g : Feature) => j.flag .featureDiscarded g.subject) (fun j _ => Reacts.flag _ _ j) _ _)

theorem Reacts.setOpen (j : Jobs) : Reacts j (j.setOpen) := by
  unfold Jobs.setOpen
  grind (ematch := 20) [Reacts.trans, Reacts.refl, Reacts.stop, Reacts.setCs]

theorem Reacts.touchConfirmed (j : Jobs) : Reacts j (j.touchConfirmed) := by
  unfold Jobs.touchConfirmed
  grind (ematch := 20) [Reacts.trans, Reacts.refl, Reacts.touchLine]

theorem Reacts.touchTarget (j : Jobs) : Reacts j (j.touchTarget) := by
  unfold Jobs.touchTarget
  grind (ematch := 20) [Reacts.trans, Reacts.refl, Reacts.touchResolve]

theorem Reacts.touchClosing (j : Jobs) : Reacts j (j.touchClosing) := by
  unfold Jobs.touchClosing
  grind (ematch := 20) [Reacts.trans, Reacts.refl, Reacts.touchConfirmed, Reacts.touchTarget]

theorem Reacts.csTo (s : CsState) (j : Jobs) : Reacts j (j.csTo s) := by
  unfold Jobs.csTo
  grind (ematch := 20) [Reacts.trans, Reacts.refl, Reacts.setCs, Reacts.push]

theorem Reacts.enterHold (r : HoldReason) (step : CsState) (j : Jobs) : Reacts j (j.enterHold r step) := by
  unfold Jobs.enterHold
  grind (ematch := 20) [Reacts.trans, Reacts.refl, Reacts.setOpen, Reacts.stop, Reacts.setCs, Reacts.flag, Reacts.csTo]

theorem Reacts.failStep (r : HoldReason) (j : Jobs) : Reacts j (j.failStep r) := by
  unfold Jobs.failStep
  grind (ematch := 20) [Reacts.trans, Reacts.refl, Reacts.enterHold]

theorem Reacts.loadStep (i : Nat) (j : Jobs) : Reacts j (j.loadStep i) := by
  unfold Jobs.loadStep
  grind (ematch := 20) [Reacts.trans, Reacts.refl, Reacts.touch, Reacts.load]

theorem Reacts.enterIdle (j : Jobs) : Reacts j (j.enterIdle) := by
  unfold Jobs.enterIdle
  grind (ematch := 20) [Reacts.trans, Reacts.refl, Reacts.stop, Reacts.csTo]

theorem Reacts.enterArmed (j : Jobs) : Reacts j (j.enterArmed) := by
  unfold Jobs.enterArmed
  grind (ematch := 20) [Reacts.trans, Reacts.refl, Reacts.dropStale, Reacts.csTo]

theorem Reacts.enterOpening (j : Jobs) : Reacts j (j.enterOpening) := by
  unfold Jobs.enterOpening
  grind (ematch := 20) [Reacts.trans, Reacts.refl, Reacts.setOpen, Reacts.loadStep, Reacts.csTo]

theorem Reacts.enterCoasting (j : Jobs) : Reacts j (j.enterCoasting) := by
  unfold Jobs.enterCoasting
  grind (ematch := 20) [Reacts.trans, Reacts.refl, Reacts.stop, Reacts.setCs, Reacts.loadStep, Reacts.load, Reacts.csTo]

theorem Reacts.enterLowering (j : Jobs) : Reacts j (j.enterLowering) := by
  unfold Jobs.enterLowering
  grind (ematch := 20) [Reacts.trans, Reacts.refl, Reacts.lower, Reacts.touchAll, Reacts.load, Reacts.csTo]

theorem Reacts.enterSelecting (j : Jobs) : Reacts j (j.enterSelecting) := by
  unfold Jobs.enterSelecting
  grind (ematch := 20) [Reacts.trans, Reacts.refl, Reacts.enterHold, Reacts.touchTarget, Reacts.setCs, Reacts.loadStep, Reacts.csTo]

theorem Reacts.noteMade (x : Panto) (was : PState) (j : Jobs) : Reacts j (j.noteMade x was) := by
  unfold Jobs.noteMade
  split
  · exact Reacts.refl j
  · exact Reacts.setIce _ j rfl rfl rfl rfl rfl rfl

theorem Reacts.enterRaising (j : Jobs) : Reacts j j.enterRaising := by
  have hr : ∀ (x : Panto) (r : Role) (b : Asker) (k : Jobs), Reacts k (k.raise x r b).2 := Reacts.raise
  unfold Jobs.enterRaising
  grind [Reacts.trans, Reacts.noteMade, Reacts.refl, Reacts.touchTarget, Reacts.touch, Reacts.stop, Reacts.enterHold, Reacts.setCs, Reacts.csTo]

theorem Reacts.enterIdentifying (j : Jobs) : Reacts j (j.enterIdentifying) := by
  unfold Jobs.enterIdentifying
  grind (ematch := 20) [Reacts.trans, Reacts.refl, Reacts.loadStep, Reacts.csTo]

theorem Reacts.enterClosing (j : Jobs) : Reacts j (j.enterClosing) := by
  unfold Jobs.enterClosing
  grind (ematch := 20) [Reacts.trans, Reacts.refl, Reacts.touchClosing, Reacts.enterHold, Reacts.setCs, Reacts.touch, Reacts.load, Reacts.loadStep, Reacts.csTo]

theorem Reacts.takeHead (f : Feature) (rest : List Feature) (j : Jobs) : Reacts j (j.takeHead f rest) := by
  unfold Jobs.takeHead
  grind (ematch := 20) [Reacts.trans, Reacts.refl, Reacts.setCs, Reacts.enterOpening, Reacts.enterHold]

theorem Reacts.dueCheck (j : Jobs) : Reacts j (j.dueCheck) := by
  unfold Jobs.dueCheck
  grind (ematch := 20) [Reacts.trans, Reacts.refl, Reacts.takeHead]

theorem Reacts.coastToRoof (j : Jobs) : Reacts j (j.coastToRoof) := by
  unfold Jobs.coastToRoof
  grind (ematch := 20) [Reacts.trans, Reacts.refl, Reacts.touchTarget, Reacts.failStep, Reacts.stop, Reacts.enterLowering, Reacts.lsiRestart, Reacts.enterIdentifying]

theorem Reacts.coastOver (j : Jobs) : Reacts j (j.coastOver) := by
  unfold Jobs.coastOver
  grind (ematch := 20) [Reacts.trans, Reacts.refl, Reacts.coastToRoof, Reacts.stop, Reacts.enterClosing, Reacts.failStep]

theorem Reacts.coastingTest (j : Jobs) : Reacts j (j.coastingTest) := by
  unfold Jobs.coastingTest
  grind (ematch := 20) [Reacts.trans, Reacts.refl, Reacts.setCs, Reacts.coastOver]

theorem Reacts.loweringTest (j : Jobs) : Reacts j (j.loweringTest) := by
  unfold Jobs.loweringTest
  grind (ematch := 20) [Reacts.trans, Reacts.refl, Reacts.touchTarget, Reacts.stop, Reacts.failStep, Reacts.enterRaising, Reacts.enterSelecting]

theorem Reacts.selectingTest (j : Jobs) : Reacts j (j.selectingTest) := by
  unfold Jobs.selectingTest
  grind (ematch := 20) [Reacts.trans, Reacts.refl, Reacts.failStep, Reacts.setCs, Reacts.stop, Reacts.enterRaising]

theorem Reacts.raisingTest (j : Jobs) : Reacts j (j.raisingTest) := by
  unfold Jobs.raisingTest
  grind (ematch := 20) [Reacts.trans, Reacts.refl, Reacts.lsiRestart, Reacts.enterIdentifying]

theorem Reacts.adoptTarget (i : Fin 8) (j : Jobs) : Reacts j (j.adoptTarget i) := Reacts.setCs _ j

theorem Reacts.identifyingTest (j : Jobs) : Reacts j (j.identifyingTest) := by
  unfold Jobs.identifyingTest
  grind (ematch := 20) [Reacts.trans, Reacts.refl, Reacts.touchLine, Reacts.adoptTarget, Reacts.enterLowering, Reacts.enterClosing, Reacts.failStep, Reacts.touchResolve]

theorem Reacts.closingDone (j : Jobs) : Reacts j (j.closingDone) := by
  unfold Jobs.closingDone
  grind (ematch := 20) [Reacts.trans, Reacts.refl, Reacts.stop, Reacts.setCs, Reacts.flag, Reacts.enterIdle]

theorem Reacts.closingTest (j : Jobs) : Reacts j (j.closingTest) := by
  unfold Jobs.closingTest
  grind (ematch := 20) [Reacts.trans, Reacts.refl, Reacts.touchClosing, Reacts.setOpen, Reacts.enterRaising, Reacts.failStep, Reacts.closingDone]

theorem Reacts.csTest (due : Bool) (j : Jobs) : Reacts j (j.csTest due) := by
  unfold Jobs.csTest
  grind (ematch := 20) [Reacts.trans, Reacts.refl, Reacts.enterArmed, Reacts.enterIdle, Reacts.dueCheck, Reacts.enterCoasting, Reacts.coastingTest, Reacts.loweringTest, Reacts.selectingTest, Reacts.raisingTest, Reacts.identifyingTest, Reacts.closingTest]

theorem Reacts.csConfirmed (j : Jobs) : Reacts j (j.csConfirmed) := by
  unfold Jobs.csConfirmed
  grind (ematch := 20) [Reacts.trans, Reacts.refl, Reacts.csTest, Reacts.flag, Reacts.setOpen, Reacts.setCs, Reacts.enterHold, Reacts.touch, Reacts.enterCoasting]

theorem Reacts.csBreaker (old : BreakerFb) (new : BreakerFb) (j : Jobs) : Reacts j (j.csBreaker old new) := by
  unfold Jobs.csBreaker
  grind (ematch := 20) [Reacts.trans, Reacts.refl, Reacts.flag, Reacts.setOpen, Reacts.setCs, Reacts.enterIdle, Reacts.csTest]

theorem Reacts.csCollectorGone (j : Jobs) : Reacts j (j.csCollectorGone) := by
  unfold Jobs.csCollectorGone
  grind (ematch := 20) [Reacts.trans, Reacts.refl, Reacts.setOpen, Reacts.setCs, Reacts.failStep]

theorem Reacts.csPanto (x : Panto) (old : PState) (new : PState) (role : Role) (j : Jobs) : Reacts j (j.csPanto x old new role) := by
  unfold Jobs.csPanto
  grind (ematch := 20) [Reacts.trans, Reacts.refl, Reacts.csCollectorGone, Reacts.enterRaising, Reacts.failStep, Reacts.csTest]

theorem Reacts.csLowerAll (j : Jobs) : Reacts j (j.csLowerAll) := by
  unfold Jobs.csLowerAll
  grind (ematch := 20) [Reacts.trans, Reacts.refl, Reacts.setOpen, Reacts.failStep]

theorem Reacts.csReact (c : Change) (j : Jobs) : Reacts j (j.csReact c) := by
  unfold Jobs.csReact
  grind (ematch := 20) [Reacts.trans, Reacts.refl, Reacts.csTest, Reacts.csConfirmed, Reacts.csBreaker, Reacts.csPanto, Reacts.csLowerAll]

theorem Reacts.iceInputs (j : Jobs) : Reacts j j.iceInputs := Reacts.setIce _ j rfl rfl rfl rfl rfl rfl

theorem Reacts.touchPermits (j : Jobs) : Reacts j (j.touchPermits) := by
  unfold Jobs.touchPermits
  grind (ematch := 20) [Reacts.trans, Reacts.refl, Reacts.touchIce, Reacts.touchConfirmed, Reacts.touchMap]

theorem Reacts.loadPhase (x : Panto) (p : HeatPhase) (seconds : Nat) (j : Jobs) : Reacts j (j.loadPhase x p seconds) := by
  unfold Jobs.loadPhase
  grind (ematch := 20) [Reacts.trans, Reacts.refl, Reacts.setPhase, Reacts.load, Reacts.stop]

theorem Reacts.restPhase (x : Panto) (j : Jobs) : Reacts j (j.restPhase x) := by
  unfold Jobs.restPhase
  grind (ematch := 20) [Reacts.trans, Reacts.refl, Reacts.setPhase, Reacts.onTimer]

theorem Reacts.nextPhase (x : Panto) (onFirst : Bool) (j : Jobs) : Reacts j (j.nextPhase x onFirst) := by
  unfold Jobs.nextPhase
  grind (ematch := 20) [Reacts.trans, Reacts.refl, Reacts.touchIce, Reacts.loadPhase, Reacts.restPhase]

theorem Reacts.startCycle (x : Panto) (j : Jobs) : Reacts j (j.startCycle x) := by
  unfold Jobs.startCycle
  grind (ematch := 20) [Reacts.trans, Reacts.refl, Reacts.nextPhase]

theorem Reacts.endCycle (x : Panto) (j : Jobs) : Reacts j (j.endCycle x) := by
  unfold Jobs.endCycle
  grind (ematch := 20) [Reacts.trans, Reacts.refl, Reacts.setPhase, Reacts.onTimer]

theorem Reacts.supplyCycle (x : Panto) (j : Jobs) : Reacts j (j.supplyCycle x) := by
  unfold Jobs.supplyCycle
  grind (ematch := 20) [Reacts.trans, Reacts.refl, Reacts.onTimer, Reacts.stop]

theorem Reacts.followCycle (x : Panto) (j : Jobs) : Reacts j (j.followCycle x) := by
  unfold Jobs.followCycle
  grind (ematch := 20) [Reacts.trans, Reacts.refl, Reacts.startCycle, Reacts.supplyCycle, Reacts.endCycle]

theorem Reacts.dropScraper (j : Jobs) : Reacts j (j.dropScraper) := by
  unfold Jobs.dropScraper
  grind (ematch := 20) [Reacts.trans, Reacts.refl, Reacts.lower, Reacts.setIce]

theorem Reacts.setMode (m : IceMode) (j : Jobs) : Reacts j (j.setMode m) := by
  unfold Jobs.setMode
  grind (ematch := 20) [Reacts.trans, Reacts.refl, Reacts.setIce, Reacts.followCycle, Reacts.flag, Reacts.push]

theorem Reacts.leaveTo (m : IceMode) (j : Jobs) : Reacts j (j.leaveTo m) := by
  unfold Jobs.leaveTo
  grind (ematch := 20) [Reacts.trans, Reacts.refl, Reacts.dropScraper, Reacts.setMode]

theorem Reacts.scraperRefused (m : IceMode) (j : Jobs) : Reacts j (j.scraperRefused m) := by
  unfold Jobs.scraperRefused
  grind (ematch := 20) [Reacts.trans, Reacts.refl, Reacts.setIce, Reacts.leaveTo]

theorem Reacts.enterScrape (j : Jobs) : Reacts j j.enterScrape := by
  have hr : ∀ (x : Panto) (r : Role) (b : Asker) (k : Jobs), Reacts k (k.raise x r b).2 := Reacts.raise
  unfold Jobs.enterScrape
  grind [Reacts.trans, Reacts.refl, Reacts.leaveTo, Reacts.setIce, Reacts.setMode, Reacts.scraperRefused]

theorem Reacts.choose (j : Jobs) : Reacts j (j.choose) := by
  unfold Jobs.choose
  grind (ematch := 20) [Reacts.trans, Reacts.refl, Reacts.touchPermits, Reacts.enterScrape, Reacts.leaveTo]

theorem Reacts.chooseUnlessSuspended (j : Jobs) : Reacts j (j.chooseUnlessSuspended) := by
  unfold Jobs.chooseUnlessSuspended
  grind (ematch := 20) [Reacts.trans, Reacts.refl, Reacts.choose]

theorem Reacts.watch (j : Jobs) : Reacts j (j.watch) := by
  unfold Jobs.watch
  grind (ematch := 20) [Reacts.trans, Reacts.refl, Reacts.touchPermits, Reacts.scraperRefused, Reacts.leaveTo]

theorem Reacts.suspendIfMust (j : Jobs) : Reacts j j.suspendIfMust := by
  unfold Jobs.suspendIfMust
  grind [Reacts.refl, Reacts.leaveTo]

theorem Reacts.endSuspension (j : Jobs) : Reacts j j.endSuspension := by
  unfold Jobs.endSuspension
  refine Reacts.trans ?_ (Reacts.choose _)
  exact Reacts.setIce _ j rfl rfl rfl rfl rfl rfl

theorem Reacts.suspension (j : Jobs) : Reacts j (j.suspension) := by
  unfold Jobs.suspension
  grind (ematch := 20) [Reacts.trans, Reacts.refl, Reacts.suspendIfMust, Reacts.endSuspension]

theorem Reacts.syncFeedback (j : Jobs) : Reacts j (j.syncFeedback) := by
  unfold Jobs.syncFeedback
  grind (ematch := 20) [Reacts.trans, Reacts.refl, Reacts.setFb, Reacts.push]

theorem Reacts.ocFollow (e : EarthFb) (j : Jobs) : Reacts j (j.ocFollow e) := by
  unfold Jobs.ocFollow
  dsimp only
  split
  · refine Reacts.trans ?_ (Reacts.flag _ _ _)
    exact Reacts.setOc _ j rfl (Marked.mark _ _) rfl
  · exact Reacts.setOc _ j rfl (Marked.mark _ _) rfl

theorem Reacts.ocReact (j : Jobs) : Reacts j j.ocReact := Reacts.ocFollow _ j
theorem Reacts.ocSync (j : Jobs) : Reacts j j.ocSync := Reacts.ocFollow _ j

theorem Reacts.react (c : Change) (j : Jobs) : Reacts j (j.react c) := by
  unfold Jobs.react
  grind (ematch := 20) [Reacts.trans, Reacts.refl, Reacts.lostEntries, Reacts.csReact, Reacts.ocReact, Reacts.suspendIfMust, Reacts.suspension, Reacts.chooseUnlessSuspended]

theorem Reacts.levels (j : Jobs) : Reacts j j.levels :=
  (((((((((((((Reacts.lostEntries j).trans (Reacts.syncFeedback _)).trans (Reacts.ocReact _)).trans (Reacts.ocSync _)).trans
    (Reacts.lowerBlind _ _)).trans (Reacts.lowerBlind _ _)).trans (Reacts.iceInputs _)).trans (Reacts.ocReact _)).trans (Reacts.suspension _)).trans
    (Reacts.ocReact _)).trans (Reacts.watch _)).trans (Reacts.ocReact _)).trans (Reacts.followCycle _ _)).trans (Reacts.followCycle _ _)

theorem Reacts.answer (c : Change) (j : Jobs) : Reacts j (j.answer c) := by
  unfold Jobs.answer
  grind (ematch := 20) [Reacts.trans, Reacts.refl, Reacts.ocReact, Reacts.react, Reacts.levels]

theorem Reacts.pump (n : Nat) (j : Jobs) : Reacts j (j.pump n) := by
  induction n generalizing j with
  | zero => exact Reacts.setTodo _ j
  | succ n ih =>
    simp only [Jobs.pump]
    split
    · exact Reacts.refl j
    · exact ((Reacts.setTodo _ j).trans (Reacts.answer _ _)).trans (ih _)

/-- In CONFIG nothing answers: the roof jobs are inactive (R191). -/
theorem Jobs.pump_config (n : Nat) (j : Jobs) (h : j.dev = .config) : j.pump n = j.setTodo [] := by
  induction n generalizing j with
  | zero => rfl
  | succ n ih =>
    simp only [Jobs.pump]
    split
    · rename_i e
      rw [← e]; rfl
    · rename_i c rest e
      have ha : (j.setTodo rest).answer c = j.setTodo rest := by
        unfold Jobs.answer
        rw [if_neg (by show ¬ j.dev = .run; rw [h]; decide)]
      rw [ha, ih (j.setTodo rest) h]
      rfl

/-- What the outputs' own following of the other blocks changes. -/
theorem Jobs.ocFollow_spec (earth : EarthFb) (j : Jobs) (k : Jobs) (hk : k = j.ocFollow earth) :
    k = { j with oc := k.oc, out := k.out } ∧ k.oc.image = j.wanted ∧ k.oc.sending = j.oc.sendingOf j.wanted ∧
    k.oc.safe = j.safeNow ∧ k.oc.earth = earth ∧ k.oc.lowerAll = j.oc.lowerAll ∧ k.oc.hold = j.oc.hold ∧
    k.oc.frozen = j.oc.stillFrozen ∧ k.oc.earthRaw = j.oc.earthRaw ∧ k.oc.seq = j.oc.seq ∧
    Marked j.oc.table k.oc.table := by
  subst hk
  unfold Jobs.ocFollow
  dsimp only
  split <;> exact ⟨rfl, rfl, rfl, rfl, rfl, rfl, rfl, rfl, rfl, rfl, Marked.mark _ _⟩

/-- What the OC's following makes of the point image table. -/
theorem Jobs.ocFollow_table (earth : EarthFb) (j : Jobs) :
    (j.ocFollow earth).oc.table = j.oc.table.map (fun e => { e with pending := e.pending || (j.dev == .run &&
      (j.differs (j.oc.sendingOf j.wanted) e || (e.earth.isSome && j.safeNow != j.oc.safe))) }) := by
  unfold Jobs.ocFollow
  dsimp only
  split <;> rfl

/-- R105: where the sending value of an owned role changes in RUN, no hold having been released, the role's point is
pending. -/
theorem Jobs.ocFollow_marks (earth : EarthFb) (j : Jobs) (hr : j.dev = .run) (hn : j.oc.released = none) (i : Nat)
    (e : PointEntry) (he : j.oc.table[i]? = some e) (r : OwnedRole) (b : BitRef) (hb : (r, b) ∈ e.owned)
    (hs : j.mapStands r.mapRole = true) (hd : j.oc.sending.get r ≠ (j.ocFollow earth).oc.sending.get r) :
    ∃ e' : PointEntry, (j.ocFollow earth).oc.table[i]? = some e' ∧ e'.pending = true := by
  obtain ⟨-, -, hq, -⟩ := Jobs.ocFollow_spec earth j _ rfl
  rw [hq] at hd
  have h1 : j.differs (j.oc.sendingOf j.wanted) e = true := by
    unfold Jobs.differs
    rw [hn]
    exact List.any_eq_true.mpr ⟨(r, b), hb, by simpa [hs] using hd⟩
  rw [Jobs.ocFollow_table, List.getElem?_map, he]
  exact ⟨_, rfl, by simp [hr, h1]⟩

/-- R105, R94: a sending value that the IC's suspension has changed marks its point, whatever the CS and the IC then make of
it in the same answer. -/
theorem Jobs.react_marks (c : Change) (j f : Jobs) (hf : f = (j.lostEntries).suspendIfMust) (hr : f.dev = .run)
    (hn : f.oc.released = none) (i : Nat) (e : PointEntry) (he : f.oc.table[i]? = some e) (r : OwnedRole) (b : BitRef)
    (hb : (r, b) ∈ e.owned) (hs : f.mapStands r.mapRole = true) (hd : f.oc.sending.get r ≠ f.ocReact.oc.sending.get r) :
    ∃ e' : PointEntry, (j.react c).oc.table[i]? = some e' ∧ e'.pending = true := by
  obtain ⟨e', h1, h2⟩ := Jobs.ocFollow_marks _ f hr hn i e he r b hb hs hd
  have ht : Reacts f.ocReact (j.react c) := by
    subst hf
    unfold Jobs.react
    grind (ematch := 20) [Reacts.trans, Reacts.refl, Reacts.csReact, Reacts.ocReact, Reacts.suspension, Reacts.chooseUnlessSuspended]
  obtain ⟨e'', h3, h4, -⟩ := ht.table.2 i e' h1
  exact ⟨e'', h3, h4 h2⟩

/-- R105, R113: where SAFE changes in RUN, the point that holds the EARTH bit is pending. -/
theorem Jobs.ocFollow_safe (earth : EarthFb) (j : Jobs) (hr : j.dev = .run) (hs : j.oc.safe ≠ j.safeNow) (e : PointEntry)
    (he : e ∈ (j.ocFollow earth).oc.table) (h : e.earth ≠ none) : e.pending = true := by
  rw [Jobs.ocFollow_table, List.mem_map] at he
  obtain ⟨a, -, rfl⟩ := he
  have h1 : a.earth.isSome = true := Option.isSome_iff_ne_none.mpr h
  have h2 : (j.safeNow != j.oc.safe) = true := by simpa using Ne.symm hs
  simp [hr, h1, h2]

/-- What a step's end leaves alone in the roof jobs. -/
theorem State.finish_reacts (s : State) :
    s.finish.jobs.speed = s.jobs.speed ∧ s.finish.jobs.lmu = s.jobs.lmu ∧ s.finish.jobs.arc = s.jobs.arc ∧
    s.finish.jobs.fb.brkRaw = s.jobs.fb.brkRaw ∧ s.finish.jobs.fb.selRaw = s.jobs.fb.selRaw ∧
    s.finish.jobs.oc.earthRaw = s.jobs.oc.earthRaw ∧ s.finish.jobs.ice.level = s.jobs.ice.level ∧
    s.finish.jobs.ice.decay = s.jobs.ice.decay ∧ s.finish.jobs.ice.zone = s.jobs.ice.zone ∧
    s.finish.jobs.ice.policy = s.jobs.ice.policy ∧ s.finish.jobs.ice.tally = s.jobs.ice.tally ∧
    s.finish.jobs.ice.last = s.jobs.ice.last := by
  obtain ⟨-, -, -, e⟩ := State.finish_spec s
  have hp := Reacts.pump 64 s.jobs
  obtain ⟨ho, -, -, -, -, -, -, -, hr, -, -⟩ := Jobs.ocFollow_spec (s.jobs.pump 64).earthNow (s.jobs.pump 64) _ rfl
  have hs : s.jobs.settle = (s.jobs.pump 64).ocSync := rfl
  rw [e, hs]
  unfold Jobs.ocSync
  refine ⟨?_, ?_, ?_, ?_, ?_, hr.trans hp.earthRaw, ?_, ?_, ?_, ?_, ?_, ?_⟩ <;> (show _ = _; rw [ho])
  · exact hp.speed
  · exact hp.lmu
  · exact hp.arc
  · exact hp.brkRaw
  · exact hp.selRaw
  · exact hp.level
  · exact hp.decay
  · exact hp.zone
  · exact hp.policy
  · exact hp.tally
  · exact hp.last

end Sys2Proof.Machine
end

