-- ==== Sys2Proof/Laws/Lawful.lean ====
section
/-! SUPPORT. Two laws of the roof jobs that every one of their functions keeps: the isolator law of the two pantographs
(R62) and the bounds of the measurement records (R14). `Lawful j k` says that `k` keeps them if `j` has them. -/

namespace Sys2Proof.Machine

open Sys2Proof

/-- R62: the isolator law of the two records. -/
def Jobs.isolators (j : Jobs) : Prop :=
  (j.p1.connected = true → j.p1.role = .collector) ∧ (j.p2.connected = true → j.p2.role = .collector) ∧
  ¬ (j.p1.role = .collector ∧ j.p2.role = .collector)

/-- R8, R14: the bounds of the window in progress and of the last result record. -/
def Lmu.bounded (l : Lmu) : Prop :=
  (∀ w, l.window = some w → w.sound) ∧ (∀ r, l.last = some r → r.bounded)

structure Lawful (j k : Jobs) : Prop where
  isolators : j.isolators → k.isolators
  records : j.lmu.bounded → k.lmu.bounded

variable {j k l : Jobs}

theorem Lawful.refl (j : Jobs) : Lawful j j := ⟨id, id⟩

theorem Lawful.trans (h : Lawful j k) (h' : Lawful k l) : Lawful j l :=
  ⟨h'.isolators ∘ h.isolators, h'.records ∘ h.records⟩

theorem Lawful.setOc (v : Outputs) (j : Jobs) : Lawful j (j.setOc v) := ⟨id, id⟩
theorem Lawful.setCs (v : Cs) (j : Jobs) : Lawful j (j.setCs v) := ⟨id, id⟩
theorem Lawful.setNodes (v : Store NodeRec) (j : Jobs) : Lawful j (j.setNodes v) := ⟨id, id⟩
theorem Lawful.setTag (v : Long) (j : Jobs) : Lawful j (j.setTag v) := ⟨id, id⟩
theorem Lawful.setTm (v : TableMem) (j : Jobs) : Lawful j (j.setTm v) := ⟨id, id⟩
theorem Lawful.setDev (v : Device) (j : Jobs) : Lawful j (j.setDev v) := ⟨id, id⟩
theorem Lawful.setLmu (v : Lmu) (j : Jobs) (h : j.lmu.bounded → v.bounded) : Lawful j (j.setLmu v) := ⟨id, h⟩

theorem Lawful.report (r : Report) (j : Jobs) : Lawful j (j.report r) := ⟨id, id⟩

theorem Lawful.touch (a : Nat) (j : Jobs) : Lawful j (j.touch a) := by
  constructor
  · simp [Jobs.isolators]
  · simp

/-- A pantograph's record with the same role and isolator command. -/
theorem Lawful.setPanto (x : Panto) (r : PantoRec) (j : Jobs) (h1 : r.role = (j.panto x).role)
    (h2 : r.connected = (j.panto x).connected) : Lawful j (j.setPanto x r) := by
  refine ⟨fun h => ?_, by cases x <;> exact id⟩
  cases x <;> simp_all [Jobs.isolators, Jobs.setPanto, Jobs.panto]

/-- A pantograph's record with no role, not connected. -/
theorem Lawful.setPanto_none (x : Panto) (r : PantoRec) (j : Jobs) (h1 : r.role = .none) (h2 : r.connected = false) :
    Lawful j (j.setPanto x r) := by
  refine ⟨fun h => ?_, by cases x <;> exact id⟩
  cases x <;> simp_all [Jobs.isolators, Jobs.setPanto]

theorem Jobs.panto_touch (x : Panto) (a : Nat) (j : Jobs) : (j.touch a).panto x = j.panto x := by cases x <;> simp [Jobs.panto]
theorem Jobs.panto_touchAll (x : Panto) (as : List Nat) (j : Jobs) : (j.touchAll as).panto x = j.panto x := by
  cases x <;> simp [Jobs.panto]
theorem Jobs.panto_onTimer (x : Panto) (i : TimerId) (f : Timer → Timer) (j : Jobs) : (j.onTimer i f).panto x = j.panto x := by
  cases x <;> rfl
theorem Jobs.panto_load (x : Panto) (i : TimerId) (n : Nat) (m : TimerMode) (j : Jobs) : (j.load i n m).panto x = j.panto x := by
  cases x <;> rfl
theorem Jobs.panto_stop (x : Panto) (i : TimerId) (j : Jobs) : (j.stop i).panto x = j.panto x := by cases x <;> rfl
theorem Jobs.panto_takeExpiry (x : Panto) (i : TimerId) (j : Jobs) : (j.takeExpiry i).panto x = j.panto x := by cases x <;> rfl
theorem Jobs.panto_setArcIn (x y : Panto) (v : ArcInput) (j : Jobs) : (j.setArcIn y v).panto x = j.panto x := by
  cases x <;> cases y <;> rfl
theorem Jobs.panto_setPanto (x : Panto) (r : PantoRec) (j : Jobs) : (j.setPanto x r).panto x = r := by cases x <;> rfl
theorem Jobs.panto_touchMaps (x : Panto) (rs : List MapRole) (j : Jobs) : (j.touchMaps rs).panto x = j.panto x := by
  induction rs generalizing j with
  | nil => rfl
  | cons a rs ih => exact (ih _).trans (Jobs.panto_touchAll x _ j)

theorem Lawful.setTmr (v : Timers) (j : Jobs) : Lawful j (j.setTmr v) := ⟨id, id⟩
theorem Lawful.setArc (v : Arcs) (j : Jobs) : Lawful j (j.setArc v) := ⟨id, id⟩
theorem Lawful.setLsi (v : Lsi) (j : Jobs) : Lawful j (j.setLsi v) := ⟨id, id⟩
theorem Lawful.setSpeed (v : SpeedRec) (j : Jobs) : Lawful j (j.setSpeed v) := ⟨id, id⟩
theorem Lawful.setFb (v : Feedback) (j : Jobs) : Lawful j (j.setFb v) := ⟨id, id⟩
theorem Lawful.setIce (v : Ice) (j : Jobs) : Lawful j (j.setIce v) := ⟨id, id⟩
theorem Lawful.setTodo (v : List Change) (j : Jobs) : Lawful j (j.setTodo v) := ⟨id, id⟩
theorem Lawful.push (c : Change) (j : Jobs) : Lawful j (j.push c) := Lawful.setTodo _ j


theorem Lawful.flag (f : Flag) (n : Nat) (j : Jobs) : Lawful j (j.flag f n) := Lawful.report _ j


theorem Lawful.touchAll (as : List Nat) (j : Jobs) : Lawful j (j.touchAll as) := by
  induction as generalizing j with
  | nil => exact Lawful.refl j
  | cons a as ih => exact (Lawful.touch a j).trans (ih (j.touch a))


theorem Lawful.onTimer (i : TimerId) (f : Timer → Timer) (j : Jobs) : Lawful j (j.onTimer i f) := Lawful.setTmr _ j

theorem Lawful.load (i : TimerId) (n : Nat) (m : TimerMode) (j : Jobs) : Lawful j (j.load i n m) := Lawful.setTmr _ j

theorem Lawful.stop (i : TimerId) (j : Jobs) : Lawful j (j.stop i) := Lawful.setTmr _ j

theorem Lawful.takeExpiry (i : TimerId) (j : Jobs) : Lawful j (j.takeExpiry i) := Lawful.setTmr _ j


theorem Lawful.setArcIn (x : Panto) (v : ArcInput) (j : Jobs) : Lawful j (j.setArcIn x v) := by
  cases x <;> exact Lawful.setArc _ j


theorem Lawful.foldl {α : Type} (g : Jobs → α → Jobs) (hg : ∀ j a, Lawful j (g j a)) (as : List α) (j : Jobs) :
    Lawful j (as.foldl g j) := by
  induction as generalizing j with
  | nil => exact Lawful.refl j
  | cons a as ih => exact (hg j a).trans (ih (g j a))


theorem Lawful.touchRoute (p : Word) (j : Jobs) : Lawful j (j.touchRoute p) := Lawful.touchAll _ j

theorem Lawful.touchMap (r : MapRole) (j : Jobs) : Lawful j (j.touchMap r) := Lawful.touchAll _ j

theorem Lawful.touchMaps (rs : List MapRole) (j : Jobs) : Lawful j (j.touchMaps rs) :=
  Lawful.foldl (fun j r => j.touchMap r) (fun j r => Lawful.touchMap r j) rs j

theorem Lawful.touchLine (i : Fin 8) (j : Jobs) : Lawful j (j.touchLine i) := Lawful.touchAll _ j

theorem Lawful.touchLines (is : List (Fin 8)) (j : Jobs) : Lawful j (is.foldl (fun j i => j.touchLine i) j) :=
  Lawful.foldl (fun j i => j.touchLine i) (fun j i => Lawful.touchLine i j) is j

theorem Lawful.touchResolve (c : BitVec 4) (j : Jobs) : Lawful j (j.touchResolve c) := Lawful.touchLines _ j

theorem Lawful.touchIce (is : List Nat) (j : Jobs) : Lawful j (j.touchIce is) := Lawful.touchAll _ j


theorem Lawful.setConfirmed (v : Line) (j : Jobs) : Lawful j (j.setConfirmed v) := (Lawful.setLsi _ j).trans (Lawful.push _ _)

theorem Lawful.confirm (v : Line) (j : Jobs) : Lawful j (j.confirm v) := (Lawful.setConfirmed v j).trans (Lawful.flag _ _ _)


theorem Lawful.touchVerdict (r : Record) (j : Jobs) : Lawful j (j.touchVerdict r) := by
  unfold Jobs.touchVerdict
  grind [Lawful.trans, Lawful.refl, Lawful.touch, Lawful.touchLines]


theorem Lawful.touchNeeded (v : Line) (j : Jobs) : Lawful j (j.touchNeeded v) := by
  unfold Jobs.touchNeeded
  split
  · exact Lawful.touch _ j
  · exact Lawful.touch _ j
  · exact Lawful.touchLine _ j
  · exact Lawful.refl j


theorem Lawful.confirmCheck (v : Line) (j : Jobs) : Lawful j (j.confirmCheck v) := by
  unfold Jobs.confirmCheck
  grind [Lawful.trans, Lawful.touchNeeded, Lawful.confirm]


theorem Lawful.debounce (v : Line) (j : Jobs) : Lawful j (j.debounce v) := by
  unfold Jobs.debounce
  split
  · exact Lawful.refl j
  · exact (Lawful.setLsi _ j).trans (Lawful.confirmCheck _ _)


theorem Lawful.lostEntries (j : Jobs) : Lawful j (j.lostEntries) := by
  unfold Jobs.lostEntries
  grind [Lawful.trans, Lawful.refl, Lawful.setLsi, Lawful.confirm]

theorem Lawful.lsiRecord (r : Record) (j : Jobs) : Lawful j (j.lsiRecord r) :=
  (((Lawful.touchVerdict r j).trans (Lawful.lostEntries _)).trans (Lawful.setLsi _ _)).trans (Lawful.debounce _ _)


theorem Lawful.lsiAfresh (j : Jobs) : Lawful j (j.lsiAfresh) := by
  unfold Jobs.lsiAfresh
  grind [Lawful.trans, Lawful.refl, Lawful.setLsi, Lawful.push]

theorem Lawful.lsiRestart (j : Jobs) : Lawful j (j.lsiRestart) := (Lawful.lostEntries j).trans (Lawful.lsiAfresh _)


theorem Lawful.lsiStarve (j : Jobs) : Lawful j (j.lsiStarve) := by
  unfold Jobs.lsiStarve
  grind [Lawful.trans, Lawful.refl, Lawful.setLsi, Lawful.confirm]



/-- R15: a record within its limits is handed over. -/
theorem Lawful.handRecord (r : Record) (j : Jobs) (h : j.lmu.bounded → r.bounded) : Lawful j (j.handRecord r) := by
  refine Lawful.trans (Lawful.setLmu _ j fun hb => ?_) (Lawful.lsiRecord _ _)
  refine ⟨fun w hw => ?_, fun r' hr' => ?_⟩
  · simp at hw
  · simp only [Option.some.injEq] at hr'; subst hr'; exact h hb

theorem Window.brokenOff_bounded (w : Window) (n : Word) : (w.brokenOff n).bounded := by
  simp [Window.brokenOff, Record.bounded]

theorem Lawful.breakWindow (j : Jobs) : Lawful j (j.breakWindow) := by
  unfold Jobs.breakWindow
  grind [Lawful.trans, Lawful.refl, Lawful.handRecord, Window.brokenOff_bounded]


theorem Lawful.clearCrossing (j : Jobs) : Lawful j (j.clearCrossing) := Lawful.setLmu _ j id

/-! ### The numbers of a window (R8, R13, R14) -/

/-- The root found bit by bit is the integer square root. -/
theorem isqrtFrom_spec (n b r : Nat) (h1 : r * r ≤ n) (h2 : n < (r + 2 ^ b) * (r + 2 ^ b)) :
    isqrtFrom n b r * isqrtFrom n b r ≤ n ∧ n < (isqrtFrom n b r + 1) * (isqrtFrom n b r + 1) := by
  induction b generalizing r with
  | zero => exact ⟨h1, h2⟩
  | succ b ih =>
    simp only [isqrtFrom]
    split
    · rename_i h
      refine ih _ h ?_
      rwa [Nat.add_assoc, ← Nat.two_mul, ← Nat.pow_succ']
    · rename_i h
      exact ih _ h1 (by omega)

/-- R13: floor(√n), for n below 2 ^ 32. -/
theorem isqrt_spec (n : Nat) (h : n < 2 ^ 32) : isqrt n * isqrt n ≤ n ∧ n < (isqrt n + 1) * (isqrt n + 1) :=
  isqrtFrom_spec n 16 0 (Nat.zero_le _) (by simpa using h)

theorem isqrt_mono (m n : Nat) (h : m ≤ n) (hn : n < 2 ^ 32) : isqrt m ≤ isqrt n := by
  have h1 := isqrt_spec m (by omega)
  have h2 := isqrt_spec n hn
  by_contra hc
  have : isqrt n + 1 ≤ isqrt m := by omega
  have := Nat.mul_le_mul this this
  omega

/-- R3: every accumulated value lies in −32,767..32,767. -/
theorem accumulated_bound (w : Word) : (accumulated w).natAbs ≤ 32767 := by
  unfold accumulated
  split
  · decide
  · rename_i h
    have h0 : w.toNat ≠ 32768 := fun e => h (BitVec.eq_of_toNat_eq e)
    have := w.isLt
    rw [BitVec.toInt_eq_toNat_cond]
    split <;> omega

/-- The accumulators' bounds with a window possibly full (R8). -/
def Window.fits (w : Window) : Prop :=
  w.taken ≤ Config.windowSamples ∧ w.sumSq ≤ w.taken * 32767 ^ 2 ∧ w.sum * w.sum ≤ w.taken * w.sumSq ∧
  3 * w.periods ≤ w.lengths ∧ w.lengths ≤ 1024 * w.periods

/-- One more value keeps the square of a sum within the number of values times the sum of their squares. -/
theorem sum_step (s v : Int) (n q : Nat) (h : s * s ≤ n * q) :
    (s + v) * (s + v) ≤ ((n + 1 : Nat) : Int) * ((q + v.natAbs * v.natAbs : Nat) : Int) := by
  have hv : ((v.natAbs * v.natAbs : Nat) : Int) = v * v := by
    rw [Nat.cast_mul, Int.natCast_natAbs, abs_mul_abs_self]
  push_cast at hv ⊢
  rw [hv]
  have h0 : (0 : Int) ≤ q := Int.natCast_nonneg q
  have h1 : (0 : Int) ≤ n := Int.natCast_nonneg n
  have key : 2 * s * v ≤ q + n * (v * v) := by
    have hs : (2 * s * v) ^ 2 ≤ (q + n * (v * v)) ^ 2 := by
      have : s * s * (v * v) ≤ n * q * (v * v) := mul_le_mul_of_nonneg_right h (mul_self_nonneg v)
      nlinarith [sq_nonneg ((q : Int) - n * (v * v))]
    have hp : (0 : Int) ≤ q + n * (v * v) := add_nonneg h0 (mul_nonneg h1 (mul_self_nonneg v))
    exact (le_abs_self _).trans (abs_le_of_sq_le_sq hs hp)
  nlinarith

theorem Lmu.take_window (h : Int) (w : Word) (l : Lmu) (hb : l.bounded) :
    ∃ win, (l.take h w).window = some win ∧ win.fits ∧ (l.take h w).last = l.last := by
  have hw : (l.window.getD {}).sound := by
    cases hl : l.window with
    | none => exact ⟨by decide, by decide, by decide, by decide, by decide⟩
    | some v => exact hb.1 v hl
  obtain ⟨w1, w2, w3, w4, w5⟩ := hw
  have ha := accumulated_bound w
  have hs := sum_step (l.window.getD {}).sum (accumulated w) _ _ w3
  refine ⟨_, rfl, ?_, rfl⟩
  have hq : (accumulated w).natAbs * (accumulated w).natAbs ≤ 32767 ^ 2 := by
    rw [pow_two]; exact Nat.mul_le_mul ha ha
  have e : ∀ p : Option Nat, (∀ d, p = some d → 3 ≤ d ∧ d ≤ 1024) → ∀ win : Window,
      win.taken = (l.window.getD {}).taken + 1 → win.sumSq = (l.window.getD {}).sumSq + (accumulated w).natAbs * (accumulated w).natAbs →
      win.sum = (l.window.getD {}).sum + accumulated w → win.periods = (l.window.getD {}).periods →
      win.lengths = (l.window.getD {}).lengths →
      Window.fits (match p with
        | some d => { win with periods := win.periods + 1, lengths := win.lengths + d }
        | none => win) := by
    intro p hp win e1 e2 e3 e4 e5
    have e6 : win.taken ≤ Config.windowSamples := by rw [e1]; exact w1
    have e7 : win.sumSq ≤ win.taken * 32767 ^ 2 := by rw [e1, e2, Nat.add_mul, Nat.one_mul]; omega
    have e8 : win.sum * win.sum ≤ win.taken * win.sumSq := by rw [e1, e2, e3]; exact_mod_cast hs
    cases p with
    | none => exact ⟨e6, e7, e8, by rw [e4, e5]; exact w4, by rw [e4, e5]; exact w5⟩
    | some d =>
      obtain ⟨p1, p2⟩ := hp d rfl
      exact ⟨e6, e7, e8, by simp only [e4, e5]; omega, by simp only [e4, e5]; omega⟩
  refine e _ ?_ _ rfl rfl rfl rfl rfl
  intro d hd
  split at hd
  · split at hd
    · rename_i h; cases hd; exact h
    · cases hd
  · cases hd

/-- R14: the results of a full window are within their limits. -/
theorem Window.complete_bounded (w : Window) (n : Word) (hf : w.fits) (ht : w.taken = Config.windowSamples) :
    (w.complete n).bounded := by
  obtain ⟨-, h2, h3, h4, h5⟩ := hf
  rw [ht] at h2
  simp only [Config.windowSamples] at h2
  have hq : w.sumSq / 1024 ≤ 32767 ^ 2 := by omega
  refine ⟨isqrt_mono _ _ (Nat.sub_le _ _) (by omega), ?_, ?_, fun h => nomatch h⟩
  · have := isqrt_mono _ _ hq (by decide)
    have e : isqrt (32767 ^ 2) = 32767 := by decide
    show isqrt (w.sumSq / 1024) ≤ 32767
    omega
  · show (if w.periods = 0 then 0 else 640000 * w.periods / w.lengths) = 0 ∨ _
    by_cases hp : w.periods = 0
    · exact .inl (if_pos hp)
    · right
      show 625 ≤ (if w.periods = 0 then 0 else 640000 * w.periods / w.lengths) ∧
        (if w.periods = 0 then 0 else 640000 * w.periods / w.lengths) ≤ 213333
      rw [if_neg hp]
      have hl : 0 < w.lengths := by omega
      constructor
      · rw [Nat.le_div_iff_mul_le hl]; omega
      · rw [Nat.div_le_iff_le_mul_add_pred hl]; omega

theorem Lawful.takeSample (h : Int) (w : Word) (j : Jobs) : Lawful j (j.takeSample h w) := by
  refine ⟨fun hi => ?_, fun hb => ?_⟩
  · unfold Jobs.takeSample
    dsimp only
    have hs : (j.setLmu (j.lmu.take h w)).isolators := hi
    split
    · split
      · have : ∀ (i : Jobs) (r : Record), i.isolators → (i.handRecord r).isolators := fun i r hi =>
          (Lawful.lsiRecord r (i.setLmu _)).isolators hi
        exact this _ _ hs
      · exact hs
    · exact hs
  · obtain ⟨win, e, hf, hl⟩ := Lmu.take_window h w j.lmu hb
    unfold Jobs.takeSample
    simp only [Jobs.setLmu, e]
    split
    · rename_i hfull
      have ht : win.taken = Config.windowSamples := Nat.le_antisymm hf.1 hfull
      have hr := Window.complete_bounded win j.lmu.number hf ht
      have hm := (Lawful.lsiRecord (win.complete (j.lmu.take h w).number)
        ((j.setLmu (j.lmu.take h w)).setLmu { (j.lmu.take h w) with
          window := none, number := (j.lmu.take h w).number + 1, last := some (win.complete (j.lmu.take h w).number),
          ref := if (win.complete (j.lmu.take h w).number).broken then (j.lmu.take h w).ref
            else (win.complete (j.lmu.take h w).number).mean })).records
      refine hm ⟨fun v hv => ?_, fun r hr' => ?_⟩
      · simp at hv
      · simp only [Jobs.setLmu_lmu, Option.some.injEq] at hr'
        subst hr'
        exact hr
    · rename_i hnf
      refine ⟨fun v hv => ?_, fun r hr => ?_⟩
      · rw [e] at hv
        cases hv
        exact ⟨by omega, hf.2⟩
      · rw [hl] at hr
        exact hb.2 r hr

theorem Lawful.takeSamples (first : Word) (samples : List Word) (j : Jobs) : Lawful j (j.takeSamples first samples) :=
  (((Lawful.touch _ j).trans (Lawful.load _ _ _ _)).trans
    (Lawful.foldl (fun j w => j.takeSample _ w) (fun j w => Lawful.takeSample _ w j) samples _)).trans (Lawful.setLmu _ _ id)

theorem Lawful.sampleFrame (first : Word) (samples : List Word) (j : Jobs) : Lawful j (j.sampleFrame first samples) := by
  unfold Jobs.sampleFrame
  grind [Lawful.trans, Lawful.refl, Lawful.takeSamples, Lawful.flag, Lawful.breakWindow, Lawful.clearCrossing]

theorem Lawful.lmuMeasure (q : Word) (payload : List Word) (j : Jobs) : Lawful j (j.lmuMeasure q payload) := by
  unfold Jobs.lmuMeasure
  grind [Lawful.trans, Lawful.refl, Lawful.touchMap, Lawful.sampleFrame]


theorem Lawful.starve (j : Jobs) : Lawful j (j.starve) := by
  have hw : ∀ (i : Jobs) (v : Lmu), v.window = i.lmu.window → v.last = i.lmu.last → Lawful i (i.setLmu v) :=
    fun i v h1 h2 => Lawful.setLmu v i (fun hb => ⟨by rw [h1]; exact hb.1, by rw [h2]; exact hb.2⟩)
  unfold Jobs.starve
  grind [Lawful.trans, Lawful.refl, Lawful.breakWindow, Lawful.clearCrossing,  Lawful.flag, Lawful.lsiStarve]


theorem Lawful.restartMeasurement (j : Jobs) : Lawful j (j.restartMeasurement) := by
  have h0 : ∀ (i : Jobs), Lawful i (i.setLmu { state := .waiting }) :=
    fun i => Lawful.setLmu _ i (fun _ => ⟨by simp, by simp⟩)
  unfold Jobs.restartMeasurement
  grind [Lawful.trans, Lawful.refl,  Lawful.load]


theorem Lawful.starvationExpiry (j : Jobs) : Lawful j (j.starvationExpiry) := by
  unfold Jobs.starvationExpiry
  grind [Lawful.trans, Lawful.refl, Lawful.takeExpiry, Lawful.starve]


theorem Lawful.releaseHold (j : Jobs) : Lawful j j.releaseHold := by
  unfold Jobs.releaseHold
  split
  · exact ((Lawful.setOc _ j).trans (Lawful.setTmr _ _)).trans (Lawful.push _ _)
  · exact Lawful.refl j

theorem Lawful.touchRaise (x : Panto) (j : Jobs) : Lawful j (j.touchRaise x) := by
  unfold Jobs.touchRaise
  grind [Lawful.trans, Lawful.refl, Lawful.touchMaps, Lawful.touch]


theorem Lawful.moveP (x : Panto) (r : PantoRec) (j : Jobs) (h1 : r.role = (j.panto x).role)
    (h2 : r.connected = (j.panto x).connected) : Lawful j (j.moveP x r) :=
  (Lawful.setPanto x r j h1 h2).trans (Lawful.push _ _)

theorem Lawful.moveP_none (x : Panto) (r : PantoRec) (j : Jobs) (h1 : r.role = .none) (h2 : r.connected = false) :
    Lawful j (j.moveP x r) := (Lawful.setPanto_none x r j h1 h2).trans (Lawful.push _ _)

theorem Jobs.raiseAnswer_collector (x : Panto) (b : Asker) (j : Jobs)
    (h : j.raiseAnswer x .collector b = .accepted) (hr : (j.panto x).state.raised = false) :
    (j.panto x.other).role ≠ .collector := by
  unfold Jobs.raiseAnswer at h
  grind

theorem Jobs.raiseAnswer_lowered (x : Panto) (r : Role) (b : Asker) (j : Jobs)
    (h : j.raiseAnswer x r b = .accepted) (hr : (j.panto x).state.raised = false) : (j.panto x).state = .lowered := by
  unfold Jobs.raiseAnswer at h
  cases hs : (j.panto x).state <;> simp_all [PState.raised]

/-- R61, R62: a raise keeps the isolator law, whatever role it gives. -/
theorem Lawful.prepare (x : Panto) (r : Role) (j : Jobs) (h : r = .collector → (j.panto x.other).role ≠ .collector) :
    Lawful j (j.prepare x r) := by
  unfold Jobs.prepare
  dsimp only
  refine Lawful.trans ?_ (Lawful.load _ _ _ _)
  refine (Lawful.touch (pantoAddr x 7) j).trans ?_
  refine Lawful.trans ?_ (Lawful.push _ _)
  refine ⟨fun hi => ?_, by cases x <;> exact id⟩
  cases x <;> simp_all [Jobs.isolators, Jobs.setPanto, Jobs.panto, Panto.other]
  exact fun hp hr => h hr hp

theorem Lawful.raise (x : Panto) (r : Role) (b : Asker) (j : Jobs) : Lawful j (j.raise x r b).2 := by
  have ht := Lawful.touchRaise x j
  unfold Jobs.raise
  dsimp only
  split
  · rename_i h
    rw [Bool.and_eq_true, decide_eq_true_eq, Bool.not_eq_true'] at h
    refine ht.trans (Lawful.prepare x r _ ?_)
    rintro rfl
    have := Jobs.raiseAnswer_collector x b j h.1 h.2
    have e : ∀ y, (j.touchRaise x).panto y = j.panto y := by
      intro y
      unfold Jobs.touchRaise
      grind [Jobs.panto_touch, Jobs.panto_touchMaps]
    rw [e]; exact this
  · exact ht

theorem Lawful.settleExpiry (x : Panto) (j : Jobs) : Lawful j (j.settleExpiry x) := by
  unfold Jobs.settleExpiry
  grind (ematch := 20) [Lawful.trans, Lawful.refl, Lawful.touch, Lawful.moveP, Lawful.load, Lawful.takeExpiry, Jobs.panto_touch, Jobs.panto_touchAll, Jobs.panto_onTimer, Jobs.panto_load, Jobs.panto_stop, Jobs.panto_takeExpiry, Jobs.panto_setArcIn, Jobs.panto_setPanto, Jobs.panto_touchMaps]


theorem Lawful.lower (x : Panto) (j : Jobs) : Lawful j (j.lower x) := by
  unfold Jobs.lower
  grind (ematch := 20) [Lawful.trans, Lawful.refl, Lawful.touch, Lawful.moveP, Lawful.load, Lawful.stop, Jobs.panto_touch, Jobs.panto_touchAll, Jobs.panto_onTimer, Jobs.panto_load, Jobs.panto_stop, Jobs.panto_takeExpiry, Jobs.panto_setArcIn, Jobs.panto_setPanto, Jobs.panto_touchMaps]


theorem Lawful.lowerBlind (x : Panto) (j : Jobs) : Lawful j (j.lowerBlind x) := by
  unfold Jobs.lowerBlind
  grind (ematch := 20) [Lawful.trans, Lawful.refl, Lawful.lower, Lawful.setPanto, Jobs.panto_touch, Jobs.panto_touchAll, Jobs.panto_onTimer, Jobs.panto_load, Jobs.panto_stop, Jobs.panto_takeExpiry, Jobs.panto_setArcIn, Jobs.panto_setPanto, Jobs.panto_touchMaps]


theorem Lawful.raiseTimeout (x : Panto) (j : Jobs) : Lawful j (j.raiseTimeout x) := by
  unfold Jobs.raiseTimeout
  grind (ematch := 20) [Lawful.trans, Lawful.refl, Lawful.takeExpiry, Lawful.moveP, Lawful.flag, Jobs.panto_touch, Jobs.panto_touchAll, Jobs.panto_onTimer, Jobs.panto_load, Jobs.panto_stop, Jobs.panto_takeExpiry, Jobs.panto_setArcIn, Jobs.panto_setPanto, Jobs.panto_touchMaps]


theorem Lawful.lowerTimeout (x : Panto) (j : Jobs) : Lawful j (j.lowerTimeout x) := by
  unfold Jobs.lowerTimeout
  grind (ematch := 20) [Lawful.trans, Lawful.refl, Lawful.takeExpiry, Lawful.moveP, Lawful.flag, Jobs.panto_touch, Jobs.panto_touchAll, Jobs.panto_onTimer, Jobs.panto_load, Jobs.panto_stop, Jobs.panto_takeExpiry, Jobs.panto_setArcIn, Jobs.panto_setPanto, Jobs.panto_touchMaps]


theorem Lawful.contactMade (x : Panto) (j : Jobs) : Lawful j (j.contactMade x) := by
  unfold Jobs.contactMade
  grind (ematch := 20) [Lawful.trans, Lawful.refl, Lawful.touchAll, Lawful.stop, Lawful.moveP, Lawful.setArcIn, Lawful.load, Lawful.flag, Jobs.panto_touch, Jobs.panto_touchAll, Jobs.panto_onTimer, Jobs.panto_load, Jobs.panto_stop, Jobs.panto_takeExpiry, Jobs.panto_setArcIn, Jobs.panto_setPanto, Jobs.panto_touchMaps]


theorem Lawful.contactGone (x : Panto) (j : Jobs) : Lawful j (j.contactGone x) := by
  unfold Jobs.contactGone
  grind (ematch := 20) [Lawful.trans, Lawful.refl, Lawful.touch, Lawful.stop, Lawful.moveP, Lawful.load, Lawful.flag, Jobs.panto_touch, Jobs.panto_touchAll, Jobs.panto_onTimer, Jobs.panto_load, Jobs.panto_stop, Jobs.panto_takeExpiry, Jobs.panto_setArcIn, Jobs.panto_setPanto, Jobs.panto_touchMaps]


theorem Lawful.drop (x : Panto) (j : Jobs) : Lawful j (j.drop x) := by
  unfold Jobs.drop
  grind (ematch := 20) [Lawful.trans, Lawful.refl, Lawful.stop, Lawful.moveP, Lawful.flag, Lawful.releaseHold, Jobs.panto_touch, Jobs.panto_touchAll, Jobs.panto_onTimer, Jobs.panto_load, Jobs.panto_stop, Jobs.panto_takeExpiry, Jobs.panto_setArcIn, Jobs.panto_setPanto, Jobs.panto_touchMaps]


theorem Lawful.loweredReached (x : Panto) (j : Jobs) : Lawful j (j.loweredReached x) := by
  unfold Jobs.loweredReached
  grind [Lawful.trans, Lawful.refl, Lawful.stop, Lawful.moveP_none]


theorem Lawful.evaluate (x : Panto) (j : Jobs) : Lawful j (j.evaluate x) := by
  unfold Jobs.evaluate
  grind (ematch := 20) [Lawful.trans, Lawful.refl, Lawful.touchAll, Lawful.touch, Lawful.setPanto, Lawful.drop, Lawful.contactMade, Lawful.contactGone, Lawful.loweredReached, Jobs.panto_touch, Jobs.panto_touchAll, Jobs.panto_onTimer, Jobs.panto_load, Jobs.panto_stop, Jobs.panto_takeExpiry, Jobs.panto_setArcIn, Jobs.panto_setPanto, Jobs.panto_touchMaps]


theorem Lawful.pantoMeasure (x : Panto) (q : Word) (payload : List Word) (j : Jobs) : Lawful j (j.pantoMeasure x q payload) := by
  unfold Jobs.pantoMeasure
  grind (ematch := 20) [Lawful.trans, Lawful.refl, Lawful.touchMaps, Lawful.setPanto, Lawful.evaluate, Jobs.panto_touch, Jobs.panto_touchAll, Jobs.panto_onTimer, Jobs.panto_load, Jobs.panto_stop, Jobs.panto_takeExpiry, Jobs.panto_setArcIn, Jobs.panto_setPanto, Jobs.panto_touchMaps]


theorem Lawful.faultClear (x : Panto) (j : Jobs) : Lawful j (j.faultClear x).2 := by
  unfold Jobs.faultClear
  grind [Lawful.trans, Lawful.refl, Lawful.touch, Lawful.moveP_none]


theorem Lawful.touchAuto (j : Jobs) : Lawful j (j.touchAuto) := by
  unfold Jobs.touchAuto
  grind [Lawful.trans, Lawful.refl, Lawful.touchLine, Lawful.touch]


theorem Lawful.requestRaise (arg : Byte) (j : Jobs) : Lawful j (j.requestRaise arg).2 := by
  unfold Jobs.requestRaise
  grind [Lawful.trans, Lawful.refl, Lawful.raise, Lawful.touchAuto]


theorem Lawful.requestLowerOne (x : Panto) (j : Jobs) : Lawful j (j.requestLowerOne x).2 := by
  unfold Jobs.requestLowerOne
  grind [Lawful.trans, Lawful.refl, Lawful.lower]


theorem Lawful.requestLower (arg : Byte) (j : Jobs) : Lawful j (j.requestLower arg).2 := by
  unfold Jobs.requestLower
  grind [Lawful.trans, Lawful.refl, Lawful.requestLowerOne, Lawful.lower]


theorem Lawful.requestFaultClear (arg : Byte) (j : Jobs) : Lawful j (j.requestFaultClear arg).2 := by
  unfold Jobs.requestFaultClear
  grind [Lawful.trans, Lawful.refl, Lawful.faultClear]


theorem Lawful.arcEvent (x : Panto) (j : Jobs) : Lawful j (j.arcEvent x) := by
  unfold Jobs.arcEvent
  grind (ematch := 20) [Lawful.trans, Lawful.refl, Lawful.setArcIn, Lawful.setPanto, Lawful.setIce, Lawful.flag, Jobs.panto_touch, Jobs.panto_touchAll, Jobs.panto_onTimer, Jobs.panto_load, Jobs.panto_stop, Jobs.panto_takeExpiry, Jobs.panto_setArcIn, Jobs.panto_setPanto, Jobs.panto_touchMaps]


theorem Lawful.arcInterval (x : Panto) (j : Jobs) : Lawful j (j.arcInterval x) := by
  unfold Jobs.arcInterval
  grind (ematch := 20) [Lawful.trans, Lawful.refl, Lawful.takeExpiry, Lawful.touch, Lawful.setPanto, Lawful.setArcIn, Jobs.panto_touch, Jobs.panto_touchAll, Jobs.panto_onTimer, Jobs.panto_load, Jobs.panto_stop, Jobs.panto_takeExpiry, Jobs.panto_setArcIn, Jobs.panto_setPanto, Jobs.panto_touchMaps]


theorem Lawful.arcSample (x : Panto) (high : Bool) (j : Jobs) : Lawful j (j.arcSample x high) := by
  unfold Jobs.arcSample
  grind (ematch := 20) [Lawful.trans, Lawful.refl, Lawful.setArcIn, Lawful.touch, Lawful.arcEvent, Jobs.panto_touch, Jobs.panto_touchAll, Jobs.panto_onTimer, Jobs.panto_load, Jobs.panto_stop, Jobs.panto_takeExpiry, Jobs.panto_setArcIn, Jobs.panto_setPanto, Jobs.panto_touchMaps]


theorem Lawful.arcEdge (x : Panto) (j : Jobs) : Lawful j (j.arcEdge x) := by
  unfold Jobs.arcEdge
  grind [Lawful.trans, Lawful.refl, Lawful.arcSample]



theorem Lawful.takeSpeed (a : Announcement) (j : Jobs) : Lawful j (j.takeSpeed a) := by
  unfold Jobs.takeSpeed
  grind (ematch := 20) [Lawful.trans, Lawful.refl, Lawful.setSpeed, Lawful.push]


theorem Lawful.offerFeature (kind : FeatureKind) (a : Announcement) (j : Jobs) : Lawful j (j.offerFeature kind a) := by
  have hl : ∀ (f : Feature) (n : Byte) (k : Jobs),
      Lawful k (k.setCs { k.cs with list := (offerTo f n k.cs.list).1 }) :=
    fun f n k => Lawful.setCs _ k
  unfold Jobs.offerFeature
  grind (ematch := 20) [Lawful.trans, Lawful.refl, Lawful.touchAll, Lawful.flag, Lawful.touchResolve, Lawful.push]


theorem Lawful.cancel (n : Byte) (j : Jobs) : Lawful j (j.cancel n) := by
  unfold Jobs.cancel
  split
  · exact Lawful.setCs _ j
  · exact (Lawful.setCs _ j).trans (Lawful.push _ _)


theorem Lawful.dropStale (j : Jobs) : Lawful j j.dropStale :=
  (Lawful.setCs _ j).trans
    (Lawful.foldl (fun j (g : Feature) => j.flag .featureDiscarded g.subject) (fun j _ => Lawful.flag _ _ j) _ _)


theorem Lawful.ageFeatures (j : Jobs) : Lawful j j.ageFeatures := by
  unfold Jobs.ageFeatures
  split
  · exact Lawful.refl j
  · exact (Lawful.touch _ j).trans (Lawful.setCs _ _)


theorem Lawful.setOpen (j : Jobs) : Lawful j j.setOpen := by
  unfold Jobs.setOpen
  have h : ∀ k : Jobs, Lawful k (k.setCs { k.cs with command := .open, pulse := false }) :=
    fun k => Lawful.setCs _ k
  grind (ematch := 20) [Lawful.trans, Lawful.refl, Lawful.stop]


theorem Lawful.touchConfirmed (j : Jobs) : Lawful j (j.touchConfirmed) := by
  unfold Jobs.touchConfirmed
  grind (ematch := 20) [Lawful.trans, Lawful.refl, Lawful.touchLine]


theorem Lawful.touchTarget (j : Jobs) : Lawful j (j.touchTarget) := by
  unfold Jobs.touchTarget
  grind (ematch := 20) [Lawful.trans, Lawful.refl, Lawful.touchResolve]


theorem Lawful.touchClosing (j : Jobs) : Lawful j (j.touchClosing) := by
  unfold Jobs.touchClosing
  grind (ematch := 20) [Lawful.trans, Lawful.refl, Lawful.touchConfirmed, Lawful.touchTarget]


theorem Lawful.csTo (s : CsState) (j : Jobs) : Lawful j (j.csTo s) :=
  (Lawful.setCs _ j).trans (Lawful.push _ _)


theorem Lawful.enterHold (r : HoldReason) (step : CsState) (j : Jobs) : Lawful j (j.enterHold r step) := by
  unfold Jobs.enterHold
  grind (ematch := 20) [Lawful.trans, Lawful.refl, Lawful.setOpen, Lawful.stop, Lawful.setCs, Lawful.flag, Lawful.csTo]


theorem Lawful.failStep (r : HoldReason) (j : Jobs) : Lawful j (j.failStep r) := by
  unfold Jobs.failStep
  grind (ematch := 20) [Lawful.trans, Lawful.refl, Lawful.enterHold]


theorem Lawful.loadStep (i : Nat) (j : Jobs) : Lawful j (j.loadStep i) := by
  unfold Jobs.loadStep
  grind (ematch := 20) [Lawful.trans, Lawful.refl, Lawful.touch, Lawful.load]


theorem Lawful.enterIdle (j : Jobs) : Lawful j (j.enterIdle) := by
  unfold Jobs.enterIdle
  grind (ematch := 20) [Lawful.trans, Lawful.refl, Lawful.stop, Lawful.csTo]


theorem Lawful.enterArmed (j : Jobs) : Lawful j (j.enterArmed) := by
  unfold Jobs.enterArmed
  grind (ematch := 20) [Lawful.trans, Lawful.refl, Lawful.dropStale, Lawful.csTo]


theorem Lawful.enterOpening (j : Jobs) : Lawful j (j.enterOpening) := by
  unfold Jobs.enterOpening
  grind (ematch := 20) [Lawful.trans, Lawful.refl, Lawful.setOpen, Lawful.loadStep, Lawful.csTo]


theorem Lawful.enterCoasting (j : Jobs) : Lawful j (j.enterCoasting) := by
  unfold Jobs.enterCoasting
  grind (ematch := 20) [Lawful.trans, Lawful.refl, Lawful.stop, Lawful.setCs, Lawful.loadStep, Lawful.load, Lawful.csTo]


theorem Lawful.enterLowering (j : Jobs) : Lawful j (j.enterLowering) := by
  unfold Jobs.enterLowering
  grind (ematch := 20) [Lawful.trans, Lawful.refl, Lawful.lower, Lawful.touchAll, Lawful.load, Lawful.csTo]


theorem Lawful.enterSelecting (j : Jobs) : Lawful j (j.enterSelecting) := by
  unfold Jobs.enterSelecting
  grind (ematch := 20) [Lawful.trans, Lawful.refl, Lawful.enterHold, Lawful.touchTarget, Lawful.setCs, Lawful.loadStep, Lawful.csTo]


theorem Lawful.noteMade (x : Panto) (was : PState) (j : Jobs) : Lawful j (j.noteMade x was) := by
  unfold Jobs.noteMade
  grind [Lawful.refl, Lawful.setIce]


theorem Lawful.enterRaising (j : Jobs) : Lawful j j.enterRaising := by
  have hr : ∀ (x : Panto) (r : Role) (b : Asker) (k : Jobs), Lawful k (k.raise x r b).2 := Lawful.raise
  unfold Jobs.enterRaising
  grind (ematch := 20) [Lawful.trans, Lawful.noteMade, Lawful.refl, Lawful.touchTarget, Lawful.touch, Lawful.stop, Lawful.enterHold, Lawful.setCs, Lawful.csTo]


theorem Lawful.enterIdentifying (j : Jobs) : Lawful j (j.enterIdentifying) := by
  unfold Jobs.enterIdentifying
  grind (ematch := 20) [Lawful.trans, Lawful.refl, Lawful.loadStep, Lawful.csTo]


theorem Lawful.enterClosing (j : Jobs) : Lawful j j.enterClosing := by
  have h : ∀ k : Jobs, Lawful k (k.setCs { k.cs with command := .close, pulse := true }) :=
    fun k => Lawful.setCs _ k
  unfold Jobs.enterClosing
  grind (ematch := 20) [Lawful.trans, Lawful.refl, Lawful.touchClosing, Lawful.enterHold, Lawful.touch, Lawful.load, Lawful.loadStep, Lawful.csTo]


theorem Lawful.takeHead (f : Feature) (rest : List Feature) (j : Jobs) : Lawful j (j.takeHead f rest) := by
  unfold Jobs.takeHead
  grind (ematch := 20) [Lawful.trans, Lawful.setCs, Lawful.enterOpening, Lawful.enterHold]

theorem Lawful.dueCheck (j : Jobs) : Lawful j (j.dueCheck) := by
  unfold Jobs.dueCheck
  grind (ematch := 20) [Lawful.trans, Lawful.refl, Lawful.takeHead]


theorem Lawful.coastToRoof (j : Jobs) : Lawful j (j.coastToRoof) := by
  unfold Jobs.coastToRoof
  grind (ematch := 20) [Lawful.trans, Lawful.refl, Lawful.touchTarget, Lawful.failStep, Lawful.stop, Lawful.enterLowering, Lawful.lsiRestart, Lawful.enterIdentifying]


theorem Lawful.coastOver (j : Jobs) : Lawful j (j.coastOver) := by
  unfold Jobs.coastOver
  grind (ematch := 20) [Lawful.trans, Lawful.refl, Lawful.coastToRoof, Lawful.stop, Lawful.enterClosing, Lawful.failStep]


theorem Lawful.coastingTest (j : Jobs) : Lawful j (j.coastingTest) := by
  unfold Jobs.coastingTest
  grind (ematch := 20) [Lawful.trans, Lawful.refl, Lawful.setCs, Lawful.coastOver]


theorem Lawful.loweringTest (j : Jobs) : Lawful j (j.loweringTest) := by
  unfold Jobs.loweringTest
  grind (ematch := 20) [Lawful.trans, Lawful.refl, Lawful.touchTarget, Lawful.stop, Lawful.failStep, Lawful.enterRaising, Lawful.enterSelecting]


theorem Lawful.selectingTest (j : Jobs) : Lawful j (j.selectingTest) := by
  unfold Jobs.selectingTest
  grind (ematch := 20) [Lawful.trans, Lawful.refl, Lawful.failStep, Lawful.setCs, Lawful.stop, Lawful.enterRaising]


theorem Lawful.raisingTest (j : Jobs) : Lawful j (j.raisingTest) := by
  unfold Jobs.raisingTest
  grind (ematch := 20) [Lawful.trans, Lawful.refl, Lawful.lsiRestart, Lawful.enterIdentifying]


theorem Lawful.adoptTarget (i : Fin 8) (j : Jobs) : Lawful j (j.adoptTarget i) := Lawful.setCs _ j


theorem Lawful.identifyingTest (j : Jobs) : Lawful j (j.identifyingTest) := by
  unfold Jobs.identifyingTest
  grind (ematch := 20) [Lawful.trans, Lawful.refl, Lawful.touchLine, Lawful.adoptTarget, Lawful.enterLowering, Lawful.enterClosing, Lawful.failStep, Lawful.touchResolve]


theorem Lawful.closingDone (j : Jobs) : Lawful j j.closingDone := by
  have h : ∀ k : Jobs, Lawful k (k.setCs { k.cs with
      pulse := false, closingSystem := k.lsi.confirmed.index, current := none, expected := none }) :=
    fun k => Lawful.setCs _ k
  unfold Jobs.closingDone
  grind (ematch := 20) [Lawful.trans, Lawful.refl, Lawful.stop, Lawful.flag, Lawful.enterIdle]


theorem Lawful.closingTest (j : Jobs) : Lawful j (j.closingTest) := by
  unfold Jobs.closingTest
  grind (ematch := 20) [Lawful.trans, Lawful.refl, Lawful.touchClosing, Lawful.setOpen, Lawful.enterRaising, Lawful.failStep, Lawful.closingDone]


theorem Lawful.csTest (due : Bool) (j : Jobs) : Lawful j (j.csTest due) := by
  unfold Jobs.csTest
  grind (ematch := 20) [Lawful.trans, Lawful.refl, Lawful.enterArmed, Lawful.enterIdle, Lawful.dueCheck, Lawful.enterCoasting, Lawful.coastingTest, Lawful.loweringTest, Lawful.selectingTest, Lawful.raisingTest, Lawful.identifyingTest, Lawful.closingTest]


theorem Lawful.csConfirmed (j : Jobs) : Lawful j (j.csConfirmed) := by
  unfold Jobs.csConfirmed
  grind (ematch := 20) [Lawful.trans, Lawful.refl, Lawful.csTest, Lawful.flag, Lawful.setOpen, Lawful.setCs, Lawful.enterHold, Lawful.touch, Lawful.enterCoasting]


theorem Lawful.csBreaker (old : BreakerFb) (new : BreakerFb) (j : Jobs) : Lawful j (j.csBreaker old new) := by
  unfold Jobs.csBreaker
  grind (ematch := 20) [Lawful.trans, Lawful.refl, Lawful.flag, Lawful.setOpen, Lawful.setCs, Lawful.enterIdle, Lawful.csTest]


theorem Lawful.csCollectorGone (j : Jobs) : Lawful j (j.csCollectorGone) := by
  unfold Jobs.csCollectorGone
  grind (ematch := 20) [Lawful.trans, Lawful.refl, Lawful.setOpen, Lawful.setCs, Lawful.failStep]


theorem Lawful.csPanto (x : Panto) (old : PState) (new : PState) (role : Role) (j : Jobs) : Lawful j (j.csPanto x old new role) := by
  unfold Jobs.csPanto
  grind (ematch := 20) [Lawful.trans, Lawful.refl, Lawful.csCollectorGone, Lawful.enterRaising, Lawful.failStep, Lawful.csTest]


theorem Lawful.csLowerAll (j : Jobs) : Lawful j (j.csLowerAll) := by
  unfold Jobs.csLowerAll
  grind (ematch := 20) [Lawful.trans, Lawful.refl, Lawful.setOpen, Lawful.failStep]


theorem Lawful.csReact (c : Change) (j : Jobs) : Lawful j (j.csReact c) := by
  unfold Jobs.csReact
  grind (ematch := 20) [Lawful.trans, Lawful.refl, Lawful.csTest, Lawful.csConfirmed, Lawful.csBreaker, Lawful.csPanto, Lawful.csLowerAll]


theorem Lawful.csStepTimeout (j : Jobs) : Lawful j (j.csStepTimeout) := by
  unfold Jobs.csStepTimeout
  grind (ematch := 20) [Lawful.trans, Lawful.refl, Lawful.takeExpiry, Lawful.failStep]


theorem Lawful.coastExpiry (j : Jobs) : Lawful j (j.coastExpiry) := by
  unfold Jobs.coastExpiry
  grind (ematch := 20) [Lawful.trans, Lawful.refl, Lawful.takeExpiry, Lawful.setCs, Lawful.loadStep, Lawful.coastOver]


theorem Lawful.closePulseExpiry (j : Jobs) : Lawful j j.closePulseExpiry := by
  have h : ∀ k : Jobs, Lawful k (k.setCs { k.cs with pulse := false }) :=
    fun k => Lawful.setCs _ k
  unfold Jobs.closePulseExpiry
  grind (ematch := 20) [Lawful.trans, Lawful.refl, Lawful.takeExpiry]


theorem Lawful.featureDue (j : Jobs) : Lawful j (j.featureDue) := by
  unfold Jobs.featureDue
  grind (ematch := 20) [Lawful.trans, Lawful.refl, Lawful.push]


theorem Lawful.speedAged (j : Jobs) : Lawful j (j.speedAged) := by
  unfold Jobs.speedAged
  grind (ematch := 20) [Lawful.trans, Lawful.refl, Lawful.setSpeed, Lawful.push]


theorem Lawful.requestClose (j : Jobs) : Lawful j ((j.requestClose).2) := by
  unfold Jobs.requestClose
  grind (ematch := 20) [Lawful.trans, Lawful.refl, Lawful.setCs, Lawful.enterClosing, Lawful.touchConfirmed]


theorem Lawful.requestOpen (j : Jobs) : Lawful j ((j.requestOpen).2) := by
  unfold Jobs.requestOpen
  grind (ematch := 20) [Lawful.trans, Lawful.refl, Lawful.setCs, Lawful.setOpen]


theorem Lawful.requestSelect (arg : Byte) (j : Jobs) : Lawful j ((j.requestSelect arg).2) := by
  unfold Jobs.requestSelect
  grind (ematch := 20) [Lawful.trans, Lawful.refl, Lawful.touchResolve, Lawful.lostEntries, Lawful.setCs, Lawful.enterOpening]


theorem Lawful.requestEnergise (j : Jobs) : Lawful j ((j.requestEnergise).2) := by
  unfold Jobs.requestEnergise
  grind (ematch := 20) [Lawful.trans, Lawful.refl, Lawful.setCs, Lawful.enterRaising]


theorem Lawful.reenter (step : CsState) (j : Jobs) : Lawful j (j.reenter step) := by
  unfold Jobs.reenter
  grind (ematch := 20) [Lawful.trans, Lawful.refl, Lawful.setCs, Lawful.enterOpening, Lawful.enterHold, Lawful.enterIdle, Lawful.enterCoasting, Lawful.enterLowering, Lawful.enterSelecting, Lawful.enterRaising, Lawful.enterIdentifying, Lawful.enterClosing]


theorem Lawful.requestResume (j : Jobs) : Lawful j ((j.requestResume).2) := by
  unfold Jobs.requestResume
  grind (ematch := 20) [Lawful.trans, Lawful.refl, Lawful.dropStale, Lawful.setCs, Lawful.reenter]


theorem Lawful.requestAbort (j : Jobs) : Lawful j ((j.requestAbort).2) := by
  unfold Jobs.requestAbort
  grind (ematch := 20) [Lawful.trans, Lawful.refl, Lawful.dropStale, Lawful.setCs, Lawful.setOpen, Lawful.enterIdle]


theorem Lawful.ocFollow (e : EarthFb) (j : Jobs) : Lawful j (j.ocFollow e) := by
  unfold Jobs.ocFollow
  grind (ematch := 20) [Lawful.trans, Lawful.refl, Lawful.setOc, Lawful.flag]

theorem Lawful.ocReact (j : Jobs) : Lawful j j.ocReact := Lawful.ocFollow _ j
theorem Lawful.ocSync (j : Jobs) : Lawful j j.ocSync := Lawful.ocFollow _ j


theorem Lawful.takeTemp (q : Word) (payload : List Word) (j : Jobs) : Lawful j (j.takeTemp q payload) := by
  unfold Jobs.takeTemp
  grind (ematch := 20) [Lawful.trans, Lawful.refl, Lawful.touchMap, Lawful.touchIce, Lawful.setIce]


theorem Lawful.takeProbe (q : Word) (payload : List Word) (j : Jobs) : Lawful j (j.takeProbe q payload) := by
  unfold Jobs.takeProbe
  grind (ematch := 20) [Lawful.trans, Lawful.refl, Lawful.touchMap, Lawful.touchIce, Lawful.setIce]


theorem Lawful.iceMeasure (q : Word) (payload : List Word) (j : Jobs) : Lawful j (j.iceMeasure q payload) :=
  (Lawful.takeTemp q payload j).trans (Lawful.takeProbe q payload _)

theorem Lawful.iceInputs (j : Jobs) : Lawful j j.iceInputs := Lawful.setIce _ j


theorem Lawful.iceZone (a : Announcement) (j : Jobs) : Lawful j (j.iceZone a) := Lawful.setIce _ j


theorem Lawful.touchPermits (j : Jobs) : Lawful j (j.touchPermits) := by
  unfold Jobs.touchPermits
  grind (ematch := 20) [Lawful.trans, Lawful.refl, Lawful.touchIce, Lawful.touchConfirmed, Lawful.touchMap]


theorem Lawful.loadPhase (x : Panto) (p : HeatPhase) (seconds : Nat) (j : Jobs) : Lawful j (j.loadPhase x p seconds) := by
  unfold Jobs.loadPhase
  grind (ematch := 20) [Lawful.trans, Lawful.refl, Lawful.setIce, Lawful.load, Lawful.stop]


theorem Lawful.restPhase (x : Panto) (j : Jobs) : Lawful j (j.restPhase x) := by
  unfold Jobs.restPhase
  grind (ematch := 20) [Lawful.trans, Lawful.refl, Lawful.setIce, Lawful.onTimer]


theorem Lawful.nextPhase (x : Panto) (onFirst : Bool) (j : Jobs) : Lawful j (j.nextPhase x onFirst) := by
  unfold Jobs.nextPhase
  grind (ematch := 20) [Lawful.trans, Lawful.refl, Lawful.touchIce, Lawful.loadPhase, Lawful.restPhase]


theorem Lawful.startCycle (x : Panto) (j : Jobs) : Lawful j (j.startCycle x) := by
  unfold Jobs.startCycle
  grind (ematch := 20) [Lawful.trans, Lawful.refl, Lawful.nextPhase]


theorem Lawful.endCycle (x : Panto) (j : Jobs) : Lawful j (j.endCycle x) := by
  unfold Jobs.endCycle
  grind (ematch := 20) [Lawful.trans, Lawful.refl, Lawful.setIce, Lawful.onTimer]


theorem Lawful.supplyCycle (x : Panto) (j : Jobs) : Lawful j (j.supplyCycle x) := by
  unfold Jobs.supplyCycle
  grind (ematch := 20) [Lawful.trans, Lawful.refl, Lawful.onTimer, Lawful.stop]


theorem Lawful.followCycle (x : Panto) (j : Jobs) : Lawful j (j.followCycle x) := by
  unfold Jobs.followCycle
  grind (ematch := 20) [Lawful.trans, Lawful.refl, Lawful.startCycle, Lawful.supplyCycle, Lawful.endCycle]


theorem Lawful.heaterExpiry (x : Panto) (j : Jobs) : Lawful j (j.heaterExpiry x) := by
  unfold Jobs.heaterExpiry
  grind (ematch := 20) [Lawful.trans, Lawful.refl, Lawful.takeExpiry, Lawful.nextPhase]


theorem Lawful.dropScraper (j : Jobs) : Lawful j (j.dropScraper) := by
  unfold Jobs.dropScraper
  grind (ematch := 20) [Lawful.trans, Lawful.refl, Lawful.lower, Lawful.setIce]


theorem Lawful.setMode (m : IceMode) (j : Jobs) : Lawful j (j.setMode m) := by
  unfold Jobs.setMode
  grind (ematch := 20) [Lawful.trans, Lawful.refl, Lawful.setIce, Lawful.followCycle, Lawful.flag, Lawful.push]


theorem Lawful.leaveTo (m : IceMode) (j : Jobs) : Lawful j (j.leaveTo m) := by
  unfold Jobs.leaveTo
  grind (ematch := 20) [Lawful.trans, Lawful.refl, Lawful.dropScraper, Lawful.setMode]


theorem Lawful.scraperRefused (m : IceMode) (j : Jobs) : Lawful j (j.scraperRefused m) := by
  unfold Jobs.scraperRefused
  grind (ematch := 20) [Lawful.trans, Lawful.refl, Lawful.setIce, Lawful.leaveTo]


theorem Lawful.enterScrape (j : Jobs) : Lawful j j.enterScrape := by
  have hr : ∀ (x : Panto) (r : Role) (b : Asker) (k : Jobs), Lawful k (k.raise x r b).2 := Lawful.raise
  unfold Jobs.enterScrape
  grind (ematch := 20) [Lawful.trans, Lawful.refl, Lawful.leaveTo, Lawful.setIce, Lawful.setMode, Lawful.scraperRefused]


theorem Lawful.choose (j : Jobs) : Lawful j (j.choose) := by
  unfold Jobs.choose
  grind (ematch := 20) [Lawful.trans, Lawful.refl, Lawful.touchPermits, Lawful.enterScrape, Lawful.leaveTo]


theorem Lawful.chooseUnlessSuspended (j : Jobs) : Lawful j (j.chooseUnlessSuspended) := by
  unfold Jobs.chooseUnlessSuspended
  grind (ematch := 20) [Lawful.trans, Lawful.refl, Lawful.choose]


theorem Lawful.watch (j : Jobs) : Lawful j (j.watch) := by
  unfold Jobs.watch
  grind (ematch := 20) [Lawful.trans, Lawful.refl, Lawful.touchPermits, Lawful.scraperRefused, Lawful.leaveTo]


theorem Lawful.suspendIfMust (j : Jobs) : Lawful j j.suspendIfMust := by
  unfold Jobs.suspendIfMust
  grind [Lawful.refl, Lawful.leaveTo]

theorem Lawful.endSuspension (j : Jobs) : Lawful j j.endSuspension := by
  unfold Jobs.endSuspension
  grind (ematch := 20) [Lawful.trans, Lawful.setIce, Lawful.choose]


theorem Lawful.suspension (j : Jobs) : Lawful j (j.suspension) := by
  unfold Jobs.suspension
  grind (ematch := 20) [Lawful.trans, Lawful.refl, Lawful.suspendIfMust, Lawful.endSuspension]


theorem Lawful.restartCycle (x : Panto) (j : Jobs) : Lawful j (j.restartCycle x) := by
  unfold Jobs.restartCycle
  grind (ematch := 20) [Lawful.trans, Lawful.refl, Lawful.startCycle]


theorem Lawful.assess (tag : Long) (j : Jobs) : Lawful j (j.assess tag) := by
  unfold Jobs.assess
  grind (ematch := 20) [Lawful.trans, Lawful.refl, Lawful.touchIce, Lawful.setIce, Lawful.flag, Lawful.restartCycle, Lawful.ocReact, Lawful.chooseUnlessSuspended]


theorem Lawful.iceAssessment (j : Jobs) : Lawful j (j.iceAssessment) := by
  unfold Jobs.iceAssessment
  grind (ematch := 20) [Lawful.trans, Lawful.refl, Lawful.takeExpiry, Lawful.assess, Lawful.touchIce, Lawful.onTimer]


theorem Lawful.requestIceMode (arg : Byte) (j : Jobs) : Lawful j ((j.requestIceMode arg).2) := by
  unfold Jobs.requestIceMode
  grind (ematch := 20) [Lawful.trans, Lawful.refl, Lawful.setIce, Lawful.choose]


theorem Lawful.rebuild (keep : Bool) (j : Jobs) : Lawful j (j.rebuild keep) := by
  unfold Jobs.rebuild
  grind (ematch := 20) [Lawful.trans, Lawful.refl, Lawful.touchMaps, Lawful.setOc]


theorem Lawful.markAll (j : Jobs) : Lawful j (j.markAll) := by
  unfold Jobs.markAll
  grind (ematch := 20) [Lawful.trans, Lawful.refl, Lawful.setOc]


theorem Lawful.touchPoint (e : Option PointEntry) (j : Jobs) : Lawful j (j.touchPoint e) := by
  unfold Jobs.touchPoint
  grind (ematch := 20) [Lawful.trans, Lawful.refl, Lawful.touchMaps, Lawful.touchAll]


theorem Lawful.onEntry (p : Word) (f : PointEntry → PointEntry) (j : Jobs) : Lawful j (j.setOc (j.oc.onEntry p f)) :=
  Lawful.setOc _ j


theorem Lawful.admitWord (p w : Word) (j : Jobs) : Lawful j (j.admitWord p w).2 := by
  unfold Jobs.admitWord
  grind (ematch := 20) [Lawful.trans, Lawful.onEntry, Lawful.touchPoint, Lawful.flag]


theorem Lawful.admitWords (n c : Nat) (ws : List Word) (j : Jobs) : Lawful j (j.admitWords n c ws).2 := by
  induction ws generalizing c j with
  | nil => exact Lawful.refl j
  | cons w rest ih =>
    simp only [Jobs.admitWords]
    split
    · exact (Lawful.admitWord _ w j).trans (ih _ _)
    · exact ih _ _


theorem Lawful.recomposeWords (n c : Nat) (ws : List Word) (j : Jobs) : Lawful j (j.recomposeWords n c ws).2 := by
  induction ws generalizing c j with
  | nil => exact Lawful.refl j
  | cons w rest ih =>
    simp only [Jobs.recomposeWords]
    refine Lawful.trans ?_ (ih _ _)
    grind (ematch := 20) [Lawful.trans, Lawful.refl, Lawful.onEntry, Lawful.touchMaps]


theorem Lawful.compose (e : PointEntry) (j : Jobs) : Lawful j (j.compose e).2 := by
  unfold Jobs.compose
  generalize j.composed e = w
  dsimp only
  have h : Lawful j (j.setOc { j.oc.onEntry e.point (fun e => { e with lastSent := w, pending := false }) with
      seq := j.oc.seq + 1 }) := Lawful.setOc _ j
  exact h.trans (Lawful.touchPoint (some e) _)


theorem Lawful.requestHoldOff (j : Jobs) : Lawful j ((j.requestHoldOff).2) := by
  unfold Jobs.requestHoldOff
  grind (ematch := 20) [Lawful.trans, Lawful.refl, Lawful.releaseHold]



theorem Lawful.syncFeedback (j : Jobs) : Lawful j (j.syncFeedback) := by
  unfold Jobs.syncFeedback
  grind (ematch := 20) [Lawful.trans, Lawful.refl, Lawful.setFb, Lawful.push]


theorem Lawful.feedbackMeasure (q : Word) (payload : List Word) (j : Jobs) : Lawful j (j.feedbackMeasure q payload) := by
  unfold Jobs.feedbackMeasure
  grind (ematch := 20) [Lawful.trans, Lawful.refl, Lawful.touchMaps, Lawful.setFb, Lawful.setOc, Lawful.push]


theorem Lawful.react (c : Change) (j : Jobs) : Lawful j (j.react c) := by
  unfold Jobs.react
  grind (ematch := 20) [Lawful.trans, Lawful.refl, Lawful.lostEntries, Lawful.csReact, Lawful.ocReact, Lawful.suspendIfMust, Lawful.suspension, Lawful.chooseUnlessSuspended]


theorem Lawful.levels (j : Jobs) : Lawful j j.levels :=
  (((((((((((((Lawful.lostEntries j).trans (Lawful.syncFeedback _)).trans (Lawful.ocReact _)).trans (Lawful.ocSync _)).trans
    (Lawful.lowerBlind _ _)).trans (Lawful.lowerBlind _ _)).trans (Lawful.iceInputs _)).trans (Lawful.ocReact _)).trans (Lawful.suspension _)).trans
    (Lawful.ocReact _)).trans (Lawful.watch _)).trans (Lawful.ocReact _)).trans (Lawful.followCycle _ _)).trans (Lawful.followCycle _ _)


theorem Lawful.answer (c : Change) (j : Jobs) : Lawful j (j.answer c) := by
  unfold Jobs.answer
  grind (ematch := 20) [Lawful.trans, Lawful.refl, Lawful.ocReact, Lawful.react, Lawful.levels]


theorem Lawful.pump (n : Nat) (j : Jobs) : Lawful j (j.pump n) := by
  induction n generalizing j with
  | zero => exact Lawful.setTodo _ j
  | succ n ih =>
    simp only [Jobs.pump]
    split
    · exact Lawful.refl j
    · exact ((Lawful.setTodo _ j).trans (Lawful.answer _ _)).trans (ih _)


theorem Lawful.settle (j : Jobs) : Lawful j j.settle := (Lawful.pump _ j).trans (Lawful.ocSync _)

end Sys2Proof.Machine
end

