-- ==== Sys2Proof/Laws/Steps.lean ====
section
/-! SUPPORT. What taking and judging a frame does, when a reported flag is set, and what a command that is not kept
away by the RESET line answers. -/

namespace Sys2Proof.Machine

open Sys2Proof

/-- Outside a reset a command has its effect. -/
theorem State.unlessReset_of {s : State} (h : s.inReset = false) (f : State → State) : s.unlessReset f = .next (f s) := by
  simp [State.unlessReset, h]

/-- While the RESET line is asserted a command changes nothing. -/
theorem State.unlessReset_in {s : State} (h : s.inReset = true) (f : State → State) : s.unlessReset f = .next s := by
  simp [State.unlessReset, h]

/-! ### Taking and judging -/

/-- R132, R145, R150: taking a frame counts it received and empties its buffer; nothing else changes. -/
theorem State.take_spec (p : Port) (f : Frame) (s : State) :
    s.take p f = (if (s.port p).holds f then s.setPort p { s.port p with buffers := (s.port p).buffers.tail } else s).setFr
      (s.fr.count p Counters.take) := by
  unfold State.take
  cases h : (s.port p).holds f
  · simp only [h]
    rfl
  · simp only [h]
    cases p <;> rfl

theorem State.take_jobs (p : Port) (f : Frame) (s : State) : (s.take p f).jobs = s.jobs := by
  rw [State.take_spec]; split
  · cases p <;> rfl
  · rfl

theorem State.take_train (f : Frame) (s : State) :
    (s.take .train f).train = (if s.train.holds f then { s.train with buffers := s.train.buffers.tail } else s.train) ∧
    (s.take .train f).roof = s.roof ∧ (s.take .train f).rb = s.rb ∧ (s.take .train f).latch = s.latch ∧
    (s.take .train f).nu = s.nu ∧ (s.take .train f).cb = s.cb ∧ (s.take .train f).pending = s.pending ∧
    (s.take .train f).inReset = s.inReset := by
  by_cases h : s.train.holds f = true <;> simp [State.take, State.port, State.setPort, h]

theorem State.take_fr (p : Port) (f : Frame) (s : State) : (s.take p f).fr = s.fr.count p Counters.take := by
  rw [State.take_spec]; rfl

/-- R145, R150: a frame judged is counted in its outcome, and the rest is as after a delivery. -/
theorem State.judge_spec (p : Port) (f : Frame) (d : Disposition) (k : Option Nat) (s : State) :
    Delivered (s.setFr (s.fr.count p (Counters.outcome d))) (s.judge p f d k) :=
  Delivered.offerFrame _ _ _ _ _ _

theorem State.judgeRouted_spec (p : Port) (f : Frame) (d : Disposition) (s : State) :
    Delivered (s.setFr (s.fr.count p (Counters.outcome d))) (s.judgeRouted p f d) :=
  (Delivered.onJobs _ (s.setFr (s.fr.count p (Counters.outcome d))) (Still.touchRouteOf f _)).trans
    (State.judge_spec p f d _ (s.matching f))

/-- R146: a frame consumed from the train port: taken, counted, offered to the capture buffer; the roof jobs are as
they were but for table memory's bookkeeping and what is to be reported. -/
theorem State.consume_spec (f : Frame) (s : State) :
    (s.consume f).fr.train = { s.fr.train with received := s.fr.train.received + 1, consumed := s.fr.train.consumed + 1 } ∧
    (s.consume f).fr.roof = s.fr.roof ∧ (s.consume f).fr.up = s.fr.up ∧ (s.consume f).fr.down = s.fr.down ∧
    (s.consume f).fr.lost = s.fr.lost ∧
    (s.consume f).train = (if s.train.holds f then { s.train with buffers := s.train.buffers.tail } else s.train) ∧
    (s.consume f).roof = s.roof ∧ (s.consume f).rb = s.rb ∧ (s.consume f).latch = s.latch ∧ (s.consume f).nu = s.nu ∧
    (s.consume f).pending = s.pending ∧ (s.consume f).inReset = s.inReset ∧ Still s.jobs (s.consume f).jobs := by
  have hj : Still s.jobs (s.consume f).jobs := by
    have h := (State.judgeRouted_spec .train f .consumed (s.take .train f)).jobs
    rw [show ((s.take .train f).setFr ((s.take .train f).fr.count .train (Counters.outcome .consumed))).jobs = s.jobs from
      State.take_jobs _ _ _] at h
    exact h
  have hn : ∀ (b : Bool) (u : State), (u.noteFrozen b).fr = u.fr ∧ (u.noteFrozen b).train = u.train ∧
      (u.noteFrozen b).roof = u.roof ∧ (u.noteFrozen b).rb = u.rb ∧ (u.noteFrozen b).latch = u.latch ∧
      (u.noteFrozen b).nu = u.nu ∧ (u.noteFrozen b).pending = u.pending ∧ (u.noteFrozen b).inReset = u.inReset := by
    intro b u
    cases b <;> exact ⟨rfl, rfl, rfl, rfl, rfl, rfl, rfl, rfl⟩
  have ho : ∀ (p : Port) (dir : Direction) (d : Disposition) (n : Option Nat) (u : State),
      (u.offerFrame p dir f d n).fr = u.fr ∧ (u.offerFrame p dir f d n).train = u.train ∧
      (u.offerFrame p dir f d n).roof = u.roof ∧ (u.offerFrame p dir f d n).rb = u.rb ∧
      (u.offerFrame p dir f d n).latch = u.latch ∧ (u.offerFrame p dir f d n).nu = u.nu ∧
      (u.offerFrame p dir f d n).pending = u.pending ∧ (u.offerFrame p dir f d n).inReset = u.inReset := by
    intro p dir d n u
    unfold State.offerFrame
    split
    · exact hn _ _
    · exact ⟨rfl, rfl, rfl, rfl, rfl, rfl, rfl, rfl⟩
  obtain ⟨h1, h2, h3, h4, h5, h6, h7, h8⟩ := ho .train (Port.inward .train) .consumed ((s.take .train f).jobs.routeOf f)
    (((s.take .train f).matching f).setFr ((s.take .train f).fr.count .train (Counters.outcome .consumed)))
  obtain ⟨t1, t2, t3, t4, t5, -, t7, t8⟩ := State.take_train f s
  have hf : (s.consume f).fr = (s.fr.count .train Counters.take).count .train (Counters.outcome .consumed) :=
    h1.trans (congrArg (Router.count .train (Counters.outcome .consumed)) (State.take_fr .train f s))
  exact ⟨by rw [hf]; rfl, by rw [hf]; rfl, by rw [hf]; rfl, by rw [hf]; rfl, by rw [hf]; rfl, h2.trans t1, h3.trans t2, h4.trans t3, h5.trans t4, h6.trans t5, h7.trans t7, h8.trans t8, hj⟩

/-! ### Reported flags are set -/

/-- An offer to the capture buffer adds at most one report, in front, and then the buffer is frozen. -/
theorem State.offer_out (frame hit : Bool) (e : CaptureEntry) (s : State) :
    let t := (s.setCb (s.cb.offer frame hit e).1).noteFrozen (s.cb.offer frame hit e).2
    (t.jobs.out = s.jobs.out ∧ (s.cb.state = .frozen → t.cb.state = .frozen)) ∨
    (t.jobs.out = .flag .captureFrozen 0 s.jobs.dev s.jobs.lsi.confirmed :: s.jobs.out ∧ s.cb.state ≠ .frozen ∧ t.cb.state = .frozen) := by
  obtain ⟨-, -, -, -, -, hf, hz⟩ := Capture.offer_spec frame hit e s.cb
  intro t
  cases hb : (s.cb.offer frame hit e).2 with
  | false =>
    refine .inl ⟨?_, fun h => ?_⟩
    · show (((s.setCb (s.cb.offer frame hit e).1).noteFrozen (s.cb.offer frame hit e).2)).jobs.out = _
      rw [hb]; rfl
    · show (((s.setCb (s.cb.offer frame hit e).1).noteFrozen (s.cb.offer frame hit e).2)).cb.state = _
      rw [hb, hf h]; exact h
  | true =>
    refine .inr ⟨?_, (hz hb).1, ?_⟩
    · show (((s.setCb (s.cb.offer frame hit e).1).noteFrozen (s.cb.offer frame hit e).2)).jobs.out = _
      rw [hb]; rfl
    · show (((s.setCb (s.cb.offer frame hit e).1).noteFrozen (s.cb.offer frame hit e).2)).cb.state = _
      rw [hb]; exact (hz hb).2

/-- How much later than its place a report may be delivered: one place, until the capture buffer is frozen. -/
def State.slack (s : State) : Nat := if s.cb.state = .frozen then 0 else 1

/-- `t` reports what `s` had to report, perhaps one place later. -/
def Queues (s t : State) : Prop :=
  ∃ pre, (∀ i r, s.jobs.out[i]? = some r → t.jobs.out[i + pre]? = some r) ∧ pre + t.slack ≤ s.slack

theorem Queues.refl (s : State) : Queues s s := ⟨0, fun _ _ h => h, by omega⟩

theorem Queues.trans {s t u : State} (h : Queues s t) (h' : Queues t u) : Queues s u := by
  obtain ⟨a, ha, hs⟩ := h
  obtain ⟨b, hb, ht⟩ := h'
  refine ⟨a + b, fun i r hi => ?_, by omega⟩
  rw [← Nat.add_assoc]
  exact hb _ _ (ha _ _ hi)

theorem Queues.offer (frame hit : Bool) (e : CaptureEntry) (s : State) :
    Queues s ((s.setCb (s.cb.offer frame hit e).1).noteFrozen (s.cb.offer frame hit e).2) := by
  rcases State.offer_out frame hit e s with ⟨ho, hf⟩ | ⟨ho, hn, hf⟩
  · refine ⟨0, fun i r h => by rw [ho]; exact h, ?_⟩
    unfold State.slack
    split <;> split <;> first | omega | (exfalso; simp_all)
  · refine ⟨1, fun i r h => by rw [ho]; simpa using h, ?_⟩
    unfold State.slack
    rw [if_pos hf, if_neg hn]

theorem Queues.offerFrame (p : Port) (dir : Direction) (f : Frame) (d : Disposition) (n : Option Nat) (s : State) :
    Queues s (s.offerFrame p dir f d n) := by
  unfold State.offerFrame
  split
  · exact Queues.offer _ _ _ s
  · exact Queues.refl s

theorem Queues.offerEvent (f : Flag) (n : Word) (dev : Device) (line : Line) (s : State) :
    Queues s (s.offerEvent f n dev line) := Queues.offer _ _ _ s

theorem Queues.of_prefix {s t : State} (h : s.jobs.out <+: t.jobs.out) (hc : t.cb = s.cb) : Queues s t := by
  refine ⟨0, fun i r hi => ?_, by unfold State.slack; rw [hc]; omega⟩
  obtain ⟨rest, e⟩ := h
  rw [← e, Nat.add_zero]
  obtain ⟨hl, -⟩ := List.getElem?_eq_some_iff.mp hi
  rw [List.getElem?_append_left hl]
  exact hi

theorem Queues.setFr (r : Router) (s : State) : Queues s (s.setFr r) := Queues.refl s
theorem Queues.setNu (v : Notices) (s : State) : Queues s (s.setNu v) := Queues.refl s
theorem Queues.stepSeq (s : State) : Queues s s.stepSeq := Queues.setNu _ s

theorem Queues.onJobs (g : Jobs → Jobs) (s : State) (h : Held s.jobs (g s.jobs)) : Queues s (s.onJobs g) :=
  Queues.of_prefix (t := s.onJobs g) h.out rfl

theorem Queues.originate (f : Frame) (s : State) : Queues s (s.originate f) := by
  unfold State.originate
  exact ((Queues.setFr _ s).trans (Queues.offerFrame _ _ _ _ _ _)).trans (Queues.onJobs _ _ (Held.touchRouteOf f _))

theorem Queues.deliver (r : Report) (s : State) : Queues s (s.deliver r) := by
  cases r with
  | flag f n dev line =>
    simp only [State.deliver]
    have h : Queues s (((s.setNu { s.nu with flags := setFlag f s.nu.flags }).offerEvent f n dev line).onJobs
        (fun j => j.touch f.maskAddr)) :=
      ((Queues.setNu _ s).trans (Queues.offerEvent f n dev line _)).trans (Queues.onJobs _ _ (Held.touch _ _))
    split
    · exact (h.trans (Queues.originate _ _)).trans (Queues.stepSeq _)
    · exact h
  | status => exact (Queues.originate _ s).trans (Queues.stepSeq _)
  | frame f => exact Queues.originate f s

/-- A delivered flag is set. -/
theorem State.deliver_flag (f : Flag) (n : Word) (dev : Device) (line : Line) (s : State) :
    flagSet f (s.deliver (.flag f n dev line)).nu.flags = true := by
  have h0 : flagSet f (s.setNu { s.nu with flags := setFlag f s.nu.flags }).nu.flags = true := (setFlag_spec f _).1
  have h1 := (Delivered.offerEvent f n dev line (s.setNu { s.nu with flags := setFlag f s.nu.flags })).flags _ h0
  simp only [State.deliver]
  split
  · refine (Delivered.trans (Delivered.originate _ _) (Delivered.stepSeq _)).flags _ ?_
    exact h1
  · exact h1

/-- A flag among the first thousand reports of a step is set by the step's end (R188). -/
theorem State.drain_flag {f : Flag} {n : Word} {dev : Device} {line : Line} (m i : Nat) (s : State)
    (hi : s.jobs.out[i]? = some (.flag f n dev line))
    (hm : i + s.slack < m) : flagSet f (s.drain m).nu.flags = true := by
  induction m generalizing i s with
  | zero => omega
  | succ m ih =>
    simp only [State.drain]
    cases ho : s.jobs.out with
    | nil => simp [ho] at hi
    | cons r rest =>
      rw [ho] at hi
      have hq := Queues.deliver r (s.onJobs (fun j => j.setOut rest))
      cases i with
      | zero =>
        simp only [List.getElem?_cons_zero, Option.some.injEq] at hi
        subst hi
        exact (Delivered.drain _ _).flags _ (State.deliver_flag f n dev line _)
      | succ i =>
        obtain ⟨p, hp, hs⟩ := hq
        have hs' : p + ((s.onJobs (fun j => j.setOut rest)).deliver r).slack ≤ s.slack := hs
        exact ih (i + p) _ (hp i _ (by simp only [List.getElem?_cons_succ] at hi; exact hi)) (by omega)

/-- R188: a flag that a step's work reports is set when the step has ended. -/
theorem State.finish_flag {f : Flag} {n : Word} {dev : Device} {line : Line} (s : State) (i : Nat)
    (hi : s.jobs.out[i]? = some (.flag f n dev line))
    (h : i < 1000) : flagSet f s.finish.nu.flags = true := by
  have ho := (Held.settle s.jobs).out
  have hi' : (s.onJobs Jobs.settle).jobs.out[i]? = some (.flag f n dev line) := by
    obtain ⟨rest, e⟩ := ho
    show s.jobs.settle.out[i]? = _
    rw [← e]
    obtain ⟨hl, -⟩ := List.getElem?_eq_some_iff.mp hi
    rw [List.getElem?_append_left hl]
    exact hi
  refine State.drain_flag 1024 i (s.onJobs Jobs.settle) hi' ?_
  have : (s.onJobs Jobs.settle).slack ≤ 1 := by unfold State.slack; split <;> omega
  omega

end Sys2Proof.Machine
end

