-- ==== Sys2Proof/Laws/Good.lean ====
section
/-! SUPPORT. The laws of the roof jobs together, and the functions that are no work of the roof jobs alone (the node
records, writes of table memory, COMMISSION, RESTART, the tick, the force flags). `Good w j k` says that `k` keeps every
law that `j` has; where `w` is `false`, table memory reads as before. -/

namespace Sys2Proof.Machine

open Sys2Proof

/-- The node records are in canonical form. -/
abbrev Jobs.nodesWf (j : Jobs) : Prop := Store.wf ({} : NodeRec) j.nodes = true

/-- R110 -/
def Outputs.apart (o : Outputs) : Prop := o.lowerAll = true → o.hold = false

structure Good (w : Bool) (j k : Jobs) : Prop where
  table : j.tableWf → k.tableWf
  reads : w = false → j.tableWf → ∀ b, (k.cell b).data = (j.cell b).data ∧ (k.cell b).bad = (j.cell b).bad
  nodes : j.nodesWf → k.nodesWf
  list : j.cs.bounded → k.cs.bounded
  pulse : j.cs.pulseCloses → k.cs.pulseCloses
  apart : j.oc.apart → k.oc.apart
  isolators : j.isolators → k.isolators
  records : j.lmu.bounded → k.lmu.bounded

variable {w : Bool} {j k l : Jobs}

theorem Good.refl (j : Jobs) : Good w j j := ⟨id, fun _ _ _ => ⟨rfl, rfl⟩, id, id, id, id, id, id⟩

theorem Good.trans (h : Good w j k) (h' : Good w k l) : Good w j l where
  table := h'.table ∘ h.table
  reads hw ht b := ⟨((h'.reads hw (h.table ht)) b).1.trans ((h.reads hw ht) b).1,
    ((h'.reads hw (h.table ht)) b).2.trans ((h.reads hw ht) b).2⟩
  nodes := h'.nodes ∘ h.nodes
  list := h'.list ∘ h.list
  pulse := h'.pulse ∘ h.pulse
  apart := h'.apart ∘ h.apart
  isolators := h'.isolators ∘ h.isolators
  records := h'.records ∘ h.records

/-- Work of the roof jobs is good. -/
theorem Good.of (h : Held j k) (hl : Lawful j k) : Good w j k where
  table ht := (h.mem ht).1
  reads _ ht := (h.mem ht).2
  nodes hn := by unfold Jobs.nodesWf; rw [h.nodes]; exact hn
  list := h.list
  pulse := h.pulse
  apart ha hk := by
    cases hh : k.oc.hold with
    | false => rfl
    | true => exact absurd (h.hold hh) (by rw [ha (by rw [← h.lowerAll]; exact hk)]; decide)
  isolators := hl.isolators
  records := hl.records

/-- Delivery is good. -/
theorem Good.still (h : Still j k) : Good w j k := by
  have e := h.rest
  refine ⟨fun ht => (h.mem ht).1, fun _ ht => (h.mem ht).2, ?_, ?_, ?_, ?_, ?_, ?_⟩ <;> (rw [e]; exact id)

theorem Good.setTmr (v : Timers) (j : Jobs) : Good w j (j.setTmr v) := .of (Held.setTmr v j) (Lawful.setTmr v j)
theorem Good.setTag (v : Long) (j : Jobs) : Good w j (j.setTag v) := ⟨id, fun _ _ _ => ⟨rfl, rfl⟩, id, id, id, id, id, id⟩
theorem Good.setDev (v : Device) (j : Jobs) : Good w j (j.setDev v) := ⟨id, fun _ _ _ => ⟨rfl, rfl⟩, id, id, id, id, id, id⟩
theorem Good.push (c : Change) (j : Jobs) : Good w j (j.push c) := .of (Held.push c j) (Lawful.push c j)
theorem Good.report (r : Report) (j : Jobs) : Good w j (j.report r) := .of (Held.report r j) (Lawful.report r j)
theorem Good.flag (f : Flag) (n : Nat) (j : Jobs) : Good w j (j.flag f n) := Good.report _ j
theorem Good.touch (a : Nat) (j : Jobs) : Good w j (j.touch a) := .of (Held.touch a j) (Lawful.touch a j)
theorem Good.touchAll (as : List Nat) (j : Jobs) : Good w j (j.touchAll as) := .of (Held.touchAll as j) (Lawful.touchAll as j)
theorem Good.load (i : TimerId) (n : Nat) (m : TimerMode) (j : Jobs) : Good w j (j.load i n m) := Good.setTmr _ j
theorem Good.stop (i : TimerId) (j : Jobs) : Good w j (j.stop i) := Good.setTmr _ j
theorem Good.onTimer (i : TimerId) (f : Timer → Timer) (j : Jobs) : Good w j (j.onTimer i f) := Good.setTmr _ j
theorem Good.takeExpiry (i : TimerId) (j : Jobs) : Good w j (j.takeExpiry i) := Good.setTmr _ j
theorem Good.setSpeed (v : SpeedRec) (j : Jobs) : Good w j (j.setSpeed v) := .of (Held.setSpeed v j) (Lawful.setSpeed v j)
theorem Good.setOut (v : List Report) (j : Jobs) : Good w j (j.setOut v) := Good.still (Still.setOut v j)
theorem Good.setTodo (v : List Change) (j : Jobs) : Good w j (j.setTodo v) := Good.still (Still.setTodo v j)
theorem Good.touchRouteOf (f : Frame) (j : Jobs) : Good w j (j.touchRouteOf f) := Good.still (Still.touchRouteOf f j)
theorem Good.settle (j : Jobs) : Good w j j.settle := .of (Held.settle j) (Lawful.settle j)

/-- An update of the outputs that keeps the force flags. -/
theorem Good.setOc (v : Outputs) (j : Jobs) (h1 : v.lowerAll = j.oc.lowerAll) (h2 : v.hold = j.oc.hold) :
    Good w j (j.setOc v) := .of (Held.setOc_rest v j h1 h2) (Lawful.setOc v j)

theorem Good.markAll (j : Jobs) : Good w j j.markAll := .of (Held.markAll j) (Lawful.markAll j)

/-! ### The node records -/

theorem Good.setNode (n : Nat) (r : NodeRec) (j : Jobs) : Good w j (j.setNode n r) :=
  ⟨id, fun _ _ _ => ⟨rfl, rfl⟩, fun h => Store.wf_write h n r, id, id, id, id, id⟩

theorem Good.nodeAsked (n : Nat) (j : Jobs) : Good w j (j.nodeAsked n) := by
  unfold Jobs.nodeAsked
  split
  · exact (Good.setNode _ _ j).trans (Good.push _ _)
  · exact Good.refl j

theorem Good.nodeAnswered (n : Nat) (j : Jobs) : Good w j (j.nodeAnswered n) := by
  unfold Jobs.nodeAnswered
  split
  · dsimp only
    have h := fun r => (Good.setNode (w := w) n r j).trans (Good.push .look _)
    split
    · exact (h _).trans (Good.flag _ _ _)
    · exact h _
  · exact Good.refl j

theorem Good.nodeMissed (n : Nat) (j : Jobs) : Good w j (j.nodeMissed n) := by
  unfold Jobs.nodeMissed
  dsimp only
  split
  · split
    · exact Good.setNode _ _ j
    · exact Good.refl j
    · split
      · exact Good.setNode _ _ j
      · exact ((Good.setNode _ _ j).trans (Good.push _ _)).trans (Good.flag _ _ _)
  · exact Good.refl j

theorem Held.bindings (f : Frame) (j : Jobs) : Held j (j.bindings f) := by
  unfold Jobs.bindings
  split
  · exact ((((Held.lmuMeasure _ _ j).trans (Held.pantoMeasure _ _ _ _)).trans (Held.pantoMeasure _ _ _ _)).trans
      (Held.iceMeasure _ _ _)).trans (Held.feedbackMeasure _ _ _)
  · exact Held.refl j

theorem Lawful.bindings (f : Frame) (j : Jobs) : Lawful j (j.bindings f) := by
  unfold Jobs.bindings
  split
  · exact ((((Lawful.lmuMeasure _ _ j).trans (Lawful.pantoMeasure _ _ _ _)).trans (Lawful.pantoMeasure _ _ _ _)).trans
      (Lawful.iceMeasure _ _ _)).trans (Lawful.feedbackMeasure _ _ _)
  · exact Lawful.refl j

theorem Good.bindings (f : Frame) (j : Jobs) : Good w j (j.bindings f) := .of (Held.bindings f j) (Lawful.bindings f j)

/-! ### Writes -/

theorem Good.storeWord (a : Nat) (v : Word) (p : BitVec 6) (j : Jobs) : Good true j (j.storeWord a v p) := by
  unfold Jobs.storeWord
  split
  · exact ⟨fun h => TableMem.wf_store h _ _, fun h => absurd h (by decide), id, id, id, id, id, id⟩
  · exact Good.refl j

theorem Good.storeWords (a : Nat) (ws : List Word) (j : Jobs) : Good true j (Jobs.storeWords a ws j) := by
  induction ws generalizing a j with
  | nil => exact Good.refl j
  | cons v rest ih => exact (Good.storeWord a v 0 j).trans (ih _ _)

theorem Good.newPeriod (j : Jobs) : Good w j j.newPeriod := by
  unfold Jobs.newPeriod
  dsimp only
  split
  · exact Good.stop _ j
  · split
    · exact Good.onTimer _ _ j
    · exact Good.load _ _ _ j

theorem Good.restartMeasurement (j : Jobs) : Good w j j.restartMeasurement :=
  .of (Held.restartMeasurement j) (Lawful.restartMeasurement j)

theorem Good.rebuild (keep : Bool) (j : Jobs) : Good w j (j.rebuild keep) := .of (Held.rebuild keep j) (Lawful.rebuild keep j)

theorem Good.afterWrite (as : List Nat) (j : Jobs) : Good w j (j.afterWrite as) := by
  unfold Jobs.afterWrite
  dsimp only
  refine Good.trans ?_ (Good.push _ _)
  have h : ∀ (p : Prop) [Decidable p] (f : Jobs → Jobs), (∀ i, Good w i (f i)) → ∀ i, Good w i (if p then f i else i) := by
    intro p _ f hf i
    split
    · exact hf i
    · exact Good.refl i
  exact ((h _ _ Good.restartMeasurement j).trans (h _ _ (Good.rebuild true) _)).trans (h _ _ Good.newPeriod _)

/-! ### COMMISSION, RESTART and the tick -/

theorem Good.touchChecks (j : Jobs) : Good w j j.touchChecks := Good.touchAll _ j

theorem Good.startLowering (x : Panto) (j : Jobs) : Good w j (j.startLowering x) := by
  unfold Jobs.startLowering
  split
  · exact (Good.touch _ j).trans (Good.load _ _ _ _)
  · exact Good.refl j

theorem Jobs.polledNodes_wf (j : Jobs) : Store.wf ({} : NodeRec) j.polledNodes = true := by
  unfold Jobs.polledNodes
  have h : ∀ (is : List Nat) (m : Store NodeRec), Store.wf ({} : NodeRec) m = true →
      Store.wf ({} : NodeRec) (is.foldl (fun m i => Store.write {} (j.slotNode i) { state := .waiting } m) m) = true := by
    intro is
    induction is with
    | nil => exact fun m h => h
    | cons i is ih => exact fun m h => ih _ (Store.wf_write h _ _)
  exact h _ _ rfl

theorem Good.setNodes (v : Store NodeRec) (j : Jobs) (h : Store.wf ({} : NodeRec) v = true) : Good w j (j.setNodes v) :=
  ⟨id, fun _ _ _ => ⟨rfl, rfl⟩, fun _ => h, id, id, id, id, id⟩

theorem Good.freshOc (j : Jobs) : Good w j (j.setOc { ({} : Outputs) with table := [] }) :=
  ⟨id, fun _ _ _ => ⟨rfl, rfl⟩, id, id, id, fun _ _ => rfl, id, id⟩

theorem Good.freshCs (j : Jobs) : Good w j (j.setCs {}) :=
  ⟨id, fun _ _ _ => ⟨rfl, rfl⟩, id, fun _ => Nat.zero_le _, fun _ h => absurd h Bool.false_ne_true, id, id, id⟩

theorem Good.setLsi (v : Lsi) (j : Jobs) : Good w j (j.setLsi v) := .of (Held.setLsi v j) (Lawful.setLsi v j)
theorem Good.setFb (v : Feedback) (j : Jobs) : Good w j (j.setFb v) := .of (Held.setFb v j) (Lawful.setFb v j)
theorem Good.setIce (v : Ice) (j : Jobs) : Good w j (j.setIce v) := .of (Held.setIce v j) (Lawful.setIce v j)

theorem Good.enterRun (j : Jobs) : Good w j j.enterRun := by
  have hn := Jobs.polledNodes_wf j
  unfold Jobs.enterRun Jobs.touchIce
  dsimp only
  refine Good.trans (k := ((((((((j.touchAll ((List.range Config.pollSlots).map slotAddr)).setCs {}).setSpeed {}).setFb {}).setIce {}).setLsi
    { since := (j.touchAll ((List.range Config.pollSlots).map slotAddr)).tag }).setNodes j.polledNodes).setOc { ({} : Outputs) with table := [] })) ?_ ?_
  · exact (((((((Good.touchAll _ j).trans (Good.freshCs _)).trans (Good.setSpeed _ _)).trans (Good.setFb _ _)).trans
      (Good.setIce _ _)).trans (Good.setLsi _ _)).trans (Good.setNodes _ _ hn)).trans (Good.freshOc _)
  · generalize ((((((((j.touchAll ((List.range Config.pollSlots).map slotAddr)).setCs {}).setSpeed {}).setFb {}).setIce {}).setLsi
      { since := (j.touchAll ((List.range Config.pollSlots).map slotAddr)).tag }).setNodes j.polledNodes).setOc { ({} : Outputs) with table := [] }) = i
    have h : Good w i ((((((i.rebuild false).setDev .run).restartMeasurement).startLowering .p1).startLowering .p2)) :=
      ((((Good.rebuild _ i).trans (Good.setDev _ _)).trans (Good.restartMeasurement _)).trans (Good.startLowering _ _)).trans
        (Good.startLowering _ _)
    generalize ((((((i.rebuild false).setDev .run).restartMeasurement).startLowering .p1).startLowering .p2)) = m at h ⊢
    have h2 := h.trans ((((Good.touchAll (0x180 :: [12].map (0x180 + ·)) m).trans (Good.load .t10 m.assessPeriod .periodic _)).trans
      (Good.load .t14 Config.refreshTime .periodic _)).trans (Good.touch 4 _))
    split
    · exact h2.trans (Good.stop _ _)
    · exact h2.trans (Good.load _ _ _ _)

/-- The roof jobs at their resets have every law, with table memory kept. -/
theorem Good.resetJobs (tag : Long) (tm : TableMem) (c1 c2 : Option Cause) (hm : tm.mem = j.tm.mem) :
    Good w j (Jobs.resetJobs tag tm c1 c2) := by
  refine Good.trans (k := { ({} : Jobs) with tag := tag, tm := tm, lsi := { since := tag }, p1 := { cause := c1 }, p2 := { cause := c2 } }) ?_
    (Good.rebuild false _)
  refine ⟨?_, ?_, fun _ => rfl, fun _ => Nat.zero_le _, fun _ h => absurd h Bool.false_ne_true, fun _ h => absurd h Bool.false_ne_true, fun _ => ?_, fun _ => ?_⟩
  · intro h; show Store.wf _ tm.mem = true; rw [hm]; exact h
  · intro _ _ b
    show (Store.read {} b tm.mem).data = _ ∧ (Store.read {} b tm.mem).bad = _
    rw [hm]; exact ⟨rfl, rfl⟩
  · exact ⟨by simp, by simp, by simp⟩
  · exact ⟨by simp, by simp⟩

theorem Good.setTm (v : TableMem) (j : Jobs) (h : v.mem = j.tm.mem) : Good w j (j.setTm v) := by
  refine ⟨?_, ?_, id, id, id, id, id, id⟩
  · intro ht; show Store.wf _ v.mem = true; rw [h]; exact ht
  · intro _ _ b
    show (Store.read {} b v.mem).data = _ ∧ (Store.read {} b v.mem).bad = _
    rw [h]; exact ⟨rfl, rfl⟩

theorem Good.scrubRead (j : Jobs) : Good w j j.scrubRead := (Good.touch _ j).trans (Good.setTm _ _ (by rfl))

theorem Good.ageFeatures (j : Jobs) : Good w j j.ageFeatures := .of (Held.ageFeatures j) (Lawful.ageFeatures j)

theorem Good.tick (j : Jobs) : Good w j j.tick :=
  (((Good.setTag _ j).trans (Good.setTmr _ _)).trans (Good.setSpeed _ _)).trans (Good.ageFeatures _)

/-! ### The force flags -/

theorem Good.requestLowerAllOn (arg : Byte) (j : Jobs) : Good w j (j.requestLowerAllOn arg).2 := by
  unfold Jobs.requestLowerAllOn
  split
  · exact Good.refl j
  · split
    · exact Good.refl j
    · dsimp only
      have h : Held ((j.setOc { j.oc with lowerAll := true }).flag .lowerAll 0).releaseHold
          ((((((j.setOc { j.oc with lowerAll := true }).flag .lowerAll 0).releaseHold).push .lowerAllOn).lower .p1).lower .p2) :=
        ((Held.push _ _).trans (Held.lower _ _)).trans (Held.lower _ _)
      have hl : Lawful ((j.setOc { j.oc with lowerAll := true }).flag .lowerAll 0).releaseHold
          ((((((j.setOc { j.oc with lowerAll := true }).flag .lowerAll 0).releaseHold).push .lowerAllOn).lower .p1).lower .p2) :=
        ((Lawful.push _ _).trans (Lawful.lower _ _)).trans (Lawful.lower _ _)
      refine Good.trans (k := ((j.setOc { j.oc with lowerAll := true }).flag .lowerAll 0).releaseHold) ?_ (.of h hl)
      unfold Jobs.releaseHold
      split
      · exact ⟨id, fun _ _ _ => ⟨rfl, rfl⟩, id, id, id, fun _ _ => rfl, id, id⟩
      · rename_i hh
        refine ⟨id, fun _ _ _ => ⟨rfl, rfl⟩, id, id, id, fun _ _ => ?_, id, id⟩
        simpa using hh

theorem Good.requestLowerAllOff (j : Jobs) : Good w j j.requestLowerAllOff.2 := by
  unfold Jobs.requestLowerAllOff
  dsimp only
  split
  · exact ⟨id, fun _ _ _ => ⟨rfl, rfl⟩, id, id, id, fun _ h => absurd h Bool.false_ne_true, id, id⟩
  · exact Good.refl j

theorem Good.requestHoldOn (arg : Byte) (j : Jobs) : Good w j (j.requestHoldOn arg).2 := by
  unfold Jobs.requestHoldOn
  split
  · exact Good.refl j
  · split
    · exact Good.refl j
    · split
      · exact Good.refl j
      · rename_i h _
        exact ⟨id, fun _ _ _ => ⟨rfl, rfl⟩, id, id, id, fun _ h' => absurd h' h, id, id⟩

end Sys2Proof.Machine
end

