-- ==== Sys2Proof/Laws/Kept.lean ====
section
/-! SUPPORT. What every function of the whole part keeps. `Kept w s t` says that `t` keeps every law that `s` has: the
waiting commands, the roof jobs' laws (Good.lean), the capture memory's form, the bounds of the queues and of the receive
buffers, and the exchange record with its slot. -/

namespace Sys2Proof.Machine

open Sys2Proof

structure Kept (w : Bool) (s t : State) : Prop where
  pending : t.pending = s.pending
  jobs : Good w s.jobs t.jobs
  capture : Store.wf CaptureEntry.empty s.cb.mem = true → Store.wf CaptureEntry.empty t.cb.mem = true
  queues : QueuesBounded s → QueuesBounded t
  trainBuffers : s.train.buffers.length ≤ Config.receiveBuffers → t.train.buffers.length ≤ Config.receiveBuffers
  roofBuffers : s.roof.buffers.length ≤ Config.receiveBuffers → t.roof.buffers.length ≤ Config.receiveBuffers
  schedule : ScheduleWf s → ScheduleWf t

variable {w : Bool} {s t u : State}

theorem Kept.refl (s : State) : Kept w s s := ⟨rfl, Good.refl _, id, id, id, id, id⟩

theorem Kept.trans (h : Kept w s t) (h' : Kept w t u) : Kept w s u :=
  ⟨h'.pending.trans h.pending, h.jobs.trans h'.jobs, h'.capture ∘ h.capture, h'.queues ∘ h.queues,
   h'.trainBuffers ∘ h.trainBuffers, h'.roofBuffers ∘ h.roofBuffers, h'.schedule ∘ h.schedule⟩

theorem Kept.onJobs (f : Jobs → Jobs) (s : State) (h : Good w s.jobs (f s.jobs)) : Kept w s (s.onJobs f) :=
  ⟨rfl, h, id, id, id, id, id⟩

theorem Kept.setJobs (j : Jobs) (s : State) (h : Good w s.jobs j) : Kept w s (s.setJobs j) :=
  ⟨rfl, h, id, id, id, id, id⟩

theorem Kept.setTrain (v : PortState) (s : State)
    (h : s.train.buffers.length ≤ Config.receiveBuffers → v.buffers.length ≤ Config.receiveBuffers) :
    Kept w s (s.setTrain v) := { Kept.refl s with trainBuffers := h }

theorem Kept.setRoof (v : PortState) (s : State)
    (h : s.roof.buffers.length ≤ Config.receiveBuffers → v.buffers.length ≤ Config.receiveBuffers) :
    Kept w s (s.setRoof v) := { Kept.refl s with roofBuffers := h }

theorem Kept.setPort (p : Port) (v : PortState) (s : State)
    (h : (s.port p).buffers.length ≤ Config.receiveBuffers → v.buffers.length ≤ Config.receiveBuffers) :
    Kept w s (s.setPort p v) := by
  cases p
  · exact Kept.setTrain v s h
  · exact Kept.setRoof v s h

theorem Kept.setFr (v : Router) (s : State) (h : QueuesBounded s → QueuesBounded (s.setFr v)) : Kept w s (s.setFr v) :=
  { Kept.refl s with queues := h }

theorem Kept.setRb (v : Sched) (s : State) (h : ScheduleWf s → ScheduleWf (s.setRb v)) : Kept w s (s.setRb v) :=
  { Kept.refl s with schedule := h }

theorem Kept.setCb (v : Capture) (s : State) (h : v.mem = s.cb.mem) : Kept w s (s.setCb v) :=
  { Kept.refl s with capture := fun hw => by show Store.wf _ v.mem = true; rw [h]; exact hw }

theorem Kept.setNu (v : Notices) (s : State) : Kept w s (s.setNu v) := { Kept.refl s with }
theorem Kept.setLatch (v : Option Latch) (s : State) : Kept w s (s.setLatch v) := { Kept.refl s with }

/-- What is delivered keeps the laws. -/
theorem Kept.delivered (h : Delivered s t) : Kept w s t where
  pending := h.pending
  jobs := Good.still h.jobs
  capture := h.capture
  queues hq := ⟨h.room hq.1, by rw [h.share]; exact hq.2.1, by rw [h.down]; exact hq.2.2⟩
  trainBuffers hb := by rw [h.train]; exact hb
  roofBuffers hb := by rw [h.roof]; exact hb
  schedule hs := by unfold ScheduleWf; rw [h.rb]; exact hs

/-- The end of a step keeps the laws. -/
theorem Kept.finish (s : State) : Kept w s s.finish :=
  (Kept.onJobs Jobs.settle s (Good.settle _)).trans (Kept.delivered (State.finish_spec s).1)

theorem Kept.work (f : Jobs → Jobs) (s : State) (h : Good w s.jobs (f s.jobs)) : Kept w s (s.work f) :=
  (Kept.onJobs f s h).trans (Kept.finish _)

theorem Kept.drain (n : Nat) (s : State) : Kept w s (s.drain n) := Kept.delivered (Delivered.drain n s)

/-! ### Taking, judging, queueing -/

theorem Kept.count (p : Port) (g : Counters → Counters) (s : State) : Kept w s (s.setFr (s.fr.count p g)) :=
  Kept.setFr _ s (by cases p <;> exact id)

theorem Kept.take (p : Port) (f : Frame) (s : State) : Kept w s (s.take p f) := by
  rw [State.take_spec]
  split
  · exact (Kept.setPort p _ s (fun h => by simp only [List.length_tail]; omega)).trans
      (Kept.setFr _ _ (by cases p <;> exact id))
  · exact Kept.count _ _ s

theorem Kept.judge (p : Port) (f : Frame) (d : Disposition) (k : Option Nat) (s : State) : Kept w s (s.judge p f d k) :=
  (Kept.count _ _ s).trans (Kept.delivered (State.judge_spec p f d k s))

theorem Kept.matching (f : Frame) (s : State) : Kept w s (s.matching f) := Kept.onJobs _ _ (Good.touchRouteOf _ _)

theorem Kept.judgeRouted (p : Port) (f : Frame) (d : Disposition) (s : State) : Kept w s (s.judgeRouted p f d) :=
  (Kept.matching f s).trans (Kept.judge _ _ _ _ _)

theorem Kept.consume (f : Frame) (s : State) : Kept w s (s.consume f) := (Kept.take _ _ s).trans (Kept.judgeRouted _ _ _ _)

theorem Kept.pushUp (f : Frame) (s : State) (h : s.fr.takesForwarded = true) : Kept w s (s.setFr (s.fr.pushUp f true)) := by
  refine Kept.setFr _ s fun hq => ?_
  simp only [Router.takesForwarded, Bool.and_eq_true, decide_eq_true_eq] at h
  refine ⟨?_, ?_, hq.2.2⟩
  · show (s.fr.up ++ [_]).length ≤ _
    simp only [List.length_append, List.length_cons, List.length_nil]; omega
  · show ((s.fr.up ++ [({ frame := f, forwarded := true } : QueuedFrame)]).filter _).length ≤ _
    have := h.1
    unfold Router.share at this
    simp only [List.filter_append, List.length_append, List.filter_cons, List.filter_nil, if_true, List.length_cons, List.length_nil]
    omega

theorem Kept.forwardUp (f : Frame) (k : Option Nat) (s : State) : Kept w s (s.forwardUp f k) := by
  unfold State.forwardUp
  split
  · rename_i h
    exact (Kept.pushUp f s h).trans (Kept.judge _ _ _ _ _)
  · exact (Kept.judge _ _ _ _ s).trans (Kept.onJobs _ _ (Good.flag _ _ _))

theorem Kept.routeUpward (f : Frame) (k : Option Nat) (up : Bool) (s : State) : Kept w s (s.routeUpward f k up) := by
  unfold State.routeUpward
  split
  · exact Kept.forwardUp f k s
  · exact Kept.judge _ _ _ _ s

theorem Kept.queueDown (f sent : Frame) (k : Option Nat) (s : State) : Kept w s (s.queueDown f sent k) := by
  unfold State.queueDown
  split
  · rename_i h
    simp only [Router.takesDown, decide_eq_true_eq] at h
    refine Kept.trans ?_ (Kept.judge _ _ _ _ _)
    refine Kept.setFr _ s fun hq => ⟨hq.1, hq.2.1, ?_⟩
    show (s.fr.down ++ [sent]).length ≤ _
    simp only [List.length_append, List.length_cons, List.length_nil]; omega
  · exact (Kept.judge _ _ _ _ s).trans (Kept.onJobs _ _ (Good.flag _ _ _))

theorem Lawful.admitted (n c : Nat) (ws : List Word) (j : Jobs) : Good w j (j.admitWords n c ws).2 :=
  .of (Held.admitWords n c ws j) (Lawful.admitWords n c ws j)

theorem Kept.trainOrder (f : Frame) (s : State) : Kept w s (s.trainOrder f) := by
  unfold State.trainOrder
  dsimp only
  refine (Kept.take .train f s).trans ?_
  split
  · exact Kept.judgeRouted _ _ _ _
  · exact ((Kept.matching _ _).trans (Kept.setJobs _ _ (Lawful.admitted _ _ _ _))).trans
      (Kept.queueDown _ _ _ _)

theorem Kept.trainQuery (f : Frame) (s : State) : Kept w s (s.trainQuery f) := by
  unfold State.trainQuery
  dsimp only
  refine (Kept.take .train f s).trans ?_
  split
  · exact (Kept.judgeRouted _ _ _ _).trans (Kept.onJobs _ _ (Good.report _ _))
  · exact (Kept.matching _ _).trans (Kept.queueDown _ _ _ _)

theorem Good.answerRequest (seq : Byte) (code : Nat) (run : Jobs → Answer × Jobs) (j : Jobs) (h : Good w j (run j).2) :
    Good w j (j.answerRequest seq code run) := by
  unfold Jobs.answerRequest
  by_cases hc : j.dev = .config
  · simp only [hc, if_true]; exact Good.report _ j
  · by_cases hh : (j.oc.hold && !takenUnderHold code) = true
    · simp only [hc, hh, if_false, if_true]; exact Good.report _ j
    · simp only [hc, hh, if_false]; exact h.trans (Good.report _ _)

theorem Kept.request (f : Frame) (code : Nat) (run : Jobs → Answer × Jobs) (s : State)
    (h : ∀ j, Good w j (run j).2) : Kept w s (s.request f code run) :=
  ((Kept.consume f s).trans (Kept.onJobs _ _ (Good.answerRequest _ _ _ _ (h _)))).trans (Kept.finish _)

theorem Kept.ahead (f : Frame) (a : Announcement) (act : Jobs → Jobs) (s : State) (h : ∀ j, Good w j (act j)) :
    Kept w s (s.ahead f a act) := by
  unfold State.ahead
  refine ((Kept.consume f s).trans (Kept.onJobs _ _ ?_)).trans (Kept.finish _)
  split
  · exact Good.trans (Good.of (Held.takeSpeed a _) (Lawful.takeSpeed a _)) (h _)
  · exact Good.refl _

/-! ### The roof bus -/

theorem ScheduleWf.idle (s : State) (h : ScheduleWf s) : ScheduleWf (s.setRb s.rb.idle) :=
  ⟨⟨fun _ => rfl, fun _ => rfl⟩, fun h => absurd h Bool.false_ne_true, h.2.2.1, h.2.2.2⟩

theorem Kept.answered (s : State) : Kept w s s.answered :=
  (Kept.setRb _ s (ScheduleWf.idle s)).trans (Kept.onJobs _ _ (Good.nodeAnswered _ _))

theorem Kept.missed (s : State) : Kept w s s.missed := by
  unfold State.missed
  split
  · dsimp only
    have h : ∀ n, Kept w s ((s.setRb s.rb.idle).onJobs (Jobs.nodeMissed n)) := fun n =>
      (Kept.setRb _ s (ScheduleWf.idle s)).trans (Kept.onJobs _ _ (Good.nodeMissed _ _))
    split
    · exact (h _).trans (Kept.onJobs _ _ (Good.report _ _))
    · exact h _
  · exact Kept.setRb _ s (ScheduleWf.idle s)

theorem Kept.roofFrame (f : Frame) (s : State) : Kept w s (s.roofFrame f) := by
  unfold State.roofFrame
  dsimp only
  split
  · exact (((((Kept.take _ f s).trans (Kept.matching _ _)).trans (Kept.answered _)).trans
      (Kept.onJobs _ _ (Good.bindings _ _))).trans (Kept.routeUpward _ _ _ _)).trans (Kept.finish _)
  · refine Kept.trans ?_ (Kept.finish _)
    have h := (Kept.take (w := w) .roof f s).trans (Kept.judgeRouted .roof f (.dropped .stray) _)
    split
    · exact h.trans (Kept.missed _)
    · exact h

theorem Kept.misdirected (p : Port) (f : Frame) (s : State) : Kept w s (s.misdirected p f) := by
  unfold State.misdirected
  dsimp only
  refine Kept.trans ?_ (Kept.finish _)
  have h := (Kept.take (w := w) p f s).trans (Kept.judgeRouted p f (.dropped .misdirected) _)
  split
  · exact h.trans (Kept.missed _)
  · exact h

theorem Kept.startExchange (kind : ExchangeKind) (f : Frame) (s : State) (h : s.rb.slot = .idle) :
    Kept w s (s.startExchange kind f) := by
  refine Kept.trans ?_ (Kept.setRoof _ _ id)
  refine Kept.setRb _ s fun hw => ⟨⟨?_, ?_⟩, fun ht => ?_, hw.2.2⟩
  · intro h; exact nomatch h
  · intro h; exact nomatch h
  · have : s.rb.slot = .awaiting := hw.2.1 ht
    rw [h] at this
    exact nomatch this

theorem Kept.originateRoof (f : Frame) (s : State) : Kept w s (s.originateRoof f) :=
  ((Kept.count _ _ s).trans (Kept.delivered (Delivered.offerFrame _ _ _ _ _ _))).trans
    (Kept.onJobs _ _ (Good.touchRouteOf _ _))

theorem State.originateRoof_rb (f : Frame) (s : State) : (s.originateRoof f).rb = s.rb :=
  (Delivered.offerFrame .roof .down f .originated (s.jobs.routeOf f) (s.setFr (s.fr.count .roof Counters.originate))).rb

theorem Kept.sendComposed (e : PointEntry) (s : State) (h : s.rb.slot = .idle) : Kept w s (s.sendComposed e) := by
  unfold State.sendComposed
  dsimp only
  have h0 : Kept w s (s.setJobs (s.jobs.compose e).2) := Kept.setJobs _ s (.of (Held.compose e s.jobs) (Lawful.compose e s.jobs))
  refine (h0.trans (Kept.originateRoof _ _)).trans (Kept.startExchange _ _ _ ?_)
  rw [State.originateRoof_rb]
  exact h

theorem Kept.sendQueued (f : Frame) (rest : List Frame) (s : State) (h : s.rb.slot = .idle)
    (hr : rest.length ≤ s.fr.down.length) : Kept w s (s.sendQueued f rest) := by
  unfold State.sendQueued
  dsimp only
  have h0 : Kept w s ((s.setFr { s.fr with down := rest }).setRb { s.rb with lastKind := .queue }) :=
    ⟨rfl, Good.refl _, id, fun hq => ⟨hq.1, hq.2.1, Nat.le_trans hr hq.2.2⟩, id, id, fun hw => ⟨hw.1, hw.2.1, hw.2.2⟩⟩
  split
  · exact (h0.trans (Kept.setJobs _ _ (.of (Held.recomposeWords _ _ _ _) (Lawful.recomposeWords _ _ _ _)))).trans
      (Kept.startExchange _ _ _ h)
  · exact (h0.trans (Kept.onJobs _ _ (Good.nodeAsked _ _))).trans (Kept.startExchange _ _ _ h)

theorem Kept.sendPoll (i q : Nat) (s : State) (h : s.rb.slot = .idle)
    (hr : ScheduleWf s → i < Config.pollSlots ∧ q < Config.passModulus) : Kept w s (s.sendPoll i q) := by
  unfold State.sendPoll
  dsimp only
  refine Kept.trans (Kept.trans (Kept.trans (Kept.onJobs _ s ?_) (Kept.setRb _ _ fun hw => ?_)) (Kept.originateRoof _ _))
    (Kept.startExchange _ _ _ ?_)
  · exact (Good.touchAll _ _).trans (Good.nodeAsked _ _)
  · obtain ⟨hi, hq⟩ := hr hw
    refine ⟨hw.1, hw.2.1, ?_, ?_⟩
    · show (if i = 31 then (0, (q + 1) % Config.passModulus) else (i + 1, q)).1 < _
      simp only [Config.pollSlots] at hi ⊢
      split
      · exact Nat.zero_lt_succ _
      · show i + 1 < 32; omega
    · show (if i = 31 then (0, (q + 1) % Config.passModulus) else (i + 1, q)).2 < _
      split
      · exact Nat.mod_lt _ (by decide)
      · exact hq
  · rw [State.originateRoof_rb]
    exact h

theorem Jobs.findPoll_range (n p start i q : Nat) (j : Jobs) (hp : p < Config.passModulus)
    (h : j.findPoll n p start = some (i, q)) : i < Config.pollSlots ∧ q < Config.passModulus := by
  induction n generalizing p start with
  | zero => exact nomatch h
  | succ n ih =>
    simp only [Jobs.findPoll] at h
    split at h
    · rename_i k hk
      injection h with h
      injection h with h1 h2
      subst h1; subst h2
      unfold Jobs.dueFrom at hk
      exact ⟨List.mem_range.mp (List.mem_of_find?_eq_some hk), hp⟩
    · exact ih _ _ (Nat.mod_lt _ (by decide)) h

theorem Kept.searchedAll (s : State) : Kept w s s.searchedAll := by
  unfold State.searchedAll
  split
  · exact Kept.onJobs _ s (Good.touchAll _ _)
  · exact Kept.refl s

theorem State.searchedAll_rest (s : State) : s.searchedAll.rb = s.rb ∧ s.searchedAll.fr = s.fr ∧ s.searchedAll.roof = s.roof := by
  have h : ∀ f : Jobs → Jobs, (s.onJobs f).rb = s.rb ∧ (s.onJobs f).fr = s.fr ∧ (s.onJobs f).roof = s.roof :=
    fun _ => ⟨rfl, rfl, rfl⟩
  unfold State.searchedAll
  split
  · exact h _
  · exact ⟨rfl, rfl, rfl⟩

/-- R162: the choice keeps the laws. -/
theorem Kept.choice (s : State) : Kept w s s.choice := by
  unfold State.choice
  split
  · rename_i hf
    have hi : s.rb.slot = .idle := by
      unfold State.busFree at hf
      simp only [Bool.and_eq_true, beq_iff_eq] at hf
      exact hf.1.1.1.1
    dsimp only
    split
    · exact Kept.sendComposed _ s hi
    · rename_i hd
      exact Kept.sendQueued _ _ s hi (by rw [hd]; simp)
    · unfold State.choosePoll
      dsimp only
      split
      · rename_i i q hd
        split at hd
        · exact Kept.sendPoll _ _ s hi (fun hw => Jobs.findPoll_range _ _ _ _ _ _ hw.2.2.2 hd)
        · exact nomatch hd
      · rename_i hd
        obtain ⟨h1, h2, -⟩ := State.searchedAll_rest s
        exact (Kept.searchedAll s).trans (Kept.sendQueued _ _ _ (by rw [h1]; exact hi) (by rw [h2, hd]; simp))
      · exact Kept.searchedAll s
  · exact Kept.refl s

theorem Kept.roofBegin (s : State) : Kept w s s.roofBegin := by
  unfold State.roofBegin
  split
  · exact Kept.setRoof _ s id
  · exact Kept.refl s

theorem Kept.answerStart (s : State) : Kept w s s.answerStart := by
  unfold State.answerStart
  split
  · rename_i e he
    split
    · rename_i h
      refine (Kept.setRb _ s fun hw => ?_).trans (Kept.setRoof _ _ id)
      refine ⟨⟨fun hs => ?_, fun hx => nomatch hx⟩, fun ht => absurd ht Bool.false_ne_true, hw.2.2⟩
      rw [show s.rb.slot = .idle from hs] at h
      exact nomatch h.1
    · exact Kept.roofBegin s
  · exact Kept.roofBegin s

theorem Kept.answerTimeout (s : State) : Kept w s s.answerTimeout := by
  unfold State.answerTimeout
  split
  · exact Kept.missed s
  · exact Kept.refl s

theorem Kept.answerLimitExpiry (s : State) : Kept w s s.answerLimitExpiry := by
  unfold State.answerLimitExpiry
  split
  · refine Kept.trans ?_ (Kept.missed _)
    exact Kept.setRoof _ s (fun h => h)
  · exact Kept.refl s

theorem Kept.roofFrameSent (s : State) : Kept w s s.roofFrameSent := by
  unfold State.roofFrameSent
  split
  · dsimp only
    refine (Kept.setRoof { s.roof with sending := none } s id).trans ?_
    split
    · rename_i e hs he
      split
      · refine Kept.setRb _ _ fun hw => ⟨⟨fun h => (nomatch h), fun h => ?_⟩, fun _ => rfl, hw.2.2⟩
        rw [show (s.setRoof { s.roof with sending := none }).rb.exchange = none from h] at he
        exact nomatch he
      · exact Kept.setRb _ _ (ScheduleWf.idle _)
    · exact Kept.refl _
  · exact Kept.refl s

theorem ScheduleWf.fresh (s : State) (h : s.rb = {}) : ScheduleWf s := by
  unfold ScheduleWf
  rw [h]
  exact ⟨⟨fun _ => rfl, fun _ => rfl⟩, fun h => absurd h Bool.false_ne_true, Nat.zero_lt_succ _, Nat.zero_lt_succ _⟩

theorem Kept.abandon (s : State) : Kept w s s.abandon := by
  unfold State.abandon
  refine Kept.trans (t := s.setRb {}) (Kept.setRb _ s (fun _ => ScheduleWf.fresh _ rfl)) ?_
  exact Kept.setRoof _ _ (fun h => by simpa using h)

/-! ### The ports -/

theorem PortState.countError_buffers (e : LinkError) (v : PortState) : (v.countError e).buffers = v.buffers := by
  cases e <;> rfl

theorem Kept.linkError (p : Port) (e : LinkError) (s : State) : Kept w s (s.linkError p e) :=
  (Kept.setPort p _ s (fun h => by rw [PortState.countError_buffers]; exact h)).trans (Kept.onJobs _ _ (Good.flag _ _ _))

theorem Kept.character (p : Port) (data : Byte) (b stop : Bool) (s : State) : Kept w s (s.character p data b stop) := by
  unfold State.character
  split
  · dsimp only
    have h0 : Kept w s (if p = .roof then s.answerStart else s) := by
      split
      · exact Kept.answerStart s
      · exact Kept.refl s
    refine h0.trans ?_
    generalize (if p = .roof then s.answerStart else s) = u
    refine Kept.trans (t := u.setPort p { u.port p with
      assembly := some ((u.port p).begun.add data ((u.port p).settings.parity.wrong data b || !stop)) })
      (Kept.setPort p _ u (fun h => h)) ?_
    have h1 : ∀ v : State, Kept w v (if (u.port p).settings.parity.wrong data b = true then v.linkError p .parity else v) := by
      intro v
      split
      · exact Kept.linkError _ _ v
      · exact Kept.refl v
    have h2 : ∀ v : State, Kept w v (if stop = true then v else v.linkError p .framing) := by
      intro v
      split
      · exact Kept.refl v
      · exact Kept.linkError _ _ v
    refine Kept.trans ?_ (h2 _)
    exact h1 _
  · exact Kept.refl s

theorem Kept.judged (p : Port) (a : Assembly) (s : State) : Kept w s (s.judged p a) := by
  unfold State.judged
  dsimp only
  have hg : ∀ f, a.judge (s.port p).buffers.length = .good f → ¬ Config.receiveBuffers ≤ (s.port p).buffers.length := by
    intro f hf hc
    unfold Assembly.judge at hf
    simp only [if_pos hc] at hf
    repeat' split at hf
    all_goals exact nomatch hf
  cases hd : a.judge (s.port p).buffers.length with
  | dropped => exact Kept.setPort p _ s (fun h => h)
  | check =>
    refine Kept.trans ?_ (Kept.linkError _ _ _)
    exact Kept.setPort p _ s (fun h => h)
  | overrun =>
    refine Kept.trans ?_ (Kept.linkError _ _ _)
    exact Kept.setPort p _ s (fun h => h)
  | good f =>
    refine Kept.setPort p _ s (fun _ => ?_)
    have := hg f hd
    simp only [List.length_append, List.length_cons, List.length_nil]; omega

theorem Kept.frameComplete (p : Port) (s : State) : Kept w s (s.frameComplete p) := by
  unfold State.frameComplete
  split
  · exact Kept.refl s
  · dsimp only
    rename_i a _
    refine (Kept.judged p a s).trans ?_
    split
    · unfold State.answerJudged
      split
      · exact Kept.setRb _ _ (fun hw => ⟨hw.1, hw.2.1, hw.2.2⟩)
      · exact Kept.missed _
    · exact Kept.refl _

theorem Kept.settleGap (p : Port) (s : State) : Kept w s (s.settleGap p) :=
  (Kept.frameComplete p s).trans (Kept.setPort p _ _ id)

theorem PortState.restart_buffers (n : Settings) (v : PortState) : (v.restart n).buffers = v.buffers := by
  unfold PortState.restart
  dsimp only
  split <;> rfl

theorem Kept.breakEnd (s : State) : Kept w s s.breakEnd := by
  unfold State.breakEnd
  split
  · exact (Kept.setTrain _ s (fun h => by rw [PortState.restart_buffers]; exact h)).trans (Kept.onJobs _ _ (Good.touch _ _))
  · exact Kept.refl s

theorem Kept.restartTrain (s : State) : Kept w s s.restartTrain := by
  unfold State.restartTrain
  dsimp only
  split
  · exact Kept.refl s
  · exact (Kept.setTrain _ s (fun h => by rw [PortState.restart_buffers]; exact h)).trans (Kept.onJobs _ _ (Good.touch _ _))
  · refine Kept.trans ?_ (Kept.onJobs _ _ (Good.touch _ _))
    exact Kept.setTrain _ s (fun h => h)

theorem PortState.discover_buffers (m : Measurement) (v : PortState) : (v.discover m).buffers = v.buffers := by
  have hm : ∀ q (v : PortState), (v.measured q).buffers = v.buffers := by
    intro q v
    unfold PortState.measured
    split
    · rfl
    · dsimp only
      generalize (if v.lastMeasured = some _ then v.runCount + 1 else 1) = n
      split
      · rfl
      · rfl
  unfold PortState.discover
  split
  · split
    · rfl
    · exact hm _ _
    · exact hm _ _
    · rfl
  · rfl

theorem Kept.trainApply (s : State) : Kept w s s.trainApply := by
  unfold State.trainApply
  split
  · split
    · exact Kept.setTrain _ s id
    · exact Kept.refl s
  · exact Kept.refl s

theorem Kept.roofApply (s : State) : Kept w s s.roofApply := by
  unfold State.roofApply
  split
  · dsimp only
    refine (Kept.onJobs (fun j => j.touch 1) s (Good.touch _ _)).trans ?_
    split
    · exact Kept.setRoof _ _ (fun h => h)
    · refine Kept.trans ?_ (Kept.linkError _ _ _)
      exact Kept.setRoof _ _ (fun h => h)
  · exact Kept.refl s

theorem Kept.transmitStart (s : State) : Kept w s s.transmitStart := by
  unfold State.transmitStart
  split
  · split
    · exact Kept.setTrain _ s id
    · exact Kept.refl s
  · exact Kept.refl s

theorem Kept.trainSent (s : State) : Kept w s s.trainSent := by
  unfold State.trainSent
  split
  · refine (Kept.setTrain { s.train with sending := none } s id).trans (Kept.setFr _ _ fun hq => ⟨?_, ?_, hq.2.2⟩)
    · have := hq.1
      show s.fr.up.tail.length ≤ _
      simp only [List.length_tail]
      exact Nat.le_trans (Nat.sub_le _ _) this
    · have := hq.2.1
      show (s.fr.up.tail.filter _).length ≤ _
      exact Nat.le_trans (List.Sublist.length_le ((List.tail_sublist _).filter _)) this
  · exact Kept.refl s

/-! ### SERVICE, COMMISSION, RESTART, the resets -/

theorem Kept.reply (f : Frame) (c : SvcControl) (op : Nat) (st : Status) (s : State) : Kept w s (s.reply f c op st) := by
  unfold State.reply
  split
  · exact Kept.onJobs _ s (Good.report _ _)
  · exact Kept.refl s

theorem Kept.serviceRead (f : Frame) (c : SvcControl) (addr : Word) (s : State) : Kept w s (s.serviceRead f c addr) := by
  unfold State.serviceRead
  dsimp only
  exact (((Kept.consume f s).trans (Kept.setLatch _ _)).trans
    (Kept.onJobs _ _ ((Good.touchAll _ _).trans (Good.report _ _)))).trans (Kept.finish _)

theorem Kept.roofWordWritten (s : State) : Kept w s s.roofWordWritten := by
  unfold State.roofWordWritten
  split
  · exact (Kept.setRoof { s.roof with applyWord := false } s id).trans (Kept.linkError _ _ _)
  · exact (Kept.setRoof { s.roof with applyWord := true } s id).trans (Kept.roofApply _)

theorem Kept.roofWordDue (as : List Nat) (s : State) : Kept w s (s.roofWordDue as) := by
  unfold State.roofWordDue
  split
  · exact Kept.roofApply s
  · exact Kept.refl s

theorem Kept.serviceWrite (f : Frame) (c : SvcControl) (addr : Word) (data : List Word) (s : State) :
    Kept true s (s.serviceWrite f c addr data) := by
  unfold State.serviceWrite
  dsimp only
  refine Kept.trans (Kept.trans ((Kept.consume f s).trans ?_) (Kept.reply _ _ _ _ _)) (Kept.finish _)
  split
  · exact Kept.refl _
  · have h : ∀ u : State, Kept true u (u.onJobs (fun j => (j.storeWords addr.toNat (data.take (wordCount c))).afterWrite
        ((span addr.toNat (wordCount c)).filter writable))) := fun u =>
      Kept.onJobs _ u ((Good.storeWords _ _ _).trans (Good.afterWrite _ _))
    split
    · exact ((Kept.roofWordDue _ _).trans (h _)).trans (Kept.roofWordWritten _)
    · exact (Kept.roofWordDue _ _).trans (h _)

theorem Kept.serviceCheckWrite (f : Frame) (c : SvcControl) (addr data : Word) (s : State) :
    Kept true s (s.serviceCheckWrite f c addr data) := by
  unfold State.serviceCheckWrite
  dsimp only
  refine Kept.trans (Kept.trans ((Kept.consume f s).trans ?_) (Kept.reply _ _ _ _ _)) (Kept.finish _)
  split
  · exact (Kept.roofWordDue _ _).trans (Kept.onJobs _ _ ((Good.storeWord _ _ _ _).trans (Good.push _ _)))
  · exact Kept.refl _

theorem Capture.rearm_mem (a b c d e : Word) (v : Capture) : (v.rearm a b c d e).mem = v.mem := Capture.home_mem _ v

theorem Kept.rearm (s : State) : Kept w s s.rearm :=
  (Kept.setCb _ s (Capture.rearm_mem _ _ _ _ _ _)).trans (Kept.onJobs _ _ (Good.touchAll _ _))

theorem Kept.serviceClear (f : Frame) (c : SvcControl) (low high : Word) (s : State) : Kept w s (s.serviceClear f c low high) := by
  unfold State.serviceClear
  exact (((Kept.consume f s).trans (Kept.setNu _ _)).trans (Kept.reply _ _ _ _ _)).trans (Kept.finish _)

theorem Kept.serviceRearm (f : Frame) (c : SvcControl) (s : State) : Kept w s (s.serviceRearm f c) :=
  ((((Kept.consume f s).trans (Kept.drain _ _)).trans (Kept.rearm _)).trans (Kept.reply _ _ _ _ _)).trans (Kept.finish _)

theorem Kept.serviceUnknown (f : Frame) (s : State) : Kept w s (s.serviceUnknown f) :=
  ((Kept.consume f s).trans (Kept.onJobs _ _ (Good.report _ _))).trans (Kept.finish _)

theorem Kept.serviceCommission (f : Frame) (c : SvcControl) (s : State) : Kept w s (s.serviceCommission f c) := by
  unfold State.serviceCommission
  dsimp only
  refine (Kept.consume f s).trans ?_
  split
  · exact (Kept.reply _ _ _ _ _).trans (Kept.finish _)
  · split
    · exact ((Kept.onJobs _ _ (Good.touchChecks _)).trans (Kept.reply _ _ _ _ _)).trans (Kept.finish _)
    · have h : ∀ u : State, Kept w u (u.onJobs (fun j => j.touchChecks.enterRun)) := fun u =>
        Kept.onJobs (fun j => j.touchChecks.enterRun) u ((Good.touchChecks u.jobs).trans (Good.enterRun u.jobs.touchChecks))
      exact (((Kept.abandon _).trans (h _)).trans (Kept.reply _ _ _ _ _)).trans (Kept.finish _)

theorem Kept.restart (s : State) : Kept w s s.restart := by
  unfold State.restart
  dsimp only
  have hg : Good w s.jobs (Jobs.resetJobs s.jobs.tag s.jobs.tm s.jobs.p1.cause s.jobs.p2.cause) := Good.resetJobs _ _ _ _ rfl
  generalize Jobs.resetJobs s.jobs.tag s.jobs.tm s.jobs.p1.cause s.jobs.p2.cause = fresh at hg ⊢
  have h1 : Kept w s (s.setJobs (fresh.setOut (s.jobs.out ++ fresh.out))) := Kept.setJobs _ s (hg.trans (Good.setOut _ _))
  refine Kept.trans ?_ (Kept.onJobs _ _ (Good.flag _ _ _))
  refine Kept.trans ?_ (Kept.rearm _)
  refine Kept.trans ?_ (Kept.restartTrain _)
  refine Kept.trans (h1.trans (Kept.abandon _)) ?_
  exact ⟨rfl, Good.refl _, id, fun hq => ⟨hq.1, hq.2.1, Nat.zero_le _⟩, id, id, fun h => h⟩

theorem Kept.serviceRestart (f : Frame) (c : SvcControl) (s : State) : Kept w s (s.serviceRestart f c) := by
  unfold State.serviceRestart
  dsimp only
  refine (Kept.consume f s).trans ?_
  split
  · exact (((Kept.drain _ _).trans (Kept.restart _)).trans (Kept.reply _ _ _ _ _)).trans (Kept.finish _)
  · exact (Kept.reply _ _ _ _ _).trans (Kept.finish _)

theorem Kept.resetAssert (s : State) : Kept w s s.resetAssert := by
  unfold State.resetAssert
  split
  · exact Kept.refl s
  · dsimp only
    refine Kept.trans (t := ((s.setInReset true).setTrain { s.train with mode := .stopped, sending := none }).setRoof
      { s.roof with mode := .stopped, sending := none }) ⟨rfl, Good.refl _, id, id, id, id, id⟩ ?_
    exact (Kept.setCb _ _ (by rfl)).trans (Kept.onJobs _ _ (Good.setOc _ _ (by rfl) (by rfl)))

theorem Kept.resetRelease (s : State) : Kept w s s.resetRelease := by
  unfold State.resetRelease
  split
  · dsimp only
    refine Kept.trans ?_ (Kept.finish _)
    have hg : Good w s.jobs (Jobs.resetJobs 0 { mem := s.jobs.tm.mem } none none) := Good.resetJobs _ _ _ _ rfl
    generalize Jobs.resetJobs 0 { mem := s.jobs.tm.mem } none none = fresh at hg ⊢
    have h : Kept w s
        { pending := s.pending, inReset := false, jobs := (fresh.touch 0).touch 1,
          train := PortState.restart fresh.trainSettings { mode := .stopped, settings := trainDefault },
          roof := { mode := .running, settings := fresh.roofAtReset.1, settling := true },
          fr := {}, rb := {}, cb := { s.cb with state := .frozen }, nu := {}, latch := none } := by
      refine ⟨rfl, (hg.trans (Good.touch _ _)).trans (Good.touch _ _), id, fun _ => ⟨Nat.zero_le _, Nat.zero_le _, Nat.zero_le _⟩, fun _ => ?_, fun _ => Nat.zero_le _, fun _ => ?_⟩
      · rw [PortState.restart_buffers]; exact Nat.zero_le _
      · exact ScheduleWf.fresh _ rfl
    split
    · exact h.trans (Kept.linkError _ _ _)
    · exact h
  · exact Kept.refl s

theorem Kept.tick (s : State) : Kept w s s.tick :=
  ((Kept.setLatch _ s).trans (Kept.onJobs _ _ ((Good.tick _).trans (Good.scrubRead _)))).trans (Kept.finish _)

theorem Kept.latchExpiry (s : State) : Kept w s s.latchExpiry := by
  unfold State.latchExpiry
  split
  · exact Kept.setLatch _ s
  · exact Kept.refl s

/-! ### Every command -/

theorem Kept.unlessReset (f : State → State) (s : State) (h : ∀ u, Kept w u (f u)) :
    ∃ t, s.unlessReset f = .next t ∧ Kept w s t := by
  refine ⟨_, rfl, ?_⟩
  split
  · exact Kept.refl s
  · exact h s

theorem Kept.taking (p : Port) (f : Frame) (g : Frame → State → State) (s : State) (h : ∀ u, Kept w u (g f u)) :
    ∃ t, s.taking p f g = .next t ∧ Kept w s t :=
  Kept.unlessReset _ s (fun u => by
    show Kept w u (if (u.port p).holds f then g f u else u)
    split
    · exact h u
    · exact Kept.refl u)

theorem Good.request {run : Jobs → Answer × Jobs} (h1 : ∀ j, Held j (run j).2) (h2 : ∀ j, Lawful j (run j).2) (j : Jobs) :
    Good w j (run j).2 := .of (h1 j) (h2 j)

theorem Good.work {f : Jobs → Jobs} (h1 : ∀ j, Held j (f j)) (h2 : ∀ j, Lawful j (f j)) (j : Jobs) : Good w j (f j) :=
  .of (h1 j) (h2 j)

theorem Good.statusExpiry (j : Jobs) : Good w j j.statusExpiry := by
  unfold Jobs.statusExpiry
  split
  · dsimp only
    split
    · have h := ((Good.takeExpiry (w := w) .t13 j).trans (Good.touch 4 _)).trans (Good.report .status _)
      split
      · exact h.trans (Good.stop _ _)
      · exact h.trans (Good.onTimer _ _ _)
    · exact Good.takeExpiry _ j
  · exact Good.refl j

theorem Good.refreshExpiry (j : Jobs) : Good w j j.refreshExpiry := by
  unfold Jobs.refreshExpiry
  split
  · exact (Good.takeExpiry _ j).trans (Good.markAll _)
  · exact Good.refl j

/-- Every command but power-on answers a next state that keeps the laws; a command that does not write table memory
leaves what it reads as. -/
theorem Kept.exec (i : Instr) (s : State) (hi : i ≠ .powerOn) : ∃ t, exec i s = .next t ∧ Kept i.writesTables s t := by
  cases i with
  | powerOn => exact absurd rfl hi
  | resetAssert => exact ⟨_, rfl, Kept.resetAssert s⟩
  | resetRelease => exact ⟨_, rfl, Kept.resetRelease s⟩
  | breakBegin => exact Kept.unlessReset _ s (fun u => Kept.setTrain _ u (fun h => h))
  | breakEnd => exact Kept.unlessReset _ s (fun u => (Kept.breakEnd u).trans (Kept.finish _))
  | discoveryMeasurement m => exact Kept.unlessReset (fun s => s.setTrain (s.train.discover m)) s (fun u => Kept.setTrain _ u (fun h => by rw [PortState.discover_buffers]; exact h))
  | receiverSettleGap p => exact Kept.unlessReset _ s (fun u => (Kept.settleGap _ u).trans (Kept.finish _))
  | frameComplete p => exact Kept.unlessReset _ s (fun u => (Kept.frameComplete _ u).trans (Kept.finish _))
  | trainFrameSent => exact Kept.unlessReset _ s (fun u => Kept.trainSent u)
  | trainSettingsApply => exact Kept.unlessReset _ s (fun u => Kept.trainApply u)
  | roofFrameSent => exact Kept.unlessReset _ s (fun u => Kept.roofFrameSent u)
  | roofSettingsApply => exact Kept.unlessReset _ s (fun u => (Kept.roofApply u).trans (Kept.finish _))
  | exchangeChoice => exact Kept.unlessReset _ s (fun u => (Kept.choice u).trans (Kept.finish _))
  | answerStart => exact Kept.unlessReset _ s (fun u => Kept.answerStart u)
  | answerTimeout => exact Kept.unlessReset _ s (fun u => (Kept.answerTimeout u).trans (Kept.finish _))
  | answerLimitExpiry => exact Kept.unlessReset _ s (fun u => (Kept.answerLimitExpiry u).trans (Kept.finish _))
  | misdirectedFrame p k h payload =>
    dsimp only [Machine.exec, execMisdirectedFrame]
    exact Kept.taking _ _ _ s (fun u => Kept.misdirected _ _ u)
  | roofMeasureFrame h payload =>
    dsimp only [Machine.exec, execRoofMeasureFrame]
    exact Kept.taking _ _ _ s (fun u => Kept.roofFrame _ u)
  | roofAnswerFrame h payload =>
    dsimp only [Machine.exec, execRoofAnswerFrame]
    exact Kept.taking _ _ _ s (fun u => Kept.roofFrame _ u)
  | trainOrder h payload =>
    dsimp only [Machine.exec, execTrainOrder]
    exact Kept.taking _ _ _ s (fun u => (Kept.trainOrder _ u).trans (Kept.finish _))
  | trainQuery h payload =>
    dsimp only [Machine.exec, execTrainQuery]
    exact Kept.taking _ _ _ s (fun u => (Kept.trainQuery _ u).trans (Kept.finish _))
  | breakerClose h arg extra =>
    dsimp only [Machine.exec, execBreakerClose]
    exact Kept.taking _ _ _ s (fun u => Kept.request _ _ _ u (Good.request Held.requestClose Lawful.requestClose))
  | breakerOpen h arg extra =>
    dsimp only [Machine.exec, execBreakerOpen]
    exact Kept.taking _ _ _ s (fun u => Kept.request _ _ _ u (Good.request Held.requestOpen Lawful.requestOpen))
  | select h arg extra =>
    dsimp only [Machine.exec, execSelect]
    exact Kept.taking _ _ _ s (fun u => Kept.request _ _ _ u (Good.request (Held.requestSelect _) (Lawful.requestSelect _)))
  | energise h arg extra =>
    dsimp only [Machine.exec, execEnergise]
    exact Kept.taking _ _ _ s (fun u => Kept.request _ _ _ u (Good.request Held.requestEnergise Lawful.requestEnergise))
  | changeoverResume h arg extra =>
    dsimp only [Machine.exec, execChangeoverResume]
    exact Kept.taking _ _ _ s (fun u => Kept.request _ _ _ u (Good.request Held.requestResume Lawful.requestResume))
  | changeoverAbort h arg extra =>
    dsimp only [Machine.exec, execChangeoverAbort]
    exact Kept.taking _ _ _ s (fun u => Kept.request _ _ _ u (Good.request Held.requestAbort Lawful.requestAbort))
  | raise h arg extra =>
    dsimp only [Machine.exec, execRaise]
    exact Kept.taking _ _ _ s (fun u => Kept.request _ _ _ u (Good.request (Held.requestRaise _) (Lawful.requestRaise _)))
  | lower h arg extra =>
    dsimp only [Machine.exec, execLower]
    exact Kept.taking _ _ _ s (fun u => Kept.request _ _ _ u (Good.request (Held.requestLower _) (Lawful.requestLower _)))
  | faultClear h arg extra =>
    dsimp only [Machine.exec, execFaultClear]
    exact Kept.taking _ _ _ s (fun u => Kept.request _ _ _ u (Good.request (Held.requestFaultClear _) (Lawful.requestFaultClear _)))
  | iceMode h arg extra =>
    dsimp only [Machine.exec, execIceMode]
    exact Kept.taking _ _ _ s (fun u => Kept.request _ _ _ u (Good.request (Held.requestIceMode _) (Lawful.requestIceMode _)))
  | lowerAllOn h arg extra =>
    dsimp only [Machine.exec, execLowerAllOn]
    exact Kept.taking _ _ _ s (fun u => Kept.request _ _ _ u (Good.requestLowerAllOn _))
  | lowerAllOff h extra =>
    dsimp only [Machine.exec, execLowerAllOff]
    exact Kept.taking _ _ _ s (fun u => Kept.request _ _ _ u Good.requestLowerAllOff)
  | holdOn h arg extra =>
    dsimp only [Machine.exec, execHoldOn]
    exact Kept.taking _ _ _ s (fun u => Kept.request _ _ _ u (Good.requestHoldOn _))
  | holdOff h extra =>
    dsimp only [Machine.exec, execHoldOff]
    exact Kept.taking _ _ _ s (fun u => Kept.request _ _ _ u (Good.request Held.requestHoldOff Lawful.requestHoldOff))
  | requestUnknown h payload =>
    dsimp only [Machine.exec, execRequestUnknown]
    exact Kept.taking _ _ _ s (fun u => Kept.request _ _ _ u (fun j => Good.refl j))
  | aheadNeutral h a =>
    dsimp only [Machine.exec, execAheadNeutral]
    exact Kept.taking _ _ _ s (fun u => Kept.ahead _ _ _ u (Good.work (Held.offerFeature _ _) (Lawful.offerFeature _ _)))
  | aheadBoundary h a =>
    dsimp only [Machine.exec, execAheadBoundary]
    exact Kept.taking _ _ _ s (fun u => Kept.ahead _ _ _ u (Good.work (Held.offerFeature _ _) (Lawful.offerFeature _ _)))
  | aheadCancel h a =>
    dsimp only [Machine.exec, execAheadCancel]
    exact Kept.taking _ _ _ s (fun u => Kept.ahead _ _ _ u (Good.work (Held.cancel _) (Lawful.cancel _)))
  | aheadSpeed h code a =>
    dsimp only [Machine.exec, execAheadSpeed]
    exact Kept.taking _ _ _ s (fun u => Kept.ahead _ _ _ u (fun j => Good.refl j))
  | aheadIceZone h a =>
    dsimp only [Machine.exec, execAheadIceZone]
    exact Kept.taking _ _ _ s (fun u => Kept.ahead _ _ _ u (Good.work (Held.iceZone _) (Lawful.iceZone _)))
  | shortAheadFrame h payload =>
    dsimp only [Machine.exec, execShortAheadFrame]
    exact Kept.taking _ _ _ s (fun u => (Kept.consume _ u).trans (Kept.finish _))
  | serviceRead h c addr extra =>
    dsimp only [Machine.exec, execServiceRead]
    exact Kept.taking _ _ _ s (fun u => Kept.serviceRead _ _ _ u)
  | serviceWrite h c addr data =>
    dsimp only [Machine.exec, execServiceWrite]
    exact Kept.taking _ _ _ s (fun u => Kept.serviceWrite _ _ _ _ u)
  | serviceCheckWrite h c addr data extra =>
    dsimp only [Machine.exec, execServiceCheckWrite]
    exact Kept.taking _ _ _ s (fun u => Kept.serviceCheckWrite _ _ _ _ u)
  | serviceClearFlags h c addr low high extra =>
    dsimp only [Machine.exec, execServiceClearFlags]
    exact Kept.taking _ _ _ s (fun u => Kept.serviceClear _ _ _ _ u)
  | serviceRearm h c extra =>
    dsimp only [Machine.exec, execServiceRearm]
    exact Kept.taking _ _ _ s (fun u => Kept.serviceRearm _ _ u)
  | serviceCommission h c extra =>
    dsimp only [Machine.exec, execServiceCommission]
    exact Kept.taking _ _ _ s (fun u => Kept.serviceCommission _ _ u)
  | serviceRestart h c extra =>
    dsimp only [Machine.exec, execServiceRestart]
    exact Kept.taking _ _ _ s (fun u => Kept.serviceRestart _ _ u)
  | serviceUnknown h payload =>
    dsimp only [Machine.exec, execServiceUnknown]
    exact Kept.taking _ _ _ s (fun u => Kept.serviceUnknown _ u)
  | featureDue => exact Kept.unlessReset _ s (fun u => Kept.work _ u (Good.work Held.featureDue Lawful.featureDue _))
  | speedAged => exact Kept.unlessReset _ s (fun u => Kept.work _ u (Good.work Held.speedAged Lawful.speedAged _))
  | csStepTimeout => exact Kept.unlessReset _ s (fun u => Kept.work _ u (Good.work Held.csStepTimeout Lawful.csStepTimeout _))
  | coastExpiry => exact Kept.unlessReset _ s (fun u => Kept.work _ u (Good.work Held.coastExpiry Lawful.coastExpiry _))
  | closePulseExpiry => exact Kept.unlessReset _ s (fun u => Kept.work _ u (Good.work Held.closePulseExpiry Lawful.closePulseExpiry _))
  | raiseTimeout x => exact Kept.unlessReset _ s (fun u => Kept.work _ u (Good.work (Held.raiseTimeout _) (Lawful.raiseTimeout _) _))
  | lowerTimeout x => exact Kept.unlessReset _ s (fun u => Kept.work _ u (Good.work (Held.lowerTimeout _) (Lawful.lowerTimeout _) _))
  | settleTimerExpiry x => exact Kept.unlessReset _ s (fun u => Kept.work _ u (Good.work (Held.settleExpiry _) (Lawful.settleExpiry _) _))
  | arcIntervalExpiry x => exact Kept.unlessReset _ s (fun u => Kept.work _ u (Good.work (Held.arcInterval _) (Lawful.arcInterval _) _))
  | arcEdge x => exact Kept.unlessReset _ s (fun u => Kept.work _ u (Good.work (Held.arcEdge _) (Lawful.arcEdge _) _))
  | heaterPairExpiry x => exact Kept.unlessReset _ s (fun u => Kept.work _ u (Good.work (Held.heaterExpiry _) (Lawful.heaterExpiry _) _))
  | iceAssessment => exact Kept.unlessReset _ s (fun u => Kept.work _ u (Good.work Held.iceAssessment Lawful.iceAssessment _))
  | statusTimerExpiry => exact Kept.unlessReset _ s (fun u => Kept.work _ u (Good.statusExpiry _))
  | refreshTimerExpiry => exact Kept.unlessReset _ s (fun u => Kept.work _ u (Good.refreshExpiry _))
  | starvationTimerExpiry => exact Kept.unlessReset _ s (fun u => Kept.work _ u (Good.work Held.starvationExpiry Lawful.starvationExpiry _))
  | splitReadLatchExpiry => exact Kept.unlessReset _ s (fun u => Kept.latchExpiry u)
  | scrubRead => exact Kept.unlessReset _ s (fun u => Kept.tick u)
  | arcInputSample x high => exact Kept.unlessReset _ s (fun u => Kept.work _ u (Good.work (Held.arcSample _ _) (Lawful.arcSample _ _) _))
  | characterReceived p data parityBit stopHigh => exact Kept.unlessReset _ s (fun u => (Kept.character _ _ _ _ u).trans (Kept.finish _))
  | trainTransmitStart => exact Kept.unlessReset _ s (fun u => Kept.transmitStart u)

end Sys2Proof.Machine
end

