-- ==== Sys2Proof/Laws/Counts.lean ====
section
/-! SUPPORT. Conservation of frames (R150), said once for every function of the part: how many frames more than it
judged a function took from each port. -/

namespace Sys2Proof.Machine

open Sys2Proof

/-- R150, with `n` frames taken and not yet judged. -/
def Counters.owes (n : Long) (c : Counters) : Prop :=
  c.received = c.forwarded + c.consumed + c.dropped + n ∧
  c.dropped = c.misdirected + c.unclaimed + c.blocked + c.queueFull + c.stray

/-- From `s` to `t`, `a` frames of the train port and `b` of the roof port were taken beyond those judged. -/
structure Counts (a b : Long) (s t : State) : Prop where
  train : ∀ n, s.fr.train.owes n → t.fr.train.owes (n + a)
  roof : ∀ n, s.fr.roof.owes n → t.fr.roof.owes (n + b)

variable {a b c d : Long} {s t u : State}

theorem Counts.refl (s : State) : Counts 0 0 s s := ⟨fun n h => by simpa using h, fun n h => by simpa using h⟩

theorem Counts.trans (h : Counts a b s t) (h' : Counts c d t u) : Counts (a + c) (b + d) s u :=
  ⟨fun n hn => by rw [← BitVec.add_assoc]; exact h'.train _ (h.train _ hn),
   fun n hn => by rw [← BitVec.add_assoc]; exact h'.roof _ (h.roof _ hn)⟩

theorem Counts.after (h : Counts a b s t) (h' : Counts 0 0 t u) : Counts a b s u := by simpa using h.trans h'
theorem Counts.before (h : Counts 0 0 s t) (h' : Counts a b t u) : Counts a b s u := by simpa using h.trans h'

/-- Counters that differ at most in the originated count. -/
theorem Counts.of_fr (h1 : t.fr.train = { s.fr.train with originated := t.fr.train.originated })
    (h2 : t.fr.roof = { s.fr.roof with originated := t.fr.roof.originated }) : Counts 0 0 s t := by
  refine ⟨fun n h => ?_, fun n h => ?_⟩
  · rw [h1, show n + 0 = n from BitVec.add_zero n]; exact h
  · rw [h2, show n + 0 = n from BitVec.add_zero n]; exact h

theorem Counts.same (h : t.fr = s.fr) : Counts 0 0 s t := Counts.of_fr (by rw [h]) (by rw [h])

theorem Counts.delivered (h : Delivered s t) : Counts 0 0 s t := Counts.of_fr h.frTrain (by rw [h.frRoof])

theorem Counts.onJobs (f : Jobs → Jobs) (s : State) : Counts 0 0 s (s.onJobs f) := Counts.same rfl

theorem Counts.finish (s : State) : Counts 0 0 s s.finish :=
  (Counts.onJobs Jobs.settle s).trans (Counts.delivered (State.finish_spec s).1)

theorem Counts.drain (n : Nat) (s : State) : Counts 0 0 s (s.drain n) := Counts.delivered (Delivered.drain n s)

theorem Counts.work (f : Jobs → Jobs) (s : State) : Counts 0 0 s (s.work f) := (Counts.onJobs f s).trans (Counts.finish _)

/-- The port a count falls to. -/
def one (p q : Port) : Long := if p = q then 1 else 0

theorem Counts.take (p : Port) (f : Frame) (s : State) : Counts (one p .train) (one p .roof) s (s.take p f) := by
  have hf := State.take_fr p f s
  cases p <;> refine ⟨fun n h => ?_, fun n h => ?_⟩ <;> rw [hf] <;>
    simp_all [Router.count, Counters.take, Counters.owes, one] <;> ac_rfl

/-- R150: the outcome of one frame is one frame judged. -/
theorem Counters.outcome_owes (d : Disposition) (hd : d ≠ .originated) (n : Long) (c : Counters) (h : c.owes n) :
    (c.outcome d).owes (n + -1) := by
  obtain ⟨h1, h2⟩ := h
  cases d with
  | originated => exact absurd rfl hd
  | forwarded => exact ⟨by show c.received = _; rw [h1]; simp only [Counters.outcome]; ring, h2⟩
  | consumed => exact ⟨by show c.received = _; rw [h1]; simp only [Counters.outcome]; ring, h2⟩
  | dropped r =>
    cases r <;> exact ⟨by show c.received = _; rw [h1]; simp only [Counters.outcome]; ring,
      by simp only [Counters.outcome]; rw [h2]; ring⟩

theorem Counts.judge (p : Port) (f : Frame) (e : Disposition) (k : Option Nat) (s : State) (he : e ≠ .originated) :
    Counts (- one p .train) (- one p .roof) s (s.judge p f e k) := by
  refine Counts.after (t := s.setFr (s.fr.count p (Counters.outcome e))) ?_ (Counts.delivered (State.judge_spec p f e k s))
  have h0 : ∀ n : Long, n + -0 = n := fun n => by simp
  cases p
  · exact ⟨fun n h => Counters.outcome_owes e he n _ h, fun n h => (h0 n).symm ▸ h⟩
  · exact ⟨fun n h => (h0 n).symm ▸ h, fun n h => Counters.outcome_owes e he n _ h⟩

/-- A frame taken and then judged leaves the counts even. -/
theorem Counts.taken (p : Port) (f : Frame) (s t : State) (h : Counts (- one p .train) (- one p .roof) (s.take p f) t) :
    Counts 0 0 s t := by
  have := (Counts.take p f s).trans h
  rwa [BitVec.add_right_neg, BitVec.add_right_neg] at this

theorem Counts.judgeRouted (p : Port) (f : Frame) (e : Disposition) (s : State) (he : e ≠ .originated) :
    Counts (- one p .train) (- one p .roof) s (s.judgeRouted p f e) :=
  Counts.before (Counts.onJobs _ _) (Counts.judge p f e _ (s.matching f) he)

theorem Counts.consume (f : Frame) (s : State) : Counts 0 0 s (s.consume f) :=
  Counts.taken .train f s _ (Counts.judgeRouted .train f .consumed _ (by decide))

theorem Counts.request (f : Frame) (code : Nat) (run : Jobs → Answer × Jobs) (s : State) :
    Counts 0 0 s (s.request f code run) :=
  ((Counts.consume f s).after (Counts.onJobs _ _)).after (Counts.finish _)

theorem Counts.ahead (f : Frame) (a : Announcement) (act : Jobs → Jobs) (s : State) : Counts 0 0 s (s.ahead f a act) :=
  ((Counts.consume f s).after (Counts.onJobs _ _)).after (Counts.finish _)

theorem Counts.queueDown (f sent : Frame) (k : Option Nat) (s : State) :
    Counts (- one .train .train) (- one .train .roof) s (s.queueDown f sent k) := by
  unfold State.queueDown
  split
  · refine Counts.before ?_ (Counts.judge _ _ _ _ _ (by decide))
    exact Counts.of_fr rfl rfl
  · exact Counts.after (Counts.judge _ _ _ _ _ (by decide)) (Counts.onJobs _ _)

theorem Counts.trainOrder (f : Frame) (s : State) : Counts 0 0 s (s.trainOrder f) := by
  refine Counts.taken .train f s _ ?_
  unfold State.trainOrder
  dsimp only
  split
  · exact Counts.judgeRouted _ _ _ _ (by simp)
  · refine Counts.before ?_ (Counts.queueDown _ _ _ _)
    exact Counts.same rfl

theorem Counts.trainQuery (f : Frame) (s : State) : Counts 0 0 s (s.trainQuery f) := by
  refine Counts.taken .train f s _ ?_
  unfold State.trainQuery
  dsimp only
  split
  · exact Counts.after (Counts.judgeRouted _ _ _ _ (by simp)) (Counts.onJobs _ _)
  · exact Counts.before (Counts.onJobs _ _) (Counts.queueDown _ _ _ _)

theorem Counts.routeUpward (f : Frame) (k : Option Nat) (up : Bool) (s : State) :
    Counts (- one .roof .train) (- one .roof .roof) s (s.routeUpward f k up) := by
  unfold State.routeUpward State.forwardUp
  split
  · split
    · refine Counts.before ?_ (Counts.judge _ _ _ _ _ (by decide))
      exact Counts.of_fr rfl rfl
    · exact Counts.after (Counts.judge _ _ _ _ _ (by decide)) (Counts.onJobs _ _)
  · exact Counts.judge _ _ _ _ _ (by decide)

theorem Counts.missed (s : State) : Counts 0 0 s s.missed := by
  unfold State.missed
  split
  · dsimp only
    split
    · exact Counts.same rfl
    · exact Counts.same rfl
  · exact Counts.same rfl

theorem Counts.roofFrame (f : Frame) (s : State) : Counts 0 0 s (s.roofFrame f) := by
  refine Counts.taken .roof f s _ ?_
  unfold State.roofFrame
  dsimp only
  split
  · refine Counts.after (Counts.before ?_ (Counts.routeUpward _ _ _ _)) (Counts.finish _)
    exact Counts.same rfl
  · refine Counts.after (Counts.after (Counts.judgeRouted .roof f (.dropped .stray) _ (by decide)) ?_) (Counts.finish _)
    split
    · exact Counts.missed _
    · exact Counts.refl _

theorem Counts.misdirected (p : Port) (f : Frame) (s : State) : Counts 0 0 s (s.misdirected p f) := by
  refine Counts.taken p f s _ ?_
  unfold State.misdirected
  dsimp only
  refine Counts.after (Counts.after (Counts.judgeRouted p f (.dropped .misdirected) _ (by decide)) ?_) (Counts.finish _)
  split
  · exact Counts.missed _
  · exact Counts.refl _

theorem Counts.startExchange (kind : ExchangeKind) (f : Frame) (s : State) : Counts 0 0 s (s.startExchange kind f) :=
  Counts.same rfl

theorem Counts.originateRoof (f : Frame) (s : State) : Counts 0 0 s (s.originateRoof f) := by
  refine Counts.after (Counts.before ?_ (Counts.delivered (Delivered.offerFrame _ _ _ _ _ _))) (Counts.onJobs _ _)
  exact Counts.of_fr rfl rfl

theorem Counts.sendQueued (f : Frame) (rest : List Frame) (s : State) : Counts 0 0 s (s.sendQueued f rest) := by
  unfold State.sendQueued
  dsimp only
  split
  · exact Counts.of_fr rfl rfl
  · exact Counts.of_fr rfl rfl

theorem Counts.searchedAll (s : State) : Counts 0 0 s s.searchedAll := Counts.same (State.searchedAll_rest s).2.1

theorem Counts.choice (s : State) : Counts 0 0 s s.choice := by
  have h1 := Counts.searchedAll s
  have h2 : ∀ i q, Counts 0 0 s (s.sendPoll i q) := by
    intro i q
    unfold State.sendPoll
    generalize (searched s.rb.cursor s.rb.pass (some (i, q))).map slotAddr = examined
    dsimp only
    have hr : ∀ (g : Jobs → Jobs) (v : Sched), ((s.onJobs g).setRb v).fr = s.fr := fun _ _ => rfl
    refine Counts.after (Counts.before ?_ (Counts.originateRoof _ _)) (Counts.startExchange _ _ _)
    exact Counts.same (hr _ _)
  have h3 : ∀ e, Counts 0 0 s (s.sendComposed e) := by
    intro e
    unfold State.sendComposed
    dsimp only
    have hj : ∀ j : Jobs, (s.setJobs j).fr = s.fr := fun _ => rfl
    refine Counts.after (Counts.before ?_ (Counts.originateRoof _ _)) (Counts.startExchange _ _ _)
    exact Counts.same (hj _)
  unfold State.choice
  split
  · dsimp only
    split
    · exact h3 _
    · exact Counts.sendQueued _ _ s
    · unfold State.choosePoll
      dsimp only
      split
      · exact h2 _ _
      · exact h1.after (Counts.sendQueued _ _ _)
      · exact h1
  · exact Counts.refl s

theorem Counts.linkError (p : Port) (e : LinkError) (s : State) : Counts 0 0 s (s.linkError p e) :=
  Counts.same (by cases p <;> rfl)

theorem Counts.setPort (p : Port) (v : PortState) (s : State) : Counts 0 0 s (s.setPort p v) :=
  Counts.same (by cases p <;> rfl)

theorem Counts.roofBegin (s : State) : Counts 0 0 s s.roofBegin := by
  unfold State.roofBegin
  split
  · exact Counts.same rfl
  · exact Counts.refl s

theorem Counts.answerStart (s : State) : Counts 0 0 s s.answerStart := by
  unfold State.answerStart
  split
  · split
    · exact Counts.same rfl
    · exact Counts.roofBegin s
  · exact Counts.roofBegin s

theorem Counts.character (p : Port) (data : Byte) (x stop : Bool) (s : State) : Counts 0 0 s (s.character p data x stop) := by
  unfold State.character
  split
  · dsimp only
    have h0 : Counts 0 0 s (if p = .roof then s.answerStart else s) := by
      split
      · exact Counts.answerStart s
      · exact Counts.refl s
    refine h0.after ?_
    generalize (if p = .roof then s.answerStart else s) = u
    have h1 : ∀ v : State, Counts 0 0 v (if (u.port p).settings.parity.wrong data x = true then v.linkError p .parity else v) := by
      intro v
      split
      · exact Counts.linkError _ _ v
      · exact Counts.refl v
    have h2 : ∀ v : State, Counts 0 0 v (if stop = true then v else v.linkError p .framing) := by
      intro v
      split
      · exact Counts.refl v
      · exact Counts.linkError _ _ v
    refine Counts.after ?_ (h2 _)
    refine Counts.after ?_ (h1 _)
    exact Counts.setPort _ _ u
  · exact Counts.refl s

theorem Counts.frameComplete (p : Port) (s : State) : Counts 0 0 s (s.frameComplete p) := by
  unfold State.frameComplete
  split
  · exact Counts.refl s
  · dsimp only
    rename_i a _
    have hj : Counts 0 0 s (s.judged p a) := by
      unfold State.judged
      dsimp only
      split
      · exact (Counts.setPort _ _ s).after (Counts.linkError _ _ _)
      · exact (Counts.setPort _ _ s).after (Counts.linkError _ _ _)
      · exact Counts.setPort _ _ s
    refine hj.after ?_
    split
    · unfold State.answerJudged
      split
      · exact Counts.same rfl
      · exact Counts.missed _
    · exact Counts.refl _

theorem Counts.reply (f : Frame) (k : SvcControl) (op : Nat) (st : Status) (s : State) : Counts 0 0 s (s.reply f k op st) := by
  unfold State.reply
  split
  · exact Counts.onJobs _ s
  · exact Counts.refl s

theorem Counts.restartTrain (s : State) : Counts 0 0 s s.restartTrain := by
  unfold State.restartTrain
  dsimp only
  split
  · exact Counts.refl s
  · exact Counts.same rfl
  · exact Counts.same rfl

theorem Counts.rearm (s : State) : Counts 0 0 s s.rearm := Counts.same rfl

theorem Counts.restart (s : State) : Counts 0 0 s s.restart := by
  unfold State.restart
  dsimp only
  generalize Jobs.resetJobs s.jobs.tag s.jobs.tm s.jobs.p1.cause s.jobs.p2.cause = fresh
  refine Counts.after ?_ (Counts.onJobs _ _)
  refine Counts.after ?_ (Counts.rearm _)
  refine Counts.after ?_ (Counts.restartTrain _)
  exact Counts.of_fr rfl rfl

theorem Counts.abandon (s : State) : Counts 0 0 s s.abandon := Counts.same rfl

theorem Counts.trainApply (s : State) : Counts 0 0 s s.trainApply := by
  unfold State.trainApply
  split
  · split
    · exact Counts.same rfl
    · exact Counts.refl s
  · exact Counts.refl s

theorem Counts.transmitStart (s : State) : Counts 0 0 s s.transmitStart := by
  unfold State.transmitStart
  split
  · split
    · exact Counts.same rfl
    · exact Counts.refl s
  · exact Counts.refl s

theorem Counts.roofFrameSent (s : State) : Counts 0 0 s s.roofFrameSent := by
  unfold State.roofFrameSent
  split
  · dsimp only
    split
    · split
      · exact Counts.same rfl
      · exact Counts.same rfl
    · exact Counts.same rfl
  · exact Counts.refl s

theorem Counts.roofApply (s : State) : Counts 0 0 s s.roofApply := by
  unfold State.roofApply
  split
  · dsimp only
    split
    · exact Counts.same rfl
    · exact Counts.same rfl
  · exact Counts.refl s

theorem Counts.answerTimeout (s : State) : Counts 0 0 s s.answerTimeout := by
  unfold State.answerTimeout
  split
  · exact Counts.missed s
  · exact Counts.refl s

theorem Counts.answerLimitExpiry (s : State) : Counts 0 0 s s.answerLimitExpiry := by
  unfold State.answerLimitExpiry
  split
  · refine Counts.before ?_ (Counts.missed _)
    exact Counts.same rfl
  · exact Counts.refl s

theorem Counts.serviceRead (f : Frame) (k : SvcControl) (addr : Word) (s : State) : Counts 0 0 s (s.serviceRead f k addr) := by
  unfold State.serviceRead
  dsimp only
  refine Counts.after (Counts.after ((Counts.consume f s).after ?_) (Counts.onJobs _ _)) (Counts.finish _)
  exact Counts.same rfl

theorem Counts.roofWordWritten (s : State) : Counts 0 0 s s.roofWordWritten := by
  unfold State.roofWordWritten
  split
  · exact Counts.same rfl
  · exact Counts.before (t := s.setRoof { s.roof with applyWord := true }) (Counts.same rfl) (Counts.roofApply _)

theorem Counts.roofWordDue (as : List Nat) (s : State) : Counts 0 0 s (s.roofWordDue as) := by
  unfold State.roofWordDue
  split
  · exact Counts.roofApply s
  · exact Counts.refl s

theorem Counts.serviceWrite (f : Frame) (k : SvcControl) (addr : Word) (data : List Word) (s : State) :
    Counts 0 0 s (s.serviceWrite f k addr data) := by
  unfold State.serviceWrite
  dsimp only
  refine Counts.after (Counts.after ((Counts.consume f s).after ?_) (Counts.reply _ _ _ _ _)) (Counts.finish _)
  split
  · exact Counts.refl _
  · split
    · exact ((Counts.roofWordDue _ _).after (Counts.onJobs _ _)).after (Counts.roofWordWritten _)
    · exact (Counts.roofWordDue _ _).after (Counts.onJobs _ _)

theorem Counts.serviceCheckWrite (f : Frame) (k : SvcControl) (addr data : Word) (s : State) :
    Counts 0 0 s (s.serviceCheckWrite f k addr data) := by
  unfold State.serviceCheckWrite
  dsimp only
  refine Counts.after (Counts.after ((Counts.consume f s).after ?_) (Counts.reply _ _ _ _ _)) (Counts.finish _)
  split
  · exact (Counts.roofWordDue _ _).after (Counts.onJobs _ _)
  · exact Counts.refl _

theorem Counts.serviceClear (f : Frame) (k : SvcControl) (low high : Word) (s : State) :
    Counts 0 0 s (s.serviceClear f k low high) := by
  unfold State.serviceClear
  dsimp only
  refine Counts.after (Counts.after ((Counts.consume f s).after ?_) (Counts.reply _ _ _ _ _)) (Counts.finish _)
  exact Counts.same rfl

theorem Counts.serviceCommission (f : Frame) (k : SvcControl) (s : State) : Counts 0 0 s (s.serviceCommission f k) := by
  unfold State.serviceCommission
  dsimp only
  refine (Counts.consume f s).after ?_
  split
  · exact (Counts.reply _ _ _ _ _).after (Counts.finish _)
  · split
    · exact ((Counts.onJobs _ _).after (Counts.reply _ _ _ _ _)).after (Counts.finish _)
    · exact (((Counts.abandon _).after (Counts.onJobs _ _)).after (Counts.reply _ _ _ _ _)).after (Counts.finish _)

theorem Counts.serviceRestart (f : Frame) (k : SvcControl) (s : State) : Counts 0 0 s (s.serviceRestart f k) := by
  unfold State.serviceRestart
  dsimp only
  refine (Counts.consume f s).after ?_
  split
  · exact (((Counts.drain _ _).after (Counts.restart _)).after (Counts.reply _ _ _ _ _)).after (Counts.finish _)
  · exact (Counts.reply _ _ _ _ _).after (Counts.finish _)

theorem Counts.tick (s : State) : Counts 0 0 s s.tick := by
  unfold State.tick
  dsimp only
  refine Counts.after (Counts.after ?_ (Counts.onJobs _ _)) (Counts.finish _)
  exact Counts.same rfl

theorem Counts.unlessReset (f : State → State) (s : State) (h : ∀ u, Counts 0 0 u (f u)) :
    ∃ t, s.unlessReset f = .next t ∧ Counts 0 0 s t := by
  refine ⟨_, rfl, ?_⟩
  split
  · exact Counts.refl s
  · exact h s

theorem Counts.taking (p : Port) (f : Frame) (g : Frame → State → State) (s : State) (h : ∀ u, Counts 0 0 u (g f u)) :
    ∃ t, s.taking p f g = .next t ∧ Counts 0 0 s t :=
  Counts.unlessReset _ s (fun u => by
    show Counts 0 0 u (if (u.port p).holds f then g f u else u)
    split
    · exact h u
    · exact Counts.refl u)

/-- R150: every command but power-on and the RESET line's release leaves the counts even. -/
theorem Counts.exec (i : Instr) (s : State) (h1 : i ≠ .powerOn) (h2 : i ≠ .resetRelease) :
    ∃ t, exec i s = .next t ∧ Counts 0 0 s t := by
  cases i with
  | powerOn => exact absurd rfl h1
  | resetAssert => exact ⟨_, rfl, Counts.same (by unfold State.resetAssert; split <;> rfl)⟩
  | resetRelease => exact absurd rfl h2
  | breakBegin => exact Counts.unlessReset _ s (fun u => Counts.same rfl)
  | breakEnd => exact Counts.unlessReset _ s (fun u => Counts.after (Counts.same (by unfold State.breakEnd; split <;> rfl)) (Counts.finish _))
  | discoveryMeasurement m => exact Counts.unlessReset (fun s => s.setTrain (s.train.discover m)) s (fun u => Counts.same rfl)
  | receiverSettleGap p => exact Counts.unlessReset _ s (fun u => ((Counts.frameComplete _ u).after (Counts.setPort _ _ _)).after (Counts.finish _))
  | frameComplete p => exact Counts.unlessReset _ s (fun u => (Counts.frameComplete _ u).after (Counts.finish _))
  | trainFrameSent => exact Counts.unlessReset _ s (fun u => Counts.of_fr (by unfold State.trainSent; split <;> rfl) (by unfold State.trainSent; split <;> rfl))
  | trainSettingsApply => exact Counts.unlessReset _ s (fun u => Counts.trainApply u)
  | roofFrameSent => exact Counts.unlessReset _ s (fun u => Counts.roofFrameSent u)
  | roofSettingsApply => exact Counts.unlessReset _ s (fun u => (Counts.roofApply u).after (Counts.finish _))
  | exchangeChoice => exact Counts.unlessReset _ s (fun u => (Counts.choice u).after (Counts.finish _))
  | answerStart => exact Counts.unlessReset _ s (fun u => Counts.answerStart u)
  | answerTimeout => exact Counts.unlessReset _ s (fun u => (Counts.answerTimeout u).after (Counts.finish _))
  | answerLimitExpiry => exact Counts.unlessReset _ s (fun u => (Counts.answerLimitExpiry u).after (Counts.finish _))
  | misdirectedFrame p k h payload =>
    dsimp only [Machine.exec, execMisdirectedFrame]
    exact Counts.taking _ _ _ s (fun u => Counts.misdirected _ _ u)
  | roofMeasureFrame h payload =>
    dsimp only [Machine.exec, execRoofMeasureFrame]
    exact Counts.taking _ _ _ s (fun u => Counts.roofFrame _ u)
  | roofAnswerFrame h payload =>
    dsimp only [Machine.exec, execRoofAnswerFrame]
    exact Counts.taking _ _ _ s (fun u => Counts.roofFrame _ u)
  | trainOrder h payload =>
    dsimp only [Machine.exec, execTrainOrder]
    exact Counts.taking _ _ _ s (fun u => (Counts.trainOrder _ u).after (Counts.finish _))
  | trainQuery h payload =>
    dsimp only [Machine.exec, execTrainQuery]
    exact Counts.taking _ _ _ s (fun u => (Counts.trainQuery _ u).after (Counts.finish _))
  | breakerClose h arg extra =>
    dsimp only [Machine.exec, execBreakerClose]
    exact Counts.taking _ _ _ s (fun u => Counts.request _ _ _ u)
  | breakerOpen h arg extra =>
    dsimp only [Machine.exec, execBreakerOpen]
    exact Counts.taking _ _ _ s (fun u => Counts.request _ _ _ u)
  | select h arg extra =>
    dsimp only [Machine.exec, execSelect]
    exact Counts.taking _ _ _ s (fun u => Counts.request _ _ _ u)
  | energise h arg extra =>
    dsimp only [Machine.exec, execEnergise]
    exact Counts.taking _ _ _ s (fun u => Counts.request _ _ _ u)
  | changeoverResume h arg extra =>
    dsimp only [Machine.exec, execChangeoverResume]
    exact Counts.taking _ _ _ s (fun u => Counts.request _ _ _ u)
  | changeoverAbort h arg extra =>
    dsimp only [Machine.exec, execChangeoverAbort]
    exact Counts.taking _ _ _ s (fun u => Counts.request _ _ _ u)
  | raise h arg extra =>
    dsimp only [Machine.exec, execRaise]
    exact Counts.taking _ _ _ s (fun u => Counts.request _ _ _ u)
  | lower h arg extra =>
    dsimp only [Machine.exec, execLower]
    exact Counts.taking _ _ _ s (fun u => Counts.request _ _ _ u)
  | faultClear h arg extra =>
    dsimp only [Machine.exec, execFaultClear]
    exact Counts.taking _ _ _ s (fun u => Counts.request _ _ _ u)
  | iceMode h arg extra =>
    dsimp only [Machine.exec, execIceMode]
    exact Counts.taking _ _ _ s (fun u => Counts.request _ _ _ u)
  | lowerAllOn h arg extra =>
    dsimp only [Machine.exec, execLowerAllOn]
    exact Counts.taking _ _ _ s (fun u => Counts.request _ _ _ u)
  | lowerAllOff h extra =>
    dsimp only [Machine.exec, execLowerAllOff]
    exact Counts.taking _ _ _ s (fun u => Counts.request _ _ _ u)
  | holdOn h arg extra =>
    dsimp only [Machine.exec, execHoldOn]
    exact Counts.taking _ _ _ s (fun u => Counts.request _ _ _ u)
  | holdOff h extra =>
    dsimp only [Machine.exec, execHoldOff]
    exact Counts.taking _ _ _ s (fun u => Counts.request _ _ _ u)
  | requestUnknown h payload =>
    dsimp only [Machine.exec, execRequestUnknown]
    exact Counts.taking _ _ _ s (fun u => Counts.request _ _ _ u)
  | aheadNeutral h a =>
    dsimp only [Machine.exec, execAheadNeutral]
    exact Counts.taking _ _ _ s (fun u => Counts.ahead _ _ _ u)
  | aheadBoundary h a =>
    dsimp only [Machine.exec, execAheadBoundary]
    exact Counts.taking _ _ _ s (fun u => Counts.ahead _ _ _ u)
  | aheadCancel h a =>
    dsimp only [Machine.exec, execAheadCancel]
    exact Counts.taking _ _ _ s (fun u => Counts.ahead _ _ _ u)
  | aheadSpeed h code a =>
    dsimp only [Machine.exec, execAheadSpeed]
    exact Counts.taking _ _ _ s (fun u => Counts.ahead _ _ _ u)
  | aheadIceZone h a =>
    dsimp only [Machine.exec, execAheadIceZone]
    exact Counts.taking _ _ _ s (fun u => Counts.ahead _ _ _ u)
  | shortAheadFrame h payload =>
    dsimp only [Machine.exec, execShortAheadFrame]
    exact Counts.taking _ _ _ s (fun u => (Counts.consume _ u).after (Counts.finish _))
  | serviceRead h c addr extra =>
    dsimp only [Machine.exec, execServiceRead]
    exact Counts.taking _ _ _ s (fun u => Counts.serviceRead _ _ _ u)
  | serviceWrite h c addr data =>
    dsimp only [Machine.exec, execServiceWrite]
    exact Counts.taking _ _ _ s (fun u => Counts.serviceWrite _ _ _ _ u)
  | serviceCheckWrite h c addr data extra =>
    dsimp only [Machine.exec, execServiceCheckWrite]
    exact Counts.taking _ _ _ s (fun u => Counts.serviceCheckWrite _ _ _ _ u)
  | serviceClearFlags h c addr low high extra =>
    dsimp only [Machine.exec, execServiceClearFlags]
    exact Counts.taking _ _ _ s (fun u => Counts.serviceClear _ _ _ _ u)
  | serviceRearm h c extra =>
    dsimp only [Machine.exec, execServiceRearm]
    exact Counts.taking _ _ _ s (fun u => ((((Counts.consume _ u).after (Counts.drain _ _)).after (Counts.rearm _)).after (Counts.reply _ _ _ _ _)).after (Counts.finish _))
  | serviceCommission h c extra =>
    dsimp only [Machine.exec, execServiceCommission]
    exact Counts.taking _ _ _ s (fun u => Counts.serviceCommission _ _ u)
  | serviceRestart h c extra =>
    dsimp only [Machine.exec, execServiceRestart]
    exact Counts.taking _ _ _ s (fun u => Counts.serviceRestart _ _ u)
  | serviceUnknown h payload =>
    dsimp only [Machine.exec, execServiceUnknown]
    exact Counts.taking _ _ _ s (fun u => ((Counts.consume _ u).after (Counts.onJobs _ _)).after (Counts.finish _))
  | featureDue => exact Counts.unlessReset _ s (fun u => Counts.work _ u)
  | speedAged => exact Counts.unlessReset _ s (fun u => Counts.work _ u)
  | csStepTimeout => exact Counts.unlessReset _ s (fun u => Counts.work _ u)
  | coastExpiry => exact Counts.unlessReset _ s (fun u => Counts.work _ u)
  | closePulseExpiry => exact Counts.unlessReset _ s (fun u => Counts.work _ u)
  | raiseTimeout x => exact Counts.unlessReset _ s (fun u => Counts.work _ u)
  | lowerTimeout x => exact Counts.unlessReset _ s (fun u => Counts.work _ u)
  | settleTimerExpiry x => exact Counts.unlessReset _ s (fun u => Counts.work _ u)
  | arcIntervalExpiry x => exact Counts.unlessReset _ s (fun u => Counts.work _ u)
  | arcEdge x => exact Counts.unlessReset _ s (fun u => Counts.work _ u)
  | heaterPairExpiry x => exact Counts.unlessReset _ s (fun u => Counts.work _ u)
  | iceAssessment => exact Counts.unlessReset _ s (fun u => Counts.work _ u)
  | statusTimerExpiry => exact Counts.unlessReset _ s (fun u => Counts.work _ u)
  | refreshTimerExpiry => exact Counts.unlessReset _ s (fun u => Counts.work _ u)
  | starvationTimerExpiry => exact Counts.unlessReset _ s (fun u => Counts.work _ u)
  | splitReadLatchExpiry => exact Counts.unlessReset _ s (fun u => Counts.same (by unfold State.latchExpiry; split <;> rfl))
  | scrubRead => exact Counts.unlessReset _ s (fun u => Counts.tick u)
  | arcInputSample x high => exact Counts.unlessReset _ s (fun u => Counts.work _ u)
  | characterReceived p data parityBit stopHigh => exact Counts.unlessReset _ s (fun u => (Counts.character _ _ _ _ u).after (Counts.finish _))
  | trainTransmitStart => exact Counts.unlessReset _ s (fun u => Counts.transmitStart u)

end Sys2Proof.Machine
end

