-- ==== Sys2Proof/Laws/Ends.lean ====
section
/-! SUPPORT. How a command's answer is found: a command kept away by the RESET line, one that ends a step, one that
changes nothing, and a REQUEST's answer from what its owner decides. -/

namespace Sys2Proof.Machine

open Sys2Proof

variable {i : Instr} {s t u : State} {g : State → State} {f : Frame}

/-- Every command but power-on and the RESET line's own is kept away while that line is asserted. -/
theorem exec_unlessReset (i : Instr) (h1 : i ≠ .powerOn) (h2 : i ≠ .resetAssert) (h3 : i ≠ .resetRelease) :
    ∃ g : State → State, ∀ s, exec i s = s.unlessReset g := by
  cases i <;> first
    | exact absurd rfl h1
    | exact absurd rfl h2
    | exact absurd rfl h3
    | exact ⟨_, fun s => by dsimp only [exec]; rfl⟩

/-- Outside a reset, a command whose meaning ends a step from `u`. -/
theorem EndsFrom.of (h : s.inReset = false) (g : State → State)
    (hi : exec i s = s.unlessReset (fun s => (g s).finish)) (e : g s = u) : EndsFrom i s u := by
  intro _
  rw [hi, State.unlessReset_of h, e]

/-- Outside a reset, a command whose meaning is `t`. -/
theorem State.unlessReset_to (h : s.inReset = false) (e : g s = t) : s.unlessReset g = .next t := by
  rw [State.unlessReset_of h, e]

/-- A command that changes nothing, in a reset or not. -/
theorem State.unlessReset_same (e : g s = s) : s.unlessReset g = .next s := by
  unfold State.unlessReset
  rw [e, ite_self]

/-- A step that takes the oldest frame of its port's buffers. -/
theorem State.taking_of {p : Port} {k : Frame → State → State} (h : s.inReset = false) (hf : (s.port p).holds f = true) :
    s.taking p f k = .next (k f s) := by
  unfold State.taking
  rw [State.unlessReset_of h, if_pos hf]

/-- R132: a step that takes a frame changes nothing where that frame is not the oldest in its port's buffers. -/
theorem State.taking_not {p : Port} {k : Frame → State → State} (hf : (s.port p).holds f = false) :
    s.taking p f k = .next s := by
  refine State.unlessReset_same ?_
  rw [if_neg (by simp [hf])]

/-- Outside a reset, a command that takes a frame and whose meaning ends a step from `u`. -/
theorem EndsFrom.of_taking {p : Port} {k : Frame → State → State} (h : s.inReset = false) (hf : i.frame? = some (p, f))
    (hi : exec i s = s.taking p f k) (e : k f s = u.finish) : EndsFrom i s u := by
  intro hh
  rw [hi, State.taking_of h (hh p f hf), e]

/-- R132: the meaning of a command that takes a frame is a step that takes that frame. -/
theorem exec_taking {p : Port} (hf : i.frame? = some (p, f)) : ∃ k, ∀ s, exec i s = s.taking p f k := by
  cases i <;> first
    | (simp only [Instr.frame?, reduceCtorEq] at hf; done)
    | (simp only [Instr.frame?, Option.some.injEq, Prod.mk.injEq] at hf
       obtain ⟨rfl, rfl⟩ := hf
       exact ⟨_, fun s => by dsimp only [exec]; rfl⟩)

/-- R132: a command that takes a frame changes nothing where that frame is not the oldest in its port's buffers. -/
theorem exec_not_at_hand {p : Port} (hf : i.frame? = some (p, f)) (hh : (s.port p).holds f = false) :
    exec i s = .next s := by
  obtain ⟨k, hk⟩ := exec_taking hf
  rw [hk, State.taking_not hh]

/-- R189: a REQUEST that its owner decides. -/
theorem Answers.of {c : Nat} {run : Jobs → Answer × Jobs} {a : Answer} {j : Jobs} (h : Running s)
    (ht : s.jobs.oc.hold = false ∨ takenUnderHold c = true) (hf : i.frame? = some (.train, f))
    (hi : exec i s = s.taking .train f (fun f s => s.request f c run)) (e : run (s.after f) = (a, j)) :
    Answers i f c a j s := by
  obtain ⟨⟨h1, -⟩, h2⟩ := h
  obtain ⟨-, -, -, -, -, -, -, -, -, -, -, -, hs⟩ := State.consume_spec f s
  have hd : (s.consume f).jobs.dev = .run := by rw [hs.rest]; exact h2
  have ho : (s.consume f).jobs.oc = s.jobs.oc := by rw [hs.rest]
  have hg : ((s.consume f).jobs.oc.hold && !takenUnderHold c) = false := by
    rw [ho]
    rcases ht with ht | ht <;> simp [ht]
  have e' : run (s.consume f).jobs = (a, j) := e
  refine EndsFrom.of_taking h1 hf hi ?_
  unfold State.request State.onJobs Jobs.answerRequest
  simp only [hd, hg, e', reduceCtorEq, if_false, Bool.false_eq_true]

/-- Consuming a frame leaves the roof jobs as they were but for the bookkeeping of table memory. -/
theorem State.after_spec (f : Frame) (s : State) : Still s.jobs (s.after f) :=
  (State.consume_spec f s).2.2.2.2.2.2.2.2.2.2.2.2

theorem Still.onlyReads {j k : Jobs} (h : Still j k) : OnlyReads j k := h.rest

/-- What the OC makes of a step's end (R102, R104, R113). -/
theorem State.finish_outputs (s : State) : OutputsFollow s.finish := by
  obtain ⟨-, -, -, e⟩ := State.finish_spec s
  intro _
  rw [e]
  obtain ⟨h1, h2, h3, h4, -, h5, h6, h7, -⟩ := Jobs.ocFollow_spec _ (s.jobs.pump 64) (s.jobs.pump 64).ocSync rfl
  have hs : s.jobs.settle = (s.jobs.pump 64).ocSync := rfl
  generalize hk : s.jobs.pump 64 = k at *
  have hw : ∀ tm : TableMem, Jobs.wanted { k.ocSync with tm := tm, todo := [], out := [] } = k.wanted := by
    intro tm
    rw [h1]
    rfl
  refine ⟨?_, ?_, ?_, ?_⟩
  · show s.jobs.settle.oc.image = _
    rw [hs, hw, h2]
  · show s.jobs.settle.oc.sending = s.jobs.settle.oc.sendingOf s.jobs.settle.oc.image
    rw [hs, h3, h2]
    unfold Outputs.sendingOf
    rw [h5, h6, h7]
    unfold Outputs.stillFrozen
    cases k.oc.hold <;> rfl
  · show s.jobs.settle.oc.hold = false → s.jobs.settle.oc.frozen = none
    rw [hs, h6, h7]
    intro h
    unfold Outputs.stillFrozen
    rw [h]
    rfl
  · show s.jobs.settle.oc.safe = true ↔
      s.jobs.settle.p1.state = .lowered ∧ s.jobs.settle.p2.state = .lowered ∧ s.jobs.settle.fb.brk = .open
    rw [hs, h4, h1]
    simp [Jobs.safeNow, Jobs.bothLowered, and_assoc]

end Sys2Proof.Machine
end

