-- ==== Sys2Proof/Laws/PerInstr.lean ====
section
/-! SUPPORT. What holds of every command as a term, one lemma per constructor of `Instr`: the frame a well-formed
command names fits the link (13.1: at most 16 payload words). -/

namespace Sys2Proof.Laws.Fits

open Sys2Proof

/-- A well-formed command that takes a frame takes one whose payload a frame can carry. -/
def Statement (i : Instr) : Prop :=
  i.wellFormed = true → ∀ p f, i.frame? = some (p, f) → f.payload.length ≤ 16

/-- A command that takes no frame. -/
theorem of_no_frame {i : Instr} (h : i.frame? = none) : Statement i := by
  intro _ p f hf
  rw [h] at hf
  exact absurd hf (by simp)

/-- A command whose well-formedness bounds the payload of its frame. -/
theorem of_frame {i : Instr} {p : Port} {f : Frame} (h : i.frame? = some (p, f))
    (hw : i.wellFormed = true → f.payload.length ≤ 16) : Statement i := by
  intro hi q g hg
  rw [h] at hg
  injection hg with hg
  injection hg with _ hg
  rw [← hg]
  exact hw hi

/-- 13.1: what `fitsFrame` bounds, alone or with another test. -/
theorem of_fits {n : Nat} (h : fitsFrame n = true) : n ≤ 16 := of_decide_eq_true h

theorem of_fits_and {n : Nat} {b : Bool} (h : (fitsFrame n && b) = true) : n ≤ 16 :=
  of_fits (Bool.and_eq_true_iff.mp h).1

theorem of_and_fits {n : Nat} {b : Bool} (h : (b && fitsFrame n) = true) : n ≤ 16 :=
  of_fits (Bool.and_eq_true_iff.mp h).2

theorem powerOn : Statement (.powerOn) := of_no_frame rfl

theorem resetAssert : Statement (.resetAssert) := of_no_frame rfl

theorem resetRelease : Statement (.resetRelease) := of_no_frame rfl

theorem breakBegin : Statement (.breakBegin) := of_no_frame rfl

theorem breakEnd : Statement (.breakEnd) := of_no_frame rfl

theorem discoveryMeasurement (m : Measurement) : Statement (.discoveryMeasurement m) := of_no_frame rfl

theorem receiverSettleGap (p : Port) : Statement (.receiverSettleGap p) := of_no_frame rfl

theorem frameComplete (p : Port) : Statement (.frameComplete p) := of_no_frame rfl

theorem trainFrameSent : Statement (.trainFrameSent) := of_no_frame rfl

theorem trainSettingsApply : Statement (.trainSettingsApply) := of_no_frame rfl

theorem roofFrameSent : Statement (.roofFrameSent) := of_no_frame rfl

theorem roofSettingsApply : Statement (.roofSettingsApply) := of_no_frame rfl

theorem exchangeChoice : Statement (.exchangeChoice) := of_no_frame rfl

theorem answerStart : Statement (.answerStart) := of_no_frame rfl

theorem answerTimeout : Statement (.answerTimeout) := of_no_frame rfl

theorem answerLimitExpiry : Statement (.answerLimitExpiry) := of_no_frame rfl

theorem misdirectedFrame (p : Port) (k : Kind) (h : Header) (payload : List Word) : Statement (.misdirectedFrame p k h payload) :=
  of_frame rfl of_and_fits

theorem roofMeasureFrame (h : Header) (payload : List Word) : Statement (.roofMeasureFrame h payload) :=
  of_frame rfl of_fits

theorem roofAnswerFrame (h : Header) (payload : List Word) : Statement (.roofAnswerFrame h payload) :=
  of_frame rfl of_fits

theorem trainOrder (h : Header) (payload : List Word) : Statement (.trainOrder h payload) := of_frame rfl of_fits

theorem trainQuery (h : Header) (payload : List Word) : Statement (.trainQuery h payload) := of_frame rfl of_fits

theorem breakerClose (h : Header) (arg : Byte) (extra : List Word) : Statement (.breakerClose h arg extra) :=
  of_frame rfl of_fits

theorem breakerOpen (h : Header) (arg : Byte) (extra : List Word) : Statement (.breakerOpen h arg extra) :=
  of_frame rfl of_fits

theorem select (h : Header) (arg : Byte) (extra : List Word) : Statement (.select h arg extra) := of_frame rfl of_fits

theorem energise (h : Header) (arg : Byte) (extra : List Word) : Statement (.energise h arg extra) :=
  of_frame rfl of_fits

theorem changeoverResume (h : Header) (arg : Byte) (extra : List Word) : Statement (.changeoverResume h arg extra) :=
  of_frame rfl of_fits

theorem changeoverAbort (h : Header) (arg : Byte) (extra : List Word) : Statement (.changeoverAbort h arg extra) :=
  of_frame rfl of_fits

theorem raise (h : Header) (arg : Byte) (extra : List Word) : Statement (.raise h arg extra) := of_frame rfl of_fits

theorem lower (h : Header) (arg : Byte) (extra : List Word) : Statement (.lower h arg extra) := of_frame rfl of_fits

theorem faultClear (h : Header) (arg : Byte) (extra : List Word) : Statement (.faultClear h arg extra) :=
  of_frame rfl of_fits

theorem iceMode (h : Header) (arg : Byte) (extra : List Word) : Statement (.iceMode h arg extra) := of_frame rfl of_fits

theorem lowerAllOn (h : Header) (arg : Byte) (extra : List Word) : Statement (.lowerAllOn h arg extra) :=
  of_frame rfl of_fits_and

theorem lowerAllOff (h : Header) (extra : List Word) : Statement (.lowerAllOff h extra) := of_frame rfl of_fits

theorem holdOn (h : Header) (arg : Byte) (extra : List Word) : Statement (.holdOn h arg extra) :=
  of_frame rfl of_fits_and

theorem holdOff (h : Header) (extra : List Word) : Statement (.holdOff h extra) := of_frame rfl of_fits

theorem requestUnknown (h : Header) (payload : List Word) : Statement (.requestUnknown h payload) :=
  of_frame rfl of_fits_and

theorem aheadNeutral (h : Header) (a : Announcement) : Statement (.aheadNeutral h a) := of_frame rfl of_fits

theorem aheadBoundary (h : Header) (a : Announcement) : Statement (.aheadBoundary h a) := of_frame rfl of_fits

theorem aheadCancel (h : Header) (a : Announcement) : Statement (.aheadCancel h a) := of_frame rfl of_fits

theorem aheadSpeed (h : Header) (code : BitVec 4) (a : Announcement) : Statement (.aheadSpeed h code a) :=
  of_frame rfl of_fits_and

theorem aheadIceZone (h : Header) (a : Announcement) : Statement (.aheadIceZone h a) := of_frame rfl of_fits

theorem serviceRead (h : Header) (c : SvcControl) (addr : Word) (extra : List Word) : Statement (.serviceRead h c addr extra) :=
  of_frame rfl of_fits

theorem serviceWrite (h : Header) (c : SvcControl) (addr : Word) (data : List Word) : Statement (.serviceWrite h c addr data) :=
  of_frame rfl of_fits_and

theorem serviceCheckWrite (h : Header) (c : SvcControl) (addr : Word) (data : Word) (extra : List Word) : Statement (.serviceCheckWrite h c addr data extra) :=
  of_frame rfl of_fits

theorem serviceClearFlags (h : Header) (c : SvcControl) (addr low high : Word) (extra : List Word) : Statement (.serviceClearFlags h c addr low high extra) :=
  of_frame rfl of_fits

theorem serviceRearm (h : Header) (c : SvcControl) (extra : List Word) : Statement (.serviceRearm h c extra) :=
  of_frame rfl of_fits

theorem serviceCommission (h : Header) (c : SvcControl) (extra : List Word) : Statement (.serviceCommission h c extra) :=
  of_frame rfl of_fits

theorem serviceRestart (h : Header) (c : SvcControl) (extra : List Word) : Statement (.serviceRestart h c extra) :=
  of_frame rfl of_fits

theorem serviceUnknown (h : Header) (payload : List Word) : Statement (.serviceUnknown h payload) :=
  of_frame rfl of_fits_and

theorem featureDue : Statement (.featureDue) := of_no_frame rfl

theorem speedAged : Statement (.speedAged) := of_no_frame rfl

theorem csStepTimeout : Statement (.csStepTimeout) := of_no_frame rfl

theorem coastExpiry : Statement (.coastExpiry) := of_no_frame rfl

theorem closePulseExpiry : Statement (.closePulseExpiry) := of_no_frame rfl

theorem raiseTimeout (x : Panto) : Statement (.raiseTimeout x) := of_no_frame rfl

theorem lowerTimeout (x : Panto) : Statement (.lowerTimeout x) := of_no_frame rfl

theorem settleTimerExpiry (x : Panto) : Statement (.settleTimerExpiry x) := of_no_frame rfl

theorem arcIntervalExpiry (x : Panto) : Statement (.arcIntervalExpiry x) := of_no_frame rfl

theorem arcEdge (x : Panto) : Statement (.arcEdge x) := of_no_frame rfl

theorem heaterPairExpiry (x : Panto) : Statement (.heaterPairExpiry x) := of_no_frame rfl

theorem iceAssessment : Statement (.iceAssessment) := of_no_frame rfl

theorem statusTimerExpiry : Statement (.statusTimerExpiry) := of_no_frame rfl

theorem refreshTimerExpiry : Statement (.refreshTimerExpiry) := of_no_frame rfl

theorem starvationTimerExpiry : Statement (.starvationTimerExpiry) := of_no_frame rfl

theorem splitReadLatchExpiry : Statement (.splitReadLatchExpiry) := of_no_frame rfl

theorem scrubRead : Statement (.scrubRead) := of_no_frame rfl

theorem arcInputSample (x : Panto) (high : Bool) : Statement (.arcInputSample x high) := of_no_frame rfl

theorem characterReceived (p : Port) (data : Byte) (parityBit stopHigh : Bool) : Statement (.characterReceived p data parityBit stopHigh) := of_no_frame rfl

theorem trainTransmitStart : Statement (.trainTransmitStart) := of_no_frame rfl

theorem shortAheadFrame (h : Header) (payload : List Word) : Statement (.shortAheadFrame h payload) :=
  of_frame rfl (fun h => Nat.le_of_lt (Nat.lt_trans (of_decide_eq_true h) (by decide)))

end Sys2Proof.Laws.Fits
end

