-- ==== Sys2Proof/Laws/Reads.lean ====
section
/-! SUPPORT. What the roof jobs read from table memory depends on its words alone: two states whose every word reads alike
read alike through every entry and parameter. -/

namespace Sys2Proof.Machine

open Sys2Proof

/-- Every word of table memory reads in `k` as it does in `j`, and is good or not as there. -/
structure SameWords (j k : Jobs) : Prop where
  word : ∀ a, k.word a = j.word a
  bad : ∀ a, k.bad a = j.bad a

variable {j k l : Jobs}

theorem SameWords.refl (j : Jobs) : SameWords j j := ⟨fun _ => rfl, fun _ => rfl⟩

theorem SameWords.trans (h : SameWords j k) (h' : SameWords k l) : SameWords j l :=
  ⟨fun a => (h'.word a).trans (h.word a), fun a => (h'.bad a).trans (h.bad a)⟩

theorem SameWords.of_tm (h : k.tm = j.tm) : SameWords j k := by
  constructor <;> intro a <;> simp only [Jobs.word, Jobs.bad, Jobs.cell, h]

theorem Held.sameWords (h : Held j k) (hw : j.tableWf) : SameWords j k :=
  ⟨fun a => ((h.mem hw).2 a).1, fun a => ((h.mem hw).2 a).2⟩

theorem Still.sameWords (h : Still j k) (hw : j.tableWf) : SameWords j k :=
  ⟨fun a => ((h.mem hw).2 a).1, fun a => ((h.mem hw).2 a).2⟩

theorem SameWords.param (h : SameWords j k) (a : Nat) (d : Word) : k.param a d = j.param a d := by
  simp only [Jobs.param, h.word, h.bad]

theorem SameWords.anyBad (h : SameWords j k) (as : List Nat) : k.anyBad as = j.anyBad as := by
  simp only [Jobs.anyBad, h.bad]

theorem SameWords.routeCovers (h : SameWords j k) (n : Nat) (p : Word) : k.routeCovers n p = j.routeCovers n p := by
  simp only [Jobs.routeCovers, h.word]

theorem SameWords.routeUp (h : SameWords j k) (n : Nat) : k.routeUp n = j.routeUp n := by
  simp only [Jobs.routeUp, h.word]

theorem SameWords.routeDown (h : SameWords j k) (n : Nat) : k.routeDown n = j.routeDown n := by
  simp only [Jobs.routeDown, h.word]

theorem SameWords.routeCapture (h : SameWords j k) (n : Nat) : k.routeCapture n = j.routeCapture n := by
  simp only [Jobs.routeCapture, h.word]

theorem SameWords.mapPoint (h : SameWords j k) (r : MapRole) : k.mapPoint r = j.mapPoint r := by
  simp only [Jobs.mapPoint, h.word]

theorem SameWords.mapNode (h : SameWords j k) (r : MapRole) : k.mapNode r = j.mapNode r := by
  simp only [Jobs.mapNode, h.mapPoint]

theorem SameWords.mapNamed (h : SameWords j k) (r : MapRole) : k.mapNamed r = j.mapNamed r := by
  simp only [Jobs.mapNamed, h.word, h.mapNode]

theorem SameWords.mapUsable (h : SameWords j k) (r : MapRole) : k.mapUsable r = j.mapUsable r := by
  simp only [Jobs.mapUsable, h.mapNamed, h.anyBad]

theorem SameWords.mapBit (h : SameWords j k) (r : MapRole) : k.mapBit r = j.mapBit r := by
  simp only [Jobs.mapBit, h.word]

theorem SameWords.carriedFor (h : SameWords j k) (r : MapRole) (q : Word) (ws : List Word) : k.carriedFor r q ws = j.carriedFor r q ws := by
  simp only [Jobs.carriedFor, h.mapUsable, h.mapPoint]

theorem SameWords.slotNode (h : SameWords j k) (n : Nat) : k.slotNode n = j.slotNode n := by
  simp only [Jobs.slotNode, h.word]

theorem SameWords.slotUsable (h : SameWords j k) (n : Nat) : k.slotUsable n = j.slotUsable n := by
  simp only [Jobs.slotUsable, h.word, h.bad, h.slotNode]

theorem SameWords.slotDivisor (h : SameWords j k) (n : Nat) : k.slotDivisor n = j.slotDivisor n := by
  simp only [Jobs.slotDivisor, h.word]

theorem SameWords.lineNamed (h : SameWords j k) (i : Fin 8) : k.lineNamed i = j.lineNamed i := by
  simp only [Jobs.lineNamed, h.word]

theorem SameWords.lineUsable (h : SameWords j k) (i : Fin 8) : k.lineUsable i = j.lineUsable i := by
  simp only [Jobs.lineUsable, h.lineNamed, h.anyBad]

theorem SameWords.lineCode (h : SameWords j k) (i : Fin 8) : k.lineCode i = j.lineCode i := by
  simp only [Jobs.lineCode, h.word]

theorem SameWords.lineIsDc (h : SameWords j k) (i : Fin 8) : k.lineIsDc i = j.lineIsDc i := by
  simp only [Jobs.lineIsDc, h.word]

theorem SameWords.lineSelector (h : SameWords j k) (i : Fin 8) : k.lineSelector i = j.lineSelector i := by
  simp only [Jobs.lineSelector, h.word]

theorem SameWords.lineSet (h : SameWords j k) (i : Fin 8) : k.lineSet i = j.lineSet i := by
  simp only [Jobs.lineSet, h.word]

theorem SameWords.lineHeat (h : SameWords j k) (i : Fin 8) : k.lineHeat i = j.lineHeat i := by
  simp only [Jobs.lineHeat, h.word]

theorem SameWords.lineScrape (h : SameWords j k) (i : Fin 8) : k.lineScrape i = j.lineScrape i := by
  simp only [Jobs.lineScrape, h.word]

theorem SameWords.lineK (h : SameWords j k) (i : Fin 8) : k.lineK i = j.lineK i := by
  simp only [Jobs.lineK, h.word]

theorem SameWords.lineVmin (h : SameWords j k) (i : Fin 8) : k.lineVmin i = j.lineVmin i := by
  simp only [Jobs.lineVmin, h.word]

theorem SameWords.lineVmax (h : SameWords j k) (i : Fin 8) : k.lineVmax i = j.lineVmax i := by
  simp only [Jobs.lineVmax, h.word]

theorem SameWords.lineFmin (h : SameWords j k) (i : Fin 8) : k.lineFmin i = j.lineFmin i := by
  simp only [Jobs.lineFmin, h.word]

theorem SameWords.lineFmax (h : SameWords j k) (i : Fin 8) : k.lineFmax i = j.lineFmax i := by
  simp only [Jobs.lineFmax, h.word]

theorem SameWords.lineRipple (h : SameWords j k) (i : Fin 8) : k.lineRipple i = j.lineRipple i := by
  simp only [Jobs.lineRipple, h.word]

theorem SameWords.resolve (h : SameWords j k) (c : BitVec 4) : k.resolve c = j.resolve c := by
  simp only [Jobs.resolve, h.lineUsable, h.lineCode]

theorem SameWords.startPanto (h : SameWords j k) : k.startPanto = j.startPanto := by
  simp only [Jobs.startPanto, h.param]

theorem SameWords.changeover (h : SameWords j k) (n : Nat) : k.changeover n = j.changeover n := by
  simp only [Jobs.changeover, h.param]

theorem SameWords.pantoParam (h : SameWords j k) (x : Panto) (n : Nat) : k.pantoParam x n = j.pantoParam x n := by
  simp only [Jobs.pantoParam, h.param]

theorem SameWords.pantoValid (h : SameWords j k) (x : Panto) : k.pantoValid x = j.pantoValid x := by
  simp only [Jobs.pantoValid, h.word, h.bad]

theorem SameWords.iceValid (h : SameWords j k) : k.iceValid = j.iceValid := by
  simp only [Jobs.iceValid, h.param]

theorem SameWords.iceParam (h : SameWords j k) (n : Nat) : k.iceParam n = j.iceParam n := by
  simp only [Jobs.iceParam, h.iceValid, h.param]

theorem SameWords.raisable (h : SameWords j k) (x : Panto) : k.raisable x = j.raisable x := by
  simp only [Jobs.raisable, h.mapUsable, h.pantoValid]

theorem SameWords.hysteresis (h : SameWords j k) : k.hysteresis = j.hysteresis := by
  simp only [Jobs.hysteresis, h.param]

theorem SameWords.rowPoisoned (h : SameWords j k) (n : Nat) : k.rowPoisoned n = j.rowPoisoned n := by
  simp only [Jobs.rowPoisoned, h.anyBad]

theorem SameWords.rowCovers (h : SameWords j k) (n : Nat) (p : Word) (b : Nat) : k.rowCovers n p b = j.rowCovers n p b := by
  simp only [Jobs.rowCovers, h.rowPoisoned, h.bad, h.word]

theorem SameWords.decidingRow (h : SameWords j k) (p : Word) (b : Nat) : k.decidingRow p b = j.decidingRow p b := by
  simp only [Jobs.decidingRow, h.rowCovers]

end Sys2Proof.Machine
end

