-- ==== Sys2Proof/Tests/Slice0.lean ====
section
/-! SUPPORT. The modeller's own tests: the well-formedness smoke test, the spec's worked cases as single steps, and for
every statement with hypotheses a concrete state and operands that meet them together. Expected results are the spec's
own (the comment names the place). -/

namespace Sys2Proof.Tests

open Sys2Proof Sys2Proof.Machine

/-! ### Helpers -/

/-- A frame header with no flags, point 0000h and sequence 7. -/
def hd : Header := { flags := 0, point := 0, seq := 7 }

/-- The same for a point. -/
def at_ (p : Word) : Header := { flags := 0, point := p, seq := 7 }

/-- Words of table memory from an address on, as entries in canonical form. -/
def cells (a : Nat) : List Word → Store TWord
  | [] => []
  | w :: ws => if w.toNat == 0 then cells (a + 1) ws else (a, { data := w }) :: cells (a + 1) ws

/-- A roof's tables: settings, three route entries (9.11), two interlock rows (9.12), the point map, a poll list, two line systems, and the
parameters of the LSI, the CS, both pantographs and the IC. -/
def tables : Store TWord :=
  cells 1 [0x0100, 0xFFFF, 0xFFFF, 100] ++
  cells 0x10 [0x8022, 0x0500, 0x050F, 0, 0x8010, 0x0100, 0x01FF, 0, 0x8000, 0x0600, 0x060F] ++
  cells 0x50 [0x8001, 4, 0x0501, 0x0100, 0x8000, 3, 0x0501, 0x0040] ++
  cells 0x90 [0x8020, 0x0100, 0x8000, 0x0201, 0x8000, 0x0301, 0x8001, 0x0201, 0x8001, 0x0301, 0x8002, 0x0201, 0x8002, 0x0301,
    0x8000, 0x0501, 0x8001, 0x0501, 0x8002, 0x0501, 0x8003, 0x0501, 0x8004, 0x0501] ++
  cells 0xA8 [0x8000, 0x0200, 0x8000, 0x0300, 0x8000, 0x0202, 0x8000, 0x0302, 0x8000, 0x0500, 0x8000, 0x0503, 0x8001, 0x0500,
    0x8000, 0x0600, 0x8000, 0x0601] ++
  cells 0xC0 [0x8101, 0x8201, 0x8301, 0x8501, 0x860A] ++
  cells 0x100 [0x89E2, 17000, 29000, 4700, 5300, 0, 0x91C2, 10000, 16900, 1500, 1800, 0] ++
  cells 0x10C [0x9F42, 2000, 3900, 0, 0, 300] ++
  cells 0x140 [250, 600, 2000, 2, 3, 1] ++
  cells 0x150 [150, 100, 300, 200, 500, 3000, 3000, 1000, 30000] ++
  cells 0x160 [0x8000, 50, 800, 350, 150, 8000, 6000, 500, 0, 10, 2000, 0x8000, 50, 800, 350, 150, 8000, 6000, 500, 0, 10,
    2000] ++
  cells 0x180 [0x8001, 20, 10, 0xFE0C, 800, 40000, 1000, 60000, 400, 1200, 1, 3, 10000, 160, 60, 240, 120, 120, 240, 60]

/-- The breaker and selector point of 6.10 and 9.12. -/
def brkPoint : PointEntry :=
  { point := 0x0501,
    owned := [(.brkClose, { bit := 0, low := false }), (.brkTrip, { bit := 1, low := false }),
      (.selAc, { bit := 2, low := false }), (.selDc, { bit := 3, low := false })],
    earth := some { bit := 4, low := false }, lastWord := 0, lastSent := 0, pending := false }

/-- The roof jobs in RUN on those tables, at time 1,000,000, both pantographs lowered and the nodes ACTIVE. -/
def roofJobs : Jobs :=
  { dev := .run, tag := 1000000, tm := { mem := tables }, lmu := { state := .waiting }, p1 := { state := .lowered },
    p2 := { state := .lowered },
    oc := { table := [brkPoint] },
    nodes := [(1, { state := .active }), (2, { state := .active }), (3, { state := .active }), (5, { state := .active }),
      (6, { state := .active })] }

/-- The part in RUN with those roof jobs, changed by a function. -/
def lab (change : Jobs → Jobs) : State := State.reset.setJobs (change roofJobs)

/-- A change of the changeover record. -/
def cs (c : Cs) (j : Jobs) : Jobs := j.setCs c

/-- One timer with a new value. -/
def timed (i : TimerId) (t : Timer) (j : Jobs) : Jobs := j.onTimer i (fun _ => t)

/-- A timer that has handed over an expiry. -/
def expired (i : TimerId) (j : Jobs) : Jobs := timed i { owed := [0] } j

/-- An exchange with node 5 of a kind. -/
def exchange (k : ExchangeKind) (begun : Bool) : Exchange :=
  { kind := k, node := 5, point := 0x0500, seq := 4, queryCount := if k = .queuedQuery then 2 else 0, answerBegun := begun }

/-- The part with that exchange in a slot state. -/
def bus (slot : Slot) (k : ExchangeKind) (begun : Bool) (s : State) : State :=
  s.setRb { s.rb with slot := slot, exchange := some (exchange k begun), answerTimer := slot == .awaiting && !begun,
                      answerLimit := slot == .awaiting && begun }

/-- A port with a frame in assembly. -/
def assembling (p : Port) (a : Assembly) (s : State) : State := s.setPort p { s.port p with assembly := some a }

/-- A MEASURE frame of node 5. -/
def measure : Frame := { kind := .measure, flags := 0, point := 0x0500, seq := 4, payload := [0, 1] }

/-- The roof port with the exchange's answer frame, of a kind and a payload, in its buffer. -/
def answering (k : ExchangeKind) (f : Frame) (s : State) : State :=
  (bus .awaiting k true s).setRoof { s.roof with buffers := [{ frame := f, answer := true }] }

/-- The train port transmitting and receiving. -/
def running (s : State) : State := s.setTrain { s.train with mode := .running, settings := roofDefault }

/-- The step answers a next state with a property. -/
def gives (i : Instr) (s : State) (p : State → Bool) : Bool :=
  match exec i s with
  | .next t => p t
  | .fault _ => false
  | .refused _ => false

/-- The part with the frame that a command takes, where it takes one, at the head of its port's buffers (R132). -/
def arrived (i : Instr) (s : State) : State :=
  match i.frame? with
  | some (p, f) => s.setPort p { s.port p with buffers := { frame := f, answer := false } :: (s.port p).buffers }
  | none => s

/-- Whatever the state, the arrival of a command's frame puts it at hand and changes the port's buffers alone, so that
what a witness says of a state it says of that state with the frame arrived. -/
def AtHand (i : Instr) (s : State) : Prop :=
  FrameAtHand i (arrived i s) ∧ (arrived i s).jobs = s.jobs ∧ (arrived i s).inReset = s.inReset ∧
  (arrived i s).rb = s.rb ∧ (arrived i s).fr = s.fr ∧ (arrived i s).cb = s.cb ∧ (arrived i s).nu = s.nu ∧
  (arrived i s).latch = s.latch

theorem atHand (i : Instr) (s : State) : AtHand i s := by
  unfold AtHand FrameAtHand arrived
  split
  · rename_i p f h
    cases p <;> (refine ⟨?_, rfl, rfl, rfl, rfl, rfl, rfl, rfl⟩; intro p f e; rw [h] at e; cases e; simp [State.port,
      State.setPort, State.setTrain, State.setRoof, PortState.holds])
  · rename_i h
    refine ⟨fun p f e => ?_, rfl, rfl, rfl, rfl, rfl, rfl, rfl⟩
    rw [h] at e
    cases e

/-- With its frame at hand the step answers a next state with a property. -/
def takes (i : Instr) (s : State) (p : State → Bool) : Bool := gives i (arrived i s) p

set_option maxRecDepth 100000

/-! ### Well-formedness: a term that each check refuses -/

/-- A payload of 17 words, one more than a frame carries (13.1). -/
def long : List Word := List.replicate 17 0

/-- A SERVICE control word for a count, with a reply wanted. -/
def svc (n : Nat) : SvcControl := { reply := true, field := 0, spare := 0, cnt := BitVec.ofNat 4 (n - 1) }

/-- An announcement with a number, a target, a distance in metres and a speed. -/
def ahead (number target distance speed : Nat) : Announcement :=
  { number := BitVec.ofNat 8 number, target := BitVec.ofNat 4 target, distance := BitVec.ofNat 16 distance, length := 0,
    speed := BitVec.ofNat 16 speed, tail := 0, extra := [] }

theorem smoke_accepted_kind_is_not_misdirected : (Instr.misdirectedFrame .train .query hd []).wellFormed = false := by decide

theorem smoke_payload_of_17_words :
    ([Instr.misdirectedFrame .train .notice hd long, .roofMeasureFrame hd long, .roofAnswerFrame hd long,
      .trainOrder hd long, .trainQuery hd long, .requestUnknown hd long, .serviceUnknown hd (0xE000 :: long)].all
      (fun i => !i.wellFormed)) = true := by decide

theorem smoke_request_of_17_words :
    ([Instr.breakerClose hd 0 (long.take 16), .breakerOpen hd 0 (long.take 16), .select hd 1 (long.take 16),
      .energise hd 0 (long.take 16), .changeoverResume hd 0 (long.take 16), .changeoverAbort hd 0 (long.take 16),
      .raise hd 1 (long.take 16), .lower hd 1 (long.take 16), .faultClear hd 1 (long.take 16), .iceMode hd 0 (long.take 16),
      .lowerAllOn hd 1 (long.take 16), .lowerAllOff hd (long.take 16), .holdOn hd 1 (long.take 16),
      .holdOff hd (long.take 16)].all (fun i => !i.wellFormed)) = true := by decide

theorem smoke_argument_0_is_off :
    (Instr.lowerAllOn hd 0 []).wellFormed = false ∧ (Instr.holdOn hd 0 []).wellFormed = false := by decide

theorem smoke_code_that_names_a_request :
    (Instr.requestUnknown hd [0x0100]).wellFormed = false ∧ (Instr.requestUnknown hd [0x0C01]).wellFormed = false ∧
    (Instr.requestUnknown hd [0x0D00]).wellFormed = true ∧ (Instr.requestUnknown hd []).wellFormed = true := by decide

/-- Announcements of 17 words. -/
def longAhead : Announcement := { ahead 1 1 0 0 with extra := long.take 12 }

theorem smoke_announcement_of_17_words :
    ([Instr.aheadNeutral hd longAhead, .aheadBoundary hd longAhead, .aheadCancel hd longAhead, .aheadSpeed hd 3 longAhead,
      .aheadIceZone hd longAhead].all (fun i => !i.wellFormed)) = true := by decide

theorem smoke_kind_code_of_another_row :
    ([0, 1, 2, 4].all (fun c => !(Instr.aheadSpeed hd c (ahead 1 1 0 0)).wellFormed)) = true := by decide

theorem smoke_service_of_17_words :
    ([Instr.serviceRead hd (svc 1) 0 (long.take 15), .serviceWrite hd (svc 1) 0 (long.take 15),
      .serviceCheckWrite hd (svc 1) 0 0 (long.take 14), .serviceClearFlags hd (svc 1) 0 0 0 (long.take 13),
      .serviceRearm hd (svc 1) (long.take 16), .serviceCommission hd (svc 1) (long.take 16),
      .serviceRestart hd (svc 1) (long.take 16)].all (fun i => !i.wellFormed)) = true := by decide

theorem smoke_write_without_its_words : (Instr.serviceWrite hd (svc 3) 0x100 [1, 2]).wellFormed = false := by decide

theorem smoke_complete_service_is_known :
    (Instr.serviceUnknown hd [0x8000]).wellFormed = false ∧ (Instr.serviceUnknown hd [0x0000, 5]).wellFormed = false ∧
    (Instr.serviceUnknown hd [0xE000]).wellFormed = true ∧ (Instr.serviceUnknown hd []).wellFormed = true := by decide

theorem smoke_whole_announcement_is_not_short :
    (Instr.shortAheadFrame hd (long.take 5)).wellFormed = false ∧
    (Instr.shortAheadFrame hd (long.take 4)).wellFormed = true := by decide

/-! ### Worked values and steps of the spec -/

/-- R131: the nine characters 31h to 39h give the check word 29B1h. -/
theorem test_check_word : checkWord [0x31, 0x32, 0x33, 0x34, 0x35, 0x36, 0x37, 0x38, 0x39] = 0x29B1#16 := by decide

/-- 13.2: the commands that frames written out bit by bit name: RAISE P2 (code 07h, argument 2), an AHEAD BOUNDARY
number 21 to code 3, a READ of three words from 1800h. -/
theorem test_frames_name_commands :
    commandOf .train { kind := .request, flags := 0, point := 0, seq := 7, payload := [0x0702] } = .raise hd 2 [] ∧
    commandOf .train { kind := .ahead, flags := 0, point := 0, seq := 7, payload := [0x1513, 100, 0, 100, 0] }
      = .aheadBoundary hd (ahead 21 3 100 100) ∧
    commandOf .train { kind := .service, flags := 0, point := 0, seq := 7, payload := [0x1002, 0x1800] }
      = .serviceRead hd (svc 3) 0x1800 [] := by decide

/-- 1.9: a 25 kV 50 Hz window. -/
theorem test_window_25kv : (({ sum := 2048, sumSq := 160000004096, periods := 8, lengths := 1022 } : Window).complete 17)
    = { number := 17, mean := 2, totalRms := 12500, acRms := 12500, freq := 5009, periods := 8, saturated := 0,
        broken := false } := by decide +kernel

/-- 1.10: a 3 kV DC window. -/
theorem test_window_3kv : (({ sum := 1536000, sumSq := 2306560000 } : Window).complete 1)
    = { number := 1, mean := 1500, totalRms := 1500, acRms := 50, freq := 0, periods := 0, saturated := 0,
        broken := false } := by decide +kernel

/-- R13: Mean is 1 for Sum 1,500 and −1 for Sum −1,500. -/
theorem test_mean_towards_zero : (({ sum := 1500, sumSq := 3000 } : Window).complete 0).mean = 1 ∧
    (({ sum := -1500, sumSq := 3000 } : Window).complete 0).mean = -1 := by decide

/-- 1.12: the frame 20 behind the expected index is ignored, the one 30 ahead is a gap that breaks window 18. -/
def measuring (j : Jobs) : Jobs :=
  j.setLmu { j.lmu with state := .measuring, expected := some 4030, number := 18, window := some { taken := 26 } }

theorem test_repeat_is_ignored : ((measuring roofJobs).sampleFrame 4010 [1, 2, 3]) = measuring roofJobs := by decide

theorem test_gap_breaks_the_window :
    ((measuring roofJobs).sampleFrame 4060 [1, 2, 3]).lmu.expected = some 4063 ∧
    ((measuring roofJobs).sampleFrame 4060 [1, 2, 3]).lmu.number = 19 := by decide

/-- R33: a speed above 400 is stored as 400. -/
theorem test_speed_above_400 :
    takes (.aheadSpeed hd 3 (ahead 0 0 0 500)) (lab id) (fun t => t.jobs.speed.kmh == 400) = true := by decide

/-- R34 with 3.14: 1,200 m ahead at 300 km/h with a margin of 150 m is due 12,600 ms later. -/
theorem test_due_time : takes (.aheadNeutral hd (ahead 12 0 1200 300)) (lab id)
    (fun t => (t.jobs.cs.list.map (fun f => f.due)) == [some 1012600]) = true := by decide

/-- R36: a CANCEL removes the entry of its number. -/
def listed (n : Nat) (due : Nat) : Feature :=
  { kind := .neutral, number := some (BitVec.ofNat 8 n), target := .code 0, due := some (BitVec.ofNat 32 due), coast := 0,
    arrival := some 0 }

theorem test_cancel : takes (.aheadCancel hd (ahead 12 0 0 100)) (lab (cs { list := [listed 12 1900000, listed 13 1950000] }))
    (fun t => (t.jobs.cs.list.map (fun f => f.number)) == [some 13]) = true := by decide

/-- R82: ICE_ZONE with its start bit. -/
theorem test_ice_zone : takes (.aheadIceZone hd { ahead 0 0 0 80 with tail := 0x0100 }) (lab id)
    (fun t => t.jobs.ice.zone) = true := by decide

/-- R61, R62: RAISE P1 takes P1 to PREPARING as COLLECTOR with its isolator CONNECTED. -/
theorem test_raise : takes (.raise hd 1 []) (lab id)
    (fun t => t.jobs.p1.state == .preparing && t.jobs.p1.connected && t.jobs.p1.raises == 1) = true := by decide

/-- R109: LOWER_ALL(ON) in IDLE sets the flag and lowers what is raised. -/
theorem test_lower_all : takes (.lowerAllOn hd 1 []) (lab (fun j => j.setP1 { state := .inContact, role := .collector }))
    (fun t => t.jobs.oc.lowerAll && t.jobs.p1.state == .lowering && flagSet .lowerAll t.nu.flags) = true := by decide

/-- 12.6: a CHECK_WRITE inverting one check bit is corrected at the next read, and counted. -/
theorem test_check_write : takes (.serviceCheckWrite hd { svc 1 with field := 1 } 0xC5 0x8601 []) State.reset
    (fun t => t.jobs.cell 0xC5 == { data := 0x8601, check := 1 }) = true := by decide

theorem test_correction : takes (.serviceRead hd (svc 1) 0xC5 [])
    (lab (fun j => j.setTm { mem := [(0xC5, { data := 0x8601, check := 1 })] }))
    (fun t => t.jobs.cell 0xC5 == { data := 0x8601 } && t.jobs.tm.corrected == 1) = true := by decide

/-- R191: COMMISSION with no table loaded fails check 1 and leaves CONFIG. -/
theorem test_commission_fails : takes (.serviceCommission hd (svc 1) []) State.reset
    (fun t => t.jobs.dev == .config &&
      (t.fr.up.map (fun q => q.frame.payload)).any (fun ws => ws.length == 1)) = true := by decide

/-- R191: COMMISSION on the loaded tables enters RUN with the polled nodes WAITING. -/
theorem test_commission : takes (.serviceCommission hd (svc 1) []) (lab (fun _ => { tm := { mem := tables } }))
    (fun t => t.jobs.dev == .run && (t.jobs.node 6).state == .waiting && (t.jobs.node 4).state == .unused
      && t.jobs.lmu.state == .waiting && t.jobs.tmr.t14.running) = true := by decide

/-- R119, R184: a tick advances the tag and the scrub pointer, and a one-shot timer at 1 expires. -/
theorem test_tick : gives .scrubRead (lab (timed .t13 { count := 1, running := true }))
    (fun t => t.jobs.tag == 1000001 && t.jobs.tm.scrub == 1 && t.jobs.tmr.t13 == { count := 0, owed := [1000001] }) = true := by
  decide

/-- 8.5: at 750,000 bit/s the third measurement, of 126 periods, locks the port at divisor 4. -/
theorem test_discovery_locks :
    gives (.discoveryMeasurement (.edge 126))
      (State.reset.setTrain { State.reset.train with timing := true, lastMeasured := some 4, runCount := 2 })
      (fun t => t.train.mode == .running && t.train.settings.divisor == 4) = true := by decide
/-- 9.12: ORDER 0501h with 0150h at 120 km/h goes out as 0000h and INTERLOCK_HELD is set. -/
theorem test_admission : takes (.trainOrder (at_ 0x0501) [0x0150])
    (lab (fun j => (((j.setP1 { state := .inContact }).setCs { command := .close }).setOc { j.oc with
      image := { brkTrip := false }, sending := { brkTrip := false } }).setSpeed { known := true, kmh := 120 }))
    (fun t => t.fr.down.map (fun f => f.payload) == [[0]] && flagSet .interlockHeld t.nu.flags
      && t.jobs.oc.table.map (fun e => e.lastWord) == [0x0150]) = true := by decide

/-- 9.11, frame e: a QUERY of count 2 whose entry passes upward only is BLOCKED and answered with two words FFFFh. -/
theorem test_blocked_query : takes (.trainQuery (at_ 0x0601) [0, 0]) (lab id)
    (fun t => t.fr.train.blocked == 1 && t.fr.up.map (fun q => q.frame.payload) == [[0xFFFF, 0xFFFF]]) = true := by decide

/-- 9.11, frame g: node 63 is no roof node. -/
theorem test_unclaimed_order : takes (.trainOrder (at_ 0x3F00) [1]) (lab id)
    (fun t => t.fr.train.unclaimed == 1 && t.fr.down == []) = true := by decide

/-! ### Witnesses: concrete states and operands that meet the hypotheses of each statement together -/

theorem witness_StepRunsFront :
    (State.reset.setPending [.scrubRead, .powerOn]).pending = .scrubRead :: [.powerOn] ∧ State.reset.pending = [] := by decide

theorem witness_ResetLineHolds :
    (State.reset.setInReset true).inReset = true ∧ Instr.scrubRead ≠ .powerOn ∧ Instr.scrubRead ≠ .resetRelease := by decide

/-- A state at a step's end with a flag set and a thousand reports, the last of them at the greatest index allowed. -/
def reporting : State :=
  (State.reset.setNu { flags := 1, seq := 0 }).onJobs (fun j => j.setOut (List.replicate 1000 (.flag .restarted 0 .config .pending)))

theorem witness_StepEnd : reporting.nu.flags.getLsbD 0 = true ∧ StoresWf reporting ∧ reporting.jobs.todo = [] ∧
    reporting.jobs.dev = .config ∧ (999 : Nat) < 1000 ∧ reporting.jobs.out[999]? = some (.flag .restarted 0 .config .pending) := by
  unfold StoresWf
  refine ⟨by decide, by decide, rfl, rfl, by decide, ?_⟩
  show (List.replicate 1000 (Report.flag .restarted 0 .config .pending))[999]? = _
  rw [List.getElem?_replicate]
  rfl

theorem witness_CommandOfItsFrame :
    (Instr.misdirectedFrame .train .notice hd (long.take 16)).wellFormed = true ∧
    (Instr.misdirectedFrame .train .notice hd (long.take 16)).frame?
      = some (.train, { kind := .notice, flags := 0, point := 0, seq := 7, payload := long.take 16 }) ∧
    (Instr.serviceWrite hd (svc 14) 0 (long.take 14)).wellFormed = true ∧
    (Instr.serviceWrite hd (svc 14) 0 (long.take 14)).frame?.isSome = true := by decide

theorem witness_FrameOfItsCommand : ({ measure with payload := long.take 16 } : Frame).payload.length ≤ 16 ∧
    ({ measure with payload := [] } : Frame).payload.length ≤ 16 := by decide

theorem witness_FramesFromCharacters : ({ measure with payload := long.take 16 } : Frame).payload.length ≤ 16 ∧
    charsWord 0x29 0xB1 = checkWord [0x31, 0x32, 0x33, 0x34, 0x35, 0x36, 0x37, 0x38, 0x39] := by decide

/-- A state near the bounds of what every step keeps: a window and a record, full queues, buffers and feature list,
lower-all on, the close pulse on, P1 collecting. -/
def kept : State :=
  ((((lab (fun j => (((j.setLmu { j.lmu with
      window := some { sum := 32767 * 1023, sumSq := 32767 * 32767 * 1023, taken := 1023, periods := 1, lengths := 3 },
      last := some { number := 1, mean := 0, totalRms := 32767, acRms := 32767, freq := 213333, periods := 1, saturated := 0,
                     broken := false } }).setP1 { state := .preparing, role := .collector, connected := true }).setCs
      { list := [listed 1 1, listed 2 2, listed 3 3, listed 4 4], command := .close, pulse := true }).setOc
      { j.oc with lowerAll := true })).setFr
      { up := List.replicate 14 { frame := measure, forwarded := true } ++
          List.replicate 2 { frame := measure, forwarded := false },
        down := List.replicate 8 measure, train := { received := 3, forwarded := 1, consumed := 1, dropped := 1, stray := 1 } }).setTrain
      { State.reset.train with buffers := List.replicate 2 { frame := measure, answer := false } }).setRb
      { cursor := 31, pass := 360359, slot := .awaiting, exchange := some (exchange .poll false), answerTimer := true }).setPending
      [.scrubRead]

theorem witness_StoresStayCanonical : StoresWf kept ∧ Rested kept ∧ ∃ t, step kept = .next t :=
  ⟨by unfold StoresWf; decide, by unfold Rested; decide, _, rfl⟩

theorem witness_FramesAreConserved : Conserved kept ∧ ∃ t, step kept = .next t :=
  ⟨by unfold Conserved; decide, _, rfl⟩

theorem witness_QueuesStayBounded :
    QueuesBounded kept ∧ BuffersBounded kept ∧ FeaturesBounded kept ∧ ∃ t, step kept = .next t :=
  ⟨by unfold QueuesBounded; decide, by unfold BuffersBounded; decide, by unfold FeaturesBounded; decide, _, rfl⟩

theorem witness_ForcesStayApart : ForcesApart kept ∧ PulseOnlyClosing kept ∧ ∃ t, step kept = .next t :=
  ⟨by unfold ForcesApart; decide, by unfold PulseOnlyClosing; decide, _, rfl⟩

theorem witness_RecordsStayBounded : RecordsBounded kept ∧ (∃ t, step kept = .next t) ∧
    (({ sum := 2048, sumSq := 160000004096 } : Window).sum * ({ sum := 2048, sumSq := 160000004096 } : Window).sum
      ≤ 1024 * ({ sum := 2048, sumSq := 160000004096 } : Window).sumSq) := by
  refine ⟨⟨?_, ?_⟩, ⟨_, rfl⟩, by decide⟩
  · intro w h
    cases h
    unfold Window.sound
    decide
  · intro r h
    cases h
    unfold Record.bounded
    decide

theorem witness_IsolatorsStayLawful : IsolatorLaw kept ∧ ∃ t, step kept = .next t :=
  ⟨by unfold IsolatorLaw; decide, _, rfl⟩

theorem witness_OutputsKeepFollowing : OutputsFollow (State.reset.setPending [.scrubRead]) ∧
    (State.reset.setPending [.scrubRead]).inReset = false ∧ ∃ t, step (State.reset.setPending [.scrubRead]) = .next t :=
  ⟨by unfold OutputsFollow; decide, rfl, _, rfl⟩

/-- The roof jobs with a force flag and an earthing switch that reads closed, which the OC has or has not yet seen. -/
def forced (lowerAll hold : Bool) (earth : EarthFb) : Jobs :=
  roofJobs.setOc { roofJobs.oc with lowerAll := lowerAll, hold := hold, frozen := some { heat1 := true }, earth := earth,
                                    earthRaw := some true }

theorem witness_OutputsMarks : (State.reset.jobs.todo = [] ∧ (forced true false .open).oc.lowerAll = true) ∧
    ((forced false true .open).oc.lowerAll = false ∧ (forced false true .open).oc.hold = true ∧
      (forced false true .open).oc.frozen = some { heat1 := true } ∧ (forced false false .open).oc.hold = false) ∧
    (forced false false .open).oc.table[0]? = some brkPoint ∧
    ((forced false false .open).ocSync.oc.earth = .closed ∧ (forced false false .open).ocSync.oc.safe = false ∧
      (forced false false .open).oc.earth ≠ .closed) ∧
    ((forced false false .closed).oc.earth = .closed ∧ (forced false false .closed).oc.safe = false) ∧
    ((forced false false .open).oc.frozen = some { heat1 := true } ∧ roofJobs.oc.hold = false ∧ roofJobs.oc.frozen = none) ∧
    ((forced false false .open).earthNow = .closed ∧ ({ roofJobs with nodes := [] } : Jobs).earthNow = .unknown) := by
  decide

/-- The roof jobs with a CS state, a breaker value received, the breaker feedback and SAFE so far, and a change to answer;
the selector stands at AC and the earthing switch closed. -/
def earthed (c : Cs) (raw : Bool) (brk : BreakerFb) (safe : Bool) (change : Change) : Jobs :=
  let j := ((roofJobs.setCs c).setFb { brk := brk, sel := .ac, brkRaw := some raw, selRaw := some 1 }).setTodo [change]
  j.setOc { j.oc with table := [{ brkPoint with owned := [] }], earth := .closed, earthRaw := some true, safe := safe }

/-- R45, R113, R101: the last pantograph becomes LOWERED in LOWERING with the selector at the target, so that SAFE goes on
and the raise takes it off again within the step: the EARTH point is marked, and INTERLOCK_HELD set. -/
theorem test_safe_for_a_moment :
    let f : Feature := { kind := .select, number := none, target := .code 1, due := none, coast := 0, arrival := none }
    let u := lab fun _ => earthed { state := .lowering, command := .open, current := some f } false .open false
      (.panto .p1 .lowering .lowered .collector)
    u.finish.jobs.cs.state = .raising ∧ u.finish.jobs.p1.state = .preparing ∧ u.finish.jobs.oc.safe = false ∧
    u.finish.jobs.oc.table.map (fun e => e.pending) = [true] ∧ flagSet .interlockHeld u.finish.nu.flags = true := by decide

/-- SAFE that a pantograph's change has put on or taken off, and SAFE that the breaker's feedback has. -/
theorem witness_SafeIsFollowed :
    ((lab fun _ => earthed {} false .open false .look).jobs.dev = .run ∧
      (earthed {} false .open false .look).todo ≠ [] ∧
      (earthed {} false .open false .look).oc.safe ≠ (earthed {} false .open false .look).safeNow) ∧
    ((earthed {} false .closed true .look).oc.safe ≠ (earthed {} false .closed true .look).safeNow ∧
      (earthed {} false .closed true .look).safeNow = false ∧ (earthed {} false .closed true .look).oc.earth = .closed ∧
      (earthed {} false .closed true .look).earthNow ≠ .unknown) ∧
    ∃ f : Jobs, f = ((earthed {} true .open true .look).lostEntries).syncFeedback ∧
      f.safeNow ≠ (earthed {} true .open true .look).oc.safe ∧ f.safeNow = false ∧ f.earthNow = .closed :=
  ⟨by decide, by decide, _, rfl, by decide, by decide, by decide⟩

theorem witness_ScheduleStaysWf : ScheduleWf kept ∧ ∃ t, step kept = .next t := ⟨by unfold ScheduleWf; decide, _, rfl⟩

theorem witness_OnlyWritesChangeTables :
    StoresWf (lab id) ∧ Instr.scrubRead.writesTables = false ∧ ∃ t, exec .scrubRead (lab id) = .next t :=
  ⟨by unfold StoresWf; decide, rfl, _, rfl⟩

theorem witness_ResetLineSteps : (lab id).inReset = false ∧ ((lab id).setInReset true).inReset = true ∧
    StoresWf ((lab id).setInReset true) := by unfold StoresWf; decide

theorem witness_TrainBreak : (lab id).inReset = false ∧ (lab id).train.inBreak = false ∧
    ((lab id).setTrain { State.reset.train with mode := .stopped, inBreak := true }).train.inBreak = true := by decide

/-- A train port in DISCOVERY with a discovery record. -/
def discovering (timing : Bool) (last : Option Nat) (run : Nat) : State :=
  State.reset.setTrain { State.reset.train with timing := timing, lastMeasured := last, runCount := run }

/-- Both ends of the smallest and the largest divisor's range, and the measurements just beyond them. -/
theorem witness_DiscoveryLocks : (running State.reset).train.mode ≠ .discovery ∧
    (discovering false none 0).train.timing = false ∧ (discovering true (some 4) 1).train.timing = true ∧
    (discovering true (some 4) 1).train.mode = .discovery ∧ (15 < 16 ∧ 8176 ≤ 8176) ∧
    (32 * 1 ≤ 16 + 16 ∧ 16 + 16 < 32 * (1 + 1)) ∧ (32 * 1 ≤ 47 + 16 ∧ 47 + 16 < 32 * (1 + 1)) ∧
    (32 * 255 ≤ 8144 + 16 ∧ 8144 + 16 < 32 * (255 + 1)) ∧ (32 * 255 ≤ 8175 + 16 ∧ 8175 + 16 < 32 * (255 + 1)) ∧
    (discovering true (some 4) 2).train.lastMeasured ≠ some 255 ∧
    (discovering true (some 4) 1).train.lastMeasured = some 4 ∧ (discovering true (some 4) 1).train.runCount = 1 ∧
    2 ≤ (discovering true (some 4) 2).train.runCount := by decide

/-- A train port with one frame queued. -/
def queued : State :=
  running (State.reset.setFr { State.reset.fr with up := [{ frame := measure, forwarded := false }] })

theorem witness_CharacterReceived : State.reset.train.mode ≠ .running ∧
    ((bus .sending .poll false State.reset).setRoof { State.reset.roof with sending := some [1] }).roof.sending ≠ none ∧
    (running State.reset).train.mode = .running ∧
    (State.reset.roof.mode = .running ∧ State.reset.roof.sending = none ∧ State.reset.rb.slot ≠ .awaiting) ∧
    ((bus .awaiting .poll true State.reset).roof.sending = none ∧
      ∀ e, (bus .awaiting .poll true State.reset).rb.exchange = some e → e.answerBegun = true) ∧
    (List.replicate 38 (0 : Byte)).length < 39 ∧ ¬ (List.replicate 39 (0 : Byte)).length < 39 ∧
    ((assembling .train { chars := List.replicate 39 0 } (running State.reset)).train.assembly.getD {}).chars.length = 39 ∧
    (1 = ((List.range 8).filter (fun i => (1 : Byte).getLsbD i)).length + (if false then 1 else 0) ∧
      2 = ((List.range 8).filter (fun i => (1 : Byte).getLsbD i)).length + (if true then 1 else 0)) ∧
    (queued.setTrain { queued.train with sending := some [0x53] }).train.sending = some [0x53] ∧
    ((settingsOf 0x0100).parity = .even ∧ (settingsOf 0x0102).parity = .odd ∧ (settingsOf 0x0104).parity = .none ∧
      (settingsOf 0x0106).parity = .zero) := by
  refine ⟨by decide, by decide, by decide, by decide, ⟨rfl, ?_⟩, by decide, by decide, by decide, by decide, by decide,
    by decide⟩
  intro e h
  cases h
  rfl

/-- A good frame's characters, in assembly. -/
def good (answer : Bool) : Assembly := { chars := measure.chars, answer := answer }

theorem witness_FrameCloses : State.reset.roof.assembly = none ∧ (assembling .roof (good false) State.reset).roof.assembly ≠ none ∧
    ((good false).answer = false ∧ (good true).answer = true) ∧
    ({ good false with errored := true } : Assembly).errored = true ∧
    (({ good false with discard := true } : Assembly).discard = true ∧ (good false).overlong = false) ∧
    ({ good false with overlong := true, discard := true } : Assembly).overlong = true ∧
    ((good false).discard = false ∧ parseFrame [0, 1, 2, 3, 4, 5] = none) ∧
    ((good false).errored = false ∧ parseFrame (good false).chars = some measure) ∧
    2 ≤ (List.replicate 2 measure).length ∧ (List.replicate 1 measure).length < 2 := by decide

theorem witness_TrainTransmission : queued.fr.up = [{ frame := measure, forwarded := false }] ∧ queued.train.mode = .running ∧
    queued.train.sending = none ∧ queued.train.newSettings = none ∧ State.reset.fr.up = [] ∧
    (queued.setTrain { queued.train with sending := some measure.chars }).train.sending ≠ none ∧
    ((queued.setTrain { queued.train with newSettings := some roofDefault }).train.newSettings = some roofDefault ∧
      (queued.setTrain { queued.train with newSettings := some roofDefault }).train.mode = .running) ∧
    State.reset.train.newSettings = none := by decide

theorem witness_RoofTransmission : State.reset.roof.sending = none ∧
    (((bus .sending .poll false State.reset).setRoof { State.reset.roof with sending := some [1] }).roof.sending ≠ none ∧
      (bus .sending .poll false State.reset).rb.slot = .sending ∧
      (bus .sending .poll false State.reset).rb.exchange = some (exchange .poll false) ∧
      (exchange .poll false).kind = .poll ∧ (exchange .queuedOrder false).kind = .queuedOrder) ∧
    State.reset.rb.slot ≠ .sending ∧
    ((bus .awaiting .poll false State.reset).rb.slot = .awaiting ∧
      (bus .awaiting .poll false State.reset).rb.exchange = some (exchange .poll false) ∧
      (exchange .poll false).answerBegun = false ∧ (bus .awaiting .poll false State.reset).roof.mode = .running ∧
      (bus .awaiting .poll false State.reset).roof.sending = none) ∧
    (State.reset.rb.slot ≠ .awaiting ∧ State.reset.roof.mode = .running) ∧
    ((State.reset.setRoof { State.reset.roof with mode := .stopped }).roof.mode ≠ .running ∧
      State.reset.roof.applyWord = false) ∧
    (((lab id).setRoof { State.reset.roof with applyWord := true }).roof.applyWord = true ∧ (lab id).rb.slot = .idle ∧
      (lab id).roof.mode = .running ∧ (lab id).roof.sending = none ∧ (lab id).jobs.bad 1 = false ∧ (settingsOf ((lab id).jobs.word 1)).divisor ≠ 0) ∧
    (State.reset.jobs.bad 1 = false ∧ bits (State.reset.jobs.word 1) 8 8 = 0) := by decide

/-- The node of the exchange with a record. -/
def node5 (r : NodeRec) (k : ExchangeKind) : State := bus .awaiting k false (lab (fun j => j.setNode 5 r))

theorem witness_MissedExchanges :
    ((bus .awaiting .poll false (lab id)).rb.slot = .awaiting ∧ (bus .awaiting .poll false (lab id)).rb.answerTimer = true) ∧
    ((bus .awaiting .poll true (lab id)).rb.answerLimit = true ∧ (bus .awaiting .poll true (lab id)).rb.answerTimer = false ∧
      (bus .awaiting .poll false (lab id)).rb.answerLimit = false ∧ (lab id).rb.slot ≠ .awaiting) ∧
    StoresWf (node5 { state := .active, missed := 2 } .queuedQuery) ∧
    ((node5 { state := .active, missed := 2 } .queuedQuery).rb.exchange = some (exchange .queuedQuery false) ∧
      (node5 { state := .active, missed := 2 } .queuedQuery).jobs.dev = .run ∧
      ((node5 { state := .active, missed := 2 } .queuedQuery).jobs.node 5).state = .active ∧
      ((node5 { state := .active, missed := 2 } .queuedQuery).jobs.node 5).missed = 2) ∧
    ((node5 { state := .waiting, missed := 1 } .poll).jobs.node 5).state = .waiting ∧
    ((node5 { state := .waiting, missed := 1 } .poll).jobs.node 5).missed < 2 ∧
    ((node5 {} .poll).jobs.node 5).state = .unused ∧ ((node5 { state := .lost, missed := 3 } .poll).jobs.node 5).state = .lost ∧
    (bus .awaiting .poll false State.reset).jobs.dev = .config := by
  unfold StoresWf
  decide

/-- The part free to choose, with a downstream queue, a last kind and a place in the poll list. -/
def free (down : List Frame) (last : LastKind) (cursor pass : Nat) (change : Jobs → Jobs) : State :=
  ((lab change).setFr { (lab change).fr with down := down }).setRb
    { (lab change).rb with lastKind := last, cursor := cursor, pass := pass }

/-- An ORDER and a QUERY of the downstream queue. -/
def order : Frame := { measure with kind := .order }
def query : Frame := { measure with kind := .query }

theorem witness_ExchangeChoice : (bus .sending .poll false (lab id)).busFree = false ∧
    (Running (lab (fun j => j.setOc { j.oc with table := [{ brkPoint with pending := true }] })) ∧
      (lab (fun j => j.setOc { j.oc with table := [{ brkPoint with pending := true }] })).busFree = true ∧
      (lab (fun j => j.setOc { j.oc with table := [{ brkPoint with pending := true }] })).jobs.oc.firstPending
        = some { brkPoint with pending := true }) ∧
    (Live (free [order] .poll 0 1 id) ∧ (free [order] .poll 0 1 id).busFree = true ∧
      (free [order] .poll 0 1 id).jobs.oc.firstPending = none ∧ (free [order] .poll 0 1 id).fr.down = order :: [] ∧
      (free [order] .poll 0 1 id).rb.lastKind = .poll) ∧
    ((free [query] .queue 0 1 (fun j => j.setDev .config)).jobs.dev = .config ∧
      (free [query] .queue 0 1 (fun j => j.setTm {})).duePoll = none ∧ query.kind ≠ .order ∧
      ((free [query] .poll 0 1 (fun j => j.setNode 5 {})).jobs.node 5).state = .unused) ∧
    (Running (free [order] .queue 0 1 id) ∧ (free [order] .queue 0 1 id).duePoll = some (0, 1) ∧
      (free [order] .queue 0 1 id).rb.lastKind = .queue) ∧
    (free [] .poll 31 1 (fun j => j.setTm { mem := cells 0xDF [0x8101] })).duePoll = some (31, 1) ∧
    ((free [] .poll 0 1 (fun j => (j.setTm {}).setNode 5 {})).duePoll = none ∧
      (free [] .poll 0 1 (fun j => (j.setTm {}).setNode 5 {})).fr.down = []) := by
  unfold Running Live StoresWf
  decide

/-- R106: the composed point leaves the pending set, and another point stays in it. -/
theorem test_composed_point_leaves : gives .exchangeChoice (lab (fun j => j.setOc { j.oc with
      table := [{ brkPoint with pending := true }, { brkPoint with point := 0x0502, pending := true }] }))
    (fun t => t.jobs.oc.table.map (fun e => e.pending) == [false, true]) = true := by decide

/-- 10.10, choice 8, among them: with the cursor past the last slot due in this pass the search goes on in the next, or,
for a slot of divisor 10 in pass 1, through eight passes in which nothing is due. -/
theorem witness_PollsInOrder : ((free [] .poll 1 1 (fun j => j.setTm { mem := cells 0xC0 [0x810A] })).duePoll = some (0, 10) ∧
      (free [] .poll 1 1 (fun j => j.setTm { mem := cells 0xC0 [0x810A] })).jobs.slotUsable 0 = true ∧ 10 = (1 + 9) % 360360 ∧
      (1 : Nat) < 360360) ∧
    (free [] .poll 0 1 (fun j => j.setTm { mem := cells 0xC0 [0x810A, 0x8201] })).duePoll
      = some (1, 1) ∧
    (free [] .poll 0 1 (fun j => j.setTm { mem := cells 0xC0 [0x810A, 0x8201] })).jobs.slotUsable 0 = true ∧
    (free [] .poll 2 1 (fun j => j.setTm { mem := cells 0xC0 [0x8101, 0x8201, 0x8502] })).duePoll = some (0, 2) ∧
    (free [] .poll 2 1 (fun j => j.setTm { mem := cells 0xC0 [0x8101, 0x8201, 0x8502] })).jobs.slotUsable 2 = true ∧
    ((free [] .poll 31 360359 (fun j => j.setTm { mem := cells 0xDF [0x81FF] })).jobs.slotUsable 31 = true ∧
      (360359 : Nat) < 360360) := by decide

/-- An ANSWER frame of node 5 of two words. -/
def answer : Frame := { measure with kind := .answer }

/-- R144, R149: a MEASURE frame of a LOST node whose deciding entry has a correctable check bit: the match, made as the frame
is taken, sets TABLE_CORRECTED with the entry's address before the node's return sets NODE_RETURNED with the node's number. -/
theorem test_matched_when_taken :
    let s := answering .poll measure (lab fun j => (j.setNode 5 { state := .lost, missed := 3 }).setTm
      { mem := Store.write {} 0x10 { data := 0x8022, check := 1 } tables })
    gives (.roofMeasureFrame { flags := 0, point := 0x0500, seq := 4 } [0, 1]) s (fun t =>
      (t.cb.mem.filter (fun c => c.2.w3 == toWord Flag.tableCorrected.code || c.2.w3 == toWord Flag.nodeReturned.code)).map
        (fun c => (c.2.w3, c.2.w4)) == [(toWord Flag.tableCorrected.code, 0x10), (toWord Flag.nodeReturned.code, 5)]) := by
  decide

/-- A MEASURE frame of node 1, which the keep-local entry 1 of 9.11 decides. -/
def samples : Frame := { measure with point := 0x0100, payload := [7, 100, 200] }

theorem witness_FramesAreTaken : AtHand (.misdirectedFrame .train .notice hd []) (lab id) ∧
    AtHand (.roofAnswerFrame hd [1]) (lab id) ∧
    ((Instr.raise hd 1 []).frame? = some (.train, requestFrame hd 7 1 []) ∧
      ((lab id).port .train).holds (requestFrame hd 7 1 []) = false) ∧ (lab id).inReset = false ∧ (answering .poll measure (lab id)).isAnswer measure = true ∧
    (hd.frame .order [1]).kind = .order ∧ (lab id).isAnswer measure = false ∧
    ((answering .queuedQuery measure (lab id)).isAnswer measure = true ∧
      ∀ e, (answering .queuedQuery measure (lab id)).rb.exchange = some e → e.accepts measure = false) := by
  refine ⟨atHand _ _, atHand _ _, by decide, by decide, by decide, by decide, by decide, by decide, ?_⟩
  intro e h
  cases h
  decide

/-- The part with an answer to take and a train transmit queue of some frames, so many of them forwarded. -/
def full (fwd own : Nat) (dev : Device) (r : NodeRec) : State :=
  let s := answering .poll measure (lab (fun j => (j.setDev dev).setNode 5 r))
  s.setFr { s.fr with
    up := List.replicate fwd { frame := measure, forwarded := true } ++ List.replicate own { frame := measure, forwarded := false } }

theorem witness_RoofAnswers : FrameAtHand (.roofMeasureFrame { flags := 0, point := 0x0500, seq := 4 } [0, 1])
      (full 13 2 .run { state := .lost, missed := 3 }) ∧
    Live (full 13 2 .run { state := .lost, missed := 3 }) ∧
    measure = ({ flags := 0, point := 0x0500, seq := 4 } : Header).frame .measure [0, 1] ∧
    (full 13 2 .run { state := .lost, missed := 3 }).isAnswer measure = true ∧
    ((full 13 2 .run { state := .lost, missed := 3 }).rb.exchange = some (exchange .poll true) ∧
      (exchange .poll true).accepts measure = true) ∧
    (((full 13 2 .run { state := .lost, missed := 3 }).jobs.node 5).state = .lost ∧
      (full 13 2 .config {}).jobs.dev = .config) ∧
    ((full 13 2 .run {}).fr.share < 14 ∧ (full 13 2 .run {}).fr.up.length < 16) ∧ 14 ≤ (full 14 0 .run {}).fr.share ∧
    16 ≤ (full 13 3 .run {}).fr.up.length ∧
    ((lab id).jobs.deciding 0x0500).all (fun r => (lab id).jobs.routeUp r) = true ∧
    ((lab id).jobs.deciding 0x0100).all (fun r => (lab id).jobs.routeUp r) = false ∧
    (answering .queuedQuery answer (lab id)).isAnswer answer = true ∧ (exchange .queuedQuery true).accepts answer = true := by
  refine ⟨?_, ?_⟩
  · intro p f h
    cases h
    decide
  unfold Live StoresWf
  decide +kernel

theorem witness_FramesForTheRoof : AtHand (.trainOrder (at_ 0x0600) [1]) (lab id) ∧ AtHand (.trainQuery (at_ 0x3F00) []) (lab id) ∧
    ((lab id).jobs.deciding 0x0500 = some 0 ∧ (lab id).jobs.deciding 0x050F = some 0 ∧
    (lab id).jobs.deciding 0x0510 = none ∧ Live (lab id) ∧ roofNode (nodeOf 0x3F00) = false ∧ roofNode (nodeOf 0x0600) = true ∧
    ((lab id).jobs.deciding 0x060F = some 2 ∧ (lab id).jobs.routeDown 2 = false) ∧
    ((lab id).jobs.routeDown 0 = true ∧ (lab id).fr.down.length < 8) ∧
    (free (List.replicate 7 query) .poll 0 1 id).fr.down.length < 8 ∧
    8 ≤ (free (List.replicate 8 query) .poll 0 1 id).fr.down.length ∧
    (([0x0140, 5] : List Word)[0]? = some 0x0140 ∧ channelOf 0x0501 + 0 ≤ 255 ∧
      heldBits ((lab id).jobs.oc.entry 0x0501) 0x0140 ((lab id).jobs.admitted 0x0501 0x0140) = true) ∧
    nodeOf brkPoint.point = nodeOf 0x0500 ∧ channelOf 0x0500 ≤ channelOf brkPoint.point) := by
  refine ⟨atHand _ _, atHand _ _, ?_⟩
  unfold Live StoresWf
  decide

/-- The roof ready for a breaker close: P1 collecting in contact, the breaker open, a system confirmed that uses AC. -/
def ready (c : Cs) : State :=
  lab (fun j => (((j.setP1 { state := .inContact, role := .collector, connected := true }).setLsi
    { j.lsi with confirmed := .system 0 }).setFb { brkRaw := some false, selRaw := some 1, brk := .open, sel := .ac }).setCs c)

/-- 9.12's rows as `Obligations.AdmittedBits` reads them: a row of the state is poisoned, and a row covers a bit. -/
def rowPoisonedAt (j : Jobs) (r : Nat) : Prop := ∃ n, n < 4 ∧ j.bad (0x050 + 4 * r + n) = true
def rowCoversAt (j : Jobs) (i r : Nat) : Prop :=
  (rowPoisonedAt j r ∧ (j.bad (0x050 + 4 * r + 2) = true ∨ j.bad (0x050 + 4 * r + 3) = true)) ∨
  ((rowPoisonedAt j r ∨ bit (j.word (0x050 + 4 * r + 0)) 15 = true) ∧ j.word (0x050 + 4 * r + 2) = 0x0501 ∧
    bit (j.word (0x050 + 4 * r + 3)) i = true)

/-- The roof of 9.12 at rest, and with the point word of row 0 uncorrectable. -/
def rows : Jobs := (lab id).jobs
def spoiltRow : Jobs := (lab (fun j => j.setTm { mem := [(0x052, { data := 0, check := 3 })] })).jobs

/-- 9.12's admission: bit 0 is owned, bit 4 is the earthing bit, bit 6 is row 1's (HOLD_PREVIOUS; breaker open and both
lowered), bit 8 row 0's (FORCE_OFF; standstill), bit 15 nobody's. -/
theorem witness_AdmittedBits : (lab id).jobs.oc.entry 0x0501 = some brkPoint ∧
    (brkPoint.earth = some { bit := 4, low := false } ∧
      ({ bit := 4, low := false } : BitRef).reads ((lab (fun j => j.setOc { j.oc with safe := true })).jobs.admitted 0x0501 0x0150)
        = true) ∧
    ((lab (fun j => j.setOc { j.oc with safe := true })).jobs.oc.safe = true ∧ (lab id).jobs.mapUsable .earth = true ∧
      brkPoint.owns 4 = false) ∧
    brkPoint.owned.find? (fun o => o.2.bit.val == 0) = some (.brkClose, { bit := 0, low := false }) ∧
    brkPoint.owned.find? (fun o => o.2.bit.val == 3) = some (.selDc, { bit := 3, low := false }) ∧
    (brkPoint.owns 15 = false ∧ brkPoint.owns 6 = false ∧ ∀ b, brkPoint.earth = some b → b.bit.val ≠ 15) ∧
    (lab id).jobs.oc.entry 0x0601 = none ∧
    (∀ r, r < 16 → ¬ rowCoversAt rows 15 r) ∧
    (rowCoversAt rows 8 0 ∧ ¬ rowPoisonedAt rows 0 ∧ bits (rows.word (0x050 + 4 * 0 + 0)) 0 2 ≠ 0 ∧
      bit (rows.word (0x050 + 4 * 0 + 1)) 2 = true ∧ rows.speed.known = false) ∧
    (rowCoversAt rows 6 1 ∧ ¬ rowCoversAt rows 6 0 ∧ ¬ rowPoisonedAt rows 1 ∧ bits (rows.word (0x050 + 4 * 1 + 0)) 0 2 = 0 ∧
      bit (rows.word (0x050 + 4 * 1 + 1)) 0 = true ∧ rows.fb.brk ≠ .open ∧
      (∀ n, n < 8 → bit ((ready {}).jobs.word (0x050 + 4 * 1 + 1)) n = true → n = 0 ∨ n = 1) ∧ (ready {}).jobs.fb.brk = .open) ∧
    (rowCoversAt spoiltRow 15 0 ∧ rowPoisonedAt spoiltRow 0) ∧
    ∃ holds : Nat → Prop, (holds 0 ↔ rows.fb.brk = .open) ∧ (holds 1 ↔ rows.p1.state = .lowered ∧ rows.p2.state = .lowered) ∧
      (holds 2 ↔ rows.speed.known = true ∧ rows.speed.aged = false ∧ rows.speed.kmh = 0) ∧ (holds 3 ↔ rows.fb.sel = .ac) ∧
      (holds 4 ↔ rows.fb.sel = .dc) ∧ (holds 5 ↔ ∃ k, rows.lsi.confirmed = .system k) ∧ (holds 6 ↔ rows.cs.state = .idle) ∧
      (holds 7 ↔ rows.ice.mode = .off ∨ rows.ice.mode = .suspended) := by
  unfold rowCoversAt rowPoisonedAt
  refine ⟨by decide, by decide, by decide, by decide, by decide, ⟨by decide, by decide, ?_⟩, by decide, by decide, by decide,
    by decide, by decide, ?_⟩
  · intro b h
    cases h
    decide
  · exact ⟨fun n => if n = 0 then rows.fb.brk = .open
      else if n = 1 then rows.p1.state = .lowered ∧ rows.p2.state = .lowered
      else if n = 2 then rows.speed.known = true ∧ rows.speed.aged = false ∧ rows.speed.kmh = 0
      else if n = 3 then rows.fb.sel = .ac
      else if n = 4 then rows.fb.sel = .dc
      else if n = 5 then ∃ k, rows.lsi.confirmed = .system k
      else if n = 6 then rows.cs.state = .idle
      else rows.ice.mode = .off ∨ rows.ice.mode = .suspended, Iff.rfl, Iff.rfl, Iff.rfl, Iff.rfl, Iff.rfl, Iff.rfl, Iff.rfl,
      Iff.rfl⟩

/-! #### Requests -/

theorem witness_RequestsRefused : AtHand (.raise hd 1 []) (lab id) ∧ AtHand (.requestUnknown hd []) (lab id) ∧
    (((lab (fun j => j.setDev .config)).jobs.dev = .config ∧ (lab (fun j => j.setDev .config)).inReset = false ∧
      (Instr.raise hd 1 []).request? = some (requestFrame hd 7 1 [], 7)) ∧
    (Running (lab (fun j => j.setOc { j.oc with hold := true })) ∧
      (lab (fun j => j.setOc { j.oc with hold := true })).jobs.oc.hold = true ∧ (7 : Nat) ≠ 11 ∧ (7 : Nat) ≠ 12) ∧
    TakesRequests (lab id)) := by
  refine ⟨atHand _ _, atHand _ _, ?_⟩
  unfold TakesRequests Running Live StoresWf
  decide

theorem witness_BreakerRequests : AtHand (.breakerClose hd 0 []) (ready {}) ∧ AtHand (.breakerOpen hd 0 []) (ready {}) ∧
    ((ready {}).jobs.cs.command = .open ∧ TakesRequests (ready {}) ∧
    (TakesRequests (ready { state := .armed }) ∧ (ready { state := .armed }).jobs.cs.state ≠ .idle) ∧
    ((ready { command := .close, pulse := true }).jobs.cs.state = .idle ∧
      (ready { command := .close, pulse := true }).jobs.cs.command = .close ∧
      (ready { command := .close, pulse := true }).jobs.cs.pulse = true) ∧
    ((ready {}).jobs.cs.state = .idle ∧ (ready {}).jobs.closeLaw = true ∧ (ready {}).jobs.cs.pulse = false) ∧
    ((lab id).jobs.cs.state = .idle ∧ (lab id).jobs.cs.command = .open ∧ (lab id).jobs.closeLaw = false)) := by
  refine ⟨atHand _ _, atHand _ _, ?_⟩
  unfold TakesRequests Running Live StoresWf
  decide

theorem witness_SelectAndEnergise : AtHand (.select hd 1 []) (lab id) ∧ AtHand (.energise hd 0 []) (lab id) ∧
    (TakesRequests (lab id) ∧
    (lab (cs { state := .hold })).jobs.cs.state ≠ .idle ∧ (lab id).jobs.cs.state = .idle ∧
    ((0 : Byte).toNat = 0 ∧ 16 ≤ (16 : Byte).toNat) ∧
    ((1 : BitVec 4) ≠ 0 ∧ (1 : Byte).toNat = (1 : BitVec 4).toNat ∧ (lab id).jobs.resolve 1 ≠ none) ∧
    ((15 : Byte).toNat = (15 : BitVec 4).toNat ∧ (lab id).jobs.resolve 15 = none) ∧
    ((lab (cs { command := .close })).jobs.cs.command = .close ∧ (ready {}).jobs.p1.state ≠ .lowered ∧
      (lab (fun j => j.setOc { j.oc with lowerAll := true })).jobs.oc.lowerAll = true) ∧
    ((lab id).jobs.cs.command = .open ∧ (lab id).jobs.p1.state = .lowered ∧ (lab id).jobs.p2.state = .lowered ∧
      (lab id).jobs.oc.lowerAll = false ∧ (lab id).jobs.raiseAnswer (lab id).jobs.startPanto .collector .cs = .accepted) ∧
    ((lab (fun j => j.setNode 2 { state := .lost })).jobs.raiseAnswer
      (lab (fun j => j.setNode 2 { state := .lost })).jobs.startPanto .collector .cs ≠ .accepted)) := by
  refine ⟨atHand _ _, atHand _ _, ?_⟩
  unfold TakesRequests Running Live StoresWf
  decide

/-- A CS in HOLD at a step, with a stale entry in its list. -/
def heldAt (step : CsState) : State :=
  lab (cs { state := .hold, reason := some .breaker, stepOfFailure := some step,
            list := [{ listed 3 1 with staleMark := true }, listed 4 1900000] })

theorem witness_ResumeAndAbort : AtHand (.changeoverResume hd 0 []) (heldAt .opening) ∧ AtHand (.changeoverAbort hd 0 []) (heldAt .opening) ∧
    (TakesRequests (heldAt .opening) ∧ (lab id).jobs.cs.state ≠ .hold ∧
    ((heldAt .opening).jobs.cs.state = .hold ∧ (heldAt .opening).jobs.oc.lowerAll = false ∧
      (heldAt .opening).jobs.cs.stepOfFailure = some .opening ∧ (heldAt .identifying).jobs.cs.stepOfFailure = some .identifying) ∧
    (((heldAt .opening).onJobs (fun j => j.setOc { j.oc with lowerAll := true })).jobs.oc.lowerAll = true ∧
      ((heldAt .opening).onJobs (fun j => j.setOc { j.oc with lowerAll := true })).jobs.cs.state = .hold) ∧
    { listed 3 1 with staleMark := true } ∈ (heldAt .opening).jobs.cs.list) := by
  refine ⟨atHand _ _, atHand _ _, ?_⟩
  unfold TakesRequests Running Live StoresWf
  refine ⟨by decide, by decide, by decide, by decide, List.mem_cons_self⟩

/-- The same with a feature in hand and a confirmed system. -/
def resuming (step : CsState) (f : Option Feature) (line : Line) : State :=
  (heldAt step).onJobs (fun j => (j.setCs { j.cs with current := f }).setLsi { j.lsi with confirmed := line })

theorem witness_ResumeSteps :
    (∀ step ∈ [CsState.idle, .armed, .coasting, .lowering, .selecting, .raising, .identifying, .closing, .hold],
      step = (resuming step none .dead).jobs.cs.stepOfFailure.getD .idle ∧ (resuming step none .dead).jobs.cs.state = .hold ∧
        (resuming step none .dead).jobs.oc.lowerAll = false) ∧
    TakesRequests (resuming .armed none .dead) ∧ (resuming .armed none .dead).jobs.cs.current = none ∧
    ((resuming .armed (some (listed 5 9)) (.system 0)).jobs.cs.current ≠ none ∧
      (resuming .armed (some (listed 5 9)) (.system 0)).jobs.lsi.confirmed.isSystem = true ∧
      (resuming .armed (some (listed 5 9)) .dead).jobs.lsi.confirmed.isSystem = false) ∧
    (0 < ((resuming .coasting (some { listed 5 9 with coast := 65536 }) .dead).jobs.cs.current.map (fun f => f.coast)).getD 0 ∧
      ((resuming .coasting none .dead).jobs.cs.current.map (fun f => f.coast)).getD 0 = 0 ∧
      (resuming .coasting none .dead).jobs.crossing = false ∧
      (resuming .coasting none .dead).jobs.cs.expected ≠ some (resuming .coasting none .dead).jobs.lsi.confirmed) := by
  unfold TakesRequests Running Live StoresWf
  decide

/-- P1 in a state and a role. -/
def p1At (state : PState) (role : Role) : State := lab (fun j => j.setP1 { state := state, role := role })

theorem witness_RaiseRequests : AtHand (.raise hd 3 []) (lab id) ∧
    (TakesRequests (lab id) ∧ ((0 : Byte).toNat < 1 ∧ 3 < (4 : Byte).toNat) ∧
    (1 ≤ (1 : Byte).toNat ∧ (3 : Byte).toNat ≤ 3) ∧
    ((lab (cs { state := .closing })).jobs.cs.state ≠ .idle ∧ (lab (cs { state := .closing })).jobs.cs.state ≠ .armed) ∧
    ((lab id).jobs.cs.state = .idle ∧ (lab (cs { state := .armed })).jobs.cs.state = .armed) ∧
    ((p1At .raising .collector).jobs.panto .p1).state = .raising ∧ ((p1At .lowering .none).jobs.panto .p1).state = .lowering ∧
    ((p1At .faulted .none).jobs.panto .p1).state = .faulted ∧
    (((lab id).jobs.panto .p1).state = .lowered ∧ (lab id).jobs.oc.lowerAll = false ∧ (lab id).jobs.raisable .p1 = true ∧
      ((lab id).jobs.pantoNode .p1).state ≠ .lost ∧ ((lab id).jobs.panto .p2).role ≠ .collector ∧
      ((lab id).jobs.panto .p2).state = .lowered) ∧
    (lab (fun j => j.setTm {})).jobs.raisable .p1 = false ∧
    ((lab (fun j => j.setNode 2 { state := .lost })).jobs.pantoNode .p1).state = .lost ∧
    ((p1At .inContact .collector).jobs.panto .p1).role = .collector ∧ ((p1At .inContact .none).jobs.panto .p2).state = .lowered) := by
  refine ⟨atHand _ _, ?_⟩
  unfold TakesRequests Running Live StoresWf
  decide

theorem witness_LowerAndFaultClear : AtHand (.lower hd 1 []) (lab id) ∧ AtHand (.faultClear hd 1 []) (lab id) ∧
    (TakesRequests (lab id) ∧ ((0 : Byte).toNat < 1 ∧ 3 < (4 : Byte).toNat ∧ 2 < (3 : Byte).toNat) ∧
    (lab (cs { state := .opening })).jobs.cs.state.stepping = true ∧ (lab id).jobs.cs.state.stepping = false ∧
    ((1 : Byte).toNat = Panto.num .p1 ∧ (2 : Byte).toNat = Panto.num .p2) ∧
    (((lab (fun j => j.setP1 { state := .dropped, height := some 50 })).jobs.panto .p1).height = some 50 ∧
      (50 : Word).toNat ≤ ((lab (fun j => j.setP1 { state := .dropped, height := some 50 })).jobs.pantoParam .p1 1).toNat) ∧
    (∀ v, ((lab (fun j => j.setP1 { state := .dropped, height := some 51 })).jobs.panto .p1).height = some v →
      ((lab (fun j => j.setP1 { state := .dropped, height := some 51 })).jobs.pantoParam .p1 1).toNat < v.toNat) ∧
    ((lab id).jobs.panto .p1).state = .lowered ∧ ((p1At .preparing .collector).jobs.panto .p1).state.raised = true) := by
  refine ⟨atHand _ _, atHand _ _, ?_⟩
  unfold TakesRequests Running Live StoresWf
  refine ⟨by decide, by decide, by decide, by decide, by decide, by decide, ?_, by decide, by decide⟩
  intro v h
  cases h
  decide

/-- The roof on an entry that permits scraping, at 100 km/h with P1 leading, P1 with a record. -/
def scraping (p : PantoRec) (c : Ice) : State :=
  lab (fun j => (((j.setLsi { j.lsi with confirmed := .system 0 }).setSpeed { known := true, kmh := 100, lead := .p1 }).setP1 p).setIce
    c)

theorem witness_IceModeRequests : AtHand (.iceMode hd 3 []) (lab id) ∧ (TakesRequests (lab id) ∧ 3 < (4 : Byte).toNat ∧
    ((0 : Byte) = 0 ∧ Policy.auto = .auto ∨ (0 : Byte) = 1 ∧ Policy.auto = .off) ∧
    (lab (fun j => j.setIce { j.ice with mode := .suspended })).jobs.ice.mode = .suspended ∧ (lab id).jobs.ice.mode ≠ .suspended ∧
    (ready { command := .close }).jobs.heatPermitted = true ∧ (lab id).jobs.heatPermitted = false ∧
    (lab (fun j => j.setIce { j.ice with mode := .heat })).jobs.ice.mode ≠ .off ∧
    ((scraping { state := .lowered } {}).jobs.scrapeConditions = true ∧ (scraping { state := .lowered } {}).jobs.leading = some .p1 ∧
      (scraping { state := .lowered } {}).jobs.raiseAnswer .p1 .scraper .ic = .accepted ∧
      (scraping { state := .lowered } {}).jobs.ice.mode ≠ .scrape) ∧
    ((scraping { state := .faulted } {}).jobs.scrapeConditions = true ∧
      (scraping { state := .faulted } {}).jobs.raiseAnswer .p1 .scraper .ic ≠ .accepted) ∧
    ((scraping { state := .inContact, role := .scraper } { mode := .scrape, scraper := some .p1 }).jobs.scrapeConditions = true ∧
      (scraping { state := .inContact, role := .scraper } { mode := .scrape, scraper := some .p1 }).jobs.ice.mode = .scrape) ∧
    (scraping { state := .inContact, role := .collector } {}).jobs.scrapeConditions = false ∧
    (scraping { state := .lowered } { barred := true }).jobs.ice.barred = true) := by
  refine ⟨atHand _ _, ?_⟩
  unfold TakesRequests Running Live StoresWf
  decide

theorem witness_LowerAllRequests : AtHand (.lowerAllOn hd 1 []) (lab id) ∧ AtHand (.lowerAllOff hd []) (lab id) ∧
    (Running (lab id) ∧ (2 : Byte) ≠ 1 ∧ (lab id).jobs.oc.lowerAll = false ∧
    (Running (lab (fun j => j.setOc { j.oc with lowerAll := true })) ∧
      (lab (fun j => j.setOc { j.oc with lowerAll := true })).jobs.oc.lowerAll = true) ∧
    ((p1At .preparing .collector).jobs.panto .p1).state.raised = true ∧ ((lab id).jobs.panto .p1).state.raised = false) := by
  refine ⟨atHand _ _, atHand _ _, ?_⟩
  unfold Running Live StoresWf
  decide

theorem witness_HoldRequests : AtHand (.holdOn hd 1 []) (lab id) ∧ AtHand (.holdOff hd []) (lab id) ∧
    (Running (lab id) ∧ (2 : Byte) ≠ 1 ∧
    ((lab id).jobs.oc.lowerAll = false ∧ (lab id).jobs.oc.hold = false) ∧
    (lab (fun j => j.setOc { j.oc with lowerAll := true })).jobs.oc.lowerAll = true ∧
    (lab (fun j => j.setOc { j.oc with hold := true })).jobs.oc.hold = true ∧
    (TimerId.t13 ∈ [TimerId.t13, .t14, .t15] ∧ TimerId.t12 ∉ [TimerId.t13, .t14, .t15] ∧ ((lab id).jobs.timer .t12).owed = [])) := by
  refine ⟨atHand _ _, atHand _ _, ?_⟩
  unfold Running Live StoresWf
  decide

/-- 6.7 with R104: a role in the owned mask whose entry is poisoned is frozen off, another as it is sent. -/
theorem test_hold_freezes_what_is_sent : takes (.holdOn hd 1 [])
    (lab (fun j => (j.setTm { mem := Store.write {} 0x9E { data := 0x8000, check := 3, mark := true } tables }).setOc
      { j.oc with sending := { brkClose := true, selAc := true } }))
    (fun t => t.jobs.oc.frozen.map (fun i => (i.brkClose, i.selAc)) == some (false, true)) = true := by decide

/-- R111 with R104: a role frozen on whose entry is found poisoned under hold is sent off at the release, which marks its
point; one frozen off is not. -/
theorem test_release_marks_what_was_frozen_on : ∀ on : Bool, takes (.holdOff hd [])
    (lab (fun j => (j.setTm { mem := Store.write {} 0x9E { data := 0x8000, check := 3, mark := true } tables }).setOc
      { j.oc with hold := true, frozen := some { brkClose := on, brkTrip := true },
                  sending := { brkClose := on, brkTrip := true } }))
    (fun t => t.jobs.oc.frozen.isNone && t.jobs.oc.table.map (fun e => e.pending) == [on]) = true := by decide

/-! #### Announcements -/

theorem witness_SpeedFromAhead : AtHand (.aheadSpeed hd 3 (ahead 0 0 0 401)) (lab id) ∧ AtHand (.shortAheadFrame hd []) (lab id) ∧
    (Running (lab id) ∧
    (Instr.aheadSpeed hd 3 (ahead 0 0 0 0)).ahead? = some (aheadFrame hd 3 (ahead 0 0 0 0), ahead 0 0 0 0) ∧
    (lab (fun j => j.setDev .config)).jobs.dev = .config ∧ (400 < (401 : Word).toNat ∧ ¬ 400 < (400 : Word).toNat)) := by
  refine ⟨atHand _ _, atHand _ _, ?_⟩
  unfold Running Live StoresWf
  decide

/-- A current feature of a number. -/
def current (n : Nat) : State := lab (cs { state := .opening, current := some (listed n 1000000) })

/-- A list of features of these numbers, due in this order. -/
def listing (ns : List Nat) : State := lab (cs { list := ns.map (fun n => listed n (1000000 + 1000 * n)) })

theorem witness_FeatureOffers : AtHand (.aheadNeutral hd (ahead 12 0 1200 300)) (lab id) ∧ AtHand (.aheadBoundary hd (ahead 12 15 0 0)) (lab id) ∧
    (Running (lab id) ∧ Running (listing [1, 2, 3, 4]) ∧
    (∃ c, (current 12).jobs.cs.current = some c ∧ c.number = some (ahead 12 0 1200 300).number) ∧
    ((lab id).jobs.resolve (ahead 12 15 0 0).target = none ∧ (lab id).jobs.resolve (ahead 12 3 0 0).target ≠ none) ∧
    (∀ c, (lab id).jobs.cs.current = some c → c.number ≠ some (12 : Byte)) ∧
    (∃ o ∈ (listing [1, 2, 3, 4]).jobs.cs.list, o.number = some (ahead 4 0 0 0).number) ∧
    (listing [1, 2, 3]).jobs.cs.list.length < 4 ∧ 4 ≤ (listing [1, 2, 3, 4]).jobs.cs.list.length ∧
    (listing [1, 2, 3, 4]).jobs.cs.list.getLast? = some (listed 4 1004000) ∧
    ((listed 9 1003999).earlier (listed 4 1004000) = true ∧ (listed 9 1004000).earlier (listed 4 1004000) = false)) := by
  refine ⟨atHand _ _, atHand _ _, ?_⟩
  unfold Running Live StoresWf
  refine ⟨by decide, by decide, ⟨_, rfl, rfl⟩, by decide, ?_, ⟨listed 4 1004000, ?_, rfl⟩, by decide, by decide, by decide,
    by decide⟩
  · intro c h
    cases h
  · exact List.mem_of_getLast? (by decide)

theorem witness_CancelsAndZones : AtHand (.aheadCancel hd (ahead 12 0 0 0)) (current 12) ∧ AtHand (.aheadIceZone hd (ahead 0 0 0 0)) (current 12) ∧
    (Running (current 12) ∧
    (∃ c, (current 12).jobs.cs.current = some c ∧ c.number = some (ahead 12 0 0 0).number) ∧
    (∀ c, (current 12).jobs.cs.current = some c → c.number ≠ some (ahead 13 0 0 0).number)) := by
  refine ⟨atHand _ _, atHand _ _, ?_⟩
  unfold Running Live StoresWf
  refine ⟨by decide, ⟨_, rfl, rfl⟩, ?_⟩
  intro c h
  cases h
  decide

/-! #### SERVICE -/

/-- A word with two check bits inverted, in the last place of the table. -/
def spoiled (check : BitVec 6) (mark : Bool) : State :=
  lab (fun j => j.setTm { mem := [(0x193, { data := 7, check := check, mark := mark })] })

/-- The part with a latched high word of the time tag. -/
def latched (ticks : Nat) : State := (lab id).setLatch (some { page := 0, addr := 0x1801, value := 9, ticks := ticks })

/-- The ends of table memory, of the status window and of the capture readout, and the addresses just beyond them. -/
theorem witness_ServiceReads : AtHand (.serviceRead hd (svc 1) 0x193 []) (spoiled 3 false) ∧
    (Live (lab id) ∧ Live (spoiled 3 false) ∧
    (isTableWord 0x193 = true ∧ isWord 0 0x194 = false ∧ isWord 5 0x1800 = false) ∧
    ((0 : Nat) < 1 ∧ isWord 0 (0x193 + 0) = true ∧ (spoiled 3 false).jobs.bad 0x193 = true ∧ (lab id).jobs.bad 0x193 = false) ∧
    (0x1800 ≤ 0x187F ∧ 0x187F ≤ 0x187F ∧ (4 : Nat) ≤ 4) ∧ (5 < 6 ∧ 255 < 256 ∧ 0x1000 + 6 * 255 + 5 = 0x15FF) ∧
    (lab id).latch = none ∧
    (Live (latched 1) ∧ (latched 1).latch = some { page := 0, addr := 0x1801, value := 9, ticks := 1 } ∧
      lowOf 0 0x1801 = some 0x1800 ∧ (0x1800 : Nat) < 0x1801) ∧
    ((longItems 0).filter (fun q => (span 0x1800 1).contains (0x1800 + q.1) && !(span 0x1800 1).contains (0x1800 + q.2))).getLast?
      = some (0, 1) ∧
    (Store.wf {} (spoiled 1 false).jobs.tm.mem = true ∧ ((spoiled 0 false).jobs.cell 0x193).mark = false ∧
      inverted (0 : BitVec 6) = 0 ∧ ((spoiled 3 true).jobs.cell 0x193).mark = true ∧ inverted (1 : BitVec 6) = 1 ∧
      2 ≤ inverted (3 : BitVec 6)) ∧
    ((∀ q ∈ longItems 0, 0x1801 ≤ 0x1800 + q.1 → 0x1800 + q.1 < 0x1801 + 1 → 0x1801 ≤ 0x1800 + q.2 ∧ 0x1800 + q.2 < 0x1801 + 1) ∧
      (∀ q ∈ longItems 0, 0x1800 ≤ 0x1800 + q.1 → 0x1800 + q.1 < 0x1800 + 2 → 0x1800 ≤ 0x1800 + q.2 ∧ 0x1800 + q.2 < 0x1800 + 2) ∧
      (latched 2).latch = some { page := 0, addr := 0x1801, value := 9, ticks := 2 }) ∧
    ((lab id).jobs.lmu.last = none ∧ (lab id).jobs.cs.current = none ∧ (lab id).jobs.cs.list.length = 0 ∧
      (lab id).jobs.ice.last = none ∧ (lab id).jobs.oc.table.length = 1 ∧ (lab id).rb.exchange = none)) := by
  refine ⟨atHand _ _, ?_⟩
  unfold Live StoresWf
  decide

/-- R187: the high word alone gives what is latched and empties the latch; both halves together leave it. -/
theorem test_latch_empties : takes (.serviceRead hd (svc 1) 0x1801 []) (latched 1) (fun t => t.latch.isNone) = true ∧
    takes (.serviceRead hd (svc 2) 0x1800 []) (latched 1) (fun t => t.latch == (latched 1).latch) = true := by decide

/-- R115, 13.6: the pending point set, of which the second point of two is a member. -/
theorem test_pending_set_shown : State.statusWord 1 0x1813 (lab (fun j => j.setOc
    { j.oc with table := [brkPoint, { brkPoint with point := 0x0502, pending := true }] })) = 2 := by decide

/-- R195, 13.6: words of three pages of the status window, by the places that 13.6 gives them. -/
theorem test_status_window : State.statusWord 0 0x1800 (lab id) = 0x4240 ∧ State.statusWord 0 0x1801 (lab id) = 0x000F ∧
    State.statusWord 0 0x1802 (lab id) = 1 ∧
    State.statusWord 1 0x1850 (lab (timed .t0 { count := 7, reload := 9, running := true })) = 7 ∧
    State.statusWord 3 0x183D (lab (fun j => j.setNode 62 { state := .lost, missed := 3 })) = 0x0303 := by decide

theorem witness_StatusWindow : (∃ (long : Long → List Word) (on : Bool → Nat), (∀ v, long v = [lowHalf v, highHalf v]) ∧
      on false = 0 ∧ on true = 1) ∧
    (lab (fun j => j.setLmu { j.lmu with last := some (({ taken := 1024 } : Window).complete 3) })).jobs.lmu.last ≠ none ∧
    (current 12).jobs.cs.current = some (listed 12 1000000) ∧
    (3 < 4 ∧ (listing [1, 2, 3, 4]).jobs.cs.list[3]? = some (listed 4 1004000)) ∧
    (lab id).jobs.oc.table[0]? = some brkPoint ∧ OwnedRole.raise1.mapRole.index = 0 + 1 ∧
    (TimerId.t67, 0x1862) ∈ [(TimerId.t67, 0x1862)] ∧ (bus .awaiting .poll true (lab id)).rb.exchange ≠ none ∧
    (1 ≤ 1 ∧ 62 ≤ 62) ∧ (0x184B = 0x184B ∧ 0x186F ≤ 0x186F ∧ 0x183E ≤ 0x183E ∧ 0x187C ≤ 0x187C) := by
  refine ⟨⟨fun v => [lowHalf v, highHalf v], fun b => if b then 1 else 0, fun _ => rfl, rfl, rfl⟩, ?_⟩
  decide

/-- A WRITE of the LINE_V entry and one of the status period, as the effects beyond the stored word need them. -/
theorem witness_WriteEffects : (∃ wrote : Nat → Prop,
      (∀ a, wrote a ↔ 0x90 ≤ a ∧ a < 0x90 + 1 ∧ writable a = true) ∧ wrote 0x90 ∧ ¬ wrote 4) ∧
    (∃ wrote : Nat → Prop, (∀ a, wrote a ↔ 4 ≤ a ∧ a < 4 + 1 ∧ writable a = true) ∧ wrote 4 ∧
      ∀ a, 0x090 ≤ a → a ≤ 0x0B9 → ¬ wrote a) ∧
    ((lab (timed .t13 { count := 5, running := true })).jobs.timer .t13).running = true ∧
    (((lab id).jobs.timer .t13).running = false ∧ (lab id).jobs.oc.entry 0x0501 = some brkPoint ∧
      (lab id).jobs.oc.entry 0x0201 = none ∧ (lab id).jobs.dev = .run) := by
  refine ⟨⟨_, fun _ => Iff.rfl, by decide, by decide⟩, ⟨_, fun _ => Iff.rfl, by decide, ?_⟩, by decide, by decide⟩
  rintro a h - ⟨-, h', -⟩
  omega

theorem witness_ServiceWrites : AtHand (.serviceWrite hd (svc 1) 1 [0x0200]) (lab id) ∧ AtHand (.serviceCheckWrite hd (svc 1) 0x90 0 []) (lab id) ∧
    (Live (lab id) ∧ (1 ≤ ([0x0200] : List Word).length) ∧
    ((regionOf 0x90 = .roof ∧ (lab id).jobs.dev = .run ∧ (lab id).jobs.oc.safe = false) ∧
      (true = true ↔ (∃ i, i < 1 ∧ regionOf (0x90 + i) = .roof) ∧ (lab id).jobs.dev = .run ∧ (lab id).jobs.oc.safe = false)) ∧
    ((∃ i, i < 1 ∧ regionOf (1 + i) = .roof) → False) ∧
    (writable 0x90 = true ∧ writable 1 = true ∧ regionOf 1 = .live ∧ (∃ i, i < 2 ∧ writable (0x193 + i) = false)) ∧
    (1 < (2 : Nat) ∧ (1 : Nat) ≤ 1 ∧ 1 < 1 + 1 ∧ ([0x0200] : List Word)[1 - 1]? = some 0x0200 ∧ bits (0x0200 : Word) 8 8 ≠ 0 ∧
      bits (0x0001 : Word) 8 8 = 0) ∧
    (lab (fun j => j.setOc { j.oc with safe := true })).jobs.oc.safe = true ∧ (lab (fun j => j.setDev .config)).jobs.dev = .config) := by
  refine ⟨atHand _ _, atHand _ _, ?_⟩
  unfold Live StoresWf
  refine ⟨by decide, by decide, ⟨by decide, ?_⟩, ?_, ⟨by decide, by decide, by decide, 1, by decide, by decide⟩, by decide,
    by decide, by decide⟩
  · exact ⟨fun _ => ⟨⟨0, by decide, by decide⟩, by decide, by decide⟩, fun _ => rfl⟩
  · rintro ⟨i, h, e⟩
    obtain rfl : i = 0 := by omega
    revert e
    decide

/-- A stored roof settings word, waiting for its application or not, with the slot in a state. -/
def roofWaiting (waits : Bool) (slot : Slot) (w : Word) : State :=
  ((lab (fun j => j.setTm { mem := cells 1 [w] })).setRoof { State.reset.roof with applyWord := waits, assembly := some {} }).setRb
    { State.reset.rb with slot := slot }

/-- R140: a stored word is applied at once in IDLE, and waits while an exchange is in progress; divisor 0 cancels that
wait. -/
theorem test_roof_word : takes (.serviceWrite hd (svc 1) 1 [0x0200]) (roofWaiting false .idle 0x0300)
      (fun t => t.roof.settings.divisor == 2 && t.roof.settling && !t.roof.applyWord) = true ∧
    takes (.serviceWrite hd (svc 1) 1 [0x0200]) (roofWaiting false .awaiting 0x0300)
      (fun t => t.roof.settings.divisor == 1 && t.roof.applyWord) = true ∧
    takes (.serviceWrite hd (svc 1) 1 [0x0000]) (roofWaiting true .awaiting 0x0300)
      (fun t => t.roof.settings.divisor == 1 && !t.roof.applyWord) = true := by decide

/-- R140: an application that the end of an exchange has made due comes before the word is stored anew. -/
theorem test_roof_word_due : takes (.serviceWrite hd (svc 1) 1 [0x0000]) (roofWaiting true .idle 0x0300)
      (fun t => t.roof.settings.divisor == 3 && !t.roof.applyWord) = true ∧
    takes (.serviceCheckWrite hd (svc 1) 1 0x0200 []) (roofWaiting true .idle 0x0300)
      (fun t => t.roof.settings.divisor == 3 && !t.roof.applyWord) = true := by decide

theorem witness_RoofWords : Live (roofWaiting true .idle 0x0300) ∧ RoofFree (roofWaiting true .idle 0x0300) ∧
    (roofWaiting true .idle 0x0300).roof.applyWord = true ∧ (roofWaiting true .idle 0x0300).jobs.roofWord.divisor ≠ 0 ∧
    (roofWaiting true .idle 0x0001).jobs.roofWord.divisor = 0 ∧ ¬ RoofFree (roofWaiting true .awaiting 0x0300) ∧
    (roofWaiting false .idle 0x0300).roof.applyWord = false ∧ (1 : Word).toNat = 1 ∧ bits (0x0200 : Word) 8 8 ≠ 0 ∧
    bits (0x0001 : Word) 8 8 = 0 := by
  unfold Live StoresWf RoofFree
  decide

theorem witness_FlagsAndRearm : AtHand (.serviceClearFlags hd (svc 1) 0 0 0 []) (lab id) ∧ AtHand (.serviceRearm hd (svc 1) []) (lab id) ∧ AtHand (.serviceUnknown hd []) (lab id) ∧
    ((lab id).inReset = false ∧ Live (lab id) ∧
    captureMode (bits ((lab id).jobs.param 5 0) 0 2) = .mixed ∧
    (bits (0x7700 : Word) 14 2 = 1 ∧ bits (0x7700 : Word) 12 2 = 3 ∧ bits (0x5700 : Word) 12 2 = 1 ∧
      bits (0x6700 : Word) 12 2 = 2 ∧ bits (0x4800 : Word) 12 2 = 0 ∧ 8 ≤ bits (0x4800 : Word) 8 4 ∧
      Kind.notice.code = bits (0x4700 : Word) 8 4) ∧ bits (0x801A : Word) 14 2 = 2 ∧
    (bits (0xC000 : Word) 14 2 = 3 ∧ bits (0x001A : Word) 14 2 = 0) ∧
    ((spoiled 3 false).jobs.bad 0x193 = true ∧ (lab id).jobs.bad 0x193 = false)) := by
  refine ⟨atHand _ _, atHand _ _, atHand _ _, ?_⟩
  unfold Live StoresWf
  decide

/-- The tables with words of 0 at some addresses. -/
def zeroed (as : List Nat) : Store TWord := tables.filter (fun c => !as.contains c.1)

/-- The part before commissioning, on tables and with P1 on its way down. -/
def bare (m : Store TWord) : State := lab (fun _ => { tm := { mem := m } })

theorem witness_Commissioning : AtHand (.serviceCommission hd (svc 1) []) (bare tables) ∧
    (((bare tables).jobs.lineUsable 0 = true ∧ (bare tables).jobs.slotUsable 0 = true ∧
      (bare tables).jobs.slotNode 0 = (bare tables).jobs.mapNode .lineV) ∧ Live (bare tables) ∧ (bare tables).jobs.dev = .config ∧ (bare tables).jobs.failedCheck = none ∧
    (bare []).jobs.failedCheck = some 1 ∧ (∃ r ∈ commissionRoles, (bare []).jobs.mapUsable r = false) ∧ (lab id).jobs.dev = .run ∧
    ((bare tables).jobs.param 4 100).toNat ≠ 0 ∧ ((bare (zeroed [4])).jobs.param 4 100).toNat = 0 ∧
    (((bare tables).jobs.panto .p1).state = .lowering ∧ ((bare tables).jobs.timer (Panto.stepTimer .p1)).running = false ∧
      ((bare tables).jobs.timer (Panto.stepTimer .p1)).count = 0) ∧
    ((4 : Nat) < 32 ∧ (bare tables).jobs.slotUsable 4 = true ∧ (bare tables).jobs.slotNode 4 = 6) ∧
    (∀ i, i < 32 → (bare tables).jobs.slotUsable i = true → (bare tables).jobs.slotNode i ≠ 4)) := by
  refine ⟨atHand _ _, ?_⟩
  unfold Live StoresWf
  refine ⟨by decide, by decide, by decide, by decide, by decide, ⟨.lineV, by decide, by decide⟩, by decide, by decide, by decide, by decide, by decide, ?_⟩
  decide

/-- R191: the six checks in their order, each the first to fail once its own word is 0: LINE_V's entry, the line-system
entries, the slot of node 1, P1's valid word, P1's ISOL entry, the roof settings. -/
theorem test_checks_in_order : (bare (zeroed [0x90])).jobs.failedCheck = some 1 ∧
    (bare (zeroed [0x100, 0x106, 0x10C])).jobs.failedCheck = some 2 ∧ (bare (zeroed [0xC0])).jobs.failedCheck = some 3 ∧
    (bare (zeroed [0x160])).jobs.failedCheck = some 4 ∧ (bare (zeroed [0x96])).jobs.failedCheck = some 5 ∧
    (bare (zeroed [1])).jobs.failedCheck = some 6 := by decide

theorem witness_Restarting : AtHand (.serviceRestart hd (svc 1) []) (lab id) ∧
    (Live (lab id) ∧ (lab id).jobs.dev = .run ∧ (lab id).jobs.oc.safe = false ∧
    (bare []).jobs.dev = .config ∧ (lab (fun j => j.setOc { j.oc with safe := true })).jobs.oc.safe = true ∧
    (lab id).train.mode = .discovery ∧ (running (lab id)).train.mode = .running ∧
    ((lab id).setTrain { State.reset.train with mode := .stopped }).train.mode = .stopped) := by
  refine ⟨atHand _ _, ?_⟩
  unfold Live StoresWf
  decide

/-! #### Time -/

/-- The scrub pointer at the last table word, with a word there. -/
def scrubbing (w : TWord) : State := lab (fun j => j.setTm { mem := [(0x193, w)], scrub := 0x193 })

theorem witness_TickOfTime : (lab id).inReset = false ∧ ((lab id).jobs.cs.list = [] ∧ (listing [1]).jobs.cs.list ≠ []) ∧
    (StoresWf (scrubbing { data := 7, check := 1 }) ∧ (scrubbing { data := 7, check := 1 }).jobs.tm.scrub = 0x193 ∧
      (scrubbing { data := 7, check := 1 }).jobs.cell 0x193 = { data := 7, check := 1 } ∧ inverted (1 : BitVec 6) = 1 ∧
      (scrubbing { data := 7, check := 3 }).jobs.cell 0x193 = { data := 7, check := 3 } ∧ 2 ≤ inverted (3 : BitVec 6) ∧
      (scrubbing { data := 7, check := 3, mark := true }).jobs.cell 0x193 = { data := 7, check := 3, mark := true } ∧
      (0x193 : Nat) ≠ 0x192) ∧ ({ count := 0, running := true } : Timer).count = 0 ∧
    ({ count := 5, running := true, held := true } : Timer).held = true ∧
    (({ count := 2, running := true } : Timer).running = true ∧ ({ count := 2, running := true } : Timer).held = false ∧
      2 ≤ ({ count := 2, running := true } : Timer).count) ∧
    (({ count := 1, running := true } : Timer).count = 1 ∧ ({ count := 1, running := true } : Timer).mode = .oneShot) ∧
    ({ count := 1, reload := 20, mode := .periodic, running := true } : Timer).mode = .periodic := by
  unfold StoresWf
  decide

/-- A CS in a state with an expiry of T0, the confirmed system and lower-all as given. -/
def timedOut (state : CsState) (line : Line) (lowerAll : Bool) : State :=
  lab (fun j => expired .t0 (((j.setCs { state := state }).setLsi { j.lsi with confirmed := line }).setOc
    { j.oc with lowerAll := lowerAll }))

/-- A CS COASTING through a neutral section with its coast at an end. -/
def coasted (expected line : Line) : State :=
  (ready { state := .coasting, expected := some expected, current := some (listed 12 1000000) }).onJobs
    (fun j => expired .t1 (j.setLsi { j.lsi with confirmed := line }))

/-- The roof jobs of `ready` in a CS state with a current feature, a confirmed system, a breaker and a selector feedback, and
both pantographs' records. -/
def stepping (c : Cs) (line : Line) (brk : BreakerFb) (sel : SelectorFb) (p1 p2 : PantoRec) : Jobs :=
  ((((lab id).jobs.setCs c).setLsi { roofJobs.lsi with confirmed := line }).setFb { brk := brk, sel := sel }).setP1 p1 |>.setP2 p2

/-- A record LOWERED, one collecting IN_CONTACT and one collecting RAISING. -/
def down : PantoRec := { state := .lowered }
def up : PantoRec := { state := .inContact, role := .collector, connected := true }
def rising : PantoRec := { state := .raising, role := .collector, connected := true }

/-- A current feature of a kind and a target. -/
def feature (k : FeatureKind) (t : Target) : Option Feature :=
  some { kind := k, number := none, target := t, due := none, coast := 0, arrival := none }

/-- The states a CS test is asked in, one for each clause. Code 1 is entry 0 (EITHER, AC), code 3 entry 2 (P2, DC),
code 15 no entry's. -/
theorem witness_ChangeoverTests :
    ((((lab id).jobs.setTodo [.look]).dev = .run ∧ ((lab id).jobs.setTodo [.look]).todo = .look :: []) ∧
      Store.wf {} (stepping {} .pending .unknown .unknown down down).tm.mem = true) ∧
    ((listing [1]).jobs.cs.list ≠ [] ∧ (listing [1]).jobs.lsi.confirmed.isSystem = false ∧ Line.isSystem (.system 0) = true ∧
      (listing [1]).jobs.cs.state = .idle) ∧
    ({ listed 3 1 with dueMark := true } : Feature).dueMark = true ∧
    ((stepping { state := .opening, current := feature .select (.code 1) } (.system 0) .closed .ac up down).fb.brk ≠ .open ∧
      (stepping { state := .opening, current := feature .neutral .any } .unknown .open .ac up down).crossing = false ∧
      (stepping { state := .opening, expected := some (.system 0) } .unknown .open .ac up down).cs.expected
        ≠ some (stepping { state := .opening, expected := some (.system 0) } .unknown .open .ac up down).lsi.confirmed) ∧
    ((stepping { state := .coasting } .unknown .open .ac up down).cs.coastEnded = false ∧
      (stepping { state := .coasting, coastEnded := true, current := feature .boundary (.code 3) } .dead .open .ac up down).crossing = true ∧
      (stepping { state := .coasting, current := feature .select (.code 15) } .dead .open .ac up down).targetEntry = none ∧
      (stepping { state := .coasting, current := feature .select (.code 3) } .dead .open .ac up down).targetEntry = some 2 ∧
      (stepping { state := .coasting, current := feature .select (.code 3) } .dead .open .ac up down).needsRoof 2 = true ∧
      (stepping { state := .coasting, current := feature .select (.code 1) } .dead .open .ac up down).targetEntry = some 0 ∧
      (stepping { state := .coasting, current := feature .select (.code 1) } .dead .open .ac up down).needsRoof 0 = false) ∧
    ((stepping { state := .lowering, current := feature .select (.code 1) } .dead .open .ac down down).targetEntry = some 0 ∧
      (stepping { state := .lowering, current := feature .select (.code 1) } .dead .open .ac down down).fb.sel.at
        ((lab id).jobs.lineSelector 0) = true ∧
      (stepping { state := .lowering, current := feature .select (.code 3) } .dead .open .ac down down).fb.sel.at
        ((lab id).jobs.lineSelector 2) = false ∧
      (stepping { state := .lowering } .dead .open .ac up down).p1.state ≠ .lowered) ∧
    (SelectorFb.at .ac .ac = true ∧ SelectorFb.at .dc .ac = false ∧ SelectorFb.at .dc .illegal = false ∧
      (stepping { state := .selecting, selOut := some .dc } .dead .open .illegal down down).cs.selOut = some .dc) ∧
    ((stepping { state := .raising, chosen := some .p1 } .dead .open .ac up down).panto .p1).state = .inContact ∧
    ((stepping { state := .identifying, current := feature .select (.code 1) } (.system 0) .open .ac up down).csTarget = .code 1 ∧
      (stepping { state := .identifying, current := feature .select (.code 1) } (.system 0) .open .ac up down).resolve 1 = some 0 ∧
      (stepping { state := .identifying, current := feature .select (.code 3) } (.system 0) .open .ac up down).resolve 3 = some 2 ∧
      (stepping { state := .identifying, current := feature .energise .any } (.system 2) .open .dc up down).csTarget = .any ∧
      (stepping { state := .identifying, current := feature .energise .any } (.system 2) .open .dc up down).lineUsable 2 = true ∧
      (stepping { state := .identifying, current := feature .energise .any } (.system 2) .open .dc down up).needsRoof 2 = false ∧
      (stepping { state := .identifying, current := feature .energise .any } (.system 2) .open .ac up down).needsRoof 2 = true) ∧
    ((stepping { state := .closing, command := .close } (.system 0) .unknown .ac up down).closeFailure = none ∧
      (stepping { state := .closing, command := .close } (.system 0) .unknown .ac rising down).closeFailure = some .pantograph ∧
      (stepping { state := .closing, command := .close } (.system 0) .unknown .ac rising down).collector = some .p1 ∧
      (stepping { state := .closing, command := .close } (.system 0) .unknown .dc up down).closeFailure = some .selector ∧
      (stepping { state := .closing, command := .close } .dead .unknown .ac up down).closeFailure = some .mismatch) := by
  decide

/-- What the CS makes of the close conditions' data and of the changes from other blocks. -/
theorem witness_ChangeoverChanges :
    ((lab (fun j => j.setOc { j.oc with lowerAll := true })).jobs.oc.lowerAll = true ∧
      (stepping {} (.system 0) .open .ac down down).collector = none ∧
      (stepping {} (.system 0) .open .ac up down).collector = some .p1 ∧ (lab id).jobs.lineUsable 0 = true ∧
      (lab id).jobs.lineUsable 7 = false ∧ (stepping {} (.system 0) .open .ac up down).cs.current = none ∧
      (stepping { current := feature .neutral .any } (.system 0) .open .ac up down).cs.current = feature .neutral .any ∧
      (stepping { current := feature .select (.code 1) } (.system 0) .open .ac up down).resolve 1 = some 0) ∧
    ((stepping { current := feature .select (.code 3) } (.system 0) .open .ac up down).csTarget = .code 3 ∧
      (stepping { current := feature .select (.code 3) } (.system 0) .open .ac up down).resolve 3 = some 2 ∧
      (lab id).jobs.lineSet 2 = 2 ∧ (lab id).jobs.lineSet 0 ≠ 1 ∧ (lab id).jobs.lineSet 0 ≠ 2 ∧
      (stepping { current := feature .select (.code 1) } (.system 0) .open .ac up down).raiseChoice = some .p1 ∧
      PState.raised .inContact = true ∧ ∀ y, ((stepping {} .dead .open .ac down down).panto y).state.raised = false) ∧
    ((stepping { state := .closing } .dead .open .ac up down).cs.state ≠ .idle ∧
      (stepping { state := .closing } .dead .open .ac up down).cs.state ≠ .hold) ∧
    (PState.inContact = .inContact ∧ PState.lowering = .lowering ∧
      (stepping { state := .raising, chosen := some .p1 } .dead .open .ac rising down).cs.chosen = some .p1) ∧
    ((stepping { list := [{ listed 3 1 with staleMark := true }] } (.system 0) .open .ac down down).cs.list ≠ [] ∧
      (stepping { list := [{ listed 3 1 with staleMark := true }] } (.system 0) .open .ac down down).lsi.confirmed.isSystem = true ∧
      (∀ g ∈ (stepping { list := [{ listed 3 1 with staleMark := true }] } (.system 0) .open .ac down down).cs.list,
        g.staleMark = true)) ∧
    ((stepping { state := .lowering } .dead .open .ac down { state := .faulted }).cs.state = .lowering ∧
      (stepping { state := .lowering } .dead .open .ac down { state := .faulted }).p2.role = .none ∧
      PState.faulted = .faulted) ∧
    ((stepping { command := .close, closingSystem := some 0 } (.system 2) .closed .ac up down).cs.command = .close ∧
      (stepping { command := .close, closingSystem := some 0 } (.system 2) .closed .ac up down).cs.closingSystem ≠ some 2) := by
  refine ⟨by decide, ⟨by decide, by decide, by decide, by decide, by decide, by decide, by decide, ?_⟩, by decide, by decide,
    by decide, by decide, by decide⟩
  intro y
  cases y <;> rfl

/-- A CS COASTING over a BOUNDARY to a code with its coast at an end. -/
def crossed (c : BitVec 4) : State :=
  (ready { state := .coasting, current := some { listed 12 1000000 with kind := .boundary, target := .code c } }).onJobs
    (expired .t1)

theorem witness_ChangeoverTimeouts : (lab id).inReset = false ∧ ((lab id).jobs.timer .t0).owed = [] ∧
    ((timedOut .opening .dead false).jobs.cs.state = .opening ∧ ((timedOut .opening .dead false).jobs.timer .t0).owed ≠ []) ∧
    ((timedOut .coasting .dead false).jobs.lsi.confirmed = .dead ∧ (timedOut .coasting .unknown false).jobs.lsi.confirmed ≠ .dead) ∧
    (timedOut .lowering .dead true).jobs.cs.state = .lowering ∧
    (timedOut .selecting .dead false).jobs.cs.state = .selecting ∧
    ((timedOut .identifying .pending false).jobs.lsi.confirmed = .pending ∧
      (timedOut .identifying .dead false).jobs.lsi.confirmed ≠ .pending) ∧
    (timedOut .closing .dead false).jobs.cs.state = .closing ∧ (timedOut .raising .dead false).jobs.cs.state = .raising ∧
    ((lab id).jobs.timer .t1).owed = [] ∧
    (Live (coasted .dead .unknown) ∧ ((coasted .dead .unknown).jobs.timer .t1).owed ≠ [] ∧
      (coasted .dead .unknown).jobs.cs.state = .coasting ∧
      (coasted .dead .unknown).jobs.cs.current = some (listed 12 1000000) ∧ (listed 12 1000000).kind = .neutral ∧
      (coasted .dead .unknown).jobs.cs.expected ≠ some (coasted .dead .unknown).jobs.lsi.confirmed ∧
      (coasted .dead .unknown).jobs.lsi.confirmed.isSystem = false) ∧
    ((coasted (.system 0) (.system 1)).jobs.cs.expected ≠ some (coasted (.system 0) (.system 1)).jobs.lsi.confirmed ∧
      (coasted (.system 0) (.system 1)).jobs.lsi.confirmed.isSystem = true) ∧
    ((coasted (.system 0) (.system 0)).jobs.cs.expected = some (coasted (.system 0) (.system 0)).jobs.lsi.confirmed ∧
      (coasted (.system 0) (.system 0)).jobs.closeFailure = none) ∧
    ((crossed 15).jobs.cs.current = some { listed 12 1000000 with kind := .boundary, target := .code 15 } ∧
      (crossed 15).jobs.targetEntry = none ∧ Live (crossed 3) ∧ ((crossed 3).jobs.timer .t1).owed ≠ [] ∧
      (crossed 3).jobs.cs.state = .coasting ∧ (crossed 3).jobs.targetEntry = some 2 ∧ (crossed 3).jobs.needsRoof 2 = true ∧
      (crossed 1).jobs.targetEntry = some 0 ∧ (crossed 1).jobs.needsRoof 0 = false) ∧
    ((lab (expired .t1)).jobs.cs.state ≠ .coasting ∧ ((lab (expired .t1)).jobs.timer .t1).owed ≠ []) := by
  unfold Live StoresWf
  decide

/-- P1 in a state with expiries of its step and settle timers. -/
def pantoOut (state : PState) : State := lab (fun j => expired (Panto.stepTimer .p1) (expired (Panto.settleTimer .p1) (j.setP1 { state := state, role := .collector })))

/-- P1 raised, its node LOST, or the first word of its HEIGHT entry marked, with a change to answer. -/
def blinded : State :=
  (lab (fun j => (j.setP1 { state := .inContact, role := .collector }).setNode 2 { state := .lost })).onJobs (Jobs.push .look)
def spoiltHeight : Jobs :=
  (lab (fun j => (j.setP1 { state := .inContact, role := .collector }).setTm { mem := [(0x0A8, { data := 0, check := 3, mark := true })] })).jobs

theorem witness_PantographTimeouts : (StoresWf blinded ∧ blinded.jobs.dev = .run ∧ blinded.jobs.todo ≠ [] ∧ (blinded.jobs.panto .p1).state.raised = true ∧
      (blinded.jobs.pantoNode .p1).state = .lost ∧ Store.wf {} blinded.jobs.tm.mem = true) ∧
    (Store.wf {} spoiltHeight.tm.mem = true ∧ (spoiltHeight.panto .p1).state.raised = true ∧
      spoiltHeight.marked ((MapRole.height .p1).addr + 0) = true) ∧
    ((lab id).jobs.panto .p1).state.raised = false ∧
    (lab id).inReset = false ∧ ((lab id).jobs.timer (Panto.settleTimer .p1)).owed = [] ∧
    ((lab id).jobs.timer (Panto.stepTimer .p1)).owed = [] ∧
    (((pantoOut .preparing).jobs.timer (Panto.settleTimer .p1)).owed ≠ [] ∧ ((pantoOut .preparing).jobs.panto .p1).state = .preparing) ∧
    (((pantoOut .raising).jobs.timer (Panto.stepTimer .p1)).owed ≠ [] ∧ ((pantoOut .raising).jobs.panto .p1).state = .raising) ∧
    ((pantoOut .lowering).jobs.panto .p1).state = .lowering ∧
    (((pantoOut .inContact).jobs.panto .p1).state ≠ .raising ∧ ((pantoOut .inContact).jobs.panto .p1).state ≠ .lowering) := by
  unfold StoresWf
  decide

/-- P1 IN_CONTACT with its arc input and its burst mark. -/
def arcing (a : ArcInput) (burst : Bool) : State :=
  lab (fun j => expired (Panto.arcTimer .p1) ((j.setP1 { state := .inContact, role := .collector, burst := burst }).setArcIn .p1 a))

theorem witness_ArcSupervision : (lab id).inReset = false ∧ ((lab id).jobs.arcIn .p1).last ≠ some true ∧
    ((arcing { last := some true } false).jobs.arcIn .p1).level = none ∧
    (((arcing { last := some true, level := some false, count := 1 } false).jobs.arcIn .p1).level = some (!true) ∧
      0 < ((arcing { last := some true, level := some false, count := 1 } false).jobs.arcIn .p1).count ∧
      true ≠ decide ((lab id).jobs.pantoParam .p1 8 = 1) ∧ (lab id).jobs.dev = .run ∧
      ((arcing {} false).jobs.panto .p1).state = .inContact) ∧
    (((arcing { last := some true, level := some false } false).jobs.arcIn .p1).count = 0 ∧
      ((arcing { last := some true, level := some false } true).jobs.panto .p1).burst = true) ∧
    (false = decide ((lab id).jobs.pantoParam .p1 8 = 1) ∧ ((lab id).jobs.panto .p1).state ≠ .inContact) ∧
    ((lab id).jobs.arcIn .p1).last = none ∧ ((lab id).jobs.timer (Panto.arcTimer .p1)).owed = [] ∧
    ((arcing {} false).jobs.timer (Panto.arcTimer .p1)).owed ≠ [] ∧ ((lab (expired (Panto.arcTimer .p1))).jobs.panto .p1).state ≠ .inContact := by
  decide

/-- The IC at a level and a decay count, with its heat phase, at an expiry of T10 and of P1's pair. -/
def icing (level : IceLevel) (decay : Nat) (phase : HeatPhase) : State :=
  lab (fun j => expired .t10 (expired (Panto.pair .p1) (j.setIce { j.ice with level := level, decay := decay, phase1 := phase })))

/-- The same with an ice block whose times are both 0. -/
def timeless (phase : HeatPhase) : State :=
  (icing .none 0 phase).onJobs (fun j => j.setTm { mem := cells 0x180 [0x8001, 20, 10] })

/-- The same with an off-time alone. -/
def offOnly : Jobs := ((timeless .idle).onJobs (fun j => j.setTm { mem := cells 0x180 ((0x8001 :: List.replicate 14 0) ++ [5]) })).jobs

/-- P1 collecting under HEAT, or P1 scraping, with its cycle in a phase and the breaker feedback as given. -/
def cycling (mode : IceMode) (phase : HeatPhase) (brk : BreakerFb) (r : Role) : State :=
  (scraping { state := .inContact, role := r } { mode := mode, phase1 := phase, scraper := if r = .scraper then some .p1 else none }).onJobs
    (fun j => (j.setFb { brk := brk }).push .look)

/-- P1 heated in its OFF phase, with two expiries of T10, at -10 degrees: an assessment brings NONE to RISK. -/
def worsening : State :=
  (cycling .heat .off .closed .collector).onJobs (fun j => timed .t10 { owed := [5, 6] } (j.setIce { j.ice with temp := some 10 }))

/-- R85, R92, R116: the assessment records the tag of its own expiry, and starts the cycle afresh at the new level. -/
theorem test_assessment_restarts : worsening.jobs.iceAssessment.ice.last.map (fun a => a.tag) = some 5 ∧
    worsening.jobs.iceAssessment.ice.level = .risk ∧ worsening.jobs.iceAssessment.ice.phase1 = .on ∧
    worsening.jobs.iceAssessment.tmr.t10.owed = [6] := by decide

theorem witness_IceRestart : Live worsening ∧ (worsening.jobs.timer .t10).owed = 5 :: [6] ∧
    worsening.jobs.ice.phase .p1 ≠ .idle ∧ worsening.jobs.iceAssessment.heated .p1 = true ∧
    worsening.jobs.iceAssessment.ice.level ≠ worsening.jobs.ice.level ∧ worsening.jobs.ice.phase .p2 = .idle ∧
    (icing .none 0 .idle).jobs.iceAssessment.ice.level = (icing .none 0 .idle).jobs.ice.level ∧
    ((offOnly.iceParam (heatWords .none).1).toNat = 0 ∧ 0 < (offOnly.iceParam (heatWords .none).2).toNat) := by
  unfold Live StoresWf
  decide

/-- The roof jobs after the OC has followed them, with the point of P1's heater alone and nothing pending. -/
def heatPoint (j : Jobs) : Jobs :=
  let j := j.ocSync
  j.setOc { j.oc with table := [{ point := 0x0201, owned := [(.heat1, { bit := 2, low := false })], earth := none,
                                  lastWord := 0, lastSent := 0, pending := false }] }

/-- P1 collecting under policy HEAT with its heater on, the breaker feedback CLOSED under the command OPEN, the selector at
AC. -/
def heating : Jobs :=
  heatPoint (((cycling .heat .on .closed .collector).jobs.setIce { mode := .heat, policy := .heat, phase1 := .on }).setFb
    { brk := .closed, sel := .ac, brkRaw := some true, selRaw := some 1 })

/-- R54, R94, R95, R105: BREAKER_CLOSE with the feedback CLOSED already takes the CS through CLOSING within the step, and the
heater off and on again: its point is pending. -/
theorem test_heater_for_a_moment :
    heating.requestClose.2.settle.cs.state = .idle ∧ heating.requestClose.2.settle.ice.mode = .heat ∧
    heating.requestClose.2.settle.heaterOn .p1 = true ∧
    heating.requestClose.2.settle.oc.table.map (fun e => e.pending) = [true] := by decide

/-- P1 heated in its OFF phase under AUTO at RISK, at the third expiry that finds NONE. -/
def clearing : Jobs :=
  heatPoint (timed .t10 { owed := [5] } ((cycling .heat .off .closed .collector).jobs.setIce
    { mode := .heat, level := .risk, decay := 2, phase1 := .off }))

/-- R85, R92, R105: the level falls to NONE, the cycle starts afresh in ON, and the choice of OFF ends it. -/
theorem test_restart_before_the_choice : clearing.iceAssessment.ice.level = .none ∧ clearing.iceAssessment.ice.mode = .off ∧
    clearing.iceAssessment.heaterOn .p1 = false ∧ clearing.iceAssessment.oc.table.map (fun e => e.pending) = [true] := by
  decide

/-- The end of a suspension under policy SCRAPE with P1 leading and collecting, made the collector meanwhile or not. -/
def unsuspending (made : Option Panto) : Jobs :=
  (scraping { state := .inContact, role := .collector } { mode := .suspended, policy := .scrape, made := made }).jobs

/-- R47, R95: the CS's raise is noted, and at the suspension's end scrape barred is set with the fallback; a collector that
the changeover has not made sets no bar. -/
theorem test_collector_bars_scrape : roofJobs.enterRaising.ice.made = some .p1 ∧
    ((unsuspending (some .p1)).suspension.ice.mode = .heat ∧ (unsuspending (some .p1)).suspension.ice.barred = true) ∧
    ((unsuspending none).suspension.ice.mode = .heat ∧ (unsuspending none).suspension.ice.barred = false) := by decide

/-- The CS in CLOSING with the close pulse on. -/
def pulsing : Jobs := roofJobs.setCs { state := .closing, command := .close, pulse := true }

/-- A heater that suspension puts off, a pulse that the CS ends, a heater that the restart of its cycle puts on, and a
collector that the changeover has made. -/
theorem witness_HeaterMarks :
    (∃ f : Jobs, f = ((heating.requestClose.2).lostEntries).suspendIfMust ∧ heating.requestClose.2.dev = .run ∧
      heating.requestClose.2.oc.frozen = none ∧ f.mapStands (OwnedRole.mapRole .heat1) = true ∧
      f.ocReact.oc.sending.get .heat1 ≠ heating.requestClose.2.oc.sending.get .heat1) ∧
    (∃ (f : Jobs) (m : Jobs), f = ((pulsing.lostEntries).suspendIfMust) ∧ m = (f.ocReact).csReact .lowerAllOn ∧
      pulsing.oc.table[0]? = some brkPoint ∧ m.mapStands (OwnedRole.mapRole .brkClose) = true ∧
      m.ocReact.oc.sending.get .brkClose ≠ f.ocReact.oc.sending.get .brkClose) ∧
    (Live (State.reset.setJobs clearing) ∧ (clearing.timer .t10).owed ≠ [] ∧ clearing.dev = .run ∧
      clearing.oc.lowerAll = false ∧ clearing.oc.hold = false ∧ clearing.oc.frozen = none ∧
      clearing.oc.sending.get .heat1 = false ∧ clearing.mapStands (OwnedRole.mapRole .heat1) = true ∧
      clearing.heated .p1 = true ∧ clearing.supplied .p1 = true ∧ clearing.ice.phase .p1 = .off ∧
      0 < (clearing.iceParam (heatWords .none).1).toNat ∧ clearing.iceAssessment.ice.level ≠ clearing.ice.level) ∧
    ((unsuspending (some .p1)).mustSuspend = false ∧ (unsuspending (some .p1)).ice.mode = .suspended ∧
      (unsuspending (some .p1)).leading = some .p1 ∧ ((unsuspending (some .p1)).panto .p1).role = .collector) := by
  unfold Live StoresWf
  refine ⟨⟨_, rfl, ?_⟩, ⟨_, _, rfl, rfl, ?_⟩, ?_⟩ <;> decide

theorem witness_IceTimers : ((icing .none 0 .on).jobs.ice.mode ≠ .suspended ∧
      ((icing .none 0 .on).onJobs (fun j => j.setIce { j.ice with mode := .suspended })).jobs.ice.mode = .suspended) ∧
    ((cycling .heat .idle .closed .collector).jobs.heated .p1 = true ∧ (cycling .heat .idle .closed .collector).jobs.supplied .p1 = true ∧
      Store.wf {} (cycling .heat .idle .closed .collector).jobs.tm.mem = true ∧
      0 < ((cycling .heat .idle .closed .collector).jobs.iceParam (heatWords .none).1).toNat ∧
      (cycling .heat .on .open .collector).jobs.supplied .p1 = false ∧ (cycling .heat .on .open .collector).jobs.heated .p1 = true ∧
      (cycling .off .on .open .collector).jobs.heated .p1 = false ∧ (cycling .scrape .idle .open .scraper).jobs.heated .p1 = true) ∧
    (((lab (cs { state := .hold })).jobs.mustSuspend = true ∧ (lab (cs { state := .hold })).jobs.ice.mode ≠ .suspended ∧
      (lab id).jobs.mustSuspend = false ∧
      (lab (fun j => (j.setCs { state := .hold }).setIce { mode := .suspended })).jobs.ice.mode = .suspended) ∧
      ((cycling .scrape .idle .open .scraper).onJobs (cs { state := .hold })).jobs.ice.scraper = some .p1 ∧
      ((cycling .scrape .idle .open .scraper).jobs.panto .p1).state.raised = true) ∧
    ((scraping { state := .dropped, role := .scraper } { mode := .scrape, scraper := some .p1 }).jobs.ice.mode = .scrape ∧
      ((scraping { state := .dropped, role := .scraper } { mode := .scrape, scraper := some .p1 }).jobs.panto .p1).state.raised = false ∧
      ((cycling .scrape .idle .open .scraper).onJobs (fun j => j.setSpeed { j.speed with kmh := 161 })).jobs.speed.kmh = 161 ∧
      ((cycling .scrape .idle .open .scraper).jobs.iceParam 13).toNat = 160 ∧
      ((cycling .scrape .idle .open .scraper).jobs.pantoNode .p1).state = .active ∧
      (cycling .scrape .idle .open .scraper).jobs.leading = (cycling .scrape .idle .open .scraper).jobs.ice.scraper ∧
      (cycling .scrape .idle .open .scraper).jobs.scrapePermitted = true ∧ (lab id).jobs.ice.mode ≠ .scrape) ∧
    (StoresWf (cycling .scrape .idle .open .scraper) ∧ (cycling .scrape .idle .open .scraper).jobs.dev = .run ∧
      (cycling .scrape .idle .open .scraper).jobs.todo ≠ []) ∧
    (∃ t, (lab (fun j => j.setIce { j.ice with temp := some 10 })).jobs.ice.temp = some t ∧
      t.toInt ≤ ((lab (fun j => j.setIce { j.ice with temp := some 10 })).jobs.iceParam 2).toInt) ∧
    ((lab (fun j => j.setIce { j.ice with probe := some 39600 })).jobs.probeDrop = 400 ∧
      ((lab id).jobs.iceParam 8).toNat = 400 ∧ ((lab id).jobs.iceParam 11).toNat = 3 ∧ (lab id).jobs.ice.probe = none) ∧
    (lab id).inReset = false ∧ ((lab id).jobs.timer .t10).owed = [] ∧
    ((lab id).jobs.timer (Panto.pair .p1)).owed = [] ∧
    (Live (icing .heavy 2 .on) ∧ ((icing .heavy 2 .on).jobs.timer .t10).owed ≠ [] ∧ (icing .heavy 2 .on).jobs.rawLevel.code < IceLevel.code .heavy ∧
      2 ≤ (icing .heavy 2 .on).jobs.ice.decay ∧ (icing .heavy 1 .on).jobs.ice.decay < 2) ∧
    (icing .none 0 .idle).jobs.ice.level.code ≤ (icing .none 0 .idle).jobs.rawLevel.code ∧
    (((lab (fun j => j.setIce { j.ice with temp := some 0xFF00, probe := some 0 })).jobs.iceParam 9).toNat
        ≤ (lab (fun j => j.setIce { j.ice with temp := some 0xFF00, probe := some 0 })).jobs.probeDrop ∧
      (lab (fun j => j.setIce { j.ice with temp := some 0xFF00, probe := some 0 })).jobs.coldAs 2 = true) ∧
    (((icing .none 0 .on).jobs.timer (Panto.pair .p1)).owed ≠ [] ∧ (icing .none 0 .idle).jobs.ice.phase .p1 = .idle ∧
      (icing .none 0 .on).jobs.ice.phase .p1 = .on ∧ (icing .none 0 .off).jobs.ice.phase .p1 = .off ∧
      0 < ((icing .none 0 .on).jobs.iceParam (heatWords .none).1).toNat ∧ 0 < ((icing .none 0 .on).jobs.iceParam (heatWords .none).2).toNat) ∧
    (((timeless .on).jobs.iceParam (heatWords .none).1).toNat = 0 ∧ ((timeless .on).jobs.iceParam (heatWords .none).2).toNat = 0 ∧
      Live (timeless .on) ∧ (timeless .on).jobs.ice.phase .p1 = .on) := by
  unfold Live StoresWf
  refine ⟨by decide, by decide, by decide, by decide, by decide, ⟨10, by decide, by decide⟩, ?_⟩
  decide

/-- The part at rest with a due head in ARMED, under a confirmed system. -/
def due (l : Line) : State :=
  lab (fun j => (j.setCs { state := .armed, list := [{ listed 1 1 with dueMark := true }] }).setLsi { j.lsi with confirmed := l })

/-- The part at rest with an expiry of T13 and a train transmit queue of a length. -/
def noticing (n : Nat) : State :=
  (lab (expired .t13)).setFr { State.reset.fr with up := List.replicate n { frame := measure, forwarded := false } }

theorem witness_OtherExpiries : (Running (noticing 16) ∧ Rested (noticing 16) ∧ ((noticing 16).jobs.timer .t13).owed ≠ [] ∧ ((noticing 16).jobs.cell 4).check = 0 ∧
      ((noticing 16).jobs.cell 4).mark = false ∧ 16 ≤ (noticing 16).fr.up.length ∧ Running (noticing 15) ∧ Rested (noticing 15) ∧
      (noticing 15).fr.up.length < 16) ∧
    ((lab (fun j => j.setOut [.status])).jobs.out = .status :: []) ∧
    ((lab (fun j => j.setTm { mem := cells 2 [0, 1] })).jobs.bad (Flag.maskAddr .lowerAll) = false ∧
      (lab (fun j => j.setTm { mem := [(2, { data := 0, check := 3 }), (3, { data := 0, check := 3 })] })).jobs.bad (Flag.maskAddr .lowerAll)
        = true) ∧
    (Running (due (.system 0)) ∧ Rested (due (.system 0)) ∧ (due (.system 0)).jobs.cs.state = .armed ∧
      (due (.system 0)).jobs.fb.brk ≠ .open ∧ (due (.system 0)).jobs.brkNow ≠ .open ∧
      (due (.system 0)).jobs.cs.list = { listed 1 1 with dueMark := true } :: [] ∧ (due (.system 0)).jobs.oc.hold = false ∧
      (due (.system 0)).jobs.lsi.confirmed.isSystem = true ∧ (due .unknown).jobs.lsi.confirmed.isSystem = false ∧
      ∀ x, ((due (.system 0)).jobs.panto x).role ≠ .collector) ∧
    Live (lab id) ∧ ((lab id).jobs.timer .t13).owed = [] ∧
    (((lab (expired .t13)).jobs.timer .t13).owed ≠ [] ∧ (lab (expired .t13)).jobs.dev = .run ∧
      ((lab (expired .t13)).jobs.param 4 100).toNat ≠ 0) ∧
    ((lab (fun j => expired .t13 (j.setTm { mem := cells 1 [0x0100] }))).jobs.param 4 100).toNat = 0 ∧
    (lab (fun j => (expired .t14 j).setDev .config)).jobs.dev = .config ∧ ((lab (expired .t14)).jobs.timer .t14).owed ≠ [] ∧
    (∀ l, (latched 1).latch = some l → l.ticks < 2) ∧
    ((latched 2).latch = some { page := 0, addr := 0x1801, value := 9, ticks := 2 } ∧ (latched 2).inReset = false) ∧
    (Running (lab (cs { state := .armed, list := [{ listed 1 1 with dueMark := true }] })) ∧
      (lab (cs { state := .armed, list := [{ listed 1 1 with dueMark := true }] })).jobs.cs.list
        = { listed 1 1 with dueMark := true } :: [] ∧ (lab id).jobs.oc.hold = false) ∧
    ((listing [1]).jobs.cs.state ≠ .armed ∧ (lab id).jobs.cs.list = []) ∧
    ((lab (fun j => j.setSpeed { known := true, aged := true })).jobs.speed.aged = true ∧ (lab id).jobs.speed.known = false) := by
  unfold Running Live StoresWf Rested
  refine ⟨by decide, rfl, by decide, ⟨by decide, by decide, by decide, by decide, by decide, by decide, by decide, by decide,
    by decide, fun x => by cases x <;> decide⟩, by decide, by decide, by decide, by decide, by decide, by decide, ?_, by decide, by decide, by decide, by decide⟩
  intro l h
  cases h
  decide

/-! #### Measurement, identification, contact and capture -/

/-- The answer frame of an exchange with the divider node: first index 7 and two samples. -/
def sampling : State :=
  ((lab (fun j => j.setTm { mem := cells 0x90 [0x8020, 0x0100] })).setRb { State.reset.rb with
    slot := .awaiting, exchange := some { exchange .poll true with node := 1, point := 0x0100 } }).setRoof
    { State.reset.roof with buffers := [{ frame := samples, answer := true }] }

/-- The LMU expecting index 4030 with its detector RISING, d samples from the last crossing, in a window of n samples. -/
def detecting (d n : Nat) : Jobs :=
  roofJobs.setLmu { state := .measuring, expected := some 4030, detector := .rising, distance := some d, window := some { taken := n } }

/-- An index 32,767 ahead is a gap, one 32,768 ahead is behind. -/
theorem witness_Samples : ((measuring roofJobs).lmu.window = some { taken := 26 } ∧ Store.wf {} (measuring roofJobs).tm.mem = true ∧
      (measuring (roofJobs.setLmu {})).lmu.state = .measuring ∧
      ((measuring roofJobs).setLmu { (measuring roofJobs).lmu with window := none }).lmu.window = none) ∧
    (Store.wf {} (detecting 2 1023).tm.mem = true ∧ (detecting 2 1023).lmu.state = .measuring ∧
      (detecting 2 1023).lmu.expected = some 4030 ∧ (detecting 2 1023).lmu.detector = .rising ∧
      (250 : Int) = (min 32767 (if (detecting 2 1023).bad 0x140 then 250 else ((detecting 2 1023).word 0x140).toNat) : Nat) ∧
      ((250 : Word).toInt = 250 ∧ (0 : Int) + 250 ≤ 250) ∧ ((249 : Word).toInt = 249 ∧ (0 : Int) - 250 < 249 ∧ (249 : Int) < 0 + 250) ∧
      ((-250 : Int) ≤ 0 - 250) ∧
      (detecting 2 1023).lmu.distance.map (fun d => min 1025 (d + 1)) = some 3 ∧
      (detecting 1024 1).lmu.distance.map (fun d => min 1025 (d + 1)) = some 1025 ∧
      (detecting 1023 1).lmu.distance.map (fun d => min 1025 (d + 1)) = some 1024 ∧
      1023 + 1 = 1024 ∧ 1022 + 1 < 1024) ∧
    Running sampling ∧
    (samples = (at_ 0x0100 |>.frame .measure (7 :: 100 :: [200]) |> fun f => { f with seq := 4 }) ∧
      sampling.isAnswer samples = true ∧ sampling.jobs.mapUsable .lineV = true ∧ bit (sampling.jobs.word 0x090) 5 = true ∧
      sampling.jobs.mapPoint .lineV = 0x0100) ∧
    ({ exchange .poll true with node := 1, point := 0x0100 } : Exchange).accepts samples = true ∧
    State.reset.jobs.lmu.state = .idle ∧
    ((measuring roofJobs).lmu.state = .measuring ∧ (measuring roofJobs).lmu.expected = some 4030) ∧
    32768 ≤ ((4030 + 32768 : Word) - 4030).toNat ∧ ((4030 + 32767 : Word) - 4030).toNat ≤ 32767 ∧ (4031 : Word) ≠ 4030 ∧
    (roofJobs.lmu.state = .waiting ∧ (roofJobs.lmu.window.getD {}).taken + ([1] : List Word).length < 1024) ∧
    (({ taken := 1022 } : Window).taken + ([1] : List Word).length < 1024) ∧
    ((measuring roofJobs).lmu.window ≠ none ∧ ([] : List Word) = []) ∧
    ((lab id).jobs.timer .t15).owed = [] ∧
    (((lab (fun j => expired .t15 (measuring j))).jobs.timer .t15).owed ≠ [] ∧
      (lab (fun j => expired .t15 (measuring j))).jobs.lmu.state = .measuring) ∧
    (lab (fun j => expired .t15 (j.setLmu { j.lmu with state := .starved }))).jobs.lmu.state = .starved := by
  unfold Running Live StoresWf
  decide

theorem witness_WindowResults :
    (∃ (l : Lmu) (w : Window), l = (detecting 2 1023).lmu.take 250 5 ∧ l.window = some w ∧ 1024 ≤ w.taken) ∧
    ((-33553408 : Int) ≤ -33553408 ∧ (33553408 : Int) ≤ 33553408 ∧ 1099444519936 ≤ 1099444519936 ∧ 3 * 342 ≤ 2047 ∧
      2047 ≤ 1024 * 342 ∧ 1024 * 1 ≤ 1024 * 1) ∧
    (({ sum := -2048, sumSq := 160000004096, periods := 8, lengths := 24 } : Window).sumSq ≤ 1024 * 32767 ^ 2 ∧
      ({ sum := -2048, sumSq := 160000004096, periods := 8, lengths := 24 } : Window).sum
        * ({ sum := -2048, sumSq := 160000004096, periods := 8, lengths := 24 } : Window).sum ≤ 1024 * 160000004096 ∧
      3 * 8 ≤ 24 ∧ (-2048 : Int) ≤ 0 ∧ 0 < 8) ∧
    ((1024 * 32767 ^ 2 ≤ 1024 * 32767 ^ 2) ∧ (1024 * 32767 : Int) * (1024 * 32767) ≤ 1024 * (1024 * 32767 ^ 2) ∧
      (0 : Int) ≤ 1024 * 32767 ∧ 3 * 0 ≤ 0) := by
  refine ⟨⟨_, _, rfl, rfl, by decide⟩, by decide, by decide, by decide⟩

/-- A record of a window. -/
def record (mean : Int) (rms ac freq saturated : Nat) (broken : Bool) : Record :=
  { number := 1, mean := mean, totalRms := rms, acRms := ac, freq := freq, periods := 8, saturated := saturated,
    broken := broken }

/-- The LSI on entry 0, its first word found uncorrectable, in RUN with a change to answer. -/
def losing : State :=
  (lab (fun j => (j.setLsi { j.lsi with candidate := some (.system 0), confirmed := .system 0 }).setTm
    { mem := [(0x101, { data := 0, check := 3, mark := true })] })).onJobs (Jobs.push .look)

/-- R28, R26: a confirmed entry that the boundary's own code resolution finds poisoned is lost, with SYSTEM_CONFIRMED,
before the restart. -/
theorem test_lost_before_the_restart : ∃ j : Jobs,
    j = (roofJobs.setTm { mem := Store.write {} 0x100 { data := 0x89E2, check := 3, mark := true } tables }).setLsi
      { roofJobs.lsi with confirmed := .system 0 } ∧
    j.lsiRestart.lsi.confirmed = .pending ∧
    j.lsiRestart.out = j.out ++ [.flag .systemConfirmed 2 .run .unknown] := ⟨_, rfl, by decide, by decide⟩

/-- The confirmed system's entry carries two wrong check bits, found or not yet. -/
def lostLine (found : Bool) (c : Cs) : Jobs :=
  ((roofJobs.setTm { mem := Store.write {} 0x100 { data := 0x89E2, check := 3, mark := found } tables }).setLsi
    { roofJobs.lsi with confirmed := .system 0 }).setCs c

/-- R28, R55, R41: SELECT expects what its own code resolution has left of the confirmed system; a CS in IDLE does not arm
on a confirmed system whose entry is lost, and a due head ends in HOLD(IDENTIFY). -/
theorem test_lost_before_the_changeover :
    ((lostLine false {}).resolve 2 = some 1 ∧ ((lostLine false {}).requestSelect 2).2.cs.expected = some .unknown) ∧
    ((lostLine true { list := [listed 1 1] }).react .cs).cs.state = .idle ∧
    ((lostLine true { state := .armed, list := [{ listed 1 1 with dueMark := true }] }).react .cs).cs.reason
      = some .identify := by decide

theorem witness_LostBeforeTheCs : (lostLine true {}).lsi.confirmed = .system 0 ∧ (lostLine true {}).lineStands 0 = false ∧
    (lostLine true {}).cs.state = .idle ∧
    (∃ f : Feature, (lostLine true { state := .armed, list := [f] }).cs.list = f :: [] ∧ f.dueMark = true) ∧
    (lostLine true {}).oc.hold = false :=
  ⟨by decide, by decide, rfl, ⟨{ listed 1 1 with dueMark := true }, rfl, rfl⟩, rfl⟩

/-- The DEAD threshold's two sides (600 V is 300 counts), and 1.9's record under the table. -/
theorem witness_LineIdentification : (StoresWf losing ∧ losing.jobs.dev = .run ∧ losing.jobs.todo ≠ [] ∧ losing.jobs.lsi.confirmed = .system 0 ∧
      losing.jobs.lineStands 0 = false ∧ losing.jobs.lsi.candidate = some (.system 0)) ∧
    ((ready {}).jobs.lsi.confirmed = .system 0 ∧ (ready {}).jobs.lineStands 0 = true ∧ (ready {}).jobs.lsi.candidate = none ∧
      (ready {}).jobs.lsi.confirmed ≠ .pending) ∧
    (roofJobs.setLsi { roofJobs.lsi with settling := true }).lsi.settling = true ∧
    (record 0 0 0 0 0 true).broken = true ∧ (roofJobs.lsi.settling = false ∧ (record 0 0 0 0 1 false).saturated = 1) ∧
    ((record 0 299 0 0 0 false).totalRms * 2 < (roofJobs.param 0x141 600).toNat ∧
      (roofJobs.param 0x141 600).toNat ≤ (record 0 300 0 0 0 false).totalRms * 2) ∧
    (∀ k, roofJobs.lineUsable k = true → roofJobs.lineMatches (record 0 300 0 0 0 false) k = false) ∧
    roofJobs.verdict (record 2 12500 12500 5009 0 false) = .system 0 ∧ Store.wf {} roofJobs.tm.mem = true ∧
    (roofJobs.verdict (record 0 0 0 0 0 true) = .none ∧ roofJobs.needed (.system 0) = some 2 ∧ roofJobs.needed .dead = some 2) ∧
    (((roofJobs.setLsi { roofJobs.lsi with candidate := some (.system 0), agreement := 1 }).lsiRecord
        (record 2 12500 12500 5009 0 false)).lsi.agreement = 2 ∧ roofJobs.lsi.confirmed ≠ .system 0) := by
  unfold StoresWf
  decide

/-- P1 in a state with its values and its counts. -/
def pressed (p : PantoRec) : Jobs := roofJobs.setP1 p

/-- The answer frame of the exchange with node 5 carries channels 00h to 03h, where the ice, breaker and earthing inputs lie. -/
def bound : Frame := { measure with payload := [0x0010, 0x0003, 0x0001, 0x0001] }

/-- The roof with that answer to take, and its point map's inputs there. -/
def binding : State :=
  answering .poll bound (lab (fun j => j.setTm { mem := cells 0xA0 [0, 0, 0, 0] ++ cells 0xB0 [0x8000, 0x0500, 0x8000, 0x0501, 0x8010, 0x0502,
    0x8000, 0x0503, 0, 0] }))

/-- At the thresholds of 4.1: contact height 800 and pressure 350, drop pressure 150, lowered height 50. -/
theorem witness_ContactSamples : ((binding.jobs.mapUsable .brkPos = true ∧ binding.jobs.mapNode .brkPos = nodeOf 0x0500 ∧
        (binding.jobs.mapPoint .brkPos).toNat = (0x0500 : Word).toNat + 0 ∧ 0 < bound.payload.length) ∧
      binding.jobs.mapUsable .lineV = false ∧ binding.jobs.mapUsable .iceProbe = false ∧
      (binding.jobs.mapPoint .roofTemp).toNat = (0x0500 : Word).toNat + 3) ∧
    (Running binding ∧ FrameAtHand (.roofMeasureFrame { flags := 0, point := 0x0500, seq := 4 } [0x0010, 0x0003, 0x0001, 0x0001]) binding ∧
      bound = ({ flags := 0, point := 0x0500, seq := 4 } : Header).frame .measure [0x0010, 0x0003, 0x0001, 0x0001] ∧
      binding.isAnswer bound = true ∧ binding.rb.exchange = some (exchange .poll true) ∧ (exchange .poll true).accepts bound = true) ∧
    (sampling.jobs.mapUsable .lineV = true ∧ bit (sampling.jobs.word 0x090) 5 = true ∧ sampling.jobs.mapPoint .lineV = 0x0100) ∧
    ((lab id).jobs.carriedFor (.height .p1) 0x0200 [800] = some 800 ∧ (lab id).jobs.carriedFor (.press .p1) 0x0200 [800] = none ∧
      (lab id).jobs.carriedFor (.height .p2) 0x0200 [800] = none) ∧
    ((lab id).jobs.mapStands .brkPos = true ∧ ((lab id).jobs.node ((lab id).jobs.mapNode .brkPos)).state = .active ∧
      (lab id).jobs.mapStands .earthPos = true ∧ (lab id).jobs.mapStands .selPos = true ∧ binding.jobs.mapStands .iceProbe = false) ∧
    Store.wf {} (pressed {}).tm.mem = true ∧ ((pressed { state := .lowered }).panto .p1).state = .lowered ∧
    (optTest (some (149 : Word)) (fun v => decide (v < ((pressed {}).pantoParam .p1 4).toNat)) = true ∧
      optTest (some (150 : Word)) (fun v => decide (v < ((pressed {}).pantoParam .p1 4).toNat)) = false) ∧
    (({ state := .raising, reached := true, press := some 149 } : PantoRec).reached = true) ∧
    (({ state := .lowering, height := some 50, low := 2 } : PantoRec).low = 2 ∧
      optTest (some (50 : Word)) (fun v => decide (v ≤ ((pressed {}).pantoParam .p1 1).toNat)) = true ∧
      optTest (some (51 : Word)) (fun v => decide (v ≤ ((pressed {}).pantoParam .p1 1).toNat)) = false) ∧
    (optTest (some (800 : Word)) (fun v => decide (((pressed {}).pantoParam .p1 2).toNat ≤ v)) = true ∧
      optTest (some (350 : Word)) (fun v => decide (((pressed {}).pantoParam .p1 3).toNat ≤ v)) = true ∧
      ({ state := .raising, contact := 2 } : PantoRec).contact = 2 ∧ ({ state := .raising, contact := 1 } : PantoRec).contact < 2) ∧
    (optTest (some (799 : Word)) (fun v => decide (v < ((pressed {}).pantoParam .p1 2).toNat)) = true ∧
      ({ state := .inContact, loss := 2 } : PantoRec).loss = 2 ∧ ({ state := .inContact, loss := 1 } : PantoRec).loss < 2) ∧
    (optTest (none : Option Word) (fun v => decide (v < ((pressed {}).pantoParam .p1 2).toNat)) = false ∧
      optTest (none : Option Word) (fun v => decide (((pressed {}).pantoParam .p1 2).toNat ≤ v)) = false) := by
  unfold Running Live StoresWf
  refine ⟨by decide, ⟨by decide, ?_, by decide, by decide, by decide, by decide⟩, by decide, by decide, by decide, ?_⟩
  · intro p f h
    cases h
    decide
  · decide

/-- A capture buffer in a mode and a state. -/
def capture (mode : CaptureMode) (state : CaptureState) (remaining post : Nat) : Capture :=
  { mode := mode, state := state, remaining := remaining, post := post, frameIndex := 127, eventIndex := 255 }

/-- 9.11: the entry that covers 0501h has capture set, the one that covers 0100h has not, and none covers 0000h. -/
theorem witness_Offers : ((lab id).jobs.routeOf { measure with point := 0x0501 } = some 0 ∧ (lab id).jobs.routeCapture 0 = true) ∧
    ((lab id).jobs.routeOf { measure with point := 0x0100 } = some 1 ∧ (lab id).jobs.routeCapture 1 = false) ∧
    ((lab id).jobs.routeOf { measure with point := 0 } = none ∧ (lab id).cb.unmatched = false) ∧
    (((capture .mixed .triggered 1 5).offer true false CaptureEntry.empty).2 = true ∧
      ((capture .mixed .triggered 1 5).offer false false CaptureEntry.empty).2 = true) ∧
    (measure.payload.length ≤ 16 ∧ (lab id).fr.up.length < 16 ∧ 16 ≤ (noticing 16).fr.up.length) ∧
    (frameEntry 0 .roof .up measure .consumed (some 0)).descriptor = 0x6040 := by decide

theorem witness_CaptureEntries : ((capture .frames .armed 0 0).mode = .frames ∧ (capture .events .armed 0 0).mode = .events ∧
      (capture .mixed .frozen 0 0).state = .frozen) ∧
    ((capture .mixed .armed 0 0).mode = .mixed ∧ (capture .mixed .armed 0 0).state ≠ .frozen ∧
      Store.wf CaptureEntry.empty (capture .mixed .armed 0 0).mem = true) ∧
    ((capture .mixed .armed 0 0).post = 0 ∧ 0 < (capture .mixed .armed 0 1).post) ∧
    ((capture .mixed .triggered 1 5).remaining ≤ 1 ∧ 2 ≤ (capture .mixed .triggered 2 5).remaining) := by decide

end Sys2Proof.Tests
end

section
/-! PROOFS. The line measurement (chapter 1): the results of a complete window (R13, O57) and the bounds that every result
record has (R14, O13). -/

namespace Sys2Proof.Machine

open Sys2Proof

/-! ### A step keeps what every command keeps -/

/-- A law that does not look at the waiting commands, that power-on establishes and that every other command keeps, is
kept by every step. -/
theorem step_keeps {P : State → Prop} (hq : ∀ (q : List Instr) (s : State), P s → P (s.setPending q)) (h0 : P State.reset)
    (hk : ∀ {w : Bool} {s t : State}, Kept w s t → P s → P t) {s t : State} (h : P s) (hs : step s = .next t) : P t := by
  unfold step at hs
  split at hs
  case h_1 => cases hs; exact h
  case h_2 c rest _ =>
    by_cases hc : c = .powerOn
    · subst hc
      cases hs
      exact hq rest State.reset h0
    · obtain ⟨u, hu, hku⟩ := Kept.exec c (s.setPending rest) hc
      cases hu.symm.trans hs
      exact hk hku (hq rest s h)

/-! ### A record handed to the LSI leaves the measurement unit alone -/

theorem Reacts.touchVerdict (r : Record) (j : Jobs) : Reacts j (j.touchVerdict r) := by
  unfold Jobs.touchVerdict
  split
  · exact Reacts.refl j
  · split
    · exact Reacts.touch _ j
    · exact ((Reacts.touch _ j).trans (Reacts.foldl _ (fun j i => Reacts.touchLine i j) _ _)).trans (Reacts.touch _ _)

theorem Reacts.touchNeeded (l : Line) (j : Jobs) : Reacts j (j.touchNeeded l) := by
  unfold Jobs.touchNeeded
  split
  · exact Reacts.touch _ j
  · exact Reacts.touch _ j
  · exact Reacts.touchLine _ j
  · exact Reacts.refl j

theorem Reacts.confirmCheck (l : Line) (j : Jobs) : Reacts j (j.confirmCheck l) := by
  have ht := Reacts.touchNeeded l j
  unfold Jobs.confirmCheck
  dsimp only
  split
  · split
    · exact ht.trans (Reacts.confirm _ _)
    · exact ht
  · exact ht

theorem Reacts.debounce (l : Line) (j : Jobs) : Reacts j (j.debounce l) := by
  unfold Jobs.debounce
  split
  · exact Reacts.refl j
  · exact (Reacts.setLsi _ j).trans (Reacts.confirmCheck _ _)

theorem Reacts.lsiRecord (r : Record) (j : Jobs) : Reacts j (j.lsiRecord r) :=
  (((Reacts.touchVerdict r j).trans (Reacts.lostEntries _)).trans (Reacts.setLsi _ _)).trans (Reacts.debounce _ _)

/-- R15: what a record handed over makes of the measurement unit. -/
theorem Jobs.handRecord_lmu (r : Record) (j : Jobs) :
    (j.handRecord r).lmu = { j.lmu with window := none, number := j.lmu.number + 1, last := some r,
                                        ref := if r.broken then j.lmu.ref else r.mean } :=
  (Reacts.lsiRecord r _).lmu

/-- R9: the sample that fills the window closes it, under the number it had. -/
theorem Jobs.takeSample_closing {h : Int} {sample : Word} {j : Jobs} {w : Window}
    (hw : (j.lmu.take h sample).window = some w) (hfull : Config.windowSamples ≤ w.taken) :
    j.takeSample h sample = (j.setLmu (j.lmu.take h sample)).handRecord (w.complete j.lmu.number) := by
  unfold Jobs.takeSample
  simp only [Jobs.setLmu_lmu, hw, if_pos hfull]
  rfl

/-! ### The arithmetic of the results (R13) -/

/-- R13: the root of a number below the square of `r + 1` is at most `r`. -/
theorem isqrt_le {n r : Nat} (h : n < (r + 1) * (r + 1)) (hn : n < 2 ^ 32) : isqrt n ≤ r :=
  Nat.le_of_lt_succ (Nat.mul_self_lt_mul_self_iff.mp ((isqrt_spec n hn).1.trans_lt h))

/-- R13: the size of Mean is the size of Sum over 1,024, rounded down. -/
theorem Window.complete_mean_natAbs (w : Window) (n : Word) : (w.complete n).mean.natAbs = w.sum.natAbs / 1024 :=
  Int.natAbs_tdiv w.sum 1024

/-- R13: Mean squared never exceeds Q while the square of Sum is within 1,024 times SumSq. -/
theorem Window.complete_mean_sq_le (w : Window) (n : Word) (h : w.sum * w.sum ≤ 1024 * w.sumSq) :
    (w.complete n).mean.natAbs * (w.complete n).mean.natAbs ≤ w.sumSq / 1024 := by
  rw [Window.complete_mean_natAbs]
  have hs : w.sum.natAbs * w.sum.natAbs ≤ 1024 * w.sumSq := by
    rw [← Int.natAbs_mul_self] at h
    exact_mod_cast h
  have hm : 1024 * (w.sum.natAbs / 1024) ≤ w.sum.natAbs := Nat.mul_div_le _ _
  have hmm := Nat.mul_le_mul hm hm
  rw [Nat.le_div_iff_mul_le (by decide)]
  linarith

/-- R13: max(0, Q − Mean²) as the number whose root AcRMS is. -/
theorem max_zero_sub_mul_self (q : Nat) (m : Int) : max 0 ((q : Int) - m * m) = ((q - m.natAbs * m.natAbs : Nat) : Int) := by
  rw [← Int.natAbs_mul_self (a := m)]
  omega

/-- R13: Mean is Sum over 1,024 truncated toward zero. -/
theorem Window.complete_mean_spec (w : Window) (n : Word) :
    (0 ≤ w.sum → 1024 * (w.complete n).mean ≤ w.sum ∧ w.sum < 1024 * ((w.complete n).mean + 1)) ∧
    (w.sum ≤ 0 → w.sum ≤ 1024 * (w.complete n).mean ∧ 1024 * ((w.complete n).mean - 1) < w.sum) := by
  have hsum : 1024 * (w.complete n).mean + w.sum.tmod 1024 = w.sum := Int.mul_tdiv_add_tmod _ _
  have hlt : w.sum.tmod 1024 < 1024 := Int.tmod_lt_of_pos _ (by decide)
  have hgt : -1024 < w.sum.tmod 1024 := Int.lt_tmod_of_pos _ (by decide)
  constructor
  · intro h
    have := Int.tmod_nonneg 1024 h
    omega
  · intro h
    have := Int.tmod_nonneg 1024 (Int.neg_nonneg_of_nonpos h)
    rw [Int.neg_tmod] at this
    omega

/-- R13: Freq is the periods' frequency in cHz rounded down, which periods of 3..1,024 samples put within 625..213,333. -/
theorem Window.complete_freq_spec (w : Window) (n : Word) (hp : 0 < w.periods) (h1 : 3 * w.periods ≤ w.lengths)
    (h2 : w.lengths ≤ 1024 * w.periods) :
    (w.complete n).freq * w.lengths ≤ 640000 * w.periods ∧ 640000 * w.periods < ((w.complete n).freq + 1) * w.lengths ∧
    625 ≤ (w.complete n).freq ∧ (w.complete n).freq ≤ 213333 := by
  have hf : (w.complete n).freq = 640000 * w.periods / w.lengths := if_neg hp.ne'
  have hl : 0 < w.lengths := by omega
  rw [hf]
  refine ⟨Nat.div_mul_le_self _ _, ?_, ?_, ?_⟩
  · exact (Nat.div_lt_iff_lt_mul hl).mp (Nat.lt_succ_self _)
  · rw [Nat.le_div_iff_mul_le hl]; omega
  · rw [Nat.div_le_iff_le_mul_add_pred hl]; omega

end Sys2Proof.Machine

open Sys2Proof Sys2Proof.Machine

/-- Settles O57: the closing sample's record by `takeSample_closing`, its numbers by the specs of the root, of Mean and of
Freq. -/
theorem windowResults : Obligations.WindowResults := by
  unfold Obligations.WindowResults
  refine ⟨?_, ?_⟩
  · rintro j h sample _ w rfl hw hfull
    rw [Jobs.takeSample_closing hw hfull, Jobs.handRecord_lmu]
    exact ⟨_, rfl, rfl, rfl⟩
  · rintro w n _ _ _ hlo hhi hsq h1 h2 rfl rfl rfl
    have hq : w.sumSq / 1024 ≤ 1073676289 := by omega
    have hac : w.sumSq / 1024 - (w.complete n).mean.natAbs * (w.complete n).mean.natAbs ≤ 1073676289 := by omega
    obtain ⟨hrms, hrms'⟩ := isqrt_spec _ (hq.trans_lt (by decide))
    obtain ⟨hacrms, hacrms'⟩ := isqrt_spec _ (hac.trans_lt (by decide))
    obtain ⟨hpos, hneg⟩ := w.complete_mean_spec n
    have hmean := w.complete_mean_natAbs n
    rw [max_zero_sub_mul_self]
    exact ⟨hpos, hneg, by omega, by omega, hq, hrms, hrms', isqrt_le (hq.trans_lt (by decide)) (hq.trans_lt (by decide)),
      by exact_mod_cast hacrms, by exact_mod_cast hacrms',
      isqrt_le (hac.trans_lt (by decide)) (hac.trans_lt (by decide)), fun hp => if_pos hp,
      fun hp => w.complete_freq_spec n hp h1 h2⟩

/-- Settles O13: every command keeps the bounds of the window in progress and of the last record (`Kept.exec`); the records
of a broken and of a complete window have their own lemmas. -/
theorem recordsStayBounded : Obligations.RecordsStayBounded := by
  unfold Obligations.RecordsStayBounded
  have h0 : RecordsBounded State.reset := ⟨fun _ h => (nomatch h), fun _ h => (nomatch h)⟩
  refine ⟨fun s t => ?_, h0, fun w n => ⟨w.brokenOff_bounded n, rfl⟩, fun w n => w.complete_mean_sq_le n⟩
  exact step_keeps (fun _ _ h => h) h0 fun hk => hk.jobs.records

end

section
/-! PROOFS. What every command keeps (O2, O3, O8 to O12, O14, O16, O17): the laws of `Kept` and `Counts`, brought from one
command to one step; and that a step which does not end in `State.finish` adds no change and no report. -/

namespace Sys2Proof.Machine

open Sys2Proof

/-! ### Nothing is left to answer or to report -/

theorem Rested.finish (u : State) : Rested u.finish := by
  obtain ⟨-, htodo, hout, -⟩ := State.finish_spec u
  exact ⟨htodo, hout⟩

/-- `t` is a state brought to a step's end, or has the roof jobs and the RESET line of `s`. -/
def EndsOrIdles (s t : State) : Prop := (∃ v : State, t = v.finish) ∨ (t.jobs = s.jobs ∧ t.inReset = s.inReset)

theorem EndsOrIdles.refl (s : State) : EndsOrIdles s s := .inr ⟨rfl, rfl⟩

theorem EndsOrIdles.finish (s v : State) : EndsOrIdles s v.finish := .inl ⟨v, rfl⟩

theorem EndsOrIdles.unlessReset {g : State → State} (h : ∀ u, EndsOrIdles u (g u)) {s t : State}
    (ht : s.unlessReset g = .next t) : EndsOrIdles s t := by
  unfold State.unlessReset at ht
  cases ht
  split
  · exact .refl s
  · exact h s

theorem EndsOrIdles.taking {g : Frame → State → State} (h : ∀ f u, EndsOrIdles u (g f u)) {p : Port} {f : Frame}
    {s t : State} (ht : s.taking p f g = .next t) : EndsOrIdles s t := by
  refine EndsOrIdles.unlessReset (fun u => ?_) ht
  split
  · exact h f u
  · exact .refl u

theorem State.trainSent_idles (s : State) : EndsOrIdles s s.trainSent := by
  unfold State.trainSent
  split <;> exact .inr ⟨rfl, rfl⟩

theorem State.trainApply_idles (s : State) : EndsOrIdles s s.trainApply := by
  unfold State.trainApply
  split
  · split <;> exact .inr ⟨rfl, rfl⟩
  · exact .refl s

theorem State.transmitStart_idles (s : State) : EndsOrIdles s s.transmitStart := by
  unfold State.transmitStart
  split
  · split <;> exact .inr ⟨rfl, rfl⟩
  · exact .refl s

theorem State.roofFrameSent_idles (s : State) : EndsOrIdles s s.roofFrameSent := by
  unfold State.roofFrameSent
  split
  · dsimp only
    split
    · split <;> exact .inr ⟨rfl, rfl⟩
    · exact .inr ⟨rfl, rfl⟩
  · exact .refl s

theorem State.roofBegin_idles (s : State) : EndsOrIdles s s.roofBegin := by
  unfold State.roofBegin
  split <;> exact .inr ⟨rfl, rfl⟩

theorem State.answerStart_idles (s : State) : EndsOrIdles s s.answerStart := by
  unfold State.answerStart
  split
  · split
    · exact .inr ⟨rfl, rfl⟩
    · exact State.roofBegin_idles s
  · exact State.roofBegin_idles s

theorem State.latchExpiry_idles (s : State) : EndsOrIdles s s.latchExpiry := by
  unfold State.latchExpiry
  split <;> exact .inr ⟨rfl, rfl⟩

theorem State.resetRelease_idles (s : State) : EndsOrIdles s s.resetRelease := by
  unfold State.resetRelease
  split
  · exact .finish _ _
  · exact .refl s

/-- Every frame a command takes is taken to a step's end. -/
theorem exec_taking_finishes {i : Instr} {p : Port} {f : Frame} (hf : i.frame? = some (p, f)) :
    ∃ g : Frame → State → State, (∀ f u, EndsOrIdles u (g f u)) ∧ ∀ s, exec i s = s.taking p f g := by
  cases i <;> simp only [Instr.frame?, Option.some.injEq, Prod.mk.injEq, reduceCtorEq] at hf
  all_goals
    obtain ⟨rfl, rfl⟩ := hf
    refine ⟨_, fun f u => ?_, fun s => by dsimp only [exec]; rfl⟩
  case roofMeasureFrame => exact (by unfold State.roofFrame; dsimp only; split <;> exact .finish _ _)
  case roofAnswerFrame => exact (by unfold State.roofFrame; dsimp only; split <;> exact .finish _ _)
  case serviceCommission =>
    unfold State.serviceCommission
    dsimp only
    split
    · exact .finish _ _
    · split <;> exact .finish _ _
  case serviceRestart => exact (by unfold State.serviceRestart; dsimp only; split <;> exact .finish _ _)
  all_goals exact .finish _ _

/-- Every command but for the lines' own ends a step, or leaves the roof jobs and the RESET line alone. -/
theorem exec_ends_or_idles {i : Instr} {s t : State} (h1 : i ≠ .powerOn) (h2 : i ≠ .resetAssert)
    (ht : exec i s = .next t) : EndsOrIdles s t := by
  cases hf : i.frame? with
  | some pf =>
    obtain ⟨g, hg, he⟩ := exec_taking_finishes (p := pf.1) (f := pf.2) hf
    exact EndsOrIdles.taking hg ((he s).symm.trans ht)
  | none =>
    have of (g : State → State) (hg : ∀ u, EndsOrIdles u (g u)) (he : exec i s = s.unlessReset g) : EndsOrIdles s t :=
      EndsOrIdles.unlessReset hg (he.symm.trans ht)
    cases i <;> simp only [Instr.frame?, reduceCtorEq] at hf
    case powerOn => exact absurd rfl h1
    case resetAssert => exact absurd rfl h2
    case resetRelease => cases ht; exact State.resetRelease_idles s
    case breakBegin => exact of State.breakBegin (fun _ => .inr ⟨rfl, rfl⟩) rfl
    case discoveryMeasurement m => exact of (fun s => s.setTrain (s.train.discover m)) (fun _ => .inr ⟨rfl, rfl⟩) rfl
    case trainFrameSent => exact of _ State.trainSent_idles rfl
    case trainSettingsApply => exact of _ State.trainApply_idles rfl
    case roofFrameSent => exact of _ State.roofFrameSent_idles rfl
    case answerStart => exact of _ State.answerStart_idles rfl
    case splitReadLatchExpiry => exact of _ State.latchExpiry_idles rfl
    case trainTransmitStart => exact of _ State.transmitStart_idles rfl
    all_goals exact of _ (fun u => .finish u _) rfl

theorem Rested.resetAssert {s : State} (h : Rested s) : Rested s.resetAssert := by
  unfold State.resetAssert
  split
  · exact h
  · exact h

theorem Rested.reset : Rested State.reset := ⟨rfl, rfl⟩

theorem Rested.exec {i : Instr} {s t : State} (h : Rested s) (ht : exec i s = .next t) : Rested t := by
  by_cases h1 : i = .powerOn
  · subst h1; cases ht; exact Rested.reset
  by_cases h2 : i = .resetAssert
  · subst h2; cases ht; exact h.resetAssert
  obtain ⟨v, rfl⟩ | ⟨hj, -⟩ := exec_ends_or_idles h1 h2 ht
  · exact Rested.finish v
  · unfold Rested at h ⊢
    rwa [hj]

/-! ### The laws at power-on, and from a command to a step -/

theorem StoresWf.reset : StoresWf State.reset := ⟨rfl, rfl, rfl⟩

theorem Kept.storesWf {w : Bool} {s t : State} (h : Kept w s t) (hs : StoresWf s) : StoresWf t := by
  obtain ⟨htable, hnodes, hcapture⟩ := hs
  exact ⟨h.jobs.table htable, h.jobs.nodes hnodes, h.capture hcapture⟩

/-- R150: a port's counters are balanced exactly when no frame taken is still to be judged. -/
theorem Counters.balanced_iff (c : Counters) : c.balanced = true ↔ c.owes 0 := by
  simp [Counters.balanced, Counters.owes]

theorem Conserved.reset : Conserved State.reset := ⟨rfl, rfl⟩

theorem Counts.conserved {s t : State} (h : Counts 0 0 s t) (hs : Conserved s) : Conserved t := by
  unfold Conserved at hs ⊢
  simp only [Counters.balanced_iff] at hs ⊢
  exact ⟨by simpa using h.train 0 hs.1, by simpa using h.roof 0 hs.2⟩

/-- R193: the release of the RESET line starts both ports' counters at 0. -/
theorem Conserved.resetRelease {s : State} (h : Conserved s) : Conserved s.resetRelease := by
  unfold State.resetRelease
  split
  · dsimp only
    refine (Counts.finish _).conserved ?_
    split
    · exact (Counts.linkError _ _ _).conserved Conserved.reset
    · exact Conserved.reset
  · exact h

theorem Conserved.exec {i : Instr} {s t : State} (h : Conserved s) (ht : exec i s = .next t) : Conserved t := by
  by_cases h1 : i = .powerOn
  · subst h1; cases ht; exact Conserved.reset
  by_cases h2 : i = .resetRelease
  · subst h2; cases ht; exact h.resetRelease
  obtain ⟨u, hu, hc⟩ := Counts.exec i s h1 h2
  cases hu.symm.trans ht
  exact hc.conserved h

theorem QueuesBounded.reset : QueuesBounded State.reset := ⟨Nat.zero_le _, Nat.zero_le _, Nat.zero_le _⟩
theorem BuffersBounded.reset : BuffersBounded State.reset := ⟨Nat.zero_le _, Nat.zero_le _⟩
theorem FeaturesBounded.reset : FeaturesBounded State.reset := Nat.zero_le _
theorem ForcesApart.reset : ForcesApart State.reset := fun _ => rfl
theorem PulseOnlyClosing.reset : PulseOnlyClosing State.reset := fun h => absurd h Bool.false_ne_true
theorem RecordsBounded.reset : RecordsBounded State.reset := ⟨fun _ h => (nomatch h), fun _ h => (nomatch h)⟩

theorem IsolatorLaw.reset : IsolatorLaw State.reset :=
  ⟨fun h => absurd h Bool.false_ne_true, fun h => absurd h Bool.false_ne_true, fun h => nomatch h.1⟩

theorem OutputsFollow.reset : OutputsFollow State.reset := by
  intro _
  refine ⟨by decide, by decide, fun _ => rfl, by decide⟩

theorem ScheduleWf.reset : ScheduleWf State.reset := ScheduleWf.fresh _ rfl

/-- A law that every command keeps is kept by every step, where it does not look at the waiting commands. -/
theorem step_of_exec {P : State → Prop} (hq : ∀ (q : List Instr) (s : State), P s → P (s.setPending q))
    (he : ∀ {i : Instr} {s t : State}, P s → exec i s = .next t → P t) {s t : State} (h : P s) (hs : step s = .next t) :
    P t := by
  unfold step at hs
  split at hs
  · cases hs; exact h
  · exact he (hq _ _ h) hs

end Sys2Proof.Machine

open Sys2Proof Sys2Proof.Machine

/-- Settles O1: the two cases of `step`. -/
theorem stepRunsFront : Obligations.StepRunsFront := by
  unfold Obligations.StepRunsFront
  exact ⟨fun c rest s h => by simp only [step, h], fun s h => by simp only [step, h]⟩

/-- Settles O2: every command but power-on by `Kept.exec`. -/
theorem everyCommandCompletes : Obligations.EveryCommandCompletes := by
  unfold Obligations.EveryCommandCompletes
  intro i s
  by_cases hi : i = .powerOn
  · subst hi
    exact ⟨_, rfl, rfl⟩
  · obtain ⟨t, ht, hk⟩ := Kept.exec i s hi
    exact ⟨t, ht, hk.pending⟩

/-- Settles O3: every other command is kept away by the line (`exec_unlessReset`), and its assertion finds it asserted. -/
theorem resetLineHolds : Obligations.ResetLineHolds := by
  unfold Obligations.ResetLineHolds
  intro i s hs h1 h3
  by_cases h2 : i = .resetAssert
  · subst h2
    show Host.Outcome.next s.resetAssert = _
    rw [State.resetAssert, if_pos hs]
  · obtain ⟨g, hg⟩ := exec_unlessReset i h1 h2 h3
    rw [hg, State.unlessReset_in hs]

/-- Settles O8. -/
theorem resetHasTheLaws : Obligations.ResetHasTheLaws := by
  unfold Obligations.ResetHasTheLaws
  exact ⟨.reset, .reset, .reset, .reset, .reset, .reset, .reset, .reset, .reset, .reset, .reset, .reset⟩

/-- Settles O9: the canonical form by `Kept`, rest by `Rested.exec`. -/
theorem storesStayCanonical : Obligations.StoresStayCanonical := by
  unfold Obligations.StoresStayCanonical
  exact ⟨fun s t => step_keeps (fun _ _ h => h) .reset Kept.storesWf, fun s t => step_of_exec (fun _ _ h => h) Rested.exec⟩

/-- Settles O10: every command takes as many frames as it judges (`Counts.exec`). -/
theorem framesAreConserved : Obligations.FramesAreConserved := by
  unfold Obligations.FramesAreConserved
  exact fun s t => step_of_exec (fun _ _ h => h) Conserved.exec

/-- Settles O11. -/
theorem queuesStayBounded : Obligations.QueuesStayBounded := by
  unfold Obligations.QueuesStayBounded
  exact ⟨fun s t => step_keeps (fun _ _ h => h) .reset Kept.queues,
    fun s t => step_keeps (fun _ _ h => h) .reset fun hk h => ⟨hk.trainBuffers h.1, hk.roofBuffers h.2⟩,
    fun s t => step_keeps (fun _ _ h => h) FeaturesBounded.reset fun hk => hk.jobs.list⟩

/-- Settles O12. -/
theorem forcesStayApart : Obligations.ForcesStayApart := by
  unfold Obligations.ForcesStayApart
  exact ⟨fun s t => step_keeps (fun _ _ h => h) ForcesApart.reset fun hk => hk.jobs.apart,
    fun s t => step_keeps (fun _ _ h => h) PulseOnlyClosing.reset fun hk => hk.jobs.pulse⟩

/-- Settles O14. -/
theorem isolatorsStayLawful : Obligations.IsolatorsStayLawful := by
  unfold Obligations.IsolatorsStayLawful
  exact fun s t => step_keeps (fun _ _ h => h) IsolatorLaw.reset fun hk => hk.jobs.isolators

/-- Settles O16. -/
theorem scheduleStaysWf : Obligations.ScheduleStaysWf := by
  unfold Obligations.ScheduleStaysWf
  exact fun s t => step_keeps (fun _ _ h => h) .reset Kept.schedule

/-- Settles O17: a command that is no write keeps what every cell reads as (`Kept.exec` at `w = false`). -/
theorem onlyWritesChangeTables : Obligations.OnlyWritesChangeTables := by
  unfold Obligations.OnlyWritesChangeTables
  intro i s t hs hw ht a
  have hi : i ≠ .powerOn := by rintro rfl; exact nomatch hw
  obtain ⟨u, hu, hk⟩ := Kept.exec i s hi
  cases hu.symm.trans ht
  exact hk.jobs.reads hw hs.1 a

/-- Settles O18: the values stand in `State.reset`. -/
theorem powerOnValues : Obligations.PowerOnValues := by
  unfold Obligations.PowerOnValues
  exact ⟨fun _ => rfl, rfl, rfl, fun _ => ⟨rfl, show TWord.bad {} = false by decide⟩, rfl, rfl, rfl, rfl, rfl, rfl, rfl, rfl, rfl, rfl,
    rfl, rfl, rfl, rfl,
    rfl, rfl, rfl, rfl, rfl, fun _ => rfl, rfl, rfl, rfl, rfl, rfl, rfl, rfl, rfl⟩

end

section
/-! PROOFS. A step's end (O4), the two ports (O20 to O25) and the answer's timers (O26): what each function of the ports
makes of the state, case by case, and from it the answer of each command. -/

namespace Sys2Proof.Machine

open Sys2Proof

/-! ### A step's end -/

/-- With no change to answer, and in CONFIG, settling is the OC's following alone. -/
theorem Jobs.settle_idle {j : Jobs} (h : j.todo = [] ∨ j.dev = .config) : j.settle = (j.setTodo []).ocSync := by
  rcases h with h | h
  · rw [Jobs.settle_of_nothing h, ← h]
    rfl
  · unfold Jobs.settle
    rw [Jobs.pump_config 64 j h]

/-- With no change to answer, and in CONFIG, the end of a step leaves the roof jobs as they are but for the outputs. -/
theorem State.finish_jobs_idle {u : State} (h : u.jobs.todo = [] ∨ u.jobs.dev = .config) :
    u.finish.jobs = { u.jobs with oc := u.finish.jobs.oc, tm := u.finish.jobs.tm, todo := [], out := [] } := by
  obtain ⟨-, -, -, e⟩ := State.finish_spec u
  obtain ⟨hf, -⟩ := Jobs.ocFollow_spec (u.jobs.setTodo []).earthNow (u.jobs.setTodo []) _ rfl
  rw [Jobs.settle_idle h, show (u.jobs.setTodo []).ocSync = _ from hf] at e
  rw [e]
  rfl

/-- R151: frames that join the train transmit queue without a change of its forwarded share are none of them forwarded. -/
theorem Router.joined_not_forwarded {r q : Router} (hup : r.up <+: q.up) (hs : q.share = r.share) :
    ∃ more, q.up = r.up ++ more ∧ ∀ f ∈ more, f.forwarded = false := by
  obtain ⟨more, e⟩ := hup
  refine ⟨more, e.symm, fun f hf => ?_⟩
  unfold Router.share at hs
  rw [← e, List.filter_append, List.length_append] at hs
  have hnil : more.filter (fun q => q.forwarded) = [] := List.length_eq_zero_iff.mp (by omega)
  simpa using List.filter_eq_nil_iff.mp hnil f hf

/-! ### Commands that end a step and change nothing, or all but end it -/

/-- A command that takes no frame always finds what it takes at hand. -/
theorem EndsFrom.of_eq {i : Instr} {s t u : State} (hi : exec i s = .next t) (e : t = u.finish) : EndsFrom i s u :=
  fun _ => by rw [hi, e]

/-! ### Receiving -/

theorem State.hears_iff (p : Port) (s : State) :
    s.hears p = true ↔ (s.port p).mode = .running ∧ (p = .train ∨ s.roof.sending = none) := by
  unfold State.hears
  simp [Option.isNone_iff_eq_none]

theorem State.character_deaf {p : Port} {s : State} (data : Byte) (b stop : Bool)
    (h : (s.port p).mode ≠ .running ∨ (p = .roof ∧ s.roof.sending ≠ none)) : s.character p data b stop = s := by
  have hd : ¬ s.hears p = true := by
    rw [State.hears_iff]
    rintro ⟨hm, hp⟩
    rcases h with h | ⟨rfl, h⟩
    · exact h hm
    · rcases hp with hp | hp
      · exact nomatch hp
      · exact h hp
  unfold State.character
  rw [if_neg hd]

/-- R166: a start bit begins the answer that is awaited and not begun. -/
theorem State.answerStart_begins {s : State} {e : Exchange} (hs : s.rb.slot = .awaiting) (he : s.rb.exchange = some e)
    (hb : e.answerBegun = false) (hm : s.roof.mode = .running) :
    s.answerStart = { s with
      rb := { s.rb with exchange := some { e with answerBegun := true }, answerTimer := false, answerLimit := true },
      roof := { s.roof with
        assembly := some { s.roof.assembly.getD { discard := s.roof.settling } with answer := true } } } := by
  unfold State.answerStart
  simp only [he]
  rw [if_pos ⟨hs, hb, hm⟩]
  rfl

/-- R129, R166: at any other time a start bit begins a frame that no exchange awaits. -/
theorem State.answerStart_else {s : State} (h : s.rb.slot ≠ .awaiting ∨ s.roof.mode ≠ .running ∨
    ∀ e, s.rb.exchange = some e → e.answerBegun = true) : s.answerStart = s.roofBegin := by
  unfold State.answerStart
  split
  next e he =>
    rw [if_neg]
    rintro ⟨h1, h2, h3⟩
    rcases h with h | h | h
    · exact h h1
    · exact h h3
    · exact Bool.false_ne_true (h2.symm.trans (h e he))
  next => rfl

theorem State.roofBegin_of {s : State} (hm : s.roof.mode = .running) (hs : s.roof.sending = none) :
    s.roofBegin = s.setRoof { s.roof with assembly := some (s.roof.assembly.getD { discard := s.roof.settling }) } := by
  unfold State.roofBegin
  rw [if_pos ⟨hm, hs⟩]

theorem State.roofBegin_not {s : State} (h : s.roof.mode ≠ .running ∨ s.roof.sending ≠ none) : s.roofBegin = s := by
  unfold State.roofBegin
  rw [if_neg]
  rintro ⟨hm, hs⟩
  exact h.elim (fun h => h hm) (fun h => h hs)

theorem State.roofBegin_begun {s : State} (a : Assembly) (h : s.roof.assembly = some a) : s.roofBegin = s := by
  unfold State.roofBegin
  split
  · rw [h]
    show s.setRoof { s.roof with assembly := some a } = s
    rw [← h]
    rfl
  · rfl

/-- R130: a character joins the frame in assembly of its port. -/
theorem Assembly.add_eq (c : Byte) (bad : Bool) (a : Assembly) :
    a.add c bad = if a.chars.length < 39 then { a with chars := a.chars ++ [c], errored := a.errored || bad }
      else { a with overlong := true, discard := true, errored := a.errored || bad } := rfl

/-- R129, R130, R133: what a character does where no answer's start is awaited. -/
theorem State.character_heard {s : State} {p : Port} (data : Byte) (b stop : Bool) (hm : (s.port p).mode = .running)
    (hp : p = .train ∨ (s.roof.sending = none ∧
      (s.rb.slot ≠ .awaiting ∨ ∀ e, s.rb.exchange = some e → e.answerBegun = true))) :
    s.character p data b stop =
      (s.setPort p { s.port p with
          assembly := some ((s.port p).begun.add data ((s.port p).settings.parity.wrong data b || !stop)),
          parityErrors := if (s.port p).settings.parity.wrong data b then min 65535 ((s.port p).parityErrors + 1)
            else (s.port p).parityErrors,
          framingErrors := if stop then (s.port p).framingErrors else min 65535 ((s.port p).framingErrors + 1) }).onJobs
        (fun j => j.setOut (j.out ++
          (if (s.port p).settings.parity.wrong data b then [.flag (linkFlag p) 0 j.dev j.lsi.confirmed] else []) ++
          (if stop then [] else [.flag (linkFlag p) 1 j.dev j.lsi.confirmed]))) := by
  have hh : s.hears p = true := (State.hears_iff p s).mpr ⟨hm, hp.imp id And.left⟩
  unfold State.character
  rw [if_pos hh]
  cases p with
  | train =>
    simp only [reduceCtorEq, if_false]
    cases (s.port .train).settings.parity.wrong data b <;> cases stop <;>
      simp [State.linkError, State.setPort, State.port, State.onJobs, State.setJobs, State.setTrain, Jobs.flag, Jobs.report,
        Jobs.setOut, PortState.countError, LinkError.code]
  | roof =>
    obtain ⟨hs, hw⟩ := hp.resolve_left (by simp)
    have hb : s.answerStart = s.setRoof { s.roof with assembly := some s.roof.begun } := by
      rw [State.answerStart_else (hw.imp id .inr), State.roofBegin_of hm hs]
      rfl
    simp only [if_true, hb]
    cases h : (s.port .roof).settings.parity.wrong data b <;> cases stop <;>
      simp_all [State.linkError, State.setPort, State.port, State.onJobs, State.setJobs, State.setRoof, Jobs.flag,
        Jobs.report, Jobs.setOut, PortState.countError, LinkError.code, PortState.begun]

/-- R128: which parity bit is wrong, by the number of 1s. -/
theorem Parity.wrong_iff (data : Byte) (b : Bool) (ones : Nat)
    (h : ones = ((List.range 8).filter (fun i => data.getLsbD i)).length + (if b then 1 else 0)) :
    ((.even : Parity).wrong data b = true ↔ ones % 2 = 1) ∧ ((.odd : Parity).wrong data b = true ↔ ones % 2 = 0) := by
  have ho : oddOnes data = (((List.range 8).filter (fun i => data.getLsbD i)).length % 2 == 1) := rfl
  unfold Parity.wrong
  simp only [ho]
  subst h
  generalize ((List.range 8).filter (fun i => data.getLsbD i)).length = n
  cases b
  · simp
  · simp
    omega

/-- R128: how a character stands on the line. -/
theorem Settings.lineBits_spec (n : Settings) (data : Byte) :
    ∃ sent : List Bool, n.lineBits data = [false] ++ (List.range 8).map (fun i => data.getLsbD i) ++ sent
        ++ List.replicate (if n.twoStops then 2 else 1) true ∧
      (n.parity = .none → sent = []) ∧ (n.parity = .zero → sent = [false]) ∧
      (n.parity = .even ∨ n.parity = .odd → ∃ b, sent = [b] ∧ n.parity.wrong data b = false) := by
  refine ⟨n.parity.sent data, ?_, fun h => by rw [h]; rfl, fun h => by rw [h]; rfl, ?_⟩
  · unfold Settings.lineBits
    cases n.twoStops <;> rfl
  · rintro (h | h) <;> rw [h]
    · exact ⟨oddOnes data, rfl, by simp [Parity.wrong]⟩
    · exact ⟨!oddOnes data, rfl, by simp [Parity.wrong]⟩

/-! ### The frame in assembly is closed -/

theorem State.frameComplete_none {s : State} {p : Port} (h : (s.port p).assembly = none) : s.frameComplete p = s := by
  unfold State.frameComplete
  rw [h]

/-- R130, R131: a closed frame that is no answer is judged, and no more. -/
theorem State.frameComplete_plain {s : State} {p : Port} {a : Assembly} (h : (s.port p).assembly = some a)
    (hp : p = .train ∨ a.answer = false) : s.frameComplete p = s.judged p a := by
  unfold State.frameComplete
  rw [h]
  rcases hp with rfl | hp
  · simp
  · simp [hp]

theorem State.port_setPort (p : Port) (v : PortState) (s : State) : (s.setPort p v).port p = v := by
  cases p <;> rfl

/-- R131, R132: what each verdict makes of the port. -/
theorem State.judged_eq (s : State) (p : Port) (a : Assembly) :
    s.judged p a = match a.judge (s.port p).buffers.length with
      | .dropped => s.setPort p { s.port p with assembly := none, settling := false }
      | .check => (s.setPort p { s.port p with assembly := none, settling := false }).linkError p .check
      | .overrun => (s.setPort p { s.port p with assembly := none, settling := false }).linkError p .overrun
      | .good f => s.setPort p { s.port p with
          assembly := none, settling := false,
          buffers := (s.port p).buffers ++ [{ frame := f, answer := a.answer }] } := by
  unfold State.judged
  dsimp only
  cases a.judge (s.port p).buffers.length <;> rfl

/-- R131, R132: judged, a frame leaves the assembly, and only a good one joins the buffers. -/
theorem State.judged_port (p : Port) (a : Assembly) (s : State) :
    ((s.judged p a).port p).assembly = none ∧ ((s.judged p a).port p).settling = false ∧
    ((s.judged p a).port p).buffers = match a.judge (s.port p).buffers.length with
      | .good f => (s.port p).buffers ++ [{ frame := f, answer := a.answer }]
      | _ => (s.port p).buffers := by
  rw [State.judged_eq]
  cases a.judge (s.port p).buffers.length <;> cases p <;> exact ⟨rfl, rfl, rfl⟩

theorem State.judged_rb (p : Port) (a : Assembly) (s : State) : (s.judged p a).rb = s.rb := by
  rw [State.judged_eq]
  cases a.judge (s.port p).buffers.length <;> cases p <;> rfl

/-- R166: a closed answer frame is placed, or its exchange is missed. -/
theorem State.frameComplete_answer {s : State} {a : Assembly} (h : s.roof.assembly = some a) (ha : a.answer = true) :
    s.frameComplete .roof = if (s.judged .roof a).roof.buffers = s.roof.buffers then (s.judged .roof a).missed
      else (s.judged .roof a).setRb { s.rb with answerLimit := false } := by
  obtain ⟨-, -, hb⟩ := State.judged_port .roof a s
  have hrb := State.judged_rb .roof a s
  change (s.judged .roof a).roof.buffers = (match a.judge s.roof.buffers.length with
    | .good f => s.roof.buffers ++ [{ frame := f, answer := a.answer }]
    | _ => s.roof.buffers) at hb
  unfold State.frameComplete
  rw [show (s.port .roof).assembly = some a from h]
  simp only [ha, Bool.true_and, beq_self_eq_true, if_true, State.port]
  cases hd : a.judge s.roof.buffers.length <;> simp only [hd] at hb
  case good f =>
    rw [if_neg (by rw [hb]; exact fun e => by simpa using congrArg List.length e)]
    simp only [State.answerJudged, hrb]
  all_goals rw [if_pos hb]; rfl

theorem State.linkError_port_settling (p : Port) (e : LinkError) (s : State) :
    ((s.linkError p e).port p).settling = (s.port p).settling := by
  cases p <;> cases e <;> rfl

theorem State.setPort_port (p : Port) (s : State) : s.setPort p (s.port p) = s := by
  cases p <;> rfl

theorem State.setPort_settled (p : Port) (s : State) (h : (s.port p).settling = false) :
    s.setPort p { s.port p with settling := false } = s := by
  rw [← h]
  exact State.setPort_port p s

theorem State.missed_port (p : Port) (s : State) : s.missed.port p = s.port p := by
  unfold State.missed
  split
  · dsimp only
    split <;> cases p <;> rfl
  · cases p <;> rfl

/-- R136: closing a frame clears the port's mark, so that the gap after entry to RUNNING has no more to do. -/
theorem State.frameComplete_settled {s : State} {p : Port} (h : (s.port p).assembly ≠ none) :
    ((s.frameComplete p).port p).settling = false := by
  cases ha : (s.port p).assembly with
  | none => exact absurd ha h
  | some a =>
    obtain ⟨-, hset, -⟩ := State.judged_port p a s
    unfold State.frameComplete
    rw [ha]
    dsimp only
    split
    · unfold State.answerJudged
      split
      · cases p <;> exact hset
      · rw [State.missed_port]; exact hset
    · exact hset

theorem State.settleGap_of_assembly {s : State} {p : Port} (h : (s.port p).assembly ≠ none) :
    s.settleGap p = s.frameComplete p :=
  State.setPort_settled p _ (State.frameComplete_settled h)

/-- R131: dropped: discarded and not overlong, or errored. -/
theorem Assembly.judge_dropped {a : Assembly} (n : Nat) (h : a.errored = true ∨ (a.discard = true ∧ a.overlong = false)) :
    a.judge n = .dropped := by
  unfold Assembly.judge
  split
  · rfl
  · rcases h with h | ⟨h1, h2⟩
    · rw [if_pos h]
    · simp_all

theorem Assembly.judge_check {a : Assembly} (n : Nat) (he : a.errored = false)
    (h : a.overlong = true ∨ (a.discard = false ∧ parseFrame a.chars = none)) : a.judge n = .check := by
  unfold Assembly.judge
  rcases h with h | ⟨h1, h2⟩
  · simp [he, h]
  · simp [he, h1, h2]

theorem Assembly.judge_parsed {a : Assembly} (n : Nat) (he : a.errored = false) (ho : a.overlong = false)
    (hd : a.discard = false) {f : Frame} (hf : parseFrame a.chars = some f) :
    a.judge n = if 2 ≤ n then .overrun else .good f := by
  unfold Assembly.judge
  simp only [he, ho, hd, hf, Bool.false_and, Bool.false_eq_true, if_false]
  rfl

/-! ### The train port -/

theorem State.breakEnd_else {s : State} (h : s.train.inBreak = false) : s.breakEnd = s := by
  unfold State.breakEnd
  simp [h]

/-- R138, R136: the line high again, the train port restarts by its word. -/
theorem State.breakEnd_of {s : State} (h : s.train.inBreak = true) :
    s.breakEnd = (s.setTrain (s.train.restart s.jobs.trainSettings)).onJobs (fun j => j.touch 0) := by
  unfold State.breakEnd
  rw [if_pos h]

theorem PortState.restart_eq (n : Settings) (v : PortState) :
    v.restart n = if n.divisor = 0 then
        { v with mode := .discovery, settings := n, inBreak := false, newSettings := none, lastMeasured := none,
                 runCount := 0, timing := false }
      else
        { v with mode := .running, settings := n, inBreak := false, newSettings := none, settling := true,
                 assembly := v.assembly.map (fun a => { a with discard := true }) } := rfl

theorem PortState.discover_else {v : PortState} (m : Measurement) (h : v.mode ≠ .discovery) : v.discover m = v := by
  unfold PortState.discover
  rw [if_neg h]

/-- R137: the first edge starts timing. -/
theorem PortState.discover_first {v : PortState} (m : Measurement) (h : v.mode = .discovery) (ht : v.timing = false) :
    v.discover m = match m with
      | .edge _ => { v with timing := true }
      | .overrun => v := by
  unfold PortState.discover
  rw [if_pos h, ht]
  cases m <;> rfl

/-- R137: a measurement, once timing. -/
theorem PortState.discover_timed {v : PortState} (m : Measurement) (h : v.mode = .discovery) (ht : v.timing = true) :
    v.discover m = match m with
      | .edge n => v.measured (quantised n)
      | .overrun => v.measured none := by
  unfold PortState.discover
  rw [if_pos h, ht]
  cases m <;> rfl

theorem quantised_none {n : Nat} (h : n < 16 ∨ 8176 ≤ n) : quantised n = none := by
  unfold quantised
  exact if_neg (by omega)

theorem quantised_some {n d : Nat} (h1 : 1 ≤ d) (h2 : d ≤ 255) (h3 : 32 * d ≤ n + 16) (h4 : n + 16 < 32 * (d + 1)) :
    quantised n = some d := by
  unfold quantised
  have hd : (n + 16) / 32 = d := by omega
  simp only [hd]
  exact if_pos ⟨h1, h2⟩

theorem State.trainApply_of {s : State} {n : Settings} (hn : s.train.newSettings = some n) (hm : s.train.mode = .running)
    (hs : s.train.sending = none) : s.trainApply = s.setTrain
      { s.train with settings := n, newSettings := none, settling := true, mode := .running,
                     assembly := s.train.assembly.map (fun a => { a with discard := true }) } := by
  unfold State.trainApply
  rw [hn]
  simp only
  rw [if_pos ⟨hm, hs⟩]
  rfl

theorem State.trainApply_not {s : State}
    (h : s.train.newSettings = none ∨ s.train.mode ≠ .running ∨ s.train.sending ≠ none) : s.trainApply = s := by
  unfold State.trainApply
  split
  next n hn =>
    rw [if_neg]
    rintro ⟨hm, hs⟩
    rcases h with h | h | h
    · exact nomatch h.symm.trans hn
    · exact h hm
    · exact h hs
  next => rfl

theorem State.transmitStart_of {s : State} {q : QueuedFrame} {rest : List QueuedFrame} (hq : s.fr.up = q :: rest)
    (h : s.train.mode = .running ∧ s.train.sending = none ∧ s.train.newSettings = none) :
    s.transmitStart = s.setTrain { s.train with sending := some q.frame.chars } := by
  unfold State.transmitStart
  rw [hq]
  simp only
  rw [if_pos h]

theorem State.transmitStart_not {s : State} (h : s.fr.up = [] ∨ s.train.mode ≠ .running ∨ s.train.sending ≠ none ∨
    s.train.newSettings ≠ none) : s.transmitStart = s := by
  unfold State.transmitStart
  split
  next q rest hq =>
    rw [if_neg]
    rintro ⟨h1, h2, h3⟩
    rcases h with h | h | h | h
    · exact nomatch h.symm.trans hq
    · exact h h1
    · exact h h2
    · exact h h3
  next => rfl

/-! ### The roof port -/

/-- R161: the last stop bit of a frame that belongs to an exchange. -/
theorem State.roofFrameSent_exchange {s : State} {e : Exchange} (hs : s.roof.sending ≠ none) (hb : s.rb.slot = .sending)
    (he : s.rb.exchange = some e) :
    s.roofFrameSent = { s with
      roof := { s.roof with sending := none },
      rb := if e.kind = .poll ∨ e.kind = .queuedQuery then
          { s.rb with slot := .awaiting, answerTimer := true, answerLimit := false }
        else s.rb.idle } := by
  unfold State.roofFrameSent
  rw [if_pos (Option.isSome_iff_ne_none.mpr hs)]
  simp only [State.setRoof, hb, he]
  split <;> rfl

/-- R170: the last stop bit of a frame that an abandoned exchange left in transmission. -/
theorem State.roofFrameSent_alone {s : State} (hs : s.roof.sending ≠ none) (hb : s.rb.slot ≠ .sending) :
    s.roofFrameSent = { s with roof := { s.roof with sending := none } } := by
  unfold State.roofFrameSent
  rw [if_pos (Option.isSome_iff_ne_none.mpr hs)]
  dsimp only
  split
  next h _ => exact absurd h hb
  next => rfl

theorem State.roofFrameSent_not {s : State} (h : s.roof.sending = none) : s.roofFrameSent = s := by
  unfold State.roofFrameSent
  simp [h]

theorem State.roofApply_not {s : State} (h : s.roof.applyWord = false ∨ s.rb.slot ≠ .idle ∨ s.roof.sending ≠ none ∨
    s.roof.mode ≠ .running) : s.roofApply = s := by
  unfold State.roofApply
  rw [if_neg]
  rintro ⟨h1, h2, h3, h4⟩
  rcases h with h | h | h | h
  · exact Bool.false_ne_true (h.symm.trans h1)
  · exact h h2
  · exact h h3
  · exact h h4

/-- R140: the settings that wait are applied. -/
theorem State.roofApply_of {s : State} (ha : s.roof.applyWord = true) (hf : RoofFree s) :
    s.roofApply = match s.jobs.roofSettings with
      | some n => (s.onJobs (fun j => j.touch 1)).setRoof (s.roof.applied n)
      | none => ((s.onJobs (fun j => j.touch 1)).setRoof { s.roof with applyWord := false }).onJobs
          (fun j => j.flag .roofLinkError 4) := by
  obtain ⟨h1, h2, h3⟩ := hf
  unfold State.roofApply
  rw [if_pos ⟨ha, h1, h2, h3⟩]
  dsimp only
  cases s.jobs.roofSettings with
  | some n => simp only [PortState.applied, PortState.enterRunning, State.onJobs, State.setJobs, h3]
  | none => rfl

/-- R140: which settings the roof word gives. -/
theorem Jobs.roofSettings_eq (j : Jobs) :
    (∀ n, n = j.roofWord → n.divisor ≠ 0 → j.roofSettings = some n) ∧
    (j.bad 1 = false → bits (j.word 1) 8 8 = 0 → j.roofSettings = none) := by
  unfold Jobs.roofSettings Jobs.roofWord
  refine ⟨?_, fun hb hd => ?_⟩
  · rintro n rfl hd
    cases hb : j.bad 1
    · simp only [hb, Bool.false_eq_true, if_false] at hd ⊢
      rw [if_neg hd]
    · rfl
  · rw [hb]
    simp [settingsOf, hd]

/-! ### The answer's timers -/

theorem State.answerTimeout_of {s : State} (h : s.rb.slot = .awaiting ∧ s.rb.answerTimer = true) :
    s.answerTimeout = s.missed := if_pos h

theorem State.answerTimeout_not {s : State} (h : s.rb.slot ≠ .awaiting ∨ s.rb.answerTimer = false) : s.answerTimeout = s :=
  if_neg fun ⟨h1, h2⟩ => h.elim (fun h => h h1) (fun h => Bool.false_ne_true (h.symm.trans h2))

theorem State.answerLimitExpiry_of {s : State} (h : s.rb.slot = .awaiting ∧ s.rb.answerLimit = true) :
    s.answerLimitExpiry = (s.setRoof
      { s.roof with assembly := s.roof.assembly.map (fun a => { a with discard := true, answer := false }) }).missed := if_pos h

theorem State.answerLimitExpiry_not {s : State} (h : s.rb.slot ≠ .awaiting ∨ s.rb.answerLimit = false) :
    s.answerLimitExpiry = s :=
  if_neg fun ⟨h1, h2⟩ => h.elim (fun h => h h1) (fun h => Bool.false_ne_true (h.symm.trans h2))

theorem Jobs.node_setNode {j : Jobs} (h : j.nodesWf) (n m : Nat) (r : NodeRec) :
    (j.setNode n r).node m = if m = n then r else j.node m := Store.read_write h n m r

@[simp] theorem Jobs.node_push (n : Nat) (c : Change) (j : Jobs) : (j.push c).node n = j.node n := rfl
@[simp] theorem Jobs.node_flag (n : Nat) (f : Flag) (m : Nat) (j : Jobs) : (j.flag f m).node n = j.node n := rfl
@[simp] theorem Jobs.node_report (n : Nat) (r : Report) (j : Jobs) : (j.report r).node n = j.node n := rfl

/-- R168: what a miss makes of the node records, in CONFIG and in RUN by the node's state. -/
theorem Jobs.nodeMissed_node {j : Jobs} (hw : j.nodesWf) (n m : Nat) :
    (j.nodeMissed n).node m = if m = n ∧ j.dev = .run then
        match (j.node n).state with
        | .lost => { j.node n with missed := 3 }
        | .unused => j.node n
        | _ => if (j.node n).missed < 2 then { j.node n with missed := (j.node n).missed + 1 }
          else { j.node n with state := .lost, missed := 3 }
      else j.node m := by
  unfold Jobs.nodeMissed
  by_cases hr : j.dev = .run
  · by_cases hm : m = n
    · subst hm
      simp only [hr, and_self, if_true]
      cases hs : (j.node m).state <;> dsimp only
      case waiting | active =>
        by_cases hl : (j.node m).missed < 2
        · rw [if_pos hl, if_pos (by omega), Jobs.node_setNode hw, if_pos rfl]
        · rw [if_neg hl, if_neg (by omega), Jobs.node_flag, Jobs.node_push, Jobs.node_setNode hw, if_pos rfl]
      case lost => rw [Jobs.node_setNode hw, if_pos rfl]
    · simp only [hr, hm, if_true, and_true, if_false]
      split
      · rw [Jobs.node_setNode hw, if_neg hm]
      · rfl
      · split
        · rw [Jobs.node_setNode hw, if_neg hm]
        · rw [Jobs.node_flag, Jobs.node_push, Jobs.node_setNode hw, if_neg hm]
  · simp only [hr, if_false, and_false]

theorem Jobs.nodeMissed_rest (n : Nat) (j : Jobs) :
    j.nodeMissed n = { j with nodes := (j.nodeMissed n).nodes, todo := (j.nodeMissed n).todo,
                              out := (j.nodeMissed n).out } := by
  unfold Jobs.nodeMissed
  dsimp only
  repeat' split
  all_goals rfl

theorem Jobs.nodeMissed_lost {j : Jobs} {n : Nat} (hr : j.dev = .run)
    (hs : (j.node n).state = .waiting ∨ (j.node n).state = .active) (hm : 2 ≤ (j.node n).missed) :
    Flagged .nodeLost (BitVec.ofNat 16 n) (j.nodeMissed n).out := by
  refine ⟨j.dev, j.lsi.confirmed, ?_⟩
  unfold Jobs.nodeMissed
  rcases hs with hs | hs <;>
  · simp only [hr, hs, if_true]
    rw [if_neg (by omega)]
    simp [Jobs.flag, Jobs.report, Jobs.push, Jobs.setOut, Jobs.setTodo, Jobs.setNode, Jobs.setNodes, hr]

/-- R161, R168, R169: a miss: the slot IDLE, the node's record, the NO_REPLY of a QUERY. -/
theorem State.missed_of {s : State} {e : Exchange} (he : s.rb.exchange = some e) :
    s.missed = (s.setRb s.rb.idle).onJobs (fun j =>
      if e.kind = .queuedQuery then (j.nodeMissed e.node).report (.frame (noReplyFrame e.point e.seq e.queryCount))
      else j.nodeMissed e.node) := by
  unfold State.missed
  rw [he]
  dsimp only
  split <;> rfl

theorem State.missed_spec {s : State} {e : Exchange} (he : s.rb.exchange = some e) :
    s.missed = { s with rb := s.rb.idle, jobs := { s.jobs with
      nodes := s.missed.jobs.nodes, todo := s.missed.jobs.todo, out := s.missed.jobs.out } } ∧
    s.missed.jobs.nodes = (s.jobs.nodeMissed e.node).nodes ∧
    (∀ r ∈ (s.jobs.nodeMissed e.node).out, r ∈ s.missed.jobs.out) ∧
    (e.kind = .queuedQuery → .frame (noReplyFrame e.point e.seq e.queryCount) ∈ s.missed.jobs.out) := by
  have hr := Jobs.nodeMissed_rest e.node s.jobs
  rw [State.missed_of he]
  refine ⟨?_, ?_, fun r hr => ?_, fun hk => ?_⟩ <;> simp only [State.onJobs, State.setRb, State.setJobs]
  · split
    · simp only [Jobs.report, Jobs.setOut]
      rw [hr]
    · rw [← hr]
  · split <;> rfl
  · split
    · exact List.mem_append_left _ hr
    · exact hr
  · rw [if_pos hk]
    exact List.mem_append_right _ (List.mem_singleton.mpr rfl)

end Sys2Proof.Machine

open Sys2Proof Sys2Proof.Machine

/-- Settles O4: a delivery changes nothing but the queues' tail, the flags and table memory's bookkeeping (`Delivered`), and
the answering of changes leaves the rest (`finish_keeps`, `finish_reacts`). -/
theorem stepEnd : Obligations.StepEnd := by
  unfold Obligations.StepEnd
  intro u
  obtain ⟨hd, -, -, -⟩ := State.finish_spec u
  obtain ⟨h1, h2, h3, h4, h5, h6, h7, h8, h9, h10, h11, h12, h13, h14⟩ := State.finish_keeps u
  obtain ⟨r1, r2, r3, -⟩ := State.finish_reacts u
  exact ⟨h1, h2, h3, h4, h5, h6, h7, h8, h9, Router.joined_not_forwarded h10 hd.share, h11, h12, h14, r1, r2, r3, h13,
    hd.flags, fun i f n dev line hi ho => State.finish_flag u i ho hi, fun hw => (State.finish_mem u hw.1).2,
    State.finish_jobs_idle, Rested.finish u⟩

/-- Settles O20. -/
theorem trainBreak : Obligations.TrainBreak := by
  unfold Obligations.TrainBreak
  refine ⟨fun s h => State.unlessReset_to h rfl, fun s h hb => EndsFrom.of h State.breakEnd rfl (State.breakEnd_else hb), ?_⟩
  rintro s n h hb rfl
  refine EndsFrom.of h State.breakEnd rfl ?_
  rw [State.breakEnd_of hb, PortState.restart_eq]
  rfl

/-- Settles O21: the four cases of `PortState.discover`, the last by what the measurement is quantised to. -/
theorem discoveryLocks : Obligations.DiscoveryLocks := by
  unfold Obligations.DiscoveryLocks
  have hx : ∀ (s : State) (m : Measurement) (v : PortState), s.inReset = false → s.train.discover m = v →
      exec (.discoveryMeasurement m) s = .next (s.setTrain v) := fun s m v h e =>
    State.unlessReset_to (g := fun s => s.setTrain (s.train.discover m)) h (by rw [e])
  refine ⟨fun s m h hm => hx s m s.train h (PortState.discover_else m hm), fun s h hm ht => ?_, fun s h hm ht => ?_⟩
  · exact ⟨hx s .overrun s.train h (PortState.discover_first _ hm ht),
      fun n => hx s _ _ h (PortState.discover_first _ hm ht)⟩
  · refine ⟨hx s _ _ h (PortState.discover_timed _ hm ht), fun n => ⟨fun hn => hx s _ _ h ?_, ?_⟩⟩
    · rw [PortState.discover_timed _ hm ht]
      simp only [quantised_none hn]
      rfl
    · intro d hd1 hd2 hn1 hn2
      have hq : s.train.discover (.edge n) = s.train.measured (some d) := by
        rw [PortState.discover_timed _ hm ht]
        simp only [quantised_some hd1 hd2 hn1 hn2]
      refine ⟨fun hl => hx s _ _ h ?_, fun hl hr => hx s _ _ h ?_, fun hl hr => hx s _ _ h ?_⟩ <;> rw [hq]
      · simp only [PortState.measured, if_neg hl]
        rfl
      · simp only [PortState.measured, if_pos hl, hr]
        rw [← hl]
        rfl
      · simp only [PortState.measured, if_pos hl]
        rw [if_pos (by omega), ← hl]
        rfl

/-- Settles O22: `character_deaf` and `character_heard`, the parity rules and the line's bits. -/
theorem characterReceived : Obligations.CharacterReceived := by
  unfold Obligations.CharacterReceived
  intro s p data parity stop h
  refine ⟨fun hd => ?_, ?_, fun ones ho => ?_, fun v => ⟨fun cs hc => ?_, v.settings.lineBits_spec data⟩⟩
  · exact EndsFrom.of h (State.character p data parity stop) rfl (State.character_deaf data parity stop hd)
  · rintro hm hp a wrong rfl rfl
    exact EndsFrom.of h (State.character p data parity stop) rfl (State.character_heard data parity stop hm hp)
  · obtain ⟨he, ho⟩ := Parity.wrong_iff data parity ones ho
    exact ⟨he, ho, rfl, rfl⟩
  · unfold PortState.onLine
    rw [hc]
    rfl

/-- Settles O23: the frame in assembly closed (`frameComplete_plain`, `frameComplete_answer`), and the verdicts of
`Assembly.judge`. -/
theorem frameCloses : Obligations.FrameCloses := by
  unfold Obligations.FrameCloses
  refine ⟨fun s p h ha => ⟨?_, ?_⟩, fun s p ha => ?_, fun s p a h ha => ⟨fun hp => ?_, ?_⟩, fun s p a => ⟨?_, ?_, ?_⟩⟩
  · exact EndsFrom.of h (State.frameComplete p) rfl (State.frameComplete_none ha)
  · refine EndsFrom.of h (State.settleGap p) rfl ?_
    unfold State.settleGap
    rw [State.frameComplete_none ha]
  · show State.unlessReset (fun s => (s.settleGap p).finish) s = State.unlessReset (fun s => (s.frameComplete p).finish) s
    simp only [State.unlessReset, State.settleGap_of_assembly ha]
  · exact EndsFrom.of h (State.frameComplete p) rfl (State.frameComplete_plain ha hp)
  · rintro rfl hans
    exact EndsFrom.of h (State.frameComplete .roof) rfl (State.frameComplete_answer ha hans)
  · exact fun hd => by rw [State.judged_eq, Assembly.judge_dropped _ hd]
  · intro he hc
    rw [State.judged_eq, Assembly.judge_check _ he hc]
    cases p <;> rfl
  · intro he ho hd f hf
    refine ⟨fun hb => ?_, fun hb => ?_⟩
    · rw [State.judged_eq, Assembly.judge_parsed _ he ho hd hf, if_pos hb]
      cases p <;> rfl
    · rw [State.judged_eq, Assembly.judge_parsed _ he ho hd hf, if_neg (by omega)]

/-- Settles O24. -/
theorem trainTransmission : Obligations.TrainTransmission := by
  unfold Obligations.TrainTransmission
  refine ⟨?_, ?_, ?_, ?_, ?_, ?_⟩
  · exact fun s q rest h hq h1 h2 h3 => State.unlessReset_to h (State.transmitStart_of hq ⟨h1, h2, h3⟩)
  · exact fun s h => State.unlessReset_same (State.transmitStart_not h)
  · intro s h hs
    refine State.unlessReset_to h ?_
    unfold State.trainSent
    rw [if_pos (Option.isSome_iff_ne_none.mpr hs)]
    rfl
  · intro s hs
    refine State.unlessReset_same ?_
    unfold State.trainSent
    simp [hs]
  · intro s n h hn hm hs
    refine State.unlessReset_to h ?_
    rw [State.trainApply_of hn hm hs, ← hm]
  · exact fun s h => State.unlessReset_same (State.trainApply_not h)

/-- Settles O25. -/
theorem roofTransmission : Obligations.RoofTransmission := by
  unfold Obligations.RoofTransmission
  refine ⟨?_, ?_, ?_, ?_, ?_, ?_, ?_⟩
  · exact fun s h => State.unlessReset_same (State.roofFrameSent_not h)
  · intro s e h hs hb he
    refine ⟨fun hk => State.unlessReset_to h ?_, fun hk => State.unlessReset_to h ?_⟩ <;>
      rw [State.roofFrameSent_exchange hs hb he]
    · rw [if_pos hk]
    · rw [if_neg (by rcases hk with hk | hk <;> simp [hk])]
      rfl
  · exact fun s h hs hb => State.unlessReset_to h (State.roofFrameSent_alone hs hb)
  · intro s e h hs he hb hm
    refine ⟨_, State.unlessReset_to h (State.answerStart_begins hs he hb hm), rfl, fun hn data parity stop => ?_⟩
    set t : State := _ with ht
    have hst : s.answerStart = t := State.answerStart_begins hs he hb hm
    have htt : t.answerStart = t := by
      rw [State.answerStart_else (.inr (.inr (by rintro e' he'; cases he'; rfl)))]
      exact State.roofBegin_begun _ rfl
    have hch : s.character .roof data parity stop = t.character .roof data parity stop := by
      unfold State.character
      rw [if_pos ((State.hears_iff .roof s).mpr ⟨hm, .inr hn⟩), if_pos ((State.hears_iff .roof t).mpr ⟨hm, .inr hn⟩)]
      simp only [if_true, hst, htt]
    show State.unlessReset (fun s => (s.character .roof data parity stop).finish) s =
      State.unlessReset (fun s => (s.character .roof data parity stop).finish) t
    rw [State.unlessReset_of h, State.unlessReset_of (s := t) h, hch]
  · intro s h hw
    refine ⟨fun hm hs => State.unlessReset_to h ?_, fun hn => State.unlessReset_to h ?_⟩ <;>
      rw [State.answerStart_else hw]
    · exact State.roofBegin_of hm hs
    · exact State.roofBegin_not hn
  · exact fun s h hn => EndsFrom.of h State.roofApply rfl (State.roofApply_not hn)
  · intro s h ha h1 h2 h3
    obtain ⟨hgood, hzero⟩ := s.jobs.roofSettings_eq
    refine ⟨fun n hn hd => EndsFrom.of h State.roofApply rfl ?_, fun hb hd => EndsFrom.of h State.roofApply rfl ?_⟩ <;>
      rw [State.roofApply_of ha ⟨h1, h2, h3⟩]
    · rw [hgood n hn hd]
      rfl
    · rw [hzero hb hd]

/-- Settles O26: the timers' guards, and `missed_spec` with `nodeMissed_node`. -/
theorem missedExchanges : Obligations.MissedExchanges := by
  unfold Obligations.MissedExchanges
  refine ⟨fun s h => ⟨fun ht => ?_, fun ht => ?_, fun ht => ?_, fun ht => ?_⟩, ?_⟩
  · exact EndsFrom.of h State.answerTimeout rfl (State.answerTimeout_of ht)
  · exact EndsFrom.of h State.answerTimeout rfl (State.answerTimeout_not ht)
  · exact EndsFrom.of h State.answerLimitExpiry rfl (State.answerLimitExpiry_of ht)
  · exact EndsFrom.of h State.answerLimitExpiry rfl (State.answerLimitExpiry_not ht)
  · rintro s e ⟨-, hw, -⟩ he
    obtain ⟨hs, hn, hout, hq⟩ := State.missed_spec he
    have hnode : ∀ m, s.missed.jobs.node m = (s.jobs.nodeMissed e.node).node m := fun m => by
      unfold Jobs.node
      rw [hn]
    have hat := fun m => (hnode m).trans (Jobs.nodeMissed_node hw e.node m)
    refine ⟨hs, fun n hne => (hat n).trans (if_neg fun h => hne h.1),
      fun hc => (hat _).trans (if_neg fun h => absurd (hc.symm.trans h.2) (by decide)), fun hr => ?_, hq⟩
    rw [hat, if_pos ⟨rfl, hr⟩]
    refine ⟨fun hu => by rw [hu], fun hl => by rw [hl], fun hwa => ⟨fun hm => ?_, fun hm => ⟨?_, ?_⟩⟩⟩
    · rcases hwa with hwa | hwa <;> simp [hwa, hm]
    · rcases hwa with hwa | hwa <;> simp [hwa, Nat.not_lt.mpr hm]
    · obtain ⟨dev, line, h⟩ := Jobs.nodeMissed_lost hr hwa hm
      exact ⟨dev, line, hout _ h⟩

end

section
/-! PROOFS. Frames and commands (chapter 13): the fields of the words that REQUEST, AHEAD and SERVICE payloads begin with,
which command takes which frame (O5, O6), and frames as characters (O7). -/

namespace Sys2Proof.Machine

open Sys2Proof

/-! ### Word 0 of a REQUEST (13.2) -/

theorem requestWord_toNat {c : Nat} (arg : Byte) (hc : c < 256) : (requestWord c arg).toNat = c * 256 + arg.toNat := by
  have := arg.isLt
  unfold requestWord
  rw [BitVec.toNat_ofNat, Nat.mod_eq_of_lt (by omega)]

theorem requestWord_code {c : Nat} (arg : Byte) (hc : c < 256) : (requestWord c arg).toNat / 256 = c := by
  have := arg.isLt
  rw [requestWord_toNat arg hc]
  omega

theorem requestWord_arg {c : Nat} (arg : Byte) (hc : c < 256) : BitVec.ofNat 8 (requestWord c arg).toNat = arg := by
  have := arg.isLt
  apply BitVec.eq_of_toNat_eq
  rw [BitVec.toNat_ofNat, requestWord_toNat arg hc]
  omega

/-- A word is that of its own code and argument. -/
theorem requestWord_of (w : Word) : requestWord (w.toNat / 256) (BitVec.ofNat 8 w.toNat) = w := by
  have := w.isLt
  apply BitVec.eq_of_toNat_eq
  rw [requestWord_toNat _ (by omega), BitVec.toNat_ofNat]
  omega

/-! ### Word 0 of an AHEAD (13.2) -/

theorem aheadWord_toNat (a : Announcement) (k : BitVec 4) :
    (aheadWord a k).toNat = a.number.toNat * 256 + k.toNat * 16 + a.target.toNat := by
  have := a.number.isLt
  have := a.target.isLt
  have := k.isLt
  unfold aheadWord
  rw [BitVec.toNat_ofNat, Nat.mod_eq_of_lt (by omega)]

theorem aheadWord_number (a : Announcement) (k : BitVec 4) : BitVec.ofNat 8 ((aheadWord a k).toNat / 256) = a.number := by
  have := a.number.isLt
  have := a.target.isLt
  have := k.isLt
  apply BitVec.eq_of_toNat_eq
  rw [BitVec.toNat_ofNat, aheadWord_toNat]
  omega

theorem aheadWord_kind (a : Announcement) (k : BitVec 4) : BitVec.ofNat 4 ((aheadWord a k).toNat / 16) = k := by
  have := a.number.isLt
  have := a.target.isLt
  have := k.isLt
  apply BitVec.eq_of_toNat_eq
  rw [BitVec.toNat_ofNat, aheadWord_toNat]
  omega

theorem aheadWord_target (a : Announcement) (k : BitVec 4) : BitVec.ofNat 4 (aheadWord a k).toNat = a.target := by
  have := a.number.isLt
  have := a.target.isLt
  have := k.isLt
  apply BitVec.eq_of_toNat_eq
  rw [BitVec.toNat_ofNat, aheadWord_toNat]
  omega

/-- A word is that of its own number, kind and target. -/
theorem aheadWord_of (w : Word) (a : Announcement) (hn : a.number = BitVec.ofNat 8 (w.toNat / 256))
    (ht : a.target = BitVec.ofNat 4 w.toNat) : aheadWord a (BitVec.ofNat 4 (w.toNat / 16)) = w := by
  have := w.isLt
  apply BitVec.eq_of_toNat_eq
  rw [aheadWord_toNat, hn, ht]
  simp only [BitVec.toNat_ofNat]
  omega

/-! ### Word 0 of a SERVICE (13.3) -/

theorem serviceWord_toNat {op : Nat} (c : SvcControl) (h : op < 8) : (serviceWord op c).toNat =
    op * 8192 + c.reply.toNat * 4096 + c.field.toNat * 64 + c.spare.toNat * 16 + c.cnt.toNat := by
  have := c.field.isLt
  have := c.spare.isLt
  have := c.cnt.isLt
  unfold serviceWord
  rw [BitVec.toNat_ofNat]
  cases c.reply <;> simp only [Bool.toNat_true, Bool.toNat_false, if_true, if_false, Bool.false_eq_true] <;> omega

theorem serviceWord_op {op : Nat} (c : SvcControl) (h : op < 8) : (serviceWord op c).toNat / 8192 = op := by
  have := c.field.isLt
  have := c.spare.isLt
  have := c.cnt.isLt
  have := c.reply.toNat_le
  rw [serviceWord_toNat c h]
  omega

/-- Bit 12 of a word as a number. -/
theorem bit12_toNat (w : Word) : (w.getLsbD 12).toNat = w.toNat / 4096 % 2 := by
  rw [BitVec.getLsbD, Nat.testBit_eq_decide_div_mod_eq]
  have := Nat.mod_two_eq_zero_or_one (w.toNat / 2 ^ 12)
  rcases this with h | h
  · rw [h]; simp only [zero_ne_one, decide_false, Bool.toNat_false]; omega
  · rw [h]; simp only [decide_true, Bool.toNat_true]; omega

theorem serviceControl_serviceWord {op : Nat} (c : SvcControl) (h : op < 8) : serviceControl (serviceWord op c) = c := by
  have hn := serviceWord_toNat c h
  have hf := c.field.isLt
  have hs := c.spare.isLt
  have hc := c.cnt.isLt
  have hr := c.reply.toNat_le
  have e1 : (serviceWord op c).getLsbD 12 = c.reply := by
    have hb := bit12_toNat (serviceWord op c)
    rw [hn] at hb
    cases h1 : (serviceWord op c).getLsbD 12 <;> cases h2 : c.reply <;> simp only [h1, h2, Bool.toNat_true,
      Bool.toNat_false] at hb ⊢ <;> omega
  have e2 : BitVec.ofNat 6 ((serviceWord op c).toNat / 64) = c.field := by
    apply BitVec.eq_of_toNat_eq
    rw [BitVec.toNat_ofNat, hn]
    omega
  have e3 : BitVec.ofNat 2 ((serviceWord op c).toNat / 16) = c.spare := by
    apply BitVec.eq_of_toNat_eq
    rw [BitVec.toNat_ofNat, hn]
    omega
  have e4 : BitVec.ofNat 4 (serviceWord op c).toNat = c.cnt := by
    apply BitVec.eq_of_toNat_eq
    rw [BitVec.toNat_ofNat, hn]
    omega
  unfold serviceControl
  rw [e1, e2, e3, e4]

/-- A word is that of its own operation and control. -/
theorem serviceWord_of (w : Word) : serviceWord (w.toNat / 8192) (serviceControl w) = w := by
  have hw := w.isLt
  apply BitVec.eq_of_toNat_eq
  rw [serviceWord_toNat _ (by omega)]
  simp only [serviceControl, bit12_toNat, BitVec.toNat_ofNat]
  omega

/-! ### The command of a command's frame -/

theorem Header.frame_header (h : Header) (k : Kind) (ws : List Word) : (h.frame k ws).header = h := rfl
theorem Frame.header_frame (f : Frame) : f.header.frame f.kind f.payload = f := rfl

/-- 13.2: the row that takes a REQUEST frame with a known code, by the code. -/
def requestRow (h : Header) (arg : Byte) (extra : List Word) : Nat → Option Instr
  | 1 => some (.breakerClose h arg extra)
  | 2 => some (.breakerOpen h arg extra)
  | 3 => some (.select h arg extra)
  | 4 => some (.energise h arg extra)
  | 5 => some (.changeoverResume h arg extra)
  | 6 => some (.changeoverAbort h arg extra)
  | 7 => some (.raise h arg extra)
  | 8 => some (.lower h arg extra)
  | 9 => some (.faultClear h arg extra)
  | 10 => some (.iceMode h arg extra)
  | 11 => some (if arg = 0 then .lowerAllOff h extra else .lowerAllOn h arg extra)
  | 12 => some (if arg = 0 then .holdOff h extra else .holdOn h arg extra)
  | _ => none

theorem commandOf_request {h : Header} {c : Nat} {arg : Byte} {extra : List Word} {i : Instr} (hc : c < 256)
    (hr : requestRow h arg extra c = some i) : commandOf .train (requestFrame h c arg extra) = i := by
  show requestCommand h (requestWord c arg :: extra) = _
  simp only [requestCommand, requestWord_arg arg hc, requestWord_code arg hc]
  unfold requestRow at hr
  split at hr
  case h_13 => exact nomatch hr
  all_goals exact Option.some.inj hr

/-- 13.2: a REQUEST frame that names no request. -/
theorem commandOf_request_unknown (h : Header) (payload : List Word) (hn : payload.head?.any namesRequest = false) :
    commandOf .train (h.frame .request payload) = .requestUnknown h payload := by
  show requestCommand h payload = _
  cases payload with
  | nil => rfl
  | cons w extra =>
    have hw : ¬ (1 ≤ w.toNat / 256 ∧ w.toNat / 256 ≤ 12) := by simpa [namesRequest] using hn
    unfold requestCommand
    dsimp only
    split <;> first | omega | rfl

/-- 13.2: an AHEAD frame is taken by the command of its kind code. -/
theorem commandOf_ahead (h : Header) (k : BitVec 4) (a : Announcement) :
    commandOf .train (aheadFrame h k a) = match k.toNat with
      | 0 => .aheadNeutral h a
      | 1 => .aheadBoundary h a
      | 2 => .aheadCancel h a
      | 4 => .aheadIceZone h a
      | _ => .aheadSpeed h k a := by
  show aheadCommand h (aheadWord a k :: a.distance :: a.length :: a.speed :: a.tail :: a.extra) = _
  simp only [aheadCommand, aheadWord_number, aheadWord_kind, aheadWord_target] <;> rfl

/-- R194: an AHEAD frame too short for its layout. -/
theorem commandOf_ahead_short (h : Header) (payload : List Word) (hs : payload.length < 5) :
    commandOf .train (h.frame .ahead payload) = .shortAheadFrame h payload := by
  show aheadCommand h payload = _
  unfold aheadCommand
  split
  · simp only [List.length_cons] at hs
    omega
  · rfl

/-- 13.3: the row that takes a SERVICE frame by its operation, where it holds the words the operation needs. -/
def serviceRow (h : Header) (c : SvcControl) : Nat → List Word → Option Instr
  | 0, addr :: extra => some (.serviceRead h c addr extra)
  | 1, addr :: data => if c.cnt.toNat + 1 ≤ data.length then some (.serviceWrite h c addr data) else none
  | 2, addr :: data :: extra => some (.serviceCheckWrite h c addr data extra)
  | 3, addr :: low :: high :: extra => some (.serviceClearFlags h c addr low high extra)
  | 4, extra => some (.serviceRearm h c extra)
  | 5, extra => some (.serviceCommission h c extra)
  | 6, extra => some (.serviceRestart h c extra)
  | _, _ => none

theorem serviceCommand_cons (h : Header) (w : Word) (rest : List Word) : serviceCommand h (w :: rest)
    = (serviceRow h (serviceControl w) (w.toNat / 8192) rest).getD (.serviceUnknown h (w :: rest)) := by
  have hop : w.toNat / 8192 < 8 := by have := w.isLt; omega
  unfold serviceCommand serviceRow
  dsimp only
  generalize w.toNat / 8192 = op at hop
  match op, rest with
  | 0, [] | 0, _ :: _ | 1, [] | 2, [] | 2, [_] | 2, _ :: _ :: _ | 3, [] | 3, [_] | 3, [_, _] | 3, _ :: _ :: _ :: _ => rfl
  | 1, _ :: data =>
    by_cases hd : (serviceControl w).cnt.toNat + 1 ≤ data.length <;>
      simp only [hd, if_true, if_false, Option.getD_some, Option.getD_none]
  | 4, _ | 5, _ | 6, _ | 7, _ => rfl
  | n + 8, _ => omega

/-- R186: a row takes a SERVICE frame exactly where it names an operation and holds the operation's words. -/
theorem serviceRow_isSome (h : Header) (w : Word) (rest : List Word) :
    (serviceRow h (serviceControl w) (w.toNat / 8192) rest).isSome = serviceComplete (w :: rest) := by
  have hop : w.toNat / 8192 < 8 := by have := w.isLt; omega
  have hcnt : (serviceControl w).cnt.toNat = w.toNat % 16 := BitVec.toNat_ofNat _ _
  unfold serviceComplete serviceRow
  dsimp only
  generalize w.toNat / 8192 = op at hop
  match op, rest with
  | 0, [] | 1, [] | 2, [] | 2, [_] | 3, [] | 3, [_] | 3, [_, _] => rfl
  | 0, _ :: _ | 2, _ :: _ :: _ | 3, _ :: _ :: _ :: _ => simp
  | 1, _ :: data =>
    simp only [List.length_cons, hcnt]
    split
    next hd => exact (decide_eq_true (by omega)).symm
    next hd => exact (decide_eq_false (by omega)).symm
  | 4, _ | 5, _ | 6, _ | 7, _ => rfl
  | n + 8, _ => omega

theorem commandOf_service {h : Header} {op : Nat} {c : SvcControl} {rest : List Word} {i : Instr} (ho : op < 8)
    (hr : serviceRow h c op rest = some i) : commandOf .train (serviceFrame h op c rest) = i := by
  show serviceCommand h (serviceWord op c :: rest) = _
  rw [serviceCommand_cons, serviceControl_serviceWord c ho, serviceWord_op c ho, hr]
  rfl

/-- R186: a SERVICE frame that names no operation or is too short for it. -/
theorem serviceCommand_unknown (h : Header) (payload : List Word) (hn : serviceComplete payload = false) :
    serviceCommand h payload = .serviceUnknown h payload := by
  cases payload with
  | nil => rfl
  | cons w rest =>
    have hs : serviceRow h (serviceControl w) (w.toNat / 8192) rest = none :=
      Option.isSome_eq_false_iff.mp ((serviceRow_isSome h w rest).trans hn) |> Option.isNone_iff_eq_none.mp
    rw [serviceCommand_cons, hs]
    rfl

theorem commandOf_misdirected (p : Port) (k : Kind) (h : Header) (payload : List Word) (hn : p.accepts k = false) :
    commandOf p (h.frame k payload) = .misdirectedFrame p k h payload := by
  cases p <;> cases k <;> first | rfl | exact nomatch hn

/-! ### The frame of a frame's command -/

/-- A frame's command, well-formed, names that frame. -/
def Names (p : Port) (f : Frame) (i : Instr) : Prop := i.wellFormed = true ∧ i.frame? = some (p, f)

theorem names_request (f : Frame) (hk : f.kind = .request) (hl : f.payload.length ≤ 16) :
    Names .train f (requestCommand f.header f.payload) := by
  obtain ⟨kind, flags, point, seq, payload⟩ := f
  subst hk
  cases payload with
  | nil => exact ⟨rfl, rfl⟩
  | cons w extra =>
    have hw := requestWord_of w
    have hfit : fitsFrame (extra.length + 1) = true := decide_eq_true hl
    unfold Names requestCommand
    dsimp only
    split
    case h_11 h | h_12 h =>
      rw [h] at hw
      split
      next ha => exact ⟨hfit, by rw [ha] at hw; simp only [Instr.frame?, requestFrame, hw]; rfl⟩
      next ha =>
        exact ⟨Bool.and_eq_true_iff.mpr ⟨hfit, decide_eq_true ha⟩, by simp only [Instr.frame?, requestFrame, hw]; rfl⟩
    case h_13 h1 h2 h3 h4 h5 h6 h7 h8 h9 h10 h11 h12 =>
      refine ⟨?_, rfl⟩
      have : ¬ (1 ≤ w.toNat / 256 ∧ w.toNat / 256 ≤ 12) := by
        rintro ⟨hlo, hhi⟩
        generalize w.toNat / 256 = c at hlo hhi h1 h2 h3 h4 h5 h6 h7 h8 h9 h10 h11 h12
        interval_cases c <;> contradiction
      simp only [Instr.wellFormed, List.length_cons, hfit, List.head?_cons, Option.any_some, namesRequest, Bool.true_and,
        decide_eq_false this, Bool.not_false]
    all_goals
      rename_i h
      rw [h] at hw
      exact ⟨hfit, by simp only [Instr.frame?, requestFrame, hw]; rfl⟩

theorem exists_cons_of_five_le {α : Type} {l : List α} (h : 5 ≤ l.length) :
    ∃ a b c d e r, l = a :: b :: c :: d :: e :: r := by
  match l, h with
  | a :: b :: c :: d :: e :: r, _ => exact ⟨a, b, c, d, e, r, rfl⟩

theorem names_ahead (f : Frame) (hk : f.kind = .ahead) (hl : f.payload.length ≤ 16) :
    Names .train f (aheadCommand f.header f.payload) := by
  obtain ⟨kind, flags, point, seq, payload⟩ := f
  subst hk
  unfold Names aheadCommand
  dsimp only
  split
  next w distance length speed tail extra =>
    have hfit : fitsFrame (extra.length + 5) = true := decide_eq_true hl
    set a : Announcement := { number := BitVec.ofNat 8 (w.toNat / 256), target := BitVec.ofNat 4 w.toNat,
                              distance := distance, length := length, speed := speed, tail := tail, extra := extra } with ha
    have hw : aheadWord a (BitVec.ofNat 4 (w.toNat / 16)) = w := aheadWord_of w a rfl rfl
    generalize hc : BitVec.ofNat 4 (w.toNat / 16) = code at hw ⊢
    split
    case h_5 h0 h1 h2 h4 =>
      refine ⟨?_, by simp only [Instr.frame?, aheadFrame, hw]; rfl⟩
      simp only [Instr.wellFormed, Bool.and_eq_true, decide_eq_true_eq]
      exact ⟨hfit, fun h => h0 (by rw [h]; rfl), fun h => h1 (by rw [h]; rfl), fun h => h2 (by rw [h]; rfl),
        fun h => h4 (by rw [h]; rfl)⟩
    all_goals
      rename_i h
      have he : code = BitVec.ofNat 4 code.toNat := BitVec.eq_of_toNat_eq (by simp)
      rw [h] at he
      rw [he] at hw
      exact ⟨hfit, by simp only [Instr.frame?, aheadFrame]; exact congrArg (fun w => some (Port.train, Header.frame _ _ (w :: _))) hw⟩
  next hp =>
    refine ⟨decide_eq_true (Nat.lt_of_not_le fun h5 => ?_), rfl⟩
    obtain ⟨a, b, c, d, e, r, hr⟩ := exists_cons_of_five_le h5
    exact hp a b c d e r hr

/-- A row that takes a SERVICE frame of at most 16 words names it. -/
theorem names_serviceRow {h : Header} {c : SvcControl} {op : Nat} {rest : List Word} {i : Instr}
    (hr : serviceRow h c op rest = some i) (hl : rest.length + 1 ≤ 16) : Names .train (serviceFrame h op c rest) i := by
  unfold serviceRow at hr
  unfold Names
  split at hr
  case h_2 =>
    split at hr
    next hd =>
      cases hr
      exact ⟨Bool.and_eq_true_iff.mpr ⟨decide_eq_true hl, decide_eq_true hd⟩, rfl⟩
    next => exact nomatch hr
  case h_8 => exact nomatch hr
  all_goals
    cases hr
    exact ⟨decide_eq_true hl, rfl⟩

theorem names_service (f : Frame) (hk : f.kind = .service) (hl : f.payload.length ≤ 16) :
    Names .train f (serviceCommand f.header f.payload) := by
  obtain ⟨kind, flags, point, seq, payload⟩ := f
  subst hk
  cases hc : serviceComplete payload with
  | false =>
    rw [serviceCommand_unknown _ _ hc]
    exact ⟨by simp [Instr.wellFormed, hc, fitsFrame]; exact hl, rfl⟩
  | true =>
    cases payload with
    | nil => exact nomatch hc
    | cons w rest =>
      set h : Header := _
      obtain ⟨i, hi⟩ := Option.isSome_iff_exists.mp ((serviceRow_isSome h w rest).trans hc)
      have hn := names_serviceRow hi hl
      rw [show serviceFrame h (w.toNat / 8192) (serviceControl w) rest = _ from
        congrArg (fun w => h.frame .service (w :: rest)) (serviceWord_of w)] at hn
      rw [serviceCommand_cons, hi]
      exact hn

/-! ### Characters -/

theorem charsWord_of (w : Word) : charsWord (BitVec.ofNat 8 (w.toNat / 256)) (BitVec.ofNat 8 w.toNat) = w := by
  have := w.isLt
  apply BitVec.eq_of_toNat_eq
  simp only [charsWord, BitVec.toNat_ofNat]
  omega

theorem wordsOf_wordChars (ws : List Word) : wordsOf (ws.flatMap wordChars) = ws := by
  induction ws with
  | nil => rfl
  | cons w ws ih =>
    show charsWord _ _ :: wordsOf (ws.flatMap wordChars) = _
    rw [ih, charsWord_of]

theorem length_flatMap_wordChars (ws : List Word) : (ws.flatMap wordChars).length = 2 * ws.length := by
  induction ws with
  | nil => rfl
  | cons w ws ih =>
    simp only [List.flatMap_cons, List.length_append, ih, List.length_cons, wordChars, List.length_nil]
    omega

theorem Frame.body_eq (f : Frame) :
    f.body = BitVec.ofNat 8 (f.kind.code * 32 + f.flags.toNat) :: BitVec.ofNat 8 (f.point.toNat / 256) ::
      BitVec.ofNat 8 f.point.toNat :: f.seq :: BitVec.ofNat 8 f.payload.length :: f.payload.flatMap wordChars := rfl

theorem Frame.body_length (f : Frame) : f.body.length = 5 + 2 * f.payload.length := by
  rw [Frame.body_eq]
  simp only [List.length_cons, length_flatMap_wordChars]
  omega

theorem descriptor_toNat (k : Kind) (flags : BitVec 5) :
    (BitVec.ofNat 8 (k.code * 32 + flags.toNat)).toNat = k.code * 32 + flags.toNat := by
  have := flags.isLt
  rw [BitVec.toNat_ofNat, Nat.mod_eq_of_lt]
  cases k <;> simp only [Kind.code] <;> omega

theorem kindOf_code (k : Kind) : kindOf k.code = k := by
  cases k <;> rfl

theorem getD_append_add (l r : List Byte) (n k : Nat) (d : Byte) (h : l.length = n) : (l ++ r).getD (n + k) d = r.getD k d := by
  subst h
  rw [List.getD_eq_getElem?_getD, List.getElem?_append_right (by omega), Nat.add_sub_cancel_left, ← List.getD_eq_getElem?_getD]

/-- R131: what a frame's characters with two more are read as. -/
theorem parseFrame_body (f : Frame) (hi lo : Byte) (h : f.payload.length ≤ 16) :
    parseFrame (f.body ++ [hi, lo]) = if charsWord hi lo = checkWord f.body then some f else none := by
  have hlen := Frame.body_length f
  have hct : (BitVec.ofNat 8 f.payload.length).toNat = f.payload.length := by
    rw [BitVec.toNat_ofNat]; omega
  have htake : (f.body ++ [hi, lo]).take (5 + 2 * f.payload.length) = f.body := by rw [← hlen, List.take_left]
  have hhi : (f.body ++ [hi, lo]).getD (5 + 2 * f.payload.length) 0 = hi := getD_append_add _ _ _ 0 _ hlen
  have hlo : (f.body ++ [hi, lo]).getD (6 + 2 * f.payload.length) 0 = lo := by
    rw [show 6 + 2 * f.payload.length = 5 + 2 * f.payload.length + 1 by omega]
    exact getD_append_add _ _ _ 1 _ hlen
  have hdrop : ((f.body ++ [hi, lo]).drop 5).take (2 * f.payload.length) = f.payload.flatMap wordChars := by
    rw [Frame.body_eq]
    show ((f.payload.flatMap wordChars) ++ [hi, lo]).take _ = _
    rw [← length_flatMap_wordChars, List.take_left]
  have hsize : (f.body ++ [hi, lo]).length = 5 + 2 * f.payload.length + 2 := by simp [hlen]
  have hshape : ∃ rest, f.body ++ [hi, lo] = BitVec.ofNat 8 (f.kind.code * 32 + f.flags.toNat) ::
      BitVec.ofNat 8 (f.point.toNat / 256) :: BitVec.ofNat 8 f.point.toNat :: f.seq ::
      BitVec.ofNat 8 f.payload.length :: rest := ⟨_, by rw [Frame.body_eq]; rfl⟩
  obtain ⟨rest, hshape⟩ := hshape
  have hflags := f.flags.isLt
  have hkind : kindOf ((f.kind.code * 32 + f.flags.toNat) / 32) = f.kind := by
    rw [show (f.kind.code * 32 + f.flags.toNat) / 32 = f.kind.code by omega, kindOf_code]
  have hfl : BitVec.ofNat 5 (f.kind.code * 32 + f.flags.toNat) = f.flags := by
    apply BitVec.eq_of_toNat_eq
    rw [BitVec.toNat_ofNat]
    omega
  rw [hshape] at htake hhi hlo hdrop hsize ⊢
  unfold parseFrame
  dsimp only
  rw [hct, htake, hhi, hlo, hdrop, hsize, descriptor_toNat, hkind, hfl, charsWord_of, wordsOf_wordChars]
  by_cases hc : charsWord hi lo = checkWord f.body
  · rw [if_pos hc, if_pos ⟨by unfold Config.frameChars; omega, h, rfl, hc.symm⟩]
  · rw [if_neg hc, if_neg fun ⟨_, _, _, hx⟩ => hc hx.symm]

end Sys2Proof.Machine

open Sys2Proof Sys2Proof.Machine

/-- Settles O5: the frame each command names, by the row that takes frames of its kind. -/
theorem commandOfItsFrame : Obligations.CommandOfItsFrame := by
  unfold Obligations.CommandOfItsFrame
  intro i p f hw hf
  cases i <;> simp only [Instr.frame?, Option.some.injEq, Prod.mk.injEq, reduceCtorEq] at hf
  all_goals obtain ⟨rfl, rfl⟩ := hf
  case misdirectedFrame p k h payload =>
    exact commandOf_misdirected p k h payload (by simpa using (Bool.and_eq_true_iff.mp hw).1)
  case roofMeasureFrame | roofAnswerFrame | trainOrder | trainQuery => rfl
  case requestUnknown h payload =>
    exact commandOf_request_unknown h payload (by simpa using (Bool.and_eq_true_iff.mp hw).2)
  case lowerAllOn h arg extra | holdOn h arg extra =>
    have ha : arg ≠ 0 := by simpa using (Bool.and_eq_true_iff.mp hw).2
    exact commandOf_request (by decide) (congrArg some (if_neg ha))
  case lowerAllOff h extra | holdOff h extra => exact commandOf_request (by decide) rfl
  case aheadNeutral h a | aheadBoundary h a | aheadCancel h a | aheadIceZone h a => exact commandOf_ahead h _ a
  case aheadSpeed h code a =>
    rw [commandOf_ahead h code a]
    obtain ⟨h0, h1, h2, h4⟩ : code ≠ 0 ∧ code ≠ 1 ∧ code ≠ 2 ∧ code ≠ 4 := by
      simpa using (Bool.and_eq_true_iff.mp hw).2
    split
    next h => exact absurd (BitVec.eq_of_toNat_eq h) h0
    next h => exact absurd (BitVec.eq_of_toNat_eq h) h1
    next h => exact absurd (BitVec.eq_of_toNat_eq h) h2
    next h => exact absurd (BitVec.eq_of_toNat_eq h) h4
    next => rfl
  case serviceRead h c addr extra | serviceCheckWrite h c addr data extra | serviceClearFlags h c addr low high extra |
      serviceRearm h c extra | serviceCommission h c extra | serviceRestart h c extra =>
    exact commandOf_service (by decide) rfl
  case serviceWrite h c addr data =>
    exact commandOf_service (by decide) (if_pos (by simpa using (Bool.and_eq_true_iff.mp hw).2))
  case serviceUnknown h payload =>
    exact serviceCommand_unknown h payload (by simpa using (Bool.and_eq_true_iff.mp hw).2)
  case shortAheadFrame h payload => exact commandOf_ahead_short h payload (of_decide_eq_true hw)
  all_goals exact commandOf_request (by decide) rfl

/-- Settles O6: the row that takes a frame names it, by the frame's port and kind. -/
theorem frameOfItsCommand : Obligations.FrameOfItsCommand := by
  unfold Obligations.FrameOfItsCommand
  intro p f hl
  have hfit : fitsFrame f.payload.length = true := decide_eq_true hl
  show Names p f (commandOf p f)
  cases p <;> cases hk : f.kind <;> simp only [commandOf, hk]
  case train.request => exact names_request f hk hl
  case train.ahead => exact names_ahead f hk hl
  case train.service => exact names_service f hk hl
  all_goals exact ⟨by simp [Instr.wellFormed, hfit, Port.accepts], by
    rw [← Frame.header_frame f, hk]; rfl⟩

/-- Settles O7: `parseFrame_body`, at the frame's own check word and at any. -/
theorem framesFromCharacters : Obligations.FramesFromCharacters := by
  unfold Obligations.FramesFromCharacters
  intro f hi lo h
  refine ⟨?_, ?_, parseFrame_body f hi lo h⟩
  · simp only [Frame.chars, List.length_append, Frame.body_length f, wordChars, List.length_cons, List.length_nil]
    omega
  · exact (parseFrame_body f _ _ h).trans (if_pos (charsWord_of _))

end

section
/-! PROOFS. The outputs follow their sources at every step (O15): what the blocks other than the Output Composer leave of
its record, what one following of it makes of the pending points and of INTERLOCK_HELD, and which commands end a step. -/

namespace Sys2Proof.Machine

open Sys2Proof

/-! ### The record of the OC is its own -/

variable (j : Jobs)

@[simp] theorem Jobs.push_oc (c : Change) : (j.push c).oc = j.oc := rfl
@[simp] theorem Jobs.report_oc (r : Report) : (j.report r).oc = j.oc := rfl
@[simp] theorem Jobs.flag_oc (f : Flag) (n : Nat) : (j.flag f n).oc = j.oc := rfl
@[simp] theorem Jobs.load_oc (i : TimerId) (n : Nat) (m : TimerMode) : (j.load i n m).oc = j.oc := rfl
@[simp] theorem Jobs.stop_oc (i : TimerId) : (j.stop i).oc = j.oc := rfl
@[simp] theorem Jobs.onTimer_oc (i : TimerId) (f : Timer → Timer) : (j.onTimer i f).oc = j.oc := rfl
@[simp] theorem Jobs.csTo_oc (s : CsState) : (j.csTo s).oc = j.oc := rfl
@[simp] theorem Jobs.adoptTarget_oc (k : Fin 8) : (j.adoptTarget k).oc = j.oc := rfl

@[simp] theorem Jobs.setPanto_oc (x : Panto) (r : PantoRec) : (j.setPanto x r).oc = j.oc := by cases x <;> rfl
@[simp] theorem Jobs.moveP_oc (x : Panto) (r : PantoRec) : (j.moveP x r).oc = j.oc := by simp [Jobs.moveP]

theorem Jobs.foldl_oc {α : Type} (g : Jobs → α → Jobs) (hg : ∀ j a, (g j a).oc = j.oc) (as : List α) :
    (as.foldl g j).oc = j.oc := by
  induction as generalizing j with
  | nil => rfl
  | cons a as ih => exact (ih (g j a)).trans (hg j a)

@[simp] theorem Jobs.touchMap_oc (r : MapRole) : (j.touchMap r).oc = j.oc := Jobs.touchAll_oc _ j
@[simp] theorem Jobs.touchMaps_oc (rs : List MapRole) : (j.touchMaps rs).oc = j.oc :=
  Jobs.foldl_oc j _ (fun k r => Jobs.touchMap_oc k r) rs
@[simp] theorem Jobs.touchLine_oc (k : Fin 8) : (j.touchLine k).oc = j.oc := Jobs.touchAll_oc _ j
@[simp] theorem Jobs.touchResolve_oc (c : BitVec 4) : (j.touchResolve c).oc = j.oc :=
  Jobs.foldl_oc j _ (fun k i => Jobs.touchLine_oc k i) _
@[simp] theorem Jobs.touchIce_oc (is : List Nat) : (j.touchIce is).oc = j.oc := Jobs.touchAll_oc _ j
@[simp] theorem Jobs.dropStale_oc : j.dropStale.oc = j.oc :=
  Jobs.foldl_oc _ (fun k (g : Feature) => k.flag .featureDiscarded g.subject) (fun _ _ => rfl) _

/-! The Line System Identifier and the Pantograph Controller. -/

@[simp] theorem Jobs.setConfirmed_oc (v : Line) : (j.setConfirmed v).oc = j.oc := by grind [Jobs.setConfirmed, Jobs.push_oc, Jobs.setLsi_oc]
@[simp] theorem Jobs.confirm_oc (v : Line) : (j.confirm v).oc = j.oc := by grind [Jobs.confirm, Jobs.setConfirmed_oc, Jobs.flag_oc]
@[simp] theorem Jobs.lostEntries_oc : j.lostEntries.oc = j.oc := by grind [Jobs.lostEntries, Jobs.confirm_oc, Jobs.setLsi_oc]
@[simp] theorem Jobs.lsiAfresh_oc : j.lsiAfresh.oc = j.oc := by grind [Jobs.lsiAfresh, Jobs.setLsi_oc, Jobs.push_oc]
@[simp] theorem Jobs.lsiRestart_oc : j.lsiRestart.oc = j.oc := by simp [Jobs.lsiRestart]

@[simp] theorem Jobs.touchRaise_oc (x : Panto) : (j.touchRaise x).oc = j.oc := by
  unfold Jobs.touchRaise; split <;> simp
@[simp] theorem Jobs.prepare_oc (x : Panto) (r : Role) : (j.prepare x r).oc = j.oc := by simp [Jobs.prepare]
@[simp] theorem Jobs.raise_oc (x : Panto) (r : Role) (b : Asker) : (j.raise x r b).2.oc = j.oc := by
  unfold Jobs.raise; dsimp only; split <;> simp
@[simp] theorem Jobs.lower_oc (x : Panto) : (j.lower x).oc = j.oc := by unfold Jobs.lower; split <;> simp

/-! The Changeover Sequencer. -/

@[simp] theorem Jobs.setOpen_oc : j.setOpen.oc = j.oc := by unfold Jobs.setOpen; dsimp only; split <;> rfl
@[simp] theorem Jobs.touchConfirmed_oc : j.touchConfirmed.oc = j.oc := by unfold Jobs.touchConfirmed; split <;> simp
@[simp] theorem Jobs.touchTarget_oc : j.touchTarget.oc = j.oc := by unfold Jobs.touchTarget; split <;> simp
@[simp] theorem Jobs.touchClosing_oc : j.touchClosing.oc = j.oc := by simp [Jobs.touchClosing]
@[simp] theorem Jobs.enterHold_oc (r : HoldReason) (step : CsState) : (j.enterHold r step).oc = j.oc := by
  simp [Jobs.enterHold]
@[simp] theorem Jobs.failStep_oc (r : HoldReason) : (j.failStep r).oc = j.oc := Jobs.enterHold_oc j r _
@[simp] theorem Jobs.loadStep_oc (i : Nat) : (j.loadStep i).oc = j.oc := by simp [Jobs.loadStep]
@[simp] theorem Jobs.enterIdle_oc : j.enterIdle.oc = j.oc := by simp [Jobs.enterIdle]
@[simp] theorem Jobs.enterArmed_oc : j.enterArmed.oc = j.oc := by simp [Jobs.enterArmed]
@[simp] theorem Jobs.enterOpening_oc : j.enterOpening.oc = j.oc := by simp [Jobs.enterOpening]
@[simp] theorem Jobs.enterCoasting_oc : j.enterCoasting.oc = j.oc := by
  unfold Jobs.enterCoasting; dsimp only; split
  · split <;> simp
  · simp
@[simp] theorem Jobs.enterLowering_oc : j.enterLowering.oc = j.oc := by simp [Jobs.enterLowering]
@[simp] theorem Jobs.enterSelecting_oc : j.enterSelecting.oc = j.oc := by
  unfold Jobs.enterSelecting; dsimp only; split
  · simp
  · split
    · simp
    · split <;> simp
@[simp] theorem Jobs.noteMade_oc (x : Panto) (was : PState) : (j.noteMade x was).oc = j.oc := by
  unfold Jobs.noteMade; split <;> simp
@[simp] theorem Jobs.enterRaising_oc : j.enterRaising.oc = j.oc := by
  unfold Jobs.enterRaising
  grind [Jobs.raise_oc, Jobs.csTo_oc, Jobs.noteMade_oc, Jobs.setCs_oc, Jobs.enterHold_oc, Jobs.stop_oc, Jobs.touch_oc, Jobs.touchTarget_oc]
@[simp] theorem Jobs.enterIdentifying_oc : j.enterIdentifying.oc = j.oc := by simp [Jobs.enterIdentifying]
@[simp] theorem Jobs.enterClosing_oc : j.enterClosing.oc = j.oc := by
  unfold Jobs.enterClosing; dsimp only; split <;> simp
@[simp] theorem Jobs.takeHead_oc (f : Feature) (rest : List Feature) : (j.takeHead f rest).oc = j.oc := by
  unfold Jobs.takeHead; dsimp only; split <;> simp
@[simp] theorem Jobs.dueCheck_oc : j.dueCheck.oc = j.oc := by
  unfold Jobs.dueCheck; split
  · split <;> simp
  · rfl
@[simp] theorem Jobs.coastToRoof_oc : j.coastToRoof.oc = j.oc := by
  unfold Jobs.coastToRoof; dsimp only; split <;> simp
@[simp] theorem Jobs.coastOver_oc : j.coastOver.oc = j.oc := by unfold Jobs.coastOver; grind [Jobs.coastToRoof_oc, Jobs.enterClosing_oc, Jobs.stop_oc, Jobs.failStep_oc]
@[simp] theorem Jobs.coastingTest_oc : j.coastingTest.oc = j.oc := by
  unfold Jobs.coastingTest; dsimp only; split <;> simp
@[simp] theorem Jobs.loweringTest_oc : j.loweringTest.oc = j.oc := by
  unfold Jobs.loweringTest; dsimp only; split
  · split <;> simp
  · rfl
@[simp] theorem Jobs.selectingTest_oc : j.selectingTest.oc = j.oc := by
  unfold Jobs.selectingTest; grind [Jobs.failStep_oc, Jobs.enterRaising_oc, Jobs.stop_oc, Jobs.setCs_oc]
@[simp] theorem Jobs.raisingTest_oc : j.raisingTest.oc = j.oc := by unfold Jobs.raisingTest; split <;> simp
@[simp] theorem Jobs.identifyingTest_oc : j.identifyingTest.oc = j.oc := by
  unfold Jobs.identifyingTest; grind [Jobs.touchLine_oc, Jobs.adoptTarget_oc, Jobs.enterLowering_oc, Jobs.enterClosing_oc, Jobs.failStep_oc, Jobs.touchResolve_oc]
@[simp] theorem Jobs.closingDone_oc : j.closingDone.oc = j.oc := by
  unfold Jobs.closingDone; dsimp only; split <;> simp
@[simp] theorem Jobs.closingTest_oc : j.closingTest.oc = j.oc := by
  unfold Jobs.closingTest; grind [Jobs.touchClosing_oc, Jobs.setOpen_oc, Jobs.enterRaising_oc, Jobs.failStep_oc, Jobs.closingDone_oc]
@[simp] theorem Jobs.csTest_oc (due : Bool) : (j.csTest due).oc = j.oc := by
  unfold Jobs.csTest; grind [Jobs.enterArmed_oc, Jobs.enterIdle_oc, Jobs.dueCheck_oc, Jobs.enterCoasting_oc, Jobs.coastingTest_oc, Jobs.loweringTest_oc, Jobs.selectingTest_oc, Jobs.raisingTest_oc, Jobs.identifyingTest_oc, Jobs.closingTest_oc]
@[simp] theorem Jobs.csConfirmed_oc : j.csConfirmed.oc = j.oc := by
  unfold Jobs.csConfirmed; grind [Jobs.csTest_oc, Jobs.flag_oc, Jobs.setOpen_oc, Jobs.setCs_oc, Jobs.enterHold_oc, Jobs.touch_oc, Jobs.enterCoasting_oc]
@[simp] theorem Jobs.csBreaker_oc (old new : BreakerFb) : (j.csBreaker old new).oc = j.oc := by
  unfold Jobs.csBreaker; split <;> simp
@[simp] theorem Jobs.csCollectorGone_oc : j.csCollectorGone.oc = j.oc := by
  unfold Jobs.csCollectorGone; dsimp only; split <;> simp
@[simp] theorem Jobs.csPanto_oc (x : Panto) (old new : PState) (role : Role) : (j.csPanto x old new role).oc = j.oc := by
  unfold Jobs.csPanto; grind [Jobs.csCollectorGone_oc, Jobs.enterRaising_oc, Jobs.failStep_oc, Jobs.csTest_oc]
@[simp] theorem Jobs.csLowerAll_oc : j.csLowerAll.oc = j.oc := by unfold Jobs.csLowerAll; split <;> simp
@[simp] theorem Jobs.csReact_oc (c : Change) : (j.csReact c).oc = j.oc := by cases c <;> simp [Jobs.csReact]

/-! The Ice Clearing Controller, as far as its suspension. -/

@[simp] theorem Jobs.loadPhase_oc (x : Panto) (p : HeatPhase) (n : Nat) : (j.loadPhase x p n).oc = j.oc := by
  unfold Jobs.loadPhase; dsimp only; split <;> simp
@[simp] theorem Jobs.restPhase_oc (x : Panto) : (j.restPhase x).oc = j.oc := by simp [Jobs.restPhase]
@[simp] theorem Jobs.nextPhase_oc (x : Panto) (b : Bool) : (j.nextPhase x b).oc = j.oc := by
  unfold Jobs.nextPhase; grind [Jobs.loadPhase_oc, Jobs.restPhase_oc, Jobs.touchIce_oc]
@[simp] theorem Jobs.followCycle_oc (x : Panto) : (j.followCycle x).oc = j.oc := by
  unfold Jobs.followCycle Jobs.startCycle Jobs.supplyCycle Jobs.endCycle; grind [Jobs.nextPhase_oc, Jobs.onTimer_oc, Jobs.stop_oc, Jobs.setIce_oc]
@[simp] theorem Jobs.dropScraper_oc : j.dropScraper.oc = j.oc := by unfold Jobs.dropScraper; split <;> simp
@[simp] theorem Jobs.setMode_oc (m : IceMode) : (j.setMode m).oc = j.oc := by simp [Jobs.setMode]
@[simp] theorem Jobs.leaveTo_oc (m : IceMode) : (j.leaveTo m).oc = j.oc := by unfold Jobs.leaveTo; split <;> simp
@[simp] theorem Jobs.suspendIfMust_oc : j.suspendIfMust.oc = j.oc := by unfold Jobs.suspendIfMust; split <;> simp

@[simp] theorem Jobs.syncFeedback_oc : j.syncFeedback.oc = j.oc := by
  unfold Jobs.syncFeedback; grind [Jobs.push_oc, Jobs.setFb_oc]

end Sys2Proof.Machine

namespace Sys2Proof.Machine

open Sys2Proof

/-! ### One following of the outputs -/

/-- What one following writes into the record of the OC. -/
theorem Jobs.ocFollow_oc (earth : EarthFb) (j : Jobs) :
    (j.ocFollow earth).oc = { j.oc with
      image := j.wanted, sending := j.oc.sendingOf j.wanted, frozen := j.oc.stillFrozen, safe := j.safeNow, earth := earth,
      table := (j.ocFollow earth).oc.table } := by
  rw [Jobs.ocFollow_table]
  unfold Jobs.ocFollow
  dsimp only
  split <;> rfl

/-- R101: INTERLOCK_HELD is reported where an earthing switch that reads closed on a roof that is not safe did not so
before. -/
theorem Jobs.ocFollow_out (earth : EarthFb) (j : Jobs) :
    (j.ocFollow earth).out = j.out ++
      (if (earth = .closed ∧ j.safeNow = false) ∧ ¬ (j.oc.earth = .closed ∧ j.oc.safe = false) then
        [.flag .interlockHeld 18 j.dev j.lsi.confirmed] else []) := by
  unfold Jobs.ocFollow
  dsimp only
  split
  · rename_i h
    rw [if_pos (by simpa [Outputs.earthHeld, ← or_iff_not_imp_left, or_comm, imp_iff_not_or] using h)]
    rfl
  · rename_i h
    rw [if_neg (by simpa [Outputs.earthHeld, ← or_iff_not_imp_left, or_comm, imp_iff_not_or] using h)]
    simp

/-- R104: the value sent for a role while lower-all is on. -/
theorem Image.forced_get (i : Image) (r : OwnedRole) :
    i.forced.get r = if r = .brkTrip then true
      else if r = .isol1 ∨ r = .isol2 ∨ r = .selAc ∨ r = .selDc then i.get r else false := by
  cases r <;> rfl

/-- R105: without a hold released since the OC last followed, an entry's sending values differ where one of its roles
that stands is sent another value. -/
theorem Jobs.differs_held (j : Jobs) (sending : Image) (e : PointEntry) (h : j.oc.released = none) :
    j.differs sending e = true ↔
      ∃ r b, (r, b) ∈ e.owned ∧ j.mapStands r.mapRole = true ∧ j.oc.sending.get r ≠ sending.get r := by
  unfold Jobs.differs
  simp [h]

/-- R111: at the release of a hold, what counts is the frozen value. -/
theorem Jobs.differs_released (j : Jobs) (sending : Image) (e : PointEntry) (was : Image) (h : j.oc.released = some was) :
    j.differs sending e = true ↔
      ∃ r b, (r, b) ∈ e.owned ∧ ¬ (was.get r = true ↔ sending.get r = true ∧ j.mapStands r.mapRole = true) := by
  unfold Jobs.differs
  rw [h, List.any_eq_true]
  refine ⟨fun ⟨⟨r, b⟩, hm, hd⟩ => ⟨r, b, hm, ?_⟩, fun ⟨r, b, hm, hd⟩ => ⟨(r, b), hm, ?_⟩⟩
  · rw [← Bool.and_eq_true, ← Bool.eq_iff_iff]
    exact bne_iff_ne.mp hd
  · rw [← Bool.and_eq_true, ← Bool.eq_iff_iff] at hd
    exact bne_iff_ne.mpr hd

theorem Outputs.released_none (o : Outputs) : o.released = none ↔ o.hold = true ∨ o.frozen = none := by
  unfold Outputs.released
  cases o.hold <;> simp

theorem Outputs.released_some (o : Outputs) (was : Image) : o.released = some was ↔ o.hold = false ∧ o.frozen = some was := by
  unfold Outputs.released
  cases o.hold <;> simp

/-- R105, R111: an entry's sending values differ, by what was held when the OC last followed. -/
theorem Jobs.differs_iff (j : Jobs) (sending : Image) (e : PointEntry) :
    j.differs sending e = true ↔
      ((j.oc.hold = true ∨ j.oc.frozen = none) ∧
        ∃ r b, (r, b) ∈ e.owned ∧ j.mapStands r.mapRole = true ∧ j.oc.sending.get r ≠ sending.get r) ∨
      (j.oc.hold = false ∧ ∃ was r b, j.oc.frozen = some was ∧ (r, b) ∈ e.owned ∧
        ¬ (was.get r = true ↔ sending.get r = true ∧ j.mapStands r.mapRole = true)) := by
  cases h : j.oc.released with
  | none =>
    have hn := (Outputs.released_none _).mp h
    rw [Jobs.differs_held j sending e h]
    constructor
    · exact fun hd => .inl ⟨hn, hd⟩
    · rintro (⟨-, hd⟩ | ⟨hh, was, r, b, hw, -⟩)
      · exact hd
      · simp [hh, hw] at hn
  | some was =>
    obtain ⟨hh, hw⟩ := (Outputs.released_some _ _).mp h
    rw [Jobs.differs_released j sending e was h]
    constructor
    · exact fun ⟨r, b, hd⟩ => .inr ⟨hh, was, r, b, hw, hd⟩
    · rintro (⟨hn, -⟩ | ⟨-, was', r, b, hw', hd⟩)
      · simp [hh, hw] at hn
      · cases hw.symm.trans hw'
        exact ⟨r, b, hd⟩

/-- R111: a hold once compared with is not compared with again. -/
theorem Jobs.ocReact_released (j : Jobs) : j.ocReact.oc.released = none := by
  unfold Jobs.ocReact
  rw [Jobs.ocFollow_oc]
  simp +contextual [Outputs.released, Outputs.stillFrozen]

/-! ### SAFE and the earthing feedback within a step -/

/-- A mark stays, whatever is marked besides. -/
theorem Marked.pending_earth {t u : List PointEntry} (h : Marked t u)
    (ht : ∀ e ∈ t, e.earth ≠ none → e.pending = true) : ∀ e ∈ u, e.earth ≠ none → e.pending = true := by
  obtain ⟨hlen, hmark⟩ := h
  intro e he hearth
  obtain ⟨i, hi, rfl⟩ := List.mem_iff_getElem.mp he
  obtain ⟨e', hu, hp, heq⟩ := hmark i t[i] (List.getElem?_eq_getElem _)
  rw [List.getElem?_eq_getElem hi, Option.some.injEq] at hu
  have hsame : t[i].earth ≠ none := by rw [hu, heq] at hearth; exact hearth
  rw [hu]
  exact hp (ht _ (List.getElem_mem _) hsame)

theorem Flagged.of_prefix {f : Flag} {n : Word} {l m : List Report} (h : Flagged f n l) (hp : l <+: m) : Flagged f n m := by
  obtain ⟨dev, line, hmem⟩ := h
  exact ⟨dev, line, hp.subset hmem⟩

theorem Jobs.ocFollow_flags (earth : EarthFb) (j : Jobs) (he : earth = .closed) (hs : j.safeNow = false)
    (hn : j.oc.safe ≠ j.safeNow) : Flagged .interlockHeld 18 (j.ocFollow earth).out := by
  have hwas : ¬ (j.oc.earth = .closed ∧ j.oc.safe = false) := fun h => hn (h.2.trans hs.symm)
  rw [Jobs.ocFollow_out, if_pos ⟨⟨he, hs⟩, hwas⟩]
  exact ⟨_, _, List.mem_append_right _ (List.mem_singleton.mpr rfl)⟩

/-- The first following of the first change answered. -/
theorem Jobs.pump_first (j : Jobs) (n : Nat) (hr : j.dev = .run) (ht : j.todo ≠ []) :
    ∃ rest, Reacts (j.setTodo rest).ocReact (j.pump (n + 1)) ∧ Held (j.setTodo rest).ocReact (j.pump (n + 1)) := by
  cases h : j.todo with
  | nil => exact absurd h ht
  | cons c rest =>
    have hp : j.pump (n + 1) = Jobs.pump n (((j.setTodo rest).ocReact.react c).levels) := by
      simp only [Jobs.pump, h, Jobs.answer]
      rw [if_pos (by exact hr)]
    rw [hp]
    exact ⟨rest, ((Reacts.react c _).trans (Reacts.levels _)).trans (Reacts.pump n _),
      ((Held.react c _).trans (Held.levels _)).trans (Held.pump n _)⟩

theorem Jobs.ocFollow_dev (earth : EarthFb) (j : Jobs) : (j.ocFollow earth).dev = j.dev := by
  rw [(Jobs.ocFollow_spec earth j _ rfl).1]

/-- The outputs of a rest state: a step's end with nothing to answer. -/
theorem Jobs.pump_nil (n : Nat) (j : Jobs) (h : j.todo = []) : j.pump (n + 1) = j := by simp only [Jobs.pump, h]

theorem State.finish_oc (u : State) : u.finish.jobs.oc = (u.jobs.pump 64).ocSync.oc := by
  obtain ⟨-, -, -, e⟩ := State.finish_spec u
  rw [e]
  rfl

/-- R105, R101: SAFE changed as the step's first change is answered. -/
theorem State.finish_safe (u : State) (hr : u.jobs.dev = .run) (ht : u.jobs.todo ≠ [])
    (hs : u.jobs.oc.safe ≠ u.jobs.safeNow) :
    (∀ e ∈ u.finish.jobs.oc.table, e.earth ≠ none → e.pending = true) ∧
    (u.jobs.safeNow = false → u.jobs.oc.earth = .closed → u.jobs.earthNow ≠ .unknown →
      Flagged .interlockHeld 18 u.jobs.settle.out) := by
  obtain ⟨rest, hreacts, hheld⟩ := Jobs.pump_first u.jobs 63 hr ht
  refine ⟨?_, fun hsafe hearth hknown => ?_⟩
  · rw [State.finish_oc]
    refine ((hreacts.table).trans (Reacts.ocSync _).table).pending_earth ?_
    exact Jobs.ocFollow_safe _ (u.jobs.setTodo rest) hr hs
  · refine Flagged.of_prefix ?_ (hheld.out.trans (Held.ocSync (u.jobs.pump 64)).out)
    exact Jobs.ocFollow_flags _ (u.jobs.setTodo rest) ((if_neg hknown).trans hearth) hsafe hs

/-- R113, R101: SAFE changed with the feedbacks. -/
theorem Jobs.levels_safe (j f : Jobs) (hr : j.dev = .run) (hf : f = (j.lostEntries).syncFeedback)
    (hs : f.safeNow ≠ j.oc.safe) :
    (∀ e ∈ j.levels.oc.table, e.earth ≠ none → e.pending = true) ∧
    (f.safeNow = false → f.earthNow = .closed → Flagged .interlockHeld 18 j.levels.out) := by
  have hoc : f.oc = j.oc := by simp [hf]
  have hdev : f.dev = .run := by rw [hf, (Held.syncFeedback _).dev, (Held.lostEntries j).dev, hr]
  have hs' : f.oc.safe ≠ f.safeNow := by rw [hoc]; exact hs.symm
  have hlev : j.levels = (((((((((((f.ocReact).ocSync).lowerBlind .p1).lowerBlind .p2).iceInputs).ocReact).suspension).ocReact).watch).ocReact).followCycle .p1).followCycle .p2 := by
    rw [hf]; rfl
  have hreacts : Reacts f.ocReact j.levels := by
    rw [hlev]
    grind (ematch := 20) [Reacts.trans, Reacts.ocReact, Reacts.ocSync, Reacts.lowerBlind, Reacts.iceInputs, Reacts.suspension, Reacts.watch, Reacts.followCycle]
  have hheld : Held f.ocReact.ocSync j.levels := by
    rw [hlev]
    grind (ematch := 20) [Held.trans, Held.ocReact, Held.lowerBlind, Held.iceInputs, Held.suspension, Held.watch, Held.followCycle]
  refine ⟨hreacts.table.pending_earth (Jobs.ocFollow_safe _ f hdev hs'), fun hsafe hearth => Flagged.of_prefix ?_ hheld.out⟩
  by_cases h : f.oc.earth = .closed
  · refine Flagged.of_prefix ?_ (Held.ocSync f.ocReact).out
    exact Jobs.ocFollow_flags _ f ((if_neg (by rw [hearth]; decide)).trans h) hsafe hs'
  · obtain ⟨hfields, -, -, hnow, he, -⟩ := Jobs.ocFollow_spec _ f f.ocReact rfl
    have hearth' : f.ocReact.oc.earth = f.oc.earth := he.trans (if_neg (by rw [hearth]; decide))
    have hnow' : f.ocReact.safeNow = false := by rw [hfields]; exact hsafe
    have hea : f.ocReact.earthNow = .closed := by
      have hraw : f.ocReact.oc.earthRaw = f.oc.earthRaw := by
        unfold Jobs.ocReact; rw [Jobs.ocFollow_oc]
      rw [← hearth, hfields]
      unfold Jobs.earthNow
      rw [← hraw]
      rfl
    unfold Jobs.ocSync
    rw [Jobs.ocFollow_out, if_pos ⟨⟨hea, hnow'⟩, fun hc => h (hearth'.symm.trans hc.1)⟩]
    exact ⟨_, _, List.mem_append_right _ (List.mem_singleton.mpr rfl)⟩

/-! ### The sending values within an answer -/

/-- R105: a sending value that the CS's act has changed marks its point, whatever the IC then makes of it. -/
theorem Jobs.react_marks_acted (c : Change) (j m : Jobs) (hm : m = (((j.lostEntries).suspendIfMust).ocReact).csReact c)
    (hr : m.dev = .run) (hn : m.oc.released = none) (i : Nat) (e : PointEntry) (he : m.oc.table[i]? = some e)
    (r : OwnedRole) (b : BitRef) (hb : (r, b) ∈ e.owned) (hs : m.mapStands r.mapRole = true)
    (hd : m.oc.sending.get r ≠ m.ocReact.oc.sending.get r) :
    ∃ e' : PointEntry, (j.react c).oc.table[i]? = some e' ∧ e'.pending = true := by
  obtain ⟨e', hget, hpend⟩ := Jobs.ocFollow_marks _ m hr hn i e he r b hb hs hd
  have ht : Reacts m.ocReact (j.react c) := by
    subst hm
    unfold Jobs.react
    grind (ematch := 20) [Reacts.trans, Reacts.refl, Reacts.ocReact, Reacts.suspension, Reacts.chooseUnlessSuspended]
  obtain ⟨e'', hget', hkeep, -⟩ := ht.table.2 i e' hget
  exact ⟨e'', hget', hkeep hpend⟩

theorem Jobs.react_sending (c : Change) (j f m k : Jobs) (hr : j.dev = .run) (hf : f = (j.lostEntries).suspendIfMust)
    (hm : m = (f.ocReact).csReact c) (hk : k = j.react c) (i : Nat) (e : PointEntry) (r : OwnedRole) (b : BitRef)
    (he : j.oc.table[i]? = some e) (hb : (r, b) ∈ e.owned) :
    ((j.oc.hold = true ∨ j.oc.frozen = none) → f.mapStands r.mapRole = true →
      f.ocReact.oc.sending.get r ≠ j.oc.sending.get r →
      ∃ e' : PointEntry, k.oc.table[i]? = some e' ∧ e'.pending = true) ∧
    (m.mapStands r.mapRole = true → m.ocReact.oc.sending.get r ≠ f.ocReact.oc.sending.get r →
      ∃ e' : PointEntry, k.oc.table[i]? = some e' ∧ e'.pending = true) := by
  have hoc : f.oc = j.oc := by simp [hf]
  have hdev : f.dev = .run := by rw [hf, (Held.suspendIfMust _).dev, (Held.lostEntries j).dev, hr]
  have hmoc : m.oc = f.ocReact.oc := by simp [hm]
  rw [hk]
  refine ⟨fun hn hs hd => ?_, fun hs hd => ?_⟩
  · exact Jobs.react_marks c j f hf hdev ((Outputs.released_none _).mpr (by rwa [hoc])) i e (by rwa [hoc]) r b hb hs
      (by rw [hoc]; exact hd.symm)
  · obtain ⟨e', hget, -, heq⟩ := (Reacts.ocReact f).table.2 i e (by rwa [hoc])
    have hmdev : m.dev = .run := by rw [hm, (Held.csReact c _).dev, Jobs.ocReact, Jobs.ocFollow_dev, hdev]
    exact Jobs.react_marks_acted c j m (by rw [hm, hf]) hmdev (by rw [hmoc]; exact Jobs.ocReact_released f) i e'
      (by rwa [hmoc]) r b (by rw [heq]; exact hb) hs (by rw [hmoc]; exact hd.symm)

/-! ### Every step -/

theorem OutputsFollow.exec {i : Instr} {s t : State} (h : OutputsFollow s) (ht : exec i s = .next t) : OutputsFollow t := by
  by_cases h1 : i = .powerOn
  · subst h1; cases ht; exact OutputsFollow.reset
  by_cases h2 : i = .resetAssert
  · subst h2
    cases ht
    unfold State.resetAssert
    split
    · exact h
    · exact fun hin => nomatch hin
  obtain ⟨v, rfl⟩ | ⟨hj, hin⟩ := exec_ends_or_idles h1 h2 ht
  · exact State.finish_outputs v
  · unfold OutputsFollow at h ⊢
    rwa [hj, hin]

end Sys2Proof.Machine

open Sys2Proof Sys2Proof.Machine

/-- Settles O15: every step but the lines' own ends in one following of the outputs (`exec_ends_or_idles`,
`Jobs.ocFollow_spec`), and what one following marks stays marked (`Reacts`). -/
theorem outputsKeepFollowing : Obligations.OutputsKeepFollowing := by
  unfold Obligations.OutputsKeepFollowing
  refine ⟨fun s t => step_of_exec (fun _ _ h => h) OutputsFollow.exec,
    fun u => ⟨State.finish_oc u, Jobs.pump_nil 63 u.jobs⟩, fun _ => ⟨rfl, rfl⟩, State.finish_safe, Jobs.levels_safe,
    fun c j f m k hr hf hm hk i e r b he hb => Jobs.react_sending c j f m k hr hf hm hk i e r b he hb, ?_⟩
  rintro j k earth rfl
  obtain ⟨hjobs, -, hsend, hsafe, hearth, -, -, hfrozen, -⟩ := Jobs.ocFollow_spec earth j _ rfl
  refine ⟨hjobs, ?_, fun h => ?_, fun h => ?_, fun r => ⟨fun h => ?_, fun h1 h2 i h3 => ?_, fun h1 h2 => ?_⟩, ?_,
    fun i e he => ?_, fun before after hb ha => ?_⟩
  · rw [hsend, hfrozen]
    exact Jobs.ocFollow_oc earth j
  · rw [hfrozen, Outputs.stillFrozen, if_pos h]
  · rw [hfrozen, Outputs.stillFrozen, if_neg (by simp [h])]
  · rw [hsend, Outputs.sendingOf, if_pos h, Image.forced_get]
  · rw [hsend, Outputs.sendingOf, if_neg (by simp [h1]), if_pos h2, h3]
    rfl
  · rw [hsend, Outputs.sendingOf, if_neg (by simp [h1]), if_neg (by simp [h2])]
  · rw [Jobs.ocFollow_table, List.length_map]
  · rw [Jobs.ocFollow_table, List.getElem?_map, he]
    refine ⟨_, rfl, rfl, ?_⟩
    rw [hsafe, hsend]
    simp only [Bool.or_eq_true, Bool.and_eq_true, beq_iff_eq, bne_iff_ne, Jobs.differs_iff, Option.isSome_iff_ne_none,
      or_assoc, ne_comm (a := j.safeNow)]
  · rw [Jobs.ocFollow_out]
    rw [hearth, hsafe] at ha
    refine ⟨fun h1 h2 => ?_, fun h => ?_⟩
    · rw [if_pos ⟨ha.mp h1, fun h => h2 (hb.mpr h)⟩]
    · rw [if_neg, List.append_nil]
      rintro ⟨h1, h2⟩
      rcases h with h | h
      · exact h2 (hb.mp h)
      · exact h (ha.mpr h1)

end

section
/-! PROOFS. Rules about the records of the roof jobs that the later proofs use: what a read of table memory leaves alone,
what a timer operation makes of each timer, what a request's consumption leaves to its owner, and which reports stay. -/

namespace Sys2Proof.Machine

open Sys2Proof

/-! ### Timers -/

theorem Timers.get_set (i k : TimerId) (v : Timer) (t : Timers) :
    (t.set i v).get k = if k = i then v else t.get k := by
  by_cases h : k = i
  · subst h
    rw [if_pos rfl]
    cases k <;> rfl
  · rw [if_neg h]
    cases i <;> cases k <;> first | rfl | exact absurd rfl h

theorem Timers.get_mapHeld (f : Timer → Timer) (k : TimerId) (t : Timers) :
    (t.mapHeld f).get k = if k ∈ [TimerId.t13, .t14, .t15] then t.get k else f (t.get k) := by
  cases k <;> rfl

@[simp] theorem Jobs.timer_onTimer (i k : TimerId) (f : Timer → Timer) (j : Jobs) :
    (j.onTimer i f).timer k = if k = i then f (j.timer i) else j.timer k := Timers.get_set i k _ _

@[simp] theorem Jobs.timer_load (i k : TimerId) (n : Nat) (m : TimerMode) (j : Jobs) :
    (j.load i n m).timer k = if k = i then (j.timer i).load n m else j.timer k := Jobs.timer_onTimer i k _ j

@[simp] theorem Jobs.timer_stop (i k : TimerId) (j : Jobs) :
    (j.stop i).timer k = if k = i then (j.timer i).stop else j.timer k := Jobs.timer_onTimer i k _ j

@[simp] theorem Jobs.timer_takeExpiry (i k : TimerId) (j : Jobs) :
    (j.takeExpiry i).timer k = if k = i then (j.timer i).taken else j.timer k := Jobs.timer_onTimer i k _ j

theorem Jobs.timer_of_tmr {j k : Jobs} (h : k.tmr = j.tmr) (i : TimerId) : k.timer i = j.timer i := by
  unfold Jobs.timer; rw [h]

variable (i : TimerId) (j : Jobs)

@[simp] theorem Jobs.timer_setCs (v : Cs) : (j.setCs v).timer i = j.timer i := rfl
@[simp] theorem Jobs.timer_setLsi (v : Lsi) : (j.setLsi v).timer i = j.timer i := rfl
@[simp] theorem Jobs.timer_setLmu (v : Lmu) : (j.setLmu v).timer i = j.timer i := rfl
@[simp] theorem Jobs.timer_setIce (v : Ice) : (j.setIce v).timer i = j.timer i := rfl
@[simp] theorem Jobs.timer_setOc (v : Outputs) : (j.setOc v).timer i = j.timer i := rfl
@[simp] theorem Jobs.timer_setFb (v : Feedback) : (j.setFb v).timer i = j.timer i := rfl
@[simp] theorem Jobs.timer_setSpeed (v : SpeedRec) : (j.setSpeed v).timer i = j.timer i := rfl
@[simp] theorem Jobs.timer_setTodo (v : List Change) : (j.setTodo v).timer i = j.timer i := rfl
@[simp] theorem Jobs.timer_setOut (v : List Report) : (j.setOut v).timer i = j.timer i := rfl
@[simp] theorem Jobs.timer_push (c : Change) : (j.push c).timer i = j.timer i := rfl
@[simp] theorem Jobs.timer_report (r : Report) : (j.report r).timer i = j.timer i := rfl
@[simp] theorem Jobs.timer_flag (f : Flag) (n : Nat) : (j.flag f n).timer i = j.timer i := rfl
@[simp] theorem Jobs.timer_setPanto (x : Panto) (r : PantoRec) : (j.setPanto x r).timer i = j.timer i := by cases x <;> rfl
@[simp] theorem Jobs.timer_moveP (x : Panto) (r : PantoRec) : (j.moveP x r).timer i = j.timer i := Jobs.timer_setPanto i j x r
@[simp] theorem Jobs.timer_setArcIn (x : Panto) (v : ArcInput) : (j.setArcIn x v).timer i = j.timer i := by cases x <;> rfl
@[simp] theorem Jobs.timer_touch (a : Nat) : (j.touch a).timer i = j.timer i := Jobs.timer_of_tmr (Jobs.touch_tmr a j) i
@[simp] theorem Jobs.timer_touchAll (as : List Nat) : (j.touchAll as).timer i = j.timer i :=
  Jobs.timer_of_tmr (Jobs.touchAll_tmr as j) i

theorem Jobs.expired_iff : j.expired i = true ↔ (j.timer i).owed ≠ [] := by
  simp [Jobs.expired, Jobs.timer]

theorem timing_pos (w : Word) : 1 ≤ timing w := Nat.le_max_left 1 _

theorem Timer.loaded_load {n : Nat} (hn : 1 ≤ n) (m : TimerMode) (t : Timer) : (t.load n m).loaded n m :=
  ⟨Nat.max_eq_left hn, Nat.max_eq_left hn, rfl, rfl, rfl⟩

theorem Timer.loaded_timing (w : Word) (m : TimerMode) (t : Timer) : (t.load (timing w) m).loaded (timing w) m :=
  Timer.loaded_load (timing_pos w) m t

theorem Timer.stopped_stop (t : Timer) : t.stop.stopped := ⟨rfl, rfl⟩
theorem Timer.stopped_clear (t : Timer) : t.clear.stopped ∧ t.clear.count = 0 := ⟨⟨rfl, rfl⟩, rfl⟩

/-- A stop of a timer that is stopped or is being loaded elsewhere keeps it stopped. -/
theorem Timer.stopped.stop {t : Timer} (_ : t.stopped) : t.stop.stopped := t.stopped_stop

theorem OtherTimers.refl (is : List TimerId) : OtherTimers is j j := fun _ _ => rfl

theorem OtherTimers.trans {is : List TimerId} {j k l : Jobs} (h : OtherTimers is j k) (h' : OtherTimers is k l) :
    OtherTimers is j l := fun i hi => (h' i hi).trans (h i hi)

theorem OtherTimers.of_tmr {is : List TimerId} {j k : Jobs} (h : k.tmr = j.tmr) : OtherTimers is j k :=
  fun i _ => Jobs.timer_of_tmr h i

theorem OtherTimers.onTimer {is : List TimerId} {i : TimerId} (h : i ∈ is) (f : Timer → Timer) (j : Jobs) :
    OtherTimers is j (j.onTimer i f) := by
  intro k hk
  rw [Jobs.timer_onTimer, if_neg]
  rintro rfl
  exact hk h

/-! ### Fields that the small operations leave alone -/

@[simp] theorem Jobs.push_cs (c : Change) : (j.push c).cs = j.cs := rfl
@[simp] theorem Jobs.report_cs (r : Report) : (j.report r).cs = j.cs := rfl
@[simp] theorem Jobs.flag_cs (f : Flag) (n : Nat) : (j.flag f n).cs = j.cs := rfl
@[simp] theorem Jobs.onTimer_cs (f : Timer → Timer) : (j.onTimer i f).cs = j.cs := rfl
@[simp] theorem Jobs.load_cs (n : Nat) (m : TimerMode) : (j.load i n m).cs = j.cs := rfl
@[simp] theorem Jobs.stop_cs : (j.stop i).cs = j.cs := rfl
@[simp] theorem Jobs.takeExpiry_cs : (j.takeExpiry i).cs = j.cs := rfl
@[simp] theorem Jobs.setPanto_cs (x : Panto) (r : PantoRec) : (j.setPanto x r).cs = j.cs := by cases x <;> rfl
@[simp] theorem Jobs.moveP_cs (x : Panto) (r : PantoRec) : (j.moveP x r).cs = j.cs := Jobs.setPanto_cs j x r

/-! ### Reads of table memory, as runs of addresses -/

/-- The addresses of some line-system entries. -/
def linesReads (ks : List (Fin 8)) : List Nat := ks.flatMap fun k => span (lineAddr k) 6

/-- The addresses of some point map entries. -/
def mapsReads (rs : List MapRole) : List Nat := rs.flatMap fun r => span r.addr 2

/-- The addresses a use of the confirmed entry reads. -/
def Jobs.confirmedReads (j : Jobs) : List Nat := linesReads j.lsi.confirmed.index.toList

/-- The addresses a resolution of the target reads. -/
def Jobs.targetReads (j : Jobs) : List Nat :=
  match j.csTarget with
  | .code c => linesReads (linesUpTo (j.resolve c))
  | .any => []

theorem Jobs.touchAll_append (as bs : List Nat) : (j.touchAll as).touchAll bs = j.touchAll (as ++ bs) :=
  List.foldl_append.symm

theorem Jobs.touch_eq (a : Nat) : j.touch a = j.touchAll [a] := rfl
theorem Jobs.touchLine_eq (k : Fin 8) : j.touchLine k = j.touchAll (span (lineAddr k) 6) := rfl
theorem Jobs.touchMap_eq (r : MapRole) : j.touchMap r = j.touchAll (span r.addr 2) := rfl
theorem Jobs.touchIce_eq (is : List Nat) : j.touchIce is = j.touchAll (0x180 :: is.map (0x180 + ·)) := rfl

theorem Jobs.touchLines_eq (ks : List (Fin 8)) : ks.foldl (fun j k => j.touchLine k) j = j.touchAll (linesReads ks) := by
  induction ks generalizing j with
  | nil => rfl
  | cons k ks ih =>
    rw [List.foldl_cons, ih, Jobs.touchLine_eq, Jobs.touchAll_append]
    rfl

theorem Jobs.touchMaps_eq (rs : List MapRole) : j.touchMaps rs = j.touchAll (mapsReads rs) := by
  induction rs generalizing j with
  | nil => rfl
  | cons r rs ih =>
    show (j.touchMap r).touchMaps rs = _
    rw [ih, Jobs.touchMap_eq, Jobs.touchAll_append]
    rfl

theorem Jobs.touchResolve_eq (c : BitVec 4) : j.touchResolve c = j.touchAll (linesReads (linesUpTo (j.resolve c))) :=
  Jobs.touchLines_eq j (linesUpTo (j.resolve c))

theorem Jobs.touchConfirmed_eq : j.touchConfirmed = j.touchAll j.confirmedReads := by
  unfold Jobs.touchConfirmed Jobs.confirmedReads
  cases j.lsi.confirmed.index with
  | none => rfl
  | some k =>
    show j.touchLine k = j.touchAll (linesReads [k])
    rw [← Jobs.touchLines_eq]
    rfl

theorem Jobs.touchTarget_eq : j.touchTarget = j.touchAll j.targetReads := by
  unfold Jobs.touchTarget Jobs.targetReads
  cases j.csTarget with
  | any => rfl
  | code c => exact Jobs.touchResolve_eq j c

theorem Jobs.touchClosing_eq :
    j.touchClosing = j.touchAll (j.confirmedReads ++ j.touchConfirmed.targetReads) := by
  rw [← Jobs.touchAll_append, ← Jobs.touchConfirmed_eq, ← Jobs.touchTarget_eq]
  rfl

/-! What a read, whatever it reads, leaves of the roof jobs. -/

theorem Still.touchMaps (rs : List MapRole) : Still j (j.touchMaps rs) := by rw [Jobs.touchMaps_eq]; exact .touchAll _ j
theorem Still.touchLine (k : Fin 8) : Still j (j.touchLine k) := .touchAll _ j
theorem Still.touchIce (is : List Nat) : Still j (j.touchIce is) := .touchAll _ j
theorem Still.touchResolve (c : BitVec 4) : Still j (j.touchResolve c) := by rw [Jobs.touchResolve_eq]; exact .touchAll _ j
theorem Still.touchConfirmed : Still j j.touchConfirmed := by rw [Jobs.touchConfirmed_eq]; exact .touchAll _ j
theorem Still.touchTarget : Still j j.touchTarget := by rw [Jobs.touchTarget_eq]; exact .touchAll _ j
theorem Still.touchClosing : Still j j.touchClosing := by rw [Jobs.touchClosing_eq]; exact .touchAll _ j

variable {j} {k : Jobs}

theorem Still.dev (h : Still j k) : k.dev = j.dev := by rw [h.rest]
theorem Still.tag (h : Still j k) : k.tag = j.tag := by rw [h.rest]
theorem Still.tmr (h : Still j k) : k.tmr = j.tmr := by rw [h.rest]
theorem Still.arc (h : Still j k) : k.arc = j.arc := by rw [h.rest]
theorem Still.lmu (h : Still j k) : k.lmu = j.lmu := by rw [h.rest]
theorem Still.lsi (h : Still j k) : k.lsi = j.lsi := by rw [h.rest]
theorem Still.speed (h : Still j k) : k.speed = j.speed := by rw [h.rest]
theorem Still.cs (h : Still j k) : k.cs = j.cs := by rw [h.rest]
theorem Still.fb (h : Still j k) : k.fb = j.fb := by rw [h.rest]
theorem Still.p1 (h : Still j k) : k.p1 = j.p1 := by rw [h.rest]
theorem Still.p2 (h : Still j k) : k.p2 = j.p2 := by rw [h.rest]
theorem Still.ice (h : Still j k) : k.ice = j.ice := by rw [h.rest]
theorem Still.oc (h : Still j k) : k.oc = j.oc := by rw [h.rest]
theorem Still.nodes (h : Still j k) : k.nodes = j.nodes := by rw [h.rest]
theorem Still.timer (h : Still j k) (i : TimerId) : k.timer i = j.timer i := Jobs.timer_of_tmr h.tmr i
theorem Still.panto (h : Still j k) (x : Panto) : k.panto x = j.panto x := by rw [h.rest]; rfl
theorem Still.node (h : Still j k) (n : Nat) : k.node n = j.node n := by rw [h.rest]; rfl
theorem Still.tableWf (h : Still j k) (hw : j.tableWf) : k.tableWf := (h.mem hw).1

theorem Still.onlyChangeover (h : Still j k) : OnlyChangeover j k := by
  have hr := h.rest
  unfold OnlyChangeover
  rw [← h.cs, ← h.tmr] at *
  exact hr

/-! ### Words, from one state of the jobs to a later one -/

theorem Held.tableWf (h : Held j k) (hw : j.tableWf) : k.tableWf := (h.mem hw).1

theorem SameWords.symm (h : SameWords j k) : SameWords k j := ⟨fun a => (h.word a).symm, fun a => (h.bad a).symm⟩

/-! ### Reports -/

theorem Flagged.flag (f : Flag) (n : Nat) (j : Jobs) : Flagged f (BitVec.ofNat 16 n) (j.flag f n).out :=
  ⟨j.dev, j.lsi.confirmed, List.mem_append_right _ (List.mem_singleton.mpr rfl)⟩

theorem Flagged.held {f : Flag} {n : Word} (h : Flagged f n j.out) (hk : Held j k) : Flagged f n k.out :=
  h.of_prefix hk.out

/-! ### Requests -/

theorem State.after_words (f : Frame) (s : State) (h : StoresWf s) : SameWords s.jobs (s.after f) :=
  (State.after_spec f s).sameWords h.1

theorem State.after_wf (f : Frame) (s : State) (h : StoresWf s) : (s.after f).tableWf := (State.after_spec f s).tableWf h.1

end Sys2Proof.Machine

namespace Sys2Proof.Machine

open Sys2Proof

/-- 13.2: every REQUEST command has its frame answered by its owner, by the owner's code. -/
theorem exec_request {i : Instr} {f : Frame} {c : Nat} (hi : i.request? = some (f, c)) :
    i.frame? = some (.train, f) ∧ ∃ run, ∀ s, exec i s = s.taking .train f (fun f s => s.request f c run) := by
  cases i <;> simp only [Instr.request?, Option.some.injEq, Prod.mk.injEq, reduceCtorEq] at hi
  all_goals
    obtain ⟨rfl, rfl⟩ := hi
    exact ⟨rfl, _, fun _ => rfl⟩

/-- R189, R112: a REQUEST whose answer is not its owner's to give: the roof jobs stay as the frame's consumption leaves
them. -/
theorem Answers.refused {i : Instr} {f : Frame} {c : Nat} {a : Answer} {s : State} (h : s.inReset = false)
    (hi : i.request? = some (f, c))
    (ha : ∀ run, Jobs.answerRequest f.seq c run (s.after f) = (s.after f).report (.frame (resultNotice f.seq c a))) :
    Answers i f c a (s.after f) s := by
  obtain ⟨hf, run, he⟩ := exec_request hi
  refine EndsFrom.of_taking h hf (he s) ?_
  show (State.finish (State.setJobs (Jobs.answerRequest f.seq c run (s.after f)) (s.consume f))) = _
  rw [ha run]

end Sys2Proof.Machine

open Sys2Proof Sys2Proof.Machine

/-- Settles O33: the three cases of `Jobs.answerRequest`. -/
theorem requestsRefused : Obligations.RequestsRefused := by
  unfold Obligations.RequestsRefused
  refine ⟨fun s i f c h hi hd => ?_, fun s i f c ⟨⟨h, hw⟩, hd⟩ hi ho h11 h12 => ?_, fun s h payload ht => ?_⟩
  · refine Answers.refused h hi fun run => ?_
    unfold Jobs.answerRequest
    rw [if_pos ((State.after_spec f s).dev.trans hd)]
  · refine Answers.refused h hi fun run => ?_
    have hdev : (s.after f).dev ≠ .config := by rw [(State.after_spec f s).dev, hd]; decide
    have hhold : ((s.after f).oc.hold && !takenUnderHold c) = true := by
      rw [(State.after_spec f s).oc, ho]
      simp [takenUnderHold, h11, h12]
    unfold Jobs.answerRequest
    rw [if_neg hdev, if_pos hhold]
  · exact Answers.of ht.1 (.inl ht.2) rfl rfl rfl

end

section
/-! PROOFS. The Changeover Sequencer's entries (O34 to O36): what each entry to a state makes of the changeover record and
of the step timers, and that what it decides by depends on the records and the words alone. -/

namespace Sys2Proof.Machine

open Sys2Proof

/-! ### What an act of the sequencer alone leaves -/

variable {j k l : Jobs}

theorem OnlyChangeover.refl (j : Jobs) : OnlyChangeover j j := rfl

theorem OnlyChangeover.trans (h : OnlyChangeover j k) (h' : OnlyChangeover k l) : OnlyChangeover j l := by
  unfold OnlyChangeover at *
  rw [h'] at *
  rw [h]

theorem OnlyChangeover.dev (h : OnlyChangeover j k) : k.dev = j.dev := by rw [h]
theorem OnlyChangeover.tag (h : OnlyChangeover j k) : k.tag = j.tag := by rw [h]
theorem OnlyChangeover.lmu (h : OnlyChangeover j k) : k.lmu = j.lmu := by rw [h]
theorem OnlyChangeover.lsi (h : OnlyChangeover j k) : k.lsi = j.lsi := by rw [h]
theorem OnlyChangeover.speed (h : OnlyChangeover j k) : k.speed = j.speed := by rw [h]
theorem OnlyChangeover.fb (h : OnlyChangeover j k) : k.fb = j.fb := by rw [h]
theorem OnlyChangeover.p1 (h : OnlyChangeover j k) : k.p1 = j.p1 := by rw [h]
theorem OnlyChangeover.p2 (h : OnlyChangeover j k) : k.p2 = j.p2 := by rw [h]
theorem OnlyChangeover.ice (h : OnlyChangeover j k) : k.ice = j.ice := by rw [h]
theorem OnlyChangeover.oc (h : OnlyChangeover j k) : k.oc = j.oc := by rw [h]
theorem OnlyChangeover.nodes (h : OnlyChangeover j k) : k.nodes = j.nodes := by rw [h]
theorem OnlyChangeover.panto (h : OnlyChangeover j k) (x : Panto) : k.panto x = j.panto x := by rw [h]; rfl
theorem OnlyChangeover.node (h : OnlyChangeover j k) (n : Nat) : k.node n = j.node n := by rw [h]; rfl

theorem OnlyChangeover.setCs (v : Cs) (j : Jobs) : OnlyChangeover j (j.setCs v) := rfl
theorem OnlyChangeover.onTimer (i : TimerId) (f : Timer → Timer) (j : Jobs) : OnlyChangeover j (j.onTimer i f) := rfl
theorem OnlyChangeover.stop (i : TimerId) (j : Jobs) : OnlyChangeover j (j.stop i) := rfl
theorem OnlyChangeover.load (i : TimerId) (n : Nat) (m : TimerMode) (j : Jobs) : OnlyChangeover j (j.load i n m) := rfl
theorem OnlyChangeover.takeExpiry (i : TimerId) (j : Jobs) : OnlyChangeover j (j.takeExpiry i) := rfl
theorem OnlyChangeover.push (c : Change) (j : Jobs) : OnlyChangeover j (j.push c) := rfl
theorem OnlyChangeover.flag (f : Flag) (n : Nat) (j : Jobs) : OnlyChangeover j (j.flag f n) := rfl
theorem OnlyChangeover.csTo (s : CsState) (j : Jobs) : OnlyChangeover j (j.csTo s) := rfl
theorem OnlyChangeover.touchAll (as : List Nat) (j : Jobs) : OnlyChangeover j (j.touchAll as) := (Still.touchAll as j).onlyChangeover

theorem OnlyChangeover.foldl {α : Type} (g : Jobs → α → Jobs) (hg : ∀ j a, OnlyChangeover j (g j a)) (as : List α) (j : Jobs) :
    OnlyChangeover j (as.foldl g j) := by
  induction as generalizing j with
  | nil => exact .refl j
  | cons a as ih => exact (hg j a).trans (ih _)

/-! ### What the decisions of the sequencer depend on -/

/-- `k` has the records of `j` that the sequencer decides by, and table memory reads alike: the feature in hand and the
expected system included. -/
structure Aligned (j k : Jobs) : Prop where
  only : OnlyChangeover j k
  words : SameWords j k
  current : k.cs.current = j.cs.current
  expected : k.cs.expected = j.cs.expected

theorem Aligned.refl (j : Jobs) : Aligned j j := ⟨.refl j, .refl j, rfl, rfl⟩

theorem Aligned.trans (h : Aligned j k) (h' : Aligned k l) : Aligned j l :=
  ⟨h.only.trans h'.only, h.words.trans h'.words, h'.current.trans h.current, h'.expected.trans h.expected⟩

theorem Aligned.of_cs (ho : OnlyChangeover j k) (hh : Held j k) (hw : j.tableWf) (hc : k.cs = j.cs) : Aligned j k :=
  ⟨ho, hh.sameWords hw, by rw [hc], by rw [hc]⟩

theorem Still.aligned (h : Still j k) (hw : j.tableWf) : Aligned j k :=
  ⟨h.onlyChangeover, h.sameWords hw, by rw [h.cs], by rw [h.cs]⟩

theorem OnlyChangeover.collector (h : OnlyChangeover j k) : k.collector = j.collector := by
  unfold Jobs.collector; rw [h.p1, h.p2]

theorem OnlyChangeover.collecting (h : OnlyChangeover j k) : k.collecting = j.collecting := by
  unfold Jobs.collecting
  rw [h.collector]
  cases j.collector with
  | none => rfl
  | some x => simp only [h.panto]

theorem OnlyChangeover.bothLowered (h : OnlyChangeover j k) : k.bothLowered = j.bothLowered := by
  unfold Jobs.bothLowered; rw [h.p1, h.p2]

theorem OnlyChangeover.pantoNode (h : OnlyChangeover j k) (hs : SameWords j k) (x : Panto) : k.pantoNode x = j.pantoNode x := by
  unfold Jobs.pantoNode; rw [hs.mapNode, h.node]

theorem OnlyChangeover.confirmedEntry (h : OnlyChangeover j k) (hs : SameWords j k) : k.confirmedEntry = j.confirmedEntry := by
  unfold Jobs.confirmedEntry; simp only [h.lsi, hs.lineUsable]

theorem OnlyChangeover.closeLaw (h : OnlyChangeover j k) (hs : SameWords j k) : k.closeLaw = j.closeLaw := by
  unfold Jobs.closeLaw
  rw [h.collecting, h.oc, h.confirmedEntry hs, h.fb]
  simp only [hs.lineSelector]

theorem OnlyChangeover.needsRoof (h : OnlyChangeover j k) (hs : SameWords j k) (e : Fin 8) : k.needsRoof e = j.needsRoof e := by
  unfold Jobs.needsRoof
  rw [h.collector, h.fb, hs.lineSelector, hs.lineSet]

/-- R61: a raise as collector goes by the records of the pantographs, lower-all, the entries and the node. -/
theorem OnlyChangeover.raiseAnswer (h : OnlyChangeover j k) (hs : SameWords j k) (x : Panto) (b : Asker) :
    k.raiseAnswer x .collector b = j.raiseAnswer x .collector b := by
  unfold Jobs.raiseAnswer
  dsimp only
  rw [h.panto, h.panto, h.oc, hs.raisable, h.pantoNode hs]
  simp only [reduceCtorEq, false_and, if_false]

theorem OnlyChangeover.eitherPanto (h : OnlyChangeover j k) (hs : SameWords j k) : k.eitherPanto = j.eitherPanto := by
  unfold Jobs.eitherPanto
  rw [h.collector, h.p1, h.p2, hs.startPanto]
  cases j.collector with
  | none => rfl
  | some x => simp only [h.panto]

theorem SameWords.lowerTime (hs : SameWords j k) (x : Panto) : k.lowerTime x = j.lowerTime x := by
  unfold Jobs.lowerTime; rw [hs.pantoValid, hs.pantoParam]

theorem Aligned.csTarget (h : Aligned j k) : k.csTarget = j.csTarget := by unfold Jobs.csTarget; rw [h.current]

theorem Aligned.targetEntry (h : Aligned j k) : k.targetEntry = j.targetEntry := by
  unfold Jobs.targetEntry
  rw [h.csTarget]
  cases j.csTarget with
  | any => rfl
  | code c => exact h.words.resolve c

theorem Aligned.crossing (h : Aligned j k) : k.crossing = j.crossing := by unfold Jobs.crossing; rw [h.current]

theorem Aligned.coastWaits (h : Aligned j k) : k.coastWaits = j.coastWaits := by
  unfold Jobs.coastWaits; rw [h.expected, h.only.lsi]

theorem Aligned.raiseChoice (h : Aligned j k) : k.raiseChoice = j.raiseChoice := by
  unfold Jobs.raiseChoice
  rw [h.csTarget]
  cases j.csTarget with
  | any => exact congrArg some (h.only.eitherPanto h.words)
  | code c =>
    dsimp only
    rw [h.words.resolve]
    cases j.resolve c with
    | none => rfl
    | some e => dsimp only; rw [h.words.lineSet, h.only.eitherPanto h.words]

theorem Aligned.isTarget (h : Aligned j k) (e : Fin 8) : k.isTarget e = j.isTarget e := by
  unfold Jobs.isTarget
  rw [h.current, h.expected]
  simp only [h.words.resolve]

theorem Aligned.closeFailure (h : Aligned j k) : k.closeFailure = j.closeFailure := by
  unfold Jobs.closeFailure
  rw [h.only.oc, h.only.collecting, h.only.confirmedEntry h.words, h.only.fb]
  simp only [h.isTarget, h.words.lineSelector]

/-! ### The breaker command and HOLD -/

@[simp] theorem Jobs.csTo_cs (s : CsState) (j : Jobs) : (j.csTo s).cs = { j.cs with state := s } := rfl
theorem Jobs.csTo_panto (s : CsState) (j : Jobs) (x : Panto) : (j.csTo s).panto x = j.panto x := rfl
@[simp] theorem Jobs.csTo_timer (s : CsState) (j : Jobs) (i : TimerId) : (j.csTo s).timer i = j.timer i := rfl

theorem OnlyChangeover.setOpen (j : Jobs) : OnlyChangeover j j.setOpen := by
  unfold Jobs.setOpen; dsimp only; split <;> rfl

@[simp] theorem Jobs.setOpen_cs (j : Jobs) : j.setOpen.cs = { j.cs with command := .open, pulse := false } := by
  unfold Jobs.setOpen; dsimp only; split <;> rfl

@[simp] theorem Jobs.setOpen_timer (j : Jobs) (i : TimerId) :
    j.setOpen.timer i = if i = .t1 ∧ j.cs.pulse = true then (j.timer .t1).stop else j.timer i := by
  unfold Jobs.setOpen
  by_cases h : j.cs.pulse = true <;> simp [h]

theorem OnlyChangeover.enterHold (r : HoldReason) (step : CsState) (j : Jobs) : OnlyChangeover j (j.enterHold r step) :=
  (OnlyChangeover.setOpen j).trans rfl

@[simp] theorem Jobs.enterHold_cs (r : HoldReason) (step : CsState) (j : Jobs) :
    (j.enterHold r step).cs = { j.cs with
      state := .hold, reason := some r, stepOfFailure := some step, command := .open, pulse := false, selOut := none } := by
  simp [Jobs.enterHold]

theorem Jobs.enterHold_timer (r : HoldReason) (step : CsState) (j : Jobs) (i : TimerId) :
    (j.enterHold r step).timer i = if i = .t1 then (j.setOpen.timer .t1).stop
      else if i = .t0 then (j.timer .t0).stop else j.timer i := by
  simp only [Jobs.enterHold, Jobs.csTo_timer, Jobs.timer_flag, Jobs.timer_setCs, Jobs.timer_stop, Jobs.setOpen_timer]
  by_cases h1 : i = .t1
  · subst h1; simp
  · by_cases h0 : i = .t0
    · subst h0; simp
    · simp [h0, h1]

theorem Jobs.enterHold_heldFor (r : HoldReason) (step : CsState) (j : Jobs) : HeldFor r step (j.enterHold r step) := by
  refine ⟨rfl, rfl, rfl, ?_, ?_, rfl, ?_, ?_, ?_⟩
  · simp
  · simp
  · rw [Jobs.enterHold_timer]; exact Timer.stopped_stop _
  · rw [Jobs.enterHold_timer]; exact Timer.stopped_stop _
  · exact (Flagged.flag .changeoverHold r.code _).held (Held.csTo .hold _)

theorem Jobs.enterHold_others (r : HoldReason) (step : CsState) (j : Jobs) : OtherTimers [.t0, .t1] j (j.enterHold r step) := by
  intro i hi
  have h0 : i ≠ .t0 := by rintro rfl; exact hi (by decide)
  have h1 : i ≠ .t1 := by rintro rfl; exact hi (by decide)
  rw [Jobs.enterHold_timer, if_neg h1, if_neg h0]

theorem Jobs.failStep_heldFor (r : HoldReason) (j : Jobs) : HeldFor r j.cs.state (j.failStep r) :=
  Jobs.enterHold_heldFor r j.cs.state j

/-! ### Loading the step timer -/

theorem OnlyChangeover.loadStep (n : Nat) (j : Jobs) : OnlyChangeover j (j.loadStep n) :=
  (OnlyChangeover.touchAll [0x150 + n] j).trans rfl

@[simp] theorem Jobs.loadStep_cs (n : Nat) (j : Jobs) : (j.loadStep n).cs = j.cs := by simp [Jobs.loadStep]

@[simp] theorem Jobs.loadStep_timer (n : Nat) (j : Jobs) (i : TimerId) :
    (j.loadStep n).timer i = if i = .t0 then (j.timer .t0).load (timing (j.changeover n)) .oneShot else j.timer i := by
  simp [Jobs.loadStep]

/-! ### IDLE, ARMED, OPENING, COASTING, IDENTIFYING -/

theorem OnlyChangeover.enterIdle (j : Jobs) : OnlyChangeover j j.enterIdle := rfl
@[simp] theorem Jobs.enterIdle_cs (j : Jobs) : j.enterIdle.cs = { j.cs with state := .idle } := rfl
@[simp] theorem Jobs.enterIdle_timer (j : Jobs) (i : TimerId) :
    j.enterIdle.timer i = if i = .t0 then (j.timer .t0).stop else j.timer i := by simp [Jobs.enterIdle]

/-- R37: the staleness test drops the stale entries and reports each of them. -/
theorem Jobs.dropStale_eq (j : Jobs) : ∃ l, j.dropStale =
    (j.setCs { j.cs with list := j.cs.list.filter (fun g => !g.staleMark) }).setOut (j.out ++ l) ∧
    ∀ g ∈ j.cs.list, g.staleMark = true → Flagged .featureDiscarded (BitVec.ofNat 16 g.subject) l := by
  have hfold : ∀ (gs : List Feature) (k : Jobs), ∃ l,
      gs.foldl (fun (j : Jobs) (g : Feature) => j.flag .featureDiscarded g.subject) k = k.setOut (k.out ++ l) ∧
      ∀ g ∈ gs, Flagged .featureDiscarded (BitVec.ofNat 16 g.subject) l := by
    intro gs
    induction gs with
    | nil => exact fun k => ⟨[], by simp only [List.foldl_nil, List.append_nil]; rfl, fun _ h => nomatch h⟩
    | cons g gs ih =>
      intro k
      obtain ⟨l, he, hl⟩ := ih (k.flag .featureDiscarded g.subject)
      refine ⟨.flag .featureDiscarded (BitVec.ofNat 16 g.subject) k.dev k.lsi.confirmed :: l, ?_, fun g' hg => ?_⟩
      · rw [List.foldl_cons, he]
        show k.setOut ((k.out ++ [_]) ++ l) = _
        rw [List.append_assoc]
        rfl
      · rcases List.mem_cons.mp hg with rfl | hg
        · exact ⟨_, _, List.mem_cons_self ..⟩
        · obtain ⟨dev, line, hm⟩ := hl g' hg
          exact ⟨dev, line, List.mem_cons_of_mem _ hm⟩
  obtain ⟨l, he, hl⟩ := hfold (j.cs.list.filter (fun g => g.staleMark))
    (j.setCs { j.cs with list := j.cs.list.filter (fun g => !g.staleMark) })
  exact ⟨l, he, fun g hg hs => hl g (List.mem_filter.mpr ⟨hg, hs⟩)⟩

@[simp] theorem Jobs.dropStale_cs (j : Jobs) :
    j.dropStale.cs = { j.cs with list := j.cs.list.filter (fun g => !g.staleMark) } := by
  obtain ⟨l, h, -⟩ := j.dropStale_eq
  rw [h]; rfl

theorem Jobs.dropStale_todo (j : Jobs) : j.dropStale.todo = j.todo := by
  obtain ⟨l, h, -⟩ := j.dropStale_eq
  rw [h]; rfl

@[simp] theorem Jobs.dropStale_timer (j : Jobs) (i : TimerId) : j.dropStale.timer i = j.timer i := by
  obtain ⟨l, h, -⟩ := j.dropStale_eq
  rw [h]; rfl

theorem OnlyChangeover.dropStale (j : Jobs) : OnlyChangeover j j.dropStale := by
  obtain ⟨l, h, -⟩ := j.dropStale_eq
  rw [h]; rfl

theorem Jobs.dropStale_flags (j : Jobs) (g : Feature) (hg : g ∈ j.cs.list) (hs : g.staleMark = true) :
    Flagged .featureDiscarded (BitVec.ofNat 16 g.subject) j.dropStale.out := by
  obtain ⟨l, h, hl⟩ := j.dropStale_eq
  obtain ⟨dev, line, hm⟩ := hl g hg hs
  rw [h]
  exact ⟨dev, line, List.mem_append_right _ hm⟩

theorem OnlyChangeover.enterOpening (j : Jobs) : OnlyChangeover j j.enterOpening :=
  ((OnlyChangeover.setOpen j).trans (.loadStep 2 _)).trans (.csTo .opening _)

@[simp] theorem Jobs.enterOpening_cs (j : Jobs) :
    j.enterOpening.cs = { j.cs with state := .opening, command := .open, pulse := false } := by
  simp [Jobs.enterOpening]

theorem SameWords.setOpen (j : Jobs) : SameWords j j.setOpen := by
  unfold Jobs.setOpen; dsimp only; split <;> exact .of_tm rfl

theorem Jobs.enterOpening_timer (j : Jobs) : (j.enterOpening.timer .t0).loaded (timing (j.changeover 2)) .oneShot := by
  rw [Jobs.enterOpening, Jobs.csTo_timer, Jobs.loadStep_timer, if_pos rfl, (SameWords.setOpen j).changeover]
  exact Timer.loaded_timing _ _ _

theorem Jobs.enterOpening_others (j : Jobs) : OtherTimers [.t0, .t1] j j.enterOpening := by
  intro i hi
  have h0 : i ≠ .t0 := by rintro rfl; exact hi (by decide)
  have h1 : i ≠ .t1 := by rintro rfl; exact hi (by decide)
  simp [Jobs.enterOpening, h0, h1]

theorem OnlyChangeover.enterIdentifying (j : Jobs) : OnlyChangeover j j.enterIdentifying :=
  (OnlyChangeover.loadStep 6 j).trans (.csTo .identifying _)

@[simp] theorem Jobs.enterIdentifying_cs (j : Jobs) : j.enterIdentifying.cs = { j.cs with state := .identifying } := by
  simp [Jobs.enterIdentifying]

theorem Jobs.enterIdentifying_timer (j : Jobs) :
    (j.enterIdentifying.timer .t0).loaded (timing (j.changeover 6)) .oneShot := by
  rw [Jobs.enterIdentifying, Jobs.csTo_timer, Jobs.loadStep_timer, if_pos rfl]
  exact Timer.loaded_timing _ _ _

theorem Jobs.enterIdentifying_enters (j : Jobs) : EntersIdentifying j j.enterIdentifying :=
  ⟨by simp, j.enterIdentifying_timer⟩

/-- R43: the coast time of the feature in hand. -/
def Jobs.coastTime (j : Jobs) : Nat := (j.cs.current.map (fun f => f.coast)).getD 0

/-- R43: the record as COASTING begins, its step timer stopped. -/
def Jobs.coastBegun (j : Jobs) : Jobs :=
  (j.stop .t0).setCs { j.cs with deadSeen := decide (j.lsi.confirmed = .dead), coastEnded := j.coastTime == 0 }

theorem Jobs.enterCoasting_eq (j : Jobs) : j.enterCoasting =
    (if j.coastTime = 0 then (if !j.crossing && j.coastWaits then j.coastBegun.loadStep 6 else j.coastBegun)
      else j.coastBegun.load .t1 (min j.coastTime 65535) .oneShot).csTo .coasting := rfl

/-- R43: what the entry to COASTING makes of the record and of the two timers. -/
theorem Jobs.enterCoasting_spec (j : Jobs) :
    OnlyChangeover j j.enterCoasting ∧
    j.enterCoasting.cs = { j.cs with state := .coasting, deadSeen := decide (j.lsi.confirmed = .dead),
                                     coastEnded := decide (j.coastTime = 0) } ∧
    (0 < j.coastTime →
      (j.enterCoasting.timer .t1).loaded (min j.coastTime 65535) .oneShot ∧ (j.enterCoasting.timer .t0).stopped) ∧
    (j.coastTime = 0 → j.crossing = false → j.cs.expected ≠ some j.lsi.confirmed → j.lsi.confirmed.isSystem = false →
      (j.enterCoasting.timer .t0).loaded (timing (j.changeover 6)) .oneShot) := by
  have hcs : j.coastBegun.cs = { j.cs with deadSeen := decide (j.lsi.confirmed = .dead),
                                           coastEnded := decide (j.coastTime = 0) } := rfl
  rw [Jobs.enterCoasting_eq]
  by_cases hc : j.coastTime = 0
  · rw [if_pos hc]
    refine ⟨?_, ?_, fun h => absurd hc (by omega), fun _ hx he hs => ?_⟩
    · split
      · exact (OnlyChangeover.loadStep 6 j.coastBegun).trans (.csTo .coasting _)
      · rfl
    · split
      · rw [Jobs.csTo_cs, Jobs.loadStep_cs, hcs]
      · rw [Jobs.csTo_cs, hcs]
    · rw [if_pos (by simp [hx, Jobs.coastWaits, he, hs]), Jobs.csTo_timer, Jobs.loadStep_timer, if_pos rfl]
      exact Timer.loaded_timing _ _ _
  · rw [if_neg hc]
    refine ⟨rfl, rfl, fun _ => ⟨?_, ?_⟩, fun h => absurd h hc⟩
    · simp only [Jobs.csTo_timer, Jobs.timer_load, if_true]
      exact Timer.loaded_load (by omega) _ _
    · simp only [Jobs.csTo_timer, Jobs.timer_load, Jobs.coastBegun, Jobs.timer_setCs, Jobs.timer_stop, reduceCtorEq,
        if_false, if_true]
      exact Timer.stopped_stop _

/-! ### CLOSING -/

/-- R49, R54: with no feature in hand the close conditions of CLOSING are the close law. -/
theorem Jobs.closeFailure_of_closeLaw (hc : j.cs.current = none) (h : j.closeLaw = true) : j.closeFailure = none := by
  unfold Jobs.closeLaw at h
  unfold Jobs.closeFailure
  cases he : j.confirmedEntry with
  | none => simp [he] at h
  | some e =>
    simp only [he, Bool.and_eq_true, Bool.not_eq_true'] at h
    obtain ⟨⟨hcoll, hall⟩, hsel⟩ := h
    simp [hcoll, hall, hsel, Jobs.isTarget, hc]

theorem Jobs.enterClosing_of_failure {r : HoldReason} (h : j.closeFailure = some r) :
    j.enterClosing = j.touchClosing.enterHold r .closing := by
  unfold Jobs.enterClosing; dsimp only; rw [h]

/-- R49: the roof jobs as CLOSING begins, its pulse on and loaded. -/
def Jobs.closingBegun (j : Jobs) : Jobs :=
  ((j.touchClosing.setCs { j.touchClosing.cs with command := .close, pulse := true }).touch 0x153).load .t1
    (timing (j.touchClosing.changeover 3)) .oneShot

theorem Jobs.enterClosing_eq (h : j.closeFailure = none) : j.enterClosing = (j.closingBegun.loadStep 4).csTo .closing := by
  unfold Jobs.enterClosing; dsimp only; rw [h]; rfl

theorem Jobs.closingBegun_words (hw : j.tableWf) : SameWords j j.closingBegun := by
  have hs : Still j j.touchClosing := .touchClosing j
  have hset : SameWords j (j.touchClosing.setCs { j.touchClosing.cs with command := .close, pulse := true }) :=
    (hs.sameWords hw).trans (.of_tm rfl)
  have htouch := (Still.touch 0x153 (j.touchClosing.setCs { j.touchClosing.cs with command := .close, pulse := true })).sameWords
    (hs.tableWf hw)
  exact (hset.trans htouch).trans (.of_tm rfl)

theorem OnlyChangeover.closingBegun (j : Jobs) : OnlyChangeover j j.closingBegun :=
  (((Still.touchClosing j).onlyChangeover.trans (.setCs _ _)).trans (.touchAll [0x153] _)).trans (.load _ _ _ _)

/-- R49: the entry to CLOSING with its close conditions met. -/
theorem Jobs.enterClosing_of_none (hw : j.tableWf) (h : j.closeFailure = none) :
    OnlyChangeover j j.enterClosing ∧
    j.enterClosing.cs = { j.cs with state := .closing, command := .close, pulse := true } ∧
    (j.enterClosing.timer .t1).loaded (timing (j.changeover 3)) .oneShot ∧
    (j.enterClosing.timer .t0).loaded (timing (j.changeover 4)) .oneShot ∧ OtherTimers [.t0, .t1] j j.enterClosing := by
  have hs : Still j j.touchClosing := .touchClosing j
  rw [Jobs.enterClosing_eq h]
  refine ⟨(OnlyChangeover.closingBegun j).trans ((OnlyChangeover.loadStep 4 _).trans (.csTo _ _)), ?_, ?_, ?_, fun i hi => ?_⟩
  · simp [Jobs.closingBegun, hs.cs]
  · rw [Jobs.csTo_timer, Jobs.loadStep_timer, if_neg (by decide), Jobs.closingBegun, Jobs.timer_load, if_pos rfl,
      (hs.sameWords hw).changeover]
    exact Timer.loaded_timing _ _ _
  · rw [Jobs.csTo_timer, Jobs.loadStep_timer, if_pos rfl, (Jobs.closingBegun_words hw).changeover]
    exact Timer.loaded_timing _ _ _
  · have h0 : i ≠ .t0 := by rintro rfl; exact hi (by decide)
    have h1 : i ≠ .t1 := by rintro rfl; exact hi (by decide)
    simp [Jobs.closingBegun, h0, h1, hs.timer]

theorem Jobs.enterClosing_enters (hw : j.tableWf) : EntersClosing j j.enterClosing := by
  refine ⟨fun r h => ?_, fun h => ?_⟩
  · rw [Jobs.enterClosing_of_failure h]
    exact Jobs.enterHold_heldFor r .closing _
  · obtain ⟨-, hcs, h1, h0, -⟩ := Jobs.enterClosing_of_none hw h
    exact ⟨by rw [hcs], by rw [hcs], by rw [hcs], h1, h0⟩

/-! ### SELECTING -/

theorem Jobs.bothLowered_iff (j : Jobs) : j.bothLowered = true ↔ j.p1.state = .lowered ∧ j.p2.state = .lowered := by
  simp [Jobs.bothLowered]

theorem Jobs.enterSelecting_enters (hw : j.tableWf) : EntersSelecting j j.enterSelecting := by
  unfold Jobs.enterSelecting
  refine ⟨fun h => ?_, fun h1 h2 => ?_, fun h1 h2 h3 => ?_⟩
  · rw [if_pos h]
    exact Jobs.enterHold_heldFor .breaker .selecting j
  · rw [if_neg (by simp [h1]), if_pos (by simpa [Jobs.bothLowered, imp_iff_not_or] using h2)]
    exact Jobs.enterHold_heldFor .pantograph .selecting j
  · rw [if_neg (by simp [h1]), if_neg (by simp [Jobs.bothLowered, h2, h3])]
    dsimp only
    refine ⟨fun ht => ?_, fun e ht => ?_⟩
    · rw [ht]
      exact Jobs.enterHold_heldFor .mismatch .selecting _
    · rw [ht]
      dsimp only [Option.map_some]
      refine ⟨rfl, by simp, ?_⟩
      have h5 : SameWords j (j.touchTarget.setCs { j.touchTarget.cs with selOut := some (j.lineSelector e) }) :=
        ((Still.touchTarget j).sameWords hw).trans (.of_tm rfl)
      rw [Jobs.csTo_timer, Jobs.loadStep_timer, if_pos rfl, h5.changeover]
      exact Timer.loaded_timing _ _ _

/-! ### Lowering a pantograph -/

/-- R68: what a lower makes of the two records. -/
theorem Jobs.lower_panto (x y : Panto) (j : Jobs) : (j.lower x).panto y =
    if y = x ∧ (j.panto x).state.raised = true then { j.panto x with state := .lowering, low := 0 } else j.panto y := by
  unfold Jobs.lower
  by_cases h : (j.panto x).state.raised = true
  · rw [if_pos h]
    dsimp only
    rw [Jobs.panto_load]
    unfold Jobs.moveP
    show (Jobs.setPanto _ _ _).panto y = _
    by_cases hy : y = x
    · subst hy
      rw [if_pos ⟨rfl, h⟩, Jobs.panto_setPanto]
    · rw [if_neg (fun hc => hy hc.1)]
      have hother : ∀ (k : Jobs) (r : PantoRec), (k.setPanto x r).panto y = k.panto y := by
        intro k r
        cases x <;> cases y <;> first | rfl | exact absurd rfl hy
      rw [hother]
      simp only [Jobs.panto_stop, Jobs.panto_touch]
  · rw [if_neg h, if_neg (fun hc => h hc.2)]

theorem Jobs.lower_of_not {x : Panto} (h : (j.panto x).state.raised = false) : j.lower x = j := by
  unfold Jobs.lower
  rw [if_neg (by simp [h])]

@[simp] theorem Jobs.lower_cs (x : Panto) (j : Jobs) : (j.lower x).cs = j.cs := by
  unfold Jobs.lower
  split <;> simp

/-- R68: the timers of a pantograph that is lowered. -/
theorem Jobs.lower_timer (x : Panto) (j : Jobs) (i : TimerId) (h : (j.panto x).state.raised = true) : (j.lower x).timer i =
    if i = x.stepTimer then (j.timer x.stepTimer).load (timing (j.pantoParam x 6)) .oneShot
    else if i = x.arcTimer then (j.timer x.arcTimer).stop
    else if i = x.settleTimer then (j.timer x.settleTimer).stop else j.timer i := by
  unfold Jobs.lower
  rw [if_pos h]
  cases x <;> simp [Panto.stepTimer, Panto.arcTimer, Panto.settleTimer] <;> rfl

/-! ### LOWERING -/

theorem Jobs.enterLowering_panto (j : Jobs) (x : Panto) :
    j.enterLowering.panto x = ((j.lower .p1).lower .p2).panto x := by
  simp only [Jobs.enterLowering, Jobs.csTo_panto, Jobs.panto_load, Jobs.panto_touchAll]

@[simp] theorem Jobs.enterLowering_cs (j : Jobs) : j.enterLowering.cs = { j.cs with state := .lowering } := by
  simp [Jobs.enterLowering]

/-- R68: LOWER of both. -/
theorem Jobs.lower_both_panto (j : Jobs) (x : Panto) : ((j.lower .p1).lower .p2).panto x =
    if (j.panto x).state.raised = true then { j.panto x with state := .lowering, low := 0 } else j.panto x := by
  rw [Jobs.lower_panto]
  cases x <;> simp [Jobs.lower_panto]

theorem Jobs.enterLowering_enters (j : Jobs) : EntersLowering j j.enterLowering := by
  refine ⟨by simp, fun x => ⟨fun h => ?_, fun h => ?_⟩, fun lowerTime ht => ?_⟩
  · rw [Jobs.enterLowering_panto, Jobs.lower_both_panto, if_pos h]
  · rw [Jobs.enterLowering_panto, Jobs.lower_both_panto, if_neg (by simp [h])]
  · have hpos := timing_pos (j.changeover 7)
    have hlt : lowerTime = fun x => j.lowerTime x := funext ht
    unfold Jobs.enterLowering
    simp only [Jobs.csTo_timer, Jobs.timer_load, if_true, hlt]
    refine ⟨?_, rfl⟩
    show max _ 1 = _
    simp only [Config.timerTop]
    omega

/-! ### Raising a pantograph -/

theorem Jobs.touchRaise_still (x : Panto) (j : Jobs) : Still j (j.touchRaise x) := by
  unfold Jobs.touchRaise
  split
  · exact (Still.touchMaps j _).trans (.touch _ _)
  · exact .refl j

/-- R62: the record that a raise as `r` gives a pantograph. -/
def PantoRec.prepared (r : Role) (p : PantoRec) : PantoRec :=
  { p with state := .preparing, role := r, connected := decide (r = .collector), cause := none, reached := false,
           contact := 0, loss := 0, low := 0, raises := p.raises + 1 }

theorem Jobs.panto_setPanto_other {x y : Panto} (h : y ≠ x) (r : PantoRec) (j : Jobs) :
    (j.setPanto x r).panto y = j.panto y := by
  cases x <;> cases y <;> first | rfl | exact absurd rfl h

theorem Jobs.moveP_panto (x y : Panto) (r : PantoRec) (j : Jobs) :
    (j.moveP x r).panto y = if y = x then r else j.panto y := by
  show (j.setPanto x r).panto y = _
  by_cases h : y = x
  · subst h; rw [if_pos rfl, Jobs.panto_setPanto]
  · rw [if_neg h, Jobs.panto_setPanto_other h]

theorem Jobs.prepare_panto (x y : Panto) (r : Role) (j : Jobs) :
    (j.prepare x r).panto y = if y = x then (j.panto x).prepared r else j.panto y := by
  unfold Jobs.prepare
  dsimp only
  rw [Jobs.panto_load, Jobs.moveP_panto, Jobs.panto_touch]
  rfl

@[simp] theorem Jobs.prepare_cs (x : Panto) (r : Role) (j : Jobs) : (j.prepare x r).cs = j.cs := by simp [Jobs.prepare]
@[simp] theorem Jobs.prepare_ice (x : Panto) (r : Role) (j : Jobs) : (j.prepare x r).ice = j.ice := by
  unfold Jobs.prepare
  cases x <;> exact Jobs.touch_ice _ j

theorem Jobs.prepare_timer (x : Panto) (r : Role) (j : Jobs) (i : TimerId) : (j.prepare x r).timer i =
    if i = x.settleTimer then (j.timer x.settleTimer).load (timing (j.pantoParam x 7)) .oneShot else j.timer i := by
  simp [Jobs.prepare]

theorem Jobs.raise_started {x : Panto} {r : Role} {b : Asker} (h : j.raiseAnswer x r b = .accepted)
    (hr : (j.panto x).state.raised = false) : j.raise x r b = (.accepted, (j.touchRaise x).prepare x r) := by
  unfold Jobs.raise
  simp [h, hr]

theorem Jobs.raise_raised {x : Panto} {r : Role} {b : Asker} (hr : (j.panto x).state.raised = true) :
    j.raise x r b = (j.raiseAnswer x r b, j.touchRaise x) := by
  unfold Jobs.raise
  simp [hr]

theorem Jobs.raise_refused {x : Panto} {r : Role} {b : Asker} (h : j.raiseAnswer x r b ≠ .accepted) :
    j.raise x r b = (j.raiseAnswer x r b, j.touchRaise x) := by
  unfold Jobs.raise
  simp [h]

/-- R61: a raise of a raised pantograph by the CS or the IC is accepted only in the role it already has. -/
theorem Jobs.raiseAnswer_raised {x : Panto} {r : Role} {b : Asker} (hr : (j.panto x).state.raised = true)
    (h : j.raiseAnswer x r b = .accepted) (hb : b ≠ .vehicle) : (j.panto x).role = r := by
  unfold Jobs.raiseAnswer at h
  dsimp only at h
  rw [if_pos hr] at h
  split at h
  · next hc => exact hc.resolve_right hb
  · exact nomatch h

/-- R61, R62: an accepted raise leaves the pantograph raised in its role. -/
theorem Jobs.raise_accepted {x : Panto} {r : Role} {b : Asker} (h : j.raiseAnswer x r b = .accepted) (hb : b ≠ .vehicle) :
    ((j.raise x r b).2.panto x).state.raised = true ∧ ((j.raise x r b).2.panto x).role = r := by
  by_cases hr : (j.panto x).state.raised = true
  · rw [Jobs.raise_raised hr]
    dsimp only
    rw [(Jobs.touchRaise_still x j).panto]
    exact ⟨hr, Jobs.raiseAnswer_raised hr h hb⟩
  · rw [Jobs.raise_started h (by simpa using hr)]
    dsimp only
    rw [Jobs.prepare_panto, if_pos rfl]
    exact ⟨rfl, rfl⟩

theorem Jobs.raise_cs (x : Panto) (r : Role) (b : Asker) (j : Jobs) : (j.raise x r b).2.cs = j.cs := by
  unfold Jobs.raise
  dsimp only
  split <;> simp [(Jobs.touchRaise_still x j).cs]

theorem Jobs.raise_ice (x : Panto) (r : Role) (b : Asker) (j : Jobs) : (j.raise x r b).2.ice = j.ice := by
  unfold Jobs.raise
  dsimp only
  split <;> simp [(Jobs.touchRaise_still x j).ice]

theorem Panto.settleTimer_ne (x : Panto) : TimerId.t0 ≠ x.settleTimer ∧ TimerId.t1 ≠ x.settleTimer := by
  cases x <;> decide

theorem Jobs.raise_timer (x : Panto) (r : Role) (b : Asker) (j : Jobs) (i : TimerId) (hi : i ≠ x.settleTimer) :
    (j.raise x r b).2.timer i = j.timer i := by
  unfold Jobs.raise
  dsimp only
  split <;> simp [(Jobs.touchRaise_still x j).timer, Jobs.prepare_timer, hi]

/-! ### RAISING -/

/-- The roof jobs as the entry to RAISING finds them once it has made its choice. -/
def Jobs.choosing (j : Jobs) : Jobs := ((j.touchTarget).touch 0x145).stop .t0

theorem Jobs.choosing_still (j : Jobs) : Still j ((j.touchTarget).touch 0x145) := (Still.touchTarget j).trans (.touch _ _)

theorem Jobs.choosing_aligned (hw : j.tableWf) : Aligned j j.choosing :=
  ((Jobs.choosing_still j).aligned hw).trans ⟨rfl, .of_tm rfl, rfl, rfl⟩

theorem Jobs.choosing_cs (j : Jobs) : j.choosing.cs = j.cs := (Jobs.choosing_still j).cs

theorem Jobs.enterRaising_none (h : j.raiseChoice = none) : j.enterRaising = j.choosing.enterHold .mismatch .raising := by
  unfold Jobs.enterRaising; dsimp only; rw [h]; rfl

theorem Jobs.enterRaising_accepted {x : Panto} (h : j.raiseChoice = some x)
    (ha : j.choosing.raiseAnswer x .collector .cs = .accepted) : j.enterRaising =
      (((j.choosing.raise x .collector .cs).2.setCs { (j.choosing.raise x .collector .cs).2.cs with chosen := some x }).noteMade
        x (j.choosing.panto x).state).csTo .raising := by
  have hfst : j.choosing.raise x .collector .cs = (.accepted, (j.choosing.raise x .collector .cs).2) := Prod.ext ha rfl
  unfold Jobs.enterRaising
  dsimp only
  rw [h]
  dsimp only
  rw [show (j.touchTarget.touch 0x145).stop .t0 = j.choosing from rfl, hfst]

theorem Jobs.enterRaising_refused {x : Panto} (h : j.raiseChoice = some x)
    (ha : j.choosing.raiseAnswer x .collector .cs ≠ .accepted) :
    j.enterRaising = (j.choosing.touchRaise x).enterHold .pantograph .raising := by
  unfold Jobs.enterRaising
  dsimp only
  rw [h]
  dsimp only
  rw [show (j.touchTarget.touch 0x145).stop .t0 = j.choosing from rfl, Jobs.raise_refused ha]
  split
  · rename_i heq
    exact absurd (Prod.mk.inj heq).1 ha
  · rename_i heq
    rw [(Prod.mk.inj heq).2]

theorem Jobs.noteMade_spec (x : Panto) (was : PState) (j : Jobs) : (j.noteMade x was) =
    j.setIce { j.ice with made := if was.raised = true then j.ice.made else some x } := by
  unfold Jobs.noteMade
  split <;> rfl

/-- R47: an accepted choice. -/
theorem Jobs.enterRaising_made (hw : j.tableWf) {x : Panto} (h : j.raiseChoice = some x)
    (ha : j.raiseAnswer x .collector .cs = .accepted) :
    j.enterRaising.cs = { j.cs with state := .raising, chosen := some x } ∧
    (j.enterRaising.panto x).state.raised = true ∧ (j.enterRaising.panto x).role = .collector ∧
    ((j.panto x).state.raised = false → j.enterRaising.panto x = (j.panto x).prepared .collector) ∧
    (j.enterRaising.timer .t0).stopped ∧
    j.enterRaising.ice = { j.ice with made := if (j.panto x).state.raised = true then j.ice.made else some x } := by
  have hal := Jobs.choosing_aligned hw
  have ha' : j.choosing.raiseAnswer x .collector .cs = .accepted := (hal.only.raiseAnswer hal.words x .cs).trans ha
  have hacc := Jobs.raise_accepted (j := j.choosing) ha' (by decide)
  rw [Jobs.enterRaising_accepted h ha']
  have hp : ∀ (k : Jobs) (v : Cs) (w : PState), (((k.setCs v).noteMade x w).csTo .raising).panto x = k.panto x := by
    intro k v w; rw [Jobs.noteMade_spec]; cases x <;> rfl
  refine ⟨?_, ?_, ?_, fun hr => ?_, ?_, ?_⟩
  · rw [Jobs.csTo_cs, Jobs.noteMade_spec, Jobs.setIce_cs, Jobs.setCs_cs, Jobs.raise_cs, Jobs.choosing_cs]
  · rw [hp]; exact hacc.1
  · rw [hp]; exact hacc.2
  · rw [hp, Jobs.raise_started ha' (by rw [hal.only.panto]; exact hr)]
    dsimp only
    rw [Jobs.prepare_panto, if_pos rfl, (Jobs.touchRaise_still x _).panto, hal.only.panto]
  · rw [Jobs.csTo_timer, Jobs.noteMade_spec, Jobs.timer_setIce, Jobs.timer_setCs,
      Jobs.raise_timer _ _ _ _ _ (Panto.settleTimer_ne x).1]
    simp only [Jobs.choosing, Jobs.timer_stop, if_true]
    exact Timer.stopped_stop _
  · rw [Jobs.noteMade_spec]
    show Ice.mk .. = _
    rw [hal.only.panto]
    simp only [Jobs.setCs_ice, Jobs.raise_ice, hal.only.ice]

/-- R47: a refused choice. -/
theorem Jobs.enterRaising_failed (hw : j.tableWf) {x : Panto} (h : j.raiseChoice = some x)
    (ha : j.raiseAnswer x .collector .cs ≠ .accepted) :
    HeldFor .pantograph .raising j.enterRaising ∧ OnlyChangeover j j.enterRaising ∧
    j.enterRaising.cs = { j.cs with state := .hold, reason := some .pantograph, stepOfFailure := some .raising,
                                    command := .open, pulse := false, selOut := none } := by
  have hal := Jobs.choosing_aligned hw
  have ha' : j.choosing.raiseAnswer x .collector .cs ≠ .accepted := by rwa [hal.only.raiseAnswer hal.words x .cs]
  have hst := Jobs.touchRaise_still x j.choosing
  rw [Jobs.enterRaising_refused h ha']
  exact ⟨Jobs.enterHold_heldFor .pantograph .raising _,
    (hal.only.trans hst.onlyChangeover).trans (.enterHold _ _ _), by rw [Jobs.enterHold_cs, hst.cs, Jobs.choosing_cs]⟩

theorem Jobs.enterRaising_enters (hw : j.tableWf) : EntersRaising j j.enterRaising := by
  refine ⟨fun h => ?_, fun x h => ⟨fun ha => ?_, fun ha => (Jobs.enterRaising_failed hw h ha).1⟩⟩
  · rw [Jobs.enterRaising_none h]
    exact Jobs.enterHold_heldFor .mismatch .raising _
  · obtain ⟨hcs, hraised, hrole, -, ht, hice⟩ := Jobs.enterRaising_made hw h ha
    exact ⟨by rw [hcs], by rw [hcs], hraised, hrole, ht, hice⟩

/-! ### An entry made from an aligned state -/

theorem Aligned.entersLowering (h : Aligned j k) (he : EntersLowering k l) : EntersLowering j l := by
  obtain ⟨hs, hp, ht⟩ := he
  refine ⟨hs, fun x => ?_, fun lowerTime hl => ?_⟩
  · rw [← h.only.panto x]; exact hp x
  · rw [← h.words.changeover]
    exact ht lowerTime fun x => by rw [hl, h.words.pantoValid, h.words.pantoParam]

theorem Aligned.entersSelecting (h : Aligned j k) (he : EntersSelecting k l) : EntersSelecting j l := by
  unfold EntersSelecting at he ⊢
  simp only [h.only.fb, h.only.p1, h.only.p2, h.targetEntry, h.words.lineSelector, h.words.changeover] at he
  exact he

theorem Aligned.entersRaising (h : Aligned j k) (he : EntersRaising k l) : EntersRaising j l := by
  unfold EntersRaising at he ⊢
  simp only [h.raiseChoice, h.only.raiseAnswer h.words, h.only.ice, h.only.panto] at he
  exact he

theorem Aligned.entersIdentifying (h : Aligned j k) (he : EntersIdentifying k l) : EntersIdentifying j l := by
  unfold EntersIdentifying at he ⊢
  rwa [h.words.changeover] at he

theorem Aligned.entersClosing (h : Aligned j k) (he : EntersClosing k l) : EntersClosing j l := by
  unfold EntersClosing at he ⊢
  rwa [h.closeFailure, h.words.changeover, h.words.changeover] at he

end Sys2Proof.Machine
end

section
/-! PROOFS. The requests to the Changeover Sequencer (O34 to O36): each case of what the owner of a code decides, from the
roof jobs that the consumption of its frame leaves. -/

namespace Sys2Proof.Machine

open Sys2Proof

variable {s : State} {f : Frame}

/-- The roof jobs after a frame is consumed, as far as the sequencer's decisions go. -/
theorem State.after_aligned (f : Frame) (h : Running s) : Aligned s.jobs (s.after f) :=
  (State.after_spec f s).aligned h.1.2.1

theorem State.after_cs (f : Frame) (s : State) : (s.after f).cs = s.jobs.cs := (State.after_spec f s).cs

/-- R146, R112: a REQUEST that output hold does not keep waiting, decided by its owner. -/
theorem Answers.request {i : Instr} {c : Nat} {run : Jobs → Answer × Jobs} {a : Answer} {j : Jobs} (h : TakesRequests s)
    (hf : i.frame? = some (.train, f)) (hi : exec i s = s.taking .train f (fun f s => s.request f c run))
    (e : run (s.after f) = (a, j)) : Answers i f c a j s := Answers.of h.1 (.inl h.2) hf hi e

theorem OtherTimers.still {is : List TimerId} {j k l : Jobs} (h : Still j k) (h' : OtherTimers is k l) : OtherTimers is j l :=
  (OtherTimers.of_tmr h.tmr).trans h'

/-- R53: under a commanded OPEN a feedback change is only another change. -/
theorem Jobs.csBreaker_open {j : Jobs} (old new : BreakerFb) (h : j.cs.command = .open) :
    j.csBreaker old new = j.csTest false := by
  unfold Jobs.csBreaker
  rw [if_neg (by simp [h])]

/-! ### BREAKER_CLOSE and BREAKER_OPEN -/

/-- R54, R49: BREAKER_CLOSE with the close law met. -/
theorem Jobs.requestClose_closes {j k : Jobs} (hk : Still j k) (hw : j.tableWf) (hi : j.cs.state = .idle)
    (hc : j.cs.command = .open) (hl : j.closeLaw = true) : ∃ l, k.requestClose = (.accepted, l) ∧ OnlyChangeover j l ∧
    l.cs = { j.cs with state := .closing, command := .close, pulse := true, current := none } ∧
    (l.timer .t1).loaded (timing (j.changeover 3)) .oneShot ∧ (l.timer .t0).loaded (timing (j.changeover 4)) .oneShot ∧
    OtherTimers [.t0, .t1] j l := by
  have hsame := hk.sameWords hw
  have honly : OnlyChangeover j (k.setCs { k.cs with current := none }) := hk.onlyChangeover.trans (.setCs _ _)
  have hlaw : k.closeLaw = true := (hk.onlyChangeover.closeLaw hsame).trans hl
  have hnone : (k.setCs { k.cs with current := none }).closeFailure = none :=
    Jobs.closeFailure_of_closeLaw rfl ((honly.closeLaw (hsame.trans (.of_tm rfl))).trans hl)
  have hwf : (k.setCs { k.cs with current := none }).tableWf := hk.tableWf hw
  obtain ⟨ho, hcs, h1, h0, ht⟩ := Jobs.enterClosing_of_none hwf hnone
  refine ⟨_, ?_, honly.trans ho, ?_, ?_, ?_, .still hk (.trans (.of_tmr rfl) ht)⟩
  · unfold Jobs.requestClose
    rw [if_neg (by simp [hk.cs, hi]), if_neg (by simp [hk.cs, hc]), if_pos hlaw]
  · rw [hcs, ← hk.cs]; rfl
  · rw [← hsame.changeover]; exact h1
  · rw [← hsame.changeover]; exact h0

/-- R54: BREAKER_OPEN in IDLE. -/
theorem Jobs.requestOpen_opens {j k : Jobs} (hk : Still j k) (hi : j.cs.state = .idle) :
    ∃ l, k.requestOpen = (.accepted, l) ∧ OnlyChangeover j l ∧
    l.cs = { j.cs with command := .open, pulse := false, closingSystem := none } ∧
    (j.cs.pulse = true → (l.timer .t1).stopped) ∧ (j.cs.pulse = false → l.tmr = j.tmr) ∧ OtherTimers [.t1] j l := by
  refine ⟨_, by unfold Jobs.requestOpen; rw [if_neg (by simp [hk.cs, hi])],
    (hk.onlyChangeover.trans (.setOpen k)).trans (.setCs _ _), by simp [hk.cs], fun hp => ?_, fun hp => ?_, fun i hn => ?_⟩
  · rw [Jobs.timer_setCs, Jobs.setOpen_timer, if_pos ⟨rfl, by rw [hk.cs]; exact hp⟩]
    exact Timer.stopped_stop _
  · unfold Jobs.setOpen
    dsimp only
    rw [if_neg (by simp [hk.cs, hp])]
    exact hk.tmr
  · rw [Jobs.timer_setCs, Jobs.setOpen_timer, if_neg (fun h => hn (by simp [h.1])), hk.timer]

/-! ### Lost entries (R28) -/

/-- A read of one address leaves every other cell of table memory as it is. -/
theorem Jobs.cell_touch_ne {j : Jobs} (hw : j.tableWf) {a b : Nat} (h : b ≠ a) : (j.touch a).cell b = j.cell b := by
  have hstore : ∀ (t : TableMem) (w : TWord), Store.wf ({} : TWord) t.mem = true →
      Store.read ({} : TWord) b (t.store a w).mem = Store.read {} b t.mem := by
    intro t w ht
    rw [TableMem.read_store ht, if_neg h]
  unfold Jobs.touch
  dsimp only
  split
  · exact hstore j.tm _ hw
  · split
    · exact hstore j.tm _ hw
    · rfl

theorem Jobs.lineStands_congr {j k : Jobs} (e : Fin 8) (h : ∀ n, n < 6 → k.cell (lineAddr e + n) = j.cell (lineAddr e + n)) :
    k.lineStands e = j.lineStands e := by
  have h0 : k.word (lineAddr e) = j.word (lineAddr e) := congrArg TWord.data (h 0 (by decide))
  have hm : ∀ a ∈ span (lineAddr e) 6, k.marked a = j.marked a := by
    intro a ha
    obtain ⟨n, hn, rfl⟩ := List.mem_map.mp ha
    exact congrArg TWord.mark (h n (List.mem_range.mp hn))
  unfold Jobs.lineStands Jobs.lineNamed Jobs.anyMarked
  rw [h0]
  congr 2
  rw [Bool.eq_iff_iff, List.any_eq_true, List.any_eq_true]
  exact ⟨fun ⟨a, ha, hb⟩ => ⟨a, ha, (hm a ha) ▸ hb⟩, fun ⟨a, ha, hb⟩ => ⟨a, ha, (hm a ha).symm ▸ hb⟩⟩

/-- R28: the candidate's entry has been found lost. -/
def Jobs.candidateLost (j : Jobs) : Bool := (j.lsi.candidate.bind Line.index).any fun e => !j.lineStands e

/-- R28: the confirmed system's entry has been found lost. -/
def Jobs.confirmedLost (j : Jobs) : Bool := j.lsi.confirmed.index.any fun e => !j.lineStands e

/-- R28: what the loss of entries makes of the roof jobs. -/
theorem Jobs.lostEntries_eq (j : Jobs) : ∃ l : Lsi,
    l = { j.lsi with candidate := if j.candidateLost then none else j.lsi.candidate,
                     agreement := if j.candidateLost then 0 else j.lsi.agreement } ∧
    j.lostEntries = if j.confirmedLost then (j.setLsi l).confirm .unknown else j.setLsi l := by
  refine ⟨_, rfl, ?_⟩
  have hset : ∀ (l : Lsi) (e : Fin 8), (j.setLsi l).lineStands e = j.lineStands e := fun _ _ => rfl
  unfold Jobs.lostEntries Jobs.candidateLost Jobs.confirmedLost
  cases j.lsi.candidate.bind Line.index with
  | none =>
    dsimp only [Option.any_none]
    cases j.lsi.confirmed.index with
    | none => rfl
    | some e => cases h : j.lineStands e <;> simp [h] <;> rfl
  | some e =>
    cases he : j.lineStands e
    · simp only [he, Option.any_some, Bool.not_false, Bool.false_eq_true, if_false, if_true, Jobs.setLsi_lsi, hset]
      cases j.lsi.confirmed.index with
      | none => rfl
      | some e' => cases h : j.lineStands e' <;> simp [h]
    · simp only [he, Option.any_some, Bool.not_true, Bool.false_eq_true, if_false, if_true]
      cases j.lsi.confirmed.index with
      | none => rfl
      | some e' => cases h : j.lineStands e' <;> simp [h] <;> rfl

theorem Jobs.lostEntries_spec (j : Jobs) : j.lostEntries =
      { j with lsi := j.lostEntries.lsi, todo := j.lostEntries.todo, out := j.lostEntries.out } ∧
    j.lostEntries.lsi = { j.lsi with
      candidate := if j.candidateLost then none else j.lsi.candidate,
      agreement := if j.candidateLost then 0 else j.lsi.agreement,
      confirmed := if j.confirmedLost then .unknown else j.lsi.confirmed,
      since := if j.confirmedLost then j.tag else j.lsi.since } := by
  obtain ⟨l, rfl, h⟩ := j.lostEntries_eq
  rw [h]
  cases j.confirmedLost <;> exact ⟨rfl, rfl⟩

/-- R28: the loss goes by the records of the identifier and by the line-system entries. -/
theorem Jobs.lostEntries_congr {j k : Jobs} (hl : k.lsi = j.lsi) (ht : k.tag = j.tag)
    (hs : ∀ e, k.lineStands e = j.lineStands e) : k.lostEntries.lsi = j.lostEntries.lsi := by
  rw [k.lostEntries_spec.2, j.lostEntries_spec.2]
  unfold Jobs.candidateLost Jobs.confirmedLost
  simp only [hl, ht, hs]

/-! ### SELECT -/

/-- R55: the feature that SELECT builds. -/
def selected (c : BitVec 4) : Feature :=
  { kind := .select, number := none, target := .code c, due := none, coast := 0, arrival := none }

/-- R55: the roof jobs as SELECT enters OPENING. -/
def Jobs.selecting (c : BitVec 4) (k : Jobs) : Jobs :=
  (k.touchResolve c).lostEntries.setCs { (k.touchResolve c).lostEntries.cs with
    current := some (selected c), expected := some (k.touchResolve c).lostEntries.lsi.confirmed, deadSeen := false }

theorem Jobs.requestSelect_of {k : Jobs} {arg : Byte} {c : BitVec 4} (hi : k.cs.state = .idle) (hc : c ≠ 0)
    (ha : arg.toNat = c.toNat) : k.requestSelect arg =
      if (k.resolve c).isSome then (.accepted, (k.selecting c).enterOpening) else (.invalid, k.touchResolve c) := by
  have hc' : BitVec.ofNat 4 arg.toNat = c := by rw [ha]; simp
  have hlow : c.toNat ≠ 0 := fun h => hc (BitVec.eq_of_toNat_eq h)
  have hhigh := c.isLt
  unfold Jobs.requestSelect
  rw [if_neg (by simp [hi]), if_neg (by omega)]
  dsimp only
  rw [hc']
  rfl

/-- R55, R28, R42: SELECT of a code that a usable entry carries. -/
theorem Jobs.selecting_opens {j k : Jobs} (c : BitVec 4) (hk : Still j k) (hw : j.tableWf) :
    ∃ l, l = (k.selecting c).enterOpening ∧ OnlyChangeover { j with lsi := l.lsi } l ∧
      l.lsi = ({ j with tm := l.tm } : Jobs).lostEntries.lsi ∧
      l.cs = { j.cs with state := .opening, command := .open, pulse := false, expected := some l.lsi.confirmed,
                         deadSeen := false, current := some (selected c) } ∧
      (l.timer .t0).loaded (timing (j.changeover 2)) .oneShot ∧ OtherTimers [.t0, .t1] j l := by
  have hread : Still j (k.touchResolve c) := hk.trans (.touchResolve k c)
  have hwr := hread.tableWf hw
  have ho := OnlyChangeover.enterOpening (k.selecting c)
  have hlost := (k.touchResolve c).lostEntries_spec.1
  have hlsi : (k.selecting c).enterOpening.lsi = (k.touchResolve c).lostEntries.lsi := ho.lsi
  refine ⟨_, rfl, ?_, ?_, ?_, ?_, ?_⟩
  · have hsel : OnlyChangeover { j with lsi := (k.touchResolve c).lostEntries.lsi } (k.selecting c) := by
      have hr := hread.rest
      unfold Jobs.selecting OnlyChangeover
      rw [hlost, hr]
      rfl
    rw [hlsi]
    exact hsel.trans ho
  · have htm : (k.selecting c).enterOpening.tm = ((k.touchResolve c).touch 0x152).tm := by
      have hopen : (k.selecting c).setOpen.tm = (k.touchResolve c).tm := by
        have hsel : (k.selecting c).tm = (k.touchResolve c).lostEntries.tm := rfl
        rw [← hsel.trans (congrArg Jobs.tm hlost)]
        unfold Jobs.setOpen
        dsimp only
        split <;> rfl
      have htouch : ∀ a b : Jobs, a.tm = b.tm → (a.touch 0x152).tm = (b.touch 0x152).tm := by
        intro a b hab
        unfold Jobs.touch Jobs.cell
        dsimp only
        rw [hab]
        split
        · rfl
        · split
          · rfl
          · exact hab
      exact htouch _ _ hopen
    rw [hlsi]
    refine Jobs.lostEntries_congr hread.lsi hread.tag fun e => ?_
    refine Jobs.lineStands_congr e fun n hn => ?_
    have hcell : ({ j with tm := (k.selecting c).enterOpening.tm } : Jobs).cell (lineAddr e + n) =
        ((k.touchResolve c).touch 0x152).cell (lineAddr e + n) := by unfold Jobs.cell; rw [htm]
    rw [hcell, Jobs.cell_touch_ne hwr]
    unfold lineAddr
    omega
  · rw [Jobs.enterOpening_cs, hlsi]
    have hcs : (k.touchResolve c).lostEntries.cs = j.cs := (congrArg Jobs.cs hlost).trans hread.cs
    unfold Jobs.selecting
    simp [hcs]
  · have hsel : (k.selecting c).tm = (k.touchResolve c).lostEntries.tm := rfl
    have hwords : SameWords (k.touchResolve c) (k.selecting c) := .of_tm (by rw [hsel, hlost])
    rw [← (hread.sameWords hw).changeover, ← hwords.changeover]
    exact Jobs.enterOpening_timer _
  · refine OtherTimers.trans (OtherTimers.of_tmr ?_) (Jobs.enterOpening_others _)
    exact (congrArg Jobs.tmr hlost).trans hread.tmr

/-! ### ENERGISE -/

/-- R55: the feature that ENERGISE builds. -/
def energising : Feature := { kind := .energise, number := none, target := .any, due := none, coast := 0, arrival := none }

/-- R55: the roof jobs as ENERGISE enters RAISING. -/
def Jobs.energised (k : Jobs) : Jobs := k.setCs { k.cs with current := some energising, expected := some .pending }

/-- R47: with both pantographs down, ANY is the start pantograph. -/
theorem Jobs.eitherPanto_lowered {j : Jobs} (h1 : j.p1.state = .lowered) (h2 : j.p2.state = .lowered) :
    j.eitherPanto = j.startPanto := by
  have hx : ∀ x, (j.panto x).state = .lowered := by intro x; cases x <;> assumption
  unfold Jobs.eitherPanto
  cases j.collector with
  | none => simp [h1, h2, PState.raised]
  | some x => simp [h1, h2, hx, PState.raised]

theorem Jobs.requestEnergise_of {k : Jobs} (hi : k.cs.state = .idle) : k.requestEnergise =
    if k.cs.command = .open ∧ k.bothLowered = true ∧ k.oc.lowerAll = false then (.accepted, k.energised.enterRaising)
    else (.state, k) := by
  unfold Jobs.requestEnergise
  rw [if_neg (by simp [hi])]
  rfl

/-- R55, R47, R61: ENERGISE with the roof down raises the start pantograph. -/
theorem Jobs.energised_raises {j k : Jobs} (hk : Still j k) (hw : j.tableWf) (h1 : j.p1.state = .lowered)
    (h2 : j.p2.state = .lowered) : ∃ l, l = k.energised.enterRaising ∧
      l.cs.expected = some .pending ∧ l.cs.current = some energising ∧
      ∀ x, x = j.startPanto →
        (j.raiseAnswer x .collector .cs = .accepted → l.cs.state = .raising ∧ l.cs.chosen = some x ∧
          (l.panto x).state = .preparing ∧ (l.panto x).role = .collector ∧ l.ice.made = some x) ∧
        (j.raiseAnswer x .collector .cs ≠ .accepted → l.cs.state = .hold ∧ l.cs.reason = some .pantograph ∧
          l.cs.stepOfFailure = some .raising ∧ l.panto x = j.panto x) := by
  have hsame := hk.sameWords hw
  have ho : OnlyChangeover j k.energised := hk.onlyChangeover.trans (.setCs _ _)
  have hs : SameWords j k.energised := hsame.trans (.of_tm rfl)
  have hwf : k.energised.tableWf := hk.tableWf hw
  have hchoice : k.energised.raiseChoice = some j.startPanto := by
    show some k.energised.eitherPanto = _
    rw [ho.eitherPanto hs, Jobs.eitherPanto_lowered h1 h2]
  have hdown : (j.panto j.startPanto).state.raised = false := by
    cases j.startPanto
    · exact (congrArg PState.raised h1).trans rfl
    · exact (congrArg PState.raised h2).trans rfl
  by_cases ha : j.raiseAnswer j.startPanto .collector .cs = .accepted
  · obtain ⟨hcs, -, hrole, hprep, -, hice⟩ := Jobs.enterRaising_made hwf hchoice ((ho.raiseAnswer hs _ _).trans ha)
    refine ⟨_, rfl, by rw [hcs]; rfl, by rw [hcs]; rfl, ?_⟩
    rintro x rfl
    refine ⟨fun _ => ⟨by rw [hcs], by rw [hcs], ?_, hrole, ?_⟩, fun h => absurd ha h⟩
    · rw [hprep (by rw [ho.panto]; exact hdown)]; rfl
    · rw [hice, ho.panto, if_neg (by simp [hdown])]
  · obtain ⟨-, hf, hcs⟩ := Jobs.enterRaising_failed hwf hchoice (by rwa [ho.raiseAnswer hs])
    refine ⟨_, rfl, by rw [hcs]; rfl, by rw [hcs]; rfl, ?_⟩
    rintro x rfl
    exact ⟨fun h => absurd h ha, fun _ => ⟨by rw [hcs], by rw [hcs], by rw [hcs], by rw [hf.panto, ho.panto]⟩⟩

end Sys2Proof.Machine

open Sys2Proof Sys2Proof.Machine

/-- Settles O34: BREAKER_CLOSE and BREAKER_OPEN by the cases of the sequencer's state and command. -/
theorem breakerRequests : Obligations.BreakerRequests := by
  unfold Obligations.BreakerRequests
  refine ⟨fun j old new h => Jobs.csBreaker_open old new h, ?_⟩
  rintro s h arg extra fc fo ht rfl rfl
  have hw := ht.1.1.2.1
  have hclose {a : Answer} {j : Jobs} (e : (s.after (requestFrame h 1 arg extra)).requestClose = (a, j)) :
      Answers (.breakerClose h arg extra) (requestFrame h 1 arg extra) 1 a j s := Answers.request ht rfl rfl e
  have hopen {a : Answer} {j : Jobs} (e : (s.after (requestFrame h 2 arg extra)).requestOpen = (a, j)) :
      Answers (.breakerOpen h arg extra) (requestFrame h 2 arg extra) 2 a j s := Answers.request ht rfl rfl e
  have hcs := fun f => State.after_cs f s
  refine ⟨fun hi => ⟨hclose ?_, hopen ?_⟩, fun hi => ⟨fun hc => hclose ?_, fun hc hl => ?_, fun hc hl => ?_, ?_⟩⟩
  · rw [Jobs.requestClose, if_pos (by simpa [hcs] using hi)]
  · rw [Jobs.requestOpen, if_pos (by simpa [hcs] using hi)]
  · rw [Jobs.requestClose, if_neg (by simp [hcs, hi]), if_pos (by simp [hcs, hc])]
  · have hk := State.after_spec (requestFrame h 1 arg extra) s
    have hlaw : (s.after (requestFrame h 1 arg extra)).closeLaw = false :=
      (hk.onlyChangeover.closeLaw (hk.sameWords hw)).trans hl
    refine ⟨_, (hk.trans (.touchConfirmed _)).onlyReads, hclose ?_⟩
    rw [Jobs.requestClose, if_neg (by simp [hcs, hi]), if_neg (by simp [hcs, hc]), if_neg (by simp [hlaw])]
  · obtain ⟨l, he, ho, hl, h1, h0, hot⟩ := Jobs.requestClose_closes (State.after_spec (requestFrame h 1 arg extra) s) hw hi hc hl
    exact ⟨l, ho, hl, h1, h0, hot, hclose he⟩
  · obtain ⟨l, he, ho, hl, h1, h1', hot⟩ := Jobs.requestOpen_opens (State.after_spec (requestFrame h 2 arg extra) s) hi
    exact ⟨l, ho, hl, h1, h1', hot, hopen he⟩

/-- Settles O35: SELECT by what its code resolves to, ENERGISE by what the raise of the start pantograph is answered. -/
theorem selectAndEnergise : Obligations.SelectAndEnergise := by
  unfold Obligations.SelectAndEnergise
  rintro s h arg extra fs fe ht rfl rfl
  have hw := ht.1.1.2.1
  have hselect {a : Answer} {j : Jobs} (e : (s.after (requestFrame h 3 arg extra)).requestSelect arg = (a, j)) :
      Answers (.select h arg extra) (requestFrame h 3 arg extra) 3 a j s := Answers.request ht rfl rfl e
  have henergise {a : Answer} {j : Jobs} (e : (s.after (requestFrame h 4 arg extra)).requestEnergise = (a, j)) :
      Answers (.energise h arg extra) (requestFrame h 4 arg extra) 4 a j s := Answers.request ht rfl rfl e
  have hcs := fun f => State.after_cs f s
  have hks := State.after_spec (requestFrame h 3 arg extra) s
  have hke := State.after_spec (requestFrame h 4 arg extra) s
  refine ⟨fun hi => ⟨hselect ?_, henergise ?_⟩, fun hi => ⟨fun ha => hselect ?_, fun c hc ha => ⟨fun hn => ?_, fun hn => ?_⟩,
    ?_, fun hc h1 h2 hl => ?_⟩⟩
  · rw [Jobs.requestSelect, if_pos (by simpa [hcs] using hi)]
  · rw [Jobs.requestEnergise, if_pos (by simpa [hcs] using hi)]
  · rw [Jobs.requestSelect, if_neg (by simp [hcs, hi]), if_pos (by omega)]
  · refine ⟨_, (hks.trans (.touchResolve _ c)).onlyReads, hselect ?_⟩
    rw [Jobs.requestSelect_of (by rw [hcs, hi]) hc ha, (hks.sameWords hw).resolve, hn]
    rfl
  · obtain ⟨l, rfl, ho, hlsi, hlcs, h0, hot⟩ := Jobs.selecting_opens c hks hw
    refine ⟨_, ho, hlsi, hlcs, h0, hot, hselect ?_⟩
    rw [Jobs.requestSelect_of (by rw [hcs, hi]) hc ha, (hks.sameWords hw).resolve,
      if_pos (Option.isSome_iff_ne_none.mpr hn)]
  · rintro j rfl hstate
    refine henergise ?_
    rw [Jobs.requestEnergise_of (by rw [hcs, hi]), if_neg]
    rw [hcs, hke.onlyChangeover.bothLowered, hke.oc, Jobs.bothLowered_iff]
    rintro ⟨hopen, ⟨hp1, hp2⟩, hall⟩
    simp [hopen, hp1, hp2, hall] at hstate
  · obtain ⟨l, rfl, hexp, hcur, hx⟩ := Jobs.energised_raises hke hw h1 h2
    refine ⟨_, henergise ?_, hexp, hcur, hx⟩
    rw [Jobs.requestEnergise_of (by rw [hcs, hi]), if_pos]
    rw [hcs, hke.onlyChangeover.bothLowered, hke.oc, Jobs.bothLowered_iff]
    exact ⟨hc, ⟨h1, h2⟩, hl⟩

end

section
/-! PROOFS. CHANGEOVER_RESUME and CHANGEOVER_ABORT (O36): the step of failure entered afresh, and the end in IDLE. -/

namespace Sys2Proof.Machine

open Sys2Proof

variable {j k : Jobs}

/-! ### What every entry keeps of the changeover record -/

/-- The entry keeps the feature list, and clears no reason unless it ends in HOLD with one of its own. -/
def KeepsList (j k : Jobs) : Prop := k.cs.list = j.cs.list ∧ (k.cs.state ≠ .hold → k.cs.reason = j.cs.reason)

theorem KeepsList.enterHold {r : HoldReason} {step : CsState} (h : k.cs = j.cs) : KeepsList j (k.enterHold r step) := by
  rw [KeepsList, Jobs.enterHold_cs, h]
  exact ⟨rfl, fun hs => absurd rfl hs⟩

theorem KeepsList.enterSelecting (j : Jobs) : KeepsList j j.enterSelecting := by
  unfold Jobs.enterSelecting
  split
  · exact .enterHold rfl
  · split
    · exact .enterHold rfl
    · have ht : j.touchTarget.cs = j.cs := (Still.touchTarget j).cs
      dsimp only
      split
      · exact .enterHold ht
      · simp [KeepsList, ht]

theorem KeepsList.enterRaising (j : Jobs) : KeepsList j j.enterRaising := by
  cases hc : j.raiseChoice with
  | none => rw [Jobs.enterRaising_none hc]; exact .enterHold (Jobs.choosing_cs j)
  | some x =>
    by_cases ha : j.choosing.raiseAnswer x .collector .cs = .accepted
    · rw [Jobs.enterRaising_accepted hc ha, KeepsList, Jobs.csTo_cs, Jobs.noteMade_spec, Jobs.setIce_cs, Jobs.setCs_cs,
        Jobs.raise_cs, Jobs.choosing_cs]
      exact ⟨rfl, fun _ => rfl⟩
    · rw [Jobs.enterRaising_refused hc ha]
      exact .enterHold ((Jobs.touchRaise_still x _).cs.trans (Jobs.choosing_cs j))

theorem KeepsList.enterClosing (j : Jobs) : KeepsList j j.enterClosing := by
  have ht : j.touchClosing.cs = j.cs := (Still.touchClosing j).cs
  cases hf : j.closeFailure with
  | some r => rw [Jobs.enterClosing_of_failure hf]; exact .enterHold ht
  | none =>
    rw [Jobs.enterClosing_eq hf]
    simp [KeepsList, Jobs.closingBegun, ht]

theorem KeepsList.reenter (step : CsState) (j : Jobs) : KeepsList j (j.reenter step) := by
  cases step
  case armed =>
    unfold Jobs.reenter
    dsimp only
    split
    · split
      · simp [KeepsList]
      · exact ⟨by simp, fun hs => absurd (by simp) hs⟩
    · exact ⟨rfl, fun _ => rfl⟩
  case selecting => exact .enterSelecting j
  case raising => exact .enterRaising j
  case closing => exact .enterClosing j
  case coasting =>
    obtain ⟨-, hcs, -⟩ := j.enterCoasting_spec
    show KeepsList j j.enterCoasting
    rw [KeepsList, hcs]
    exact ⟨rfl, fun _ => rfl⟩
  all_goals simp [KeepsList, Jobs.reenter]

/-! ### The cases of the step of failure -/

/-- R56: IDLE is entered where no step is left to enter again. -/
theorem Jobs.reenter_idle {step : CsState}
    (h : step = .idle ∨ step = .hold ∨ step = .armed ∧ j.cs.current = none) : j.reenter step = j.enterIdle := by
  rcases h with rfl | rfl | ⟨rfl, hc⟩
  · rfl
  · rfl
  · unfold Jobs.reenter
    rw [hc]
    rfl

/-- R56: the roof jobs as ARMED is entered again with a feature in hand. -/
def Jobs.rearmed (j : Jobs) : Jobs := j.setCs { j.cs with expected := some j.lsi.confirmed, deadSeen := false }

theorem Jobs.reenter_armed (h : j.cs.current ≠ none) : j.reenter .armed =
    if j.lsi.confirmed.isSystem then j.rearmed.enterOpening else j.rearmed.enterHold .identify .armed := by
  unfold Jobs.reenter
  dsimp only
  rw [if_pos (Option.isSome_iff_ne_none.mpr h)]
  rfl

/-- R56: the roof jobs as RESUME enters the step of failure. -/
def Jobs.resumed (k : Jobs) : Jobs := k.dropStale.setCs { k.dropStale.cs with reason := none }

theorem Jobs.requestResume_of (hi : k.cs.state = .hold) (hl : k.oc.lowerAll = false) :
    k.requestResume = (.accepted, k.resumed.reenter (k.cs.stepOfFailure.getD .idle)) := by
  unfold Jobs.requestResume
  rw [if_neg (by simp [hi]), if_neg (by simp [hl])]
  rfl

theorem Jobs.resumed_cs (k : Jobs) :
    k.resumed.cs = { k.cs with reason := none, list := k.cs.list.filter (fun g => !g.staleMark) } := by
  simp [Jobs.resumed]

theorem Jobs.resumed_tmr (k : Jobs) : OtherTimers [] k k.resumed := fun i _ => by simp [Jobs.resumed]

theorem Held.resumed (k : Jobs) : Held k.dropStale k.resumed := Held.setCs_rest _ _ rfl rfl rfl

theorem Still.resumed_aligned (h : Still j k) (hw : j.tableWf) : Aligned j k.resumed ∧ k.resumed.tableWf := by
  have hs := (Held.dropStale k).trans (Held.resumed k)
  refine ⟨⟨(h.onlyChangeover.trans (.dropStale k)).trans (.setCs _ _),
    (h.sameWords hw).trans (hs.sameWords (h.tableWf hw)), ?_, ?_⟩, hs.tableWf (h.tableWf hw)⟩
  · rw [Jobs.resumed_cs, h.cs]
  · rw [Jobs.resumed_cs, h.cs]

/-- R56: the roof jobs after ABORT. -/
theorem Jobs.requestAbort_of (hi : k.cs.state = .hold) : k.requestAbort = (.accepted,
    (k.setCs { k.cs with current := none, expected := none, reason := none, stepOfFailure := none,
                         deadSeen := false }).dropStale.setOpen.enterIdle) := by
  unfold Jobs.requestAbort
  rw [if_neg (by simp [hi])]

end Sys2Proof.Machine

open Sys2Proof Sys2Proof.Machine

/-- Settles O36: RESUME by the step of failure, each entry from a state aligned with the one the request found. -/
theorem resumeAndAbort : Obligations.ResumeAndAbort := by
  unfold Obligations.ResumeAndAbort
  rintro s h arg extra fr fa ht rfl rfl
  have hw := ht.1.1.2.1
  have hresume {a : Answer} {j : Jobs} (e : (s.after (requestFrame h 5 arg extra)).requestResume = (a, j)) :
      Answers (.changeoverResume h arg extra) (requestFrame h 5 arg extra) 5 a j s := Answers.request ht rfl rfl e
  have habort {a : Answer} {j : Jobs} (e : (s.after (requestFrame h 6 arg extra)).requestAbort = (a, j)) :
      Answers (.changeoverAbort h arg extra) (requestFrame h 6 arg extra) 6 a j s := Answers.request ht rfl rfl e
  have hcs := fun f => State.after_cs f s
  have hkr := State.after_spec (requestFrame h 5 arg extra) s
  have hka := State.after_spec (requestFrame h 6 arg extra) s
  refine ⟨fun hi => ⟨hresume ?_, habort ?_⟩, fun hi hl => hresume ?_, fun hi => ⟨?_, ?_⟩⟩
  · rw [Jobs.requestResume, if_pos (by simpa [hcs] using hi)]
  · rw [Jobs.requestAbort, if_pos (by simpa [hcs] using hi)]
  · rw [Jobs.requestResume, if_neg (by simp [hcs, hi]), if_pos (by rw [hkr.oc, hl])]
  · rintro hl step rfl
    obtain ⟨hal, hwf⟩ := hkr.resumed_aligned hw
    have hrcs := Jobs.resumed_cs (s.after (requestFrame h 5 arg extra))
    have hrt := OtherTimers.still hkr (Jobs.resumed_tmr (s.after (requestFrame h 5 arg extra)))
    have hstale : ∀ g ∈ s.jobs.cs.list, g.staleMark = true → Flagged .featureDiscarded (BitVec.ofNat 16 g.subject)
        (s.after (requestFrame h 5 arg extra)).resumed.out := fun g hg hgs =>
      (Jobs.dropStale_flags _ g (by rw [hcs]; exact hg) hgs).held (Held.resumed _)
    have hanswer := hresume (Jobs.requestResume_of (by rw [hcs, hi]) (by rw [hkr.oc, hl]))
    rw [hcs] at hanswer hrcs
    generalize (s.after (requestFrame h 5 arg extra)).resumed = b at *
    generalize hstep : s.jobs.cs.stepOfFailure.getD .idle = step at *
    have hkeep := KeepsList.reenter step b
    refine ⟨b.reenter step, b.cs, hanswer, hrcs, hkeep.1, fun hs => ?_, fun g hg hgs => (hstale g hg hgs).held
      (Held.reenter step b), fun hs => ?_, ?_, ?_, ?_, ?_, ?_, ?_, ?_, ?_⟩
    · rw [hkeep.2 hs, hrcs]
    · rw [Jobs.reenter_idle hs]
      refine ⟨hal.only.trans (.enterIdle b), rfl, ?_, fun i hn => ?_⟩
      · rw [Jobs.enterIdle_timer, if_pos rfl]; exact Timer.stopped_stop _
      · rw [Jobs.enterIdle_timer, if_neg (by simpa using hn), hrt i (by simp)]
    · rintro rfl hcur
      rw [Jobs.reenter_armed hcur]
      refine ⟨?_, fun hsys => ?_, fun hsys => ?_⟩
      · split
        · exact (hal.only.trans (.setCs _ b)).trans (.enterOpening b.rearmed)
        · exact (hal.only.trans (.setCs _ b)).trans (.enterHold _ _ b.rearmed)
      · rw [if_pos (by rw [hal.only.lsi]; exact hsys)]
        refine ⟨by simp [Jobs.rearmed, hal.only.lsi], ?_⟩
        rw [← hal.words.changeover]
        exact Jobs.enterOpening_timer b.rearmed
      · rw [if_neg (by rw [hal.only.lsi]; simp [hsys])]
        exact ⟨Jobs.enterHold_heldFor .identify .armed _, by simp [Jobs.rearmed], by simp [Jobs.rearmed, hal.only.lsi],
          by simp [Jobs.rearmed]⟩
    · rintro rfl
      refine ⟨hal.only.trans (.enterOpening b), Jobs.enterOpening_cs b, ?_⟩
      rw [← hal.words.changeover]
      exact Jobs.enterOpening_timer b
    · rintro rfl
      obtain ⟨ho, hccs, h1, h0⟩ := b.enterCoasting_spec
      refine ⟨hal.only.trans ho, ?_⟩
      rintro coast rfl
      rw [← hal.only.lsi, ← hal.crossing, ← hal.words.changeover]
      exact ⟨hccs, h1, h0⟩
    · rintro rfl
      exact hal.entersLowering b.enterLowering_enters
    · rintro rfl
      exact hal.entersSelecting (Jobs.enterSelecting_enters hwf)
    · rintro rfl
      exact hal.entersRaising (Jobs.enterRaising_enters hwf)
    · rintro rfl
      refine ⟨hal.only.trans (.enterIdentifying b), Jobs.enterIdentifying_cs b, ?_⟩
      rw [← hal.words.changeover]
      exact Jobs.enterIdentifying_timer b
    · rintro rfl
      exact hal.entersClosing (Jobs.enterClosing_enters hwf)
  · refine ⟨_, (((hka.onlyChangeover.trans (.setCs _ _)).trans (.dropStale _)).trans (.setOpen _)).trans (.enterIdle _),
      by simp [hcs], ?_, fun i hn => ?_, fun g hg hgs => ?_, habort (Jobs.requestAbort_of (by rw [hcs, hi]))⟩
    · rw [Jobs.enterIdle_timer, if_pos rfl]; exact Timer.stopped_stop _
    · have h0 : i ≠ .t0 := by rintro rfl; exact hn (by decide)
      have h1 : i ≠ .t1 := by rintro rfl; exact hn (by decide)
      simp [h0, h1, hka.timer]
    · refine Flagged.held ?_ ((Held.setOpen _).trans (Held.enterIdle _))
      exact Jobs.dropStale_flags _ g (by rw [hcs]; exact hg) hgs

end

section
/-! PROOFS. The requests to the Pantograph Controller and to Command Admission (O37, O38, O40, O41): what a raise, a lower, a
fault clear, lower-all and output hold make of the records and of the timers. -/

namespace Sys2Proof.Machine

open Sys2Proof

variable {j k l : Jobs}

/-! ### What an act of one pantograph alone leaves -/

theorem OnlyPanto.refl (x : Panto) (j : Jobs) : OnlyPanto x j j := by unfold OnlyPanto; cases x <;> rfl

theorem OnlyPanto.trans {x : Panto} (h : OnlyPanto x j k) (h' : OnlyPanto x k l) : OnlyPanto x j l := by
  unfold OnlyPanto at *
  rw [h'] at *
  rw [h]
  cases x <;> rfl

theorem OnlyPanto.setPanto (x : Panto) (r : PantoRec) (j : Jobs) : OnlyPanto x j (j.setPanto x r) := by cases x <;> rfl
theorem OnlyPanto.moveP (x : Panto) (r : PantoRec) (j : Jobs) : OnlyPanto x j (j.moveP x r) := by cases x <;> rfl
theorem OnlyPanto.onTimer (x : Panto) (i : TimerId) (f : Timer → Timer) (j : Jobs) : OnlyPanto x j (j.onTimer i f) := by
  cases x <;> rfl
theorem OnlyPanto.load (x : Panto) (i : TimerId) (n : Nat) (m : TimerMode) (j : Jobs) : OnlyPanto x j (j.load i n m) :=
  .onTimer x i _ j
theorem OnlyPanto.stop (x : Panto) (i : TimerId) (j : Jobs) : OnlyPanto x j (j.stop i) := .onTimer x i _ j
theorem OnlyPanto.takeExpiry (x : Panto) (i : TimerId) (j : Jobs) : OnlyPanto x j (j.takeExpiry i) := .onTimer x i _ j
theorem OnlyPanto.flag (x : Panto) (f : Flag) (n : Nat) (j : Jobs) : OnlyPanto x j (j.flag f n) := by cases x <;> rfl

theorem Still.onlyPanto (h : Still j k) (x : Panto) : OnlyPanto x j k := by
  have hr := h.rest
  unfold OnlyPanto
  rw [h.panto, ← h.tmr] at *
  rw [hr]
  cases x <;> rfl

theorem OnlyPanto.other {x : Panto} (h : OnlyPanto x j k) : k.panto x.other = j.panto x.other := by
  unfold OnlyPanto at h
  rw [h]
  cases x <;> rfl

/-! ### Raising (R61, R62, R74) -/

/-- R61: the answer of a raise asked for by the vehicle, case by case. -/
theorem Jobs.raiseAnswer_cases (j : Jobs) (x : Panto) :
    ((j.panto x).state.raised = true → j.raiseAnswer x .collector .vehicle = .accepted) ∧
    ((j.panto x).state = .lowering → j.raiseAnswer x .collector .vehicle = .busy) ∧
    (((j.panto x).state = .dropped ∨ (j.panto x).state = .faulted) → j.raiseAnswer x .collector .vehicle = .state) ∧
    ((j.panto x).state = .lowered →
      ((j.oc.lowerAll = true ∨ j.raisable x = false ∨ (j.pantoNode x).state = .lost) →
        j.raiseAnswer x .collector .vehicle = .state) ∧
      (j.oc.lowerAll = false → j.raisable x = true → (j.pantoNode x).state ≠ .lost →
        (((j.panto x.other).role = .collector ∨ (j.panto x.other).state.raised = true) →
          j.raiseAnswer x .collector .vehicle = .interlock) ∧
        ((j.panto x.other).role ≠ .collector → (j.panto x.other).state.raised = false →
          j.raiseAnswer x .collector .vehicle = .accepted))) := by
  unfold Jobs.raiseAnswer
  dsimp only
  refine ⟨fun h => ?_, fun h => ?_, fun h => ?_, fun h => ⟨fun hs => ?_, fun hl hr hn => ⟨fun ho => ?_, fun hc ho => ?_⟩⟩⟩
  · rw [if_pos h, if_pos (.inr rfl)]
  · simp [h, PState.raised]
  · rcases h with h | h <;> simp [h, PState.raised]
  · rcases hs with hs | hs | hs
    · simp [h, hs, PState.raised]
    · simp only [h, hs, PState.raised]; simp
    · simp only [h, hs, PState.raised]; simp
  · by_cases hc : (j.panto x.other).role = .collector
    · simp [h, hl, hr, hn, hc, PState.raised]
    · simp [h, hl, hr, hn, hc, ho.resolve_left hc]
      simp [PState.raised]
  · have hd : PState.raised .lowered = false := rfl
    simp [h, hl, hr, hn, hc, ho, hd]

theorem Still.touchAuto (j : Jobs) : Still j j.touchAuto := by
  unfold Jobs.touchAuto
  split
  · split
    · exact .touchLine j _
    · exact (Still.touchLine j _).trans (.touch _ _)
  · exact .touch _ j

theorem SameWords.autoPanto (h : SameWords j k) (hl : k.lsi = j.lsi) : k.autoPanto = j.autoPanto := by
  unfold Jobs.autoPanto
  rw [hl]
  simp only [h.lineUsable, h.lineSet, h.startPanto]

/-- R74: the pantograph that an argument names. -/
def Jobs.named (arg : Byte) (j : Jobs) : Panto := if arg = 1 then .p1 else if arg = 2 then .p2 else j.autoPanto

theorem Jobs.requestRaise_of {arg : Byte} (h1 : 1 ≤ arg.toNat) (h3 : arg.toNat ≤ 3) (hs : j.cs.state.resting = true) :
    ∃ k, Still j k ∧ j.requestRaise arg = k.raise (j.named arg) .collector .vehicle := by
  unfold Jobs.requestRaise Jobs.named
  rw [if_neg (by omega), if_neg (by simp [hs])]
  by_cases ha : arg = 1
  · rw [if_pos ha, if_pos ha]
    exact ⟨j, .refl j, rfl⟩
  · rw [if_neg ha, if_neg ha]
    by_cases hb : arg = 2
    · rw [if_pos hb, if_pos hb]
      exact ⟨j, .refl j, rfl⟩
    · rw [if_neg hb, if_neg hb]
      exact ⟨_, .touchAuto j, rfl⟩

theorem CsState.resting_iff (s : CsState) : CsState.resting s = true ↔ s = .idle ∨ s = .armed := by
  cases s <;> simp [CsState.resting]

theorem PState.raised_iff (p : PState) : PState.raised p = true ↔ p = .preparing ∨ p = .raising ∨ p = .inContact := by
  cases p <;> simp [PState.raised]

/-- R62: the pantograph that a raise as collector starts. -/
theorem Jobs.raise_starts (x : Panto) (hw : j.tableWf) (hk : Still j k) (ha : k.raiseAnswer x .collector .vehicle = .accepted)
    (hd : (j.panto x).state.raised = false) : ∃ l, k.raise x .collector .vehicle = (.accepted, l) ∧ OnlyPanto x j l ∧
      l.panto x = (j.panto x).prepared .collector ∧
      (l.timer x.settleTimer).loaded (timing (j.pantoParam x 7)) .oneShot ∧ OtherTimers [x.settleTimer] j l := by
  have ht : Still j (k.touchRaise x) := hk.trans (Jobs.touchRaise_still x k)
  refine ⟨_, Jobs.raise_started ha (by rw [hk.panto]; exact hd), ?_, ?_, ?_, fun i hn => ?_⟩
  · refine (ht.onlyPanto x).trans ?_
    unfold Jobs.prepare
    exact (((Still.touch _ _).onlyPanto x).trans (.moveP x _ _)).trans (.load x _ _ _ _)
  · rw [Jobs.prepare_panto, if_pos rfl, ht.panto]
  · rw [Jobs.prepare_timer, if_pos rfl, (ht.sameWords hw).pantoParam]
    exact Timer.loaded_timing _ _ _
  · rw [Jobs.prepare_timer, if_neg (by simpa using hn), ht.timer]

/-! ### Lowering and clearing (R68, R73, R75) -/

theorem Jobs.requestLower_one {x : Panto} {arg : Byte} (h : arg.toNat = x.num) (hs : j.cs.state.stepping = false) :
    j.requestLower arg = j.requestLowerOne x := by
  unfold Jobs.requestLower
  cases x
  · obtain rfl : arg = 1 := BitVec.eq_of_toNat_eq h
    simp [hs]
  · obtain rfl : arg = 2 := BitVec.eq_of_toNat_eq h
    simp [hs]

theorem Jobs.requestFaultClear_one {x : Panto} {arg : Byte} (h : arg.toNat = x.num) (hs : j.cs.state.stepping = false) :
    j.requestFaultClear arg = j.faultClear x := by
  unfold Jobs.requestFaultClear
  cases x
  · obtain rfl : arg = 1 := BitVec.eq_of_toNat_eq h
    simp [hs]
  · obtain rfl : arg = 2 := BitVec.eq_of_toNat_eq h
    simp [hs]

theorem OnlyPanto.lower (x : Panto) (j : Jobs) : OnlyPanto x j (j.lower x) := by
  unfold Jobs.lower
  split
  · exact (((((Still.touch _ j).onlyPanto x).trans (.stop x _ _)).trans (.stop x _ _)).trans (.moveP x _ _)).trans
      (.load x _ _ _ _)
  · exact .refl x j

/-- R68: the timers of a pantograph lowered from a state that reads alike. -/
theorem Jobs.lower_timers (x : Panto) (j : Jobs) (h : (j.panto x).state.raised = true) :
    ((j.lower x).timer x.stepTimer).loaded (timing (j.pantoParam x 6)) .oneShot ∧
    ((j.lower x).timer x.settleTimer).stopped ∧ ((j.lower x).timer x.arcTimer).stopped ∧
    OtherTimers [x.stepTimer, x.settleTimer, x.arcTimer] j (j.lower x) := by
  refine ⟨?_, ?_, ?_, fun i hn => ?_⟩
  · rw [Jobs.lower_timer x j _ h, if_pos rfl]; exact Timer.loaded_timing _ _ _
  · rw [Jobs.lower_timer x j _ h]; cases x <;> exact Timer.stopped_stop _
  · rw [Jobs.lower_timer x j _ h]; cases x <;> exact Timer.stopped_stop _
  · simp only [List.mem_cons, List.not_mem_nil, or_false, not_or] at hn
    rw [Jobs.lower_timer x j _ h, if_neg hn.1, if_neg hn.2.2, if_neg hn.2.1]

/-- R73: FAULT_CLEAR of a pantograph that is not faulted. -/
theorem Jobs.faultClear_not {x : Panto} (h1 : (j.panto x).state ≠ .dropped) (h2 : (j.panto x).state ≠ .faulted) :
    j.faultClear x = (.state, j) := by
  unfold Jobs.faultClear
  rw [if_neg (by simp [h1, h2])]

/-- R73: FAULT_CLEAR of a pantograph that is. -/
theorem Jobs.faultClear_of {x : Panto} (h : (j.panto x).state = .dropped ∨ (j.panto x).state = .faulted) :
    j.faultClear x = if optTest (j.panto x).height (fun v => decide (v ≤ (j.pantoParam x 1).toNat)) then
      (.accepted, (j.touch (pantoAddr x 1)).moveP x { j.panto x with state := .lowered, role := .none, connected := false })
      else (.state, j.touch (pantoAddr x 1)) := by
  unfold Jobs.faultClear
  rw [if_pos h]

theorem optTest_iff (v : Option Word) (n : Nat) :
    optTest v (fun w => decide (w ≤ n)) = true ↔ ∃ w, v = some w ∧ w.toNat ≤ n := by
  cases v <;> simp [optTest]

/-! ### Lower-all and output hold (R109 to R111, R120) -/

theorem Jobs.todo_touch (a : Nat) (j : Jobs) : j.todo <+: (j.touch a).todo := by
  unfold Jobs.touch
  dsimp only
  split
  · exact List.prefix_rfl
  · split
    · exact List.prefix_append ..
    · exact List.prefix_rfl

theorem Jobs.todo_lower (x : Panto) (j : Jobs) : j.todo <+: (j.lower x).todo := by
  unfold Jobs.lower
  split
  · refine (Jobs.todo_touch (pantoAddr x 6) j).trans ?_
    cases x <;> exact List.prefix_append ..
  · exact List.prefix_rfl

theorem Jobs.releaseHold_oc (j : Jobs) : j.releaseHold.oc = { j.oc with hold := false } := by
  unfold Jobs.releaseHold
  split
  · rfl
  · rename_i h
    rw [show false = j.oc.hold by simpa using h]

theorem Jobs.releaseHold_todo (j : Jobs) : j.todo <+: j.releaseHold.todo := by
  unfold Jobs.releaseHold
  split
  · exact List.prefix_append ..
  · exact List.prefix_rfl

theorem Jobs.releaseHold_panto (j : Jobs) (x : Panto) : j.releaseHold.panto x = j.panto x := by
  unfold Jobs.releaseHold; split
  · cases x <;> rfl
  · rfl

theorem Jobs.releaseHold_cs (j : Jobs) : j.releaseHold.cs = j.cs := by unfold Jobs.releaseHold; split <;> rfl
theorem Jobs.releaseHold_ice (j : Jobs) : j.releaseHold.ice = j.ice := by unfold Jobs.releaseHold; split <;> rfl
theorem Jobs.lower_ice (x : Panto) (j : Jobs) : (j.lower x).ice = j.ice := by
  have h := OnlyPanto.lower x j
  unfold OnlyPanto at h
  rw [h]
  cases x <;> rfl

/-- R109: the roof jobs as lower-all comes on, before the pantographs are lowered. -/
def Jobs.forced (j : Jobs) : Jobs :=
  (((j.setOc { j.oc with lowerAll := true }).flag .lowerAll 0).releaseHold).push .lowerAllOn

theorem Jobs.requestLowerAllOn_of (h : j.oc.lowerAll = false) :
    j.requestLowerAllOn 1 = (.accepted, (j.forced.lower .p1).lower .p2) := by
  unfold Jobs.requestLowerAllOn
  rw [if_neg (by decide), if_neg (by simp [h])]
  rfl

theorem Jobs.forced_spec (j : Jobs) : ((j.forced.lower .p1).lower .p2).oc = { j.oc with lowerAll := true, hold := false } ∧
    Flagged .lowerAll 0 ((j.forced.lower .p1).lower .p2).out ∧ .lowerAllOn ∈ ((j.forced.lower .p1).lower .p2).todo ∧
    ((j.forced.lower .p1).lower .p2).cs = j.cs ∧ ((j.forced.lower .p1).lower .p2).ice = j.ice ∧
    ∀ x, j.forced.panto x = j.panto x := by
  refine ⟨?_, ?_, ?_, ?_, ?_, fun x => ?_⟩
  · simp [Jobs.forced, Jobs.releaseHold_oc]
  · have hflag : Flagged .lowerAll 0 ((j.setOc { j.oc with lowerAll := true }).flag .lowerAll 0).out := Flagged.flag _ 0 _
    exact hflag.held ((((Held.releaseHold _).trans (Held.push _ _)).trans (Held.lower .p1 _)).trans (Held.lower .p2 _))
  · have hin : Change.lowerAllOn ∈ j.forced.todo := List.mem_append_right _ (List.mem_singleton.mpr rfl)
    exact (Jobs.todo_lower .p2 _).subset ((Jobs.todo_lower .p1 _).subset hin)
  · simp [Jobs.forced, Jobs.releaseHold_cs]
  · rw [Jobs.lower_ice, Jobs.lower_ice]
    exact Jobs.releaseHold_ice _
  · exact (Jobs.releaseHold_panto _ x).trans (by cases x <;> rfl)

/-- R111: a role is owned by a point of the table. -/
theorem Jobs.keptOff_iff (j : Jobs) (r : OwnedRole) : j.keptOff r = true ↔
    (∃ e ∈ j.oc.table, ∃ b, (r, b) ∈ e.owned) ∧ j.mapStands r.mapRole = false := by
  unfold Jobs.keptOff
  simp only [Bool.and_eq_true, List.any_eq_true, beq_iff_eq, Bool.not_eq_true']
  constructor
  · rintro ⟨⟨e, he, ⟨r', b⟩, hb, rfl⟩, hs⟩
    exact ⟨⟨e, he, b, hb⟩, hs⟩
  · rintro ⟨⟨e, he, b, hb⟩, hs⟩
    exact ⟨⟨e, he, (r, b), hb, rfl⟩, hs⟩

theorem Jobs.presentSending_get (j : Jobs) (r : OwnedRole) : j.presentSending.get r = true ↔
    j.oc.sending.get r = true ∧ ((∃ e ∈ j.oc.table, ∃ b, (r, b) ∈ e.owned) → j.mapStands r.mapRole = true) := by
  have h : j.presentSending.get r = (j.oc.sending.get r && !j.keptOff r) := by cases r <;> rfl
  rw [h, Bool.and_eq_true, Bool.not_eq_true', ← Bool.not_eq_true, Jobs.keptOff_iff]
  refine and_congr_right fun _ => ⟨fun hn hex => ?_, fun himp ⟨hex, hf⟩ => ?_⟩
  · by_contra hf
    exact hn ⟨hex, by simpa using hf⟩
  · simp [himp hex] at hf

theorem Timer.hold_spec (t : Timer) : t.hold.held = true ∧ t.hold.owed = [] ∧ (t.owed = [] → t.hold = { t with held := true }) := by
  unfold Timer.hold
  split
  · rename_i h
    exact ⟨rfl, h, fun _ => rfl⟩
  · rename_i h
    exact ⟨rfl, rfl, fun h' => absurd h' h⟩

/-! ### What the consumption of a frame reads -/

theorem State.noteFrozen_tm (b : Bool) (s : State) : (s.noteFrozen b).jobs.tm = s.jobs.tm := by cases b <;> rfl

theorem State.offerFrame_tm (p : Port) (dir : Direction) (f : Frame) (d : Disposition) (n : Option Nat) (s : State) :
    (s.offerFrame p dir f d n).jobs.tm = s.jobs.tm := by
  unfold State.offerFrame
  split
  · exact State.noteFrozen_tm _ _
  · rfl

theorem State.after_tm (f : Frame) (s : State) : (s.after f).tm = (s.jobs.touchRouteOf f).tm := by
  have h := State.offerFrame_tm .train (Port.inward .train) f .consumed ((s.take .train f).jobs.routeOf f)
    (((s.take .train f).matching f).setFr (((s.take .train f).matching f).fr.count .train (Counters.outcome .consumed)))
  refine h.trans ?_
  show ((s.take .train f).jobs.touchRouteOf f).tm = _
  rw [State.take_jobs]

/-- The reads of a match are of the route table. -/
theorem Jobs.touchRouteOf_reads (f : Frame) (j : Jobs) :
    ∃ as, (∀ a ∈ as, 0x10 ≤ a ∧ a < 0x50) ∧ j.touchRouteOf f = j.touchAll as := by
  have hlow : ∀ n, n ≤ 16 → ∀ a ∈ (List.range n).flatMap (fun k => span (routeAddr k) 3), 0x10 ≤ a ∧ a < 0x50 := by
    intro n hn a ha
    obtain ⟨k, hk, hak⟩ := List.mem_flatMap.mp ha
    obtain ⟨i, hi, rfl⟩ := List.mem_map.mp hak
    rw [List.mem_range] at hk hi
    unfold routeAddr
    omega
  unfold Jobs.touchRouteOf
  split
  · exact ⟨[], fun _ h => absurd h List.not_mem_nil, rfl⟩
  · unfold Jobs.touchRoute
    cases hd : j.deciding f.point with
    | none => exact ⟨_, hlow 16 (le_refl _), rfl⟩
    | some k =>
      have hk : k < 16 := List.mem_range.mp (List.mem_of_find?_eq_some hd)
      exact ⟨_, hlow (k + 1) (by omega), rfl⟩

theorem Jobs.cell_touchAll_ne (as : List Nat) {j : Jobs} (hw : j.tableWf) {b : Nat} (h : b ∉ as) :
    (j.touchAll as).cell b = j.cell b := by
  induction as generalizing j with
  | nil => rfl
  | cons a as ih =>
    rw [List.mem_cons, not_or] at h
    exact (ih ((Still.touch a j).tableWf hw) h.2).trans (Jobs.cell_touch_ne hw h.1)

/-- R144: taking a frame from the train port leaves every cell outside the route table as it is. -/
theorem State.after_cell (f : Frame) {s : State} (hw : StoresWf s) {b : Nat} (hb : b < 0x10 ∨ 0x50 ≤ b) :
    (s.after f).cell b = s.jobs.cell b := by
  obtain ⟨as, has, he⟩ := Jobs.touchRouteOf_reads f s.jobs
  unfold Jobs.cell
  rw [State.after_tm, he]
  exact Jobs.cell_touchAll_ne as hw.1 fun h => by have := has b h; omega

theorem Jobs.mapStands_congr (r : MapRole) (h : ∀ n, n < 2 → k.cell (r.addr + n) = j.cell (r.addr + n)) :
    k.mapStands r = j.mapStands r := by
  have h0 : k.word r.addr = j.word r.addr := congrArg TWord.data (h 0 (by decide))
  have h1 : k.word (r.addr + 1) = j.word (r.addr + 1) := congrArg TWord.data (h 1 (by decide))
  have hm0 : k.marked (r.addr + 0) = j.marked (r.addr + 0) := congrArg TWord.mark (h 0 (by decide))
  have hm1 : k.marked (r.addr + 1) = j.marked (r.addr + 1) := congrArg TWord.mark (h 1 (by decide))
  simp only [Jobs.mapStands, Jobs.mapNamed, Jobs.mapNode, Jobs.mapPoint, Jobs.anyMarked, span, h0, h1, List.any_map,
    show List.range 2 = [0, 1] from rfl, List.any_cons, List.any_nil, Function.comp, hm0, hm1]

theorem State.after_mapStands (f : Frame) {s : State} (hw : StoresWf s) (r : MapRole) :
    (s.after f).mapStands r = s.jobs.mapStands r :=
  Jobs.mapStands_congr r fun n _ => State.after_cell f hw (by unfold MapRole.addr; omega)

end Sys2Proof.Machine

open Sys2Proof Sys2Proof.Machine

/-- Settles O37: RAISE by the cases of `Jobs.raiseAnswer_cases`. -/
theorem raiseRequests : Obligations.RaiseRequests := by
  unfold Obligations.RaiseRequests
  rintro s h arg extra f ht rfl
  have hw := ht.1.1.2.1
  have hanswer {a : Answer} {j : Jobs} (e : (s.after (requestFrame h 7 arg extra)).requestRaise arg = (a, j)) :
      Answers (.raise h arg extra) (requestFrame h 7 arg extra) 7 a j s := Answers.request ht rfl rfl e
  have hk := State.after_spec (requestFrame h 7 arg extra) s
  generalize s.after (requestFrame h 7 arg extra) = k at *
  refine ⟨fun ha => hanswer ?_, fun h1 h3 => ⟨fun hi har => hanswer ?_, ?_⟩⟩
  · rw [Jobs.requestRaise, if_pos ha]
  · have hrest : k.cs.state.resting = false := by
      rw [hk.cs, ← Bool.not_eq_true, CsState.resting_iff]
      exact not_or.mpr ⟨hi, har⟩
    rw [Jobs.requestRaise, if_neg (by omega), if_pos (by simp [hrest])]
  · rintro hrest x hx p o rfl rfl
    obtain ⟨m, hm, he⟩ := Jobs.requestRaise_of h1 h3 (j := k) (by rw [hk.cs, CsState.resting_iff]; exact hrest)
    have hname : k.named arg = x := by
      unfold Jobs.named
      rw [(hk.sameWords hw).autoPanto hk.lsi, hx]
    rw [hname] at he
    have hjm := hk.trans hm
    have hsame : m.raiseAnswer x .collector .vehicle = s.jobs.raiseAnswer x .collector .vehicle :=
      hjm.onlyChangeover.raiseAnswer (hjm.sameWords hw) x .vehicle
    obtain ⟨hraised, hlowering, hfaulted, hlowered⟩ := Jobs.raiseAnswer_cases s.jobs x
    have hstays {a : Answer} (ha : s.jobs.raiseAnswer x .collector .vehicle = a) (hn : a ≠ .accepted) :
        ∃ j, OnlyReads s.jobs j ∧ Answers (.raise h arg extra) (requestFrame h 7 arg extra) 7 a j s :=
      ⟨_, (hjm.trans (Jobs.touchRaise_still x m)).onlyReads, hanswer (by
        rw [he, Jobs.raise_refused (by rw [hsame, ha]; exact hn), hsame, ha])⟩
    refine ⟨fun hp => ?_, fun hp => hstays (hlowering hp) (by decide), fun hp => hstays (hfaulted hp) (by decide), fun hp =>
      ⟨fun hs => hstays ((hlowered hp).1 hs) (by decide), fun hl hr hn => ⟨fun ho => ?_, fun hc h1 h2 h3 => ?_⟩⟩⟩
    · have hup := (PState.raised_iff _).mpr hp
      refine ⟨_, (hjm.trans (Jobs.touchRaise_still x m)).onlyReads, hanswer ?_⟩
      rw [he, Jobs.raise_raised (by rw [hjm.panto]; exact hup), hsame, hraised hup]
    · exact hstays (((hlowered hp).2 hl hr hn).1 (ho.imp id (PState.raised_iff _).mpr)) (by decide)
    · have hacc := ((hlowered hp).2 hl hr hn).2 hc (by
        rw [← Bool.not_eq_true, PState.raised_iff]
        rintro (h | h | h) <;> contradiction)
      obtain ⟨l, hl, ho, hrec, htime, hoth⟩ := Jobs.raise_starts x hw hjm (hsame.trans hacc) (by rw [hp]; rfl)
      exact ⟨l, ho, hrec, htime, hoth, hanswer (he.trans hl)⟩

/-- Settles O38. -/
theorem lowerAndFaultClear : Obligations.LowerAndFaultClear := by
  unfold Obligations.LowerAndFaultClear
  rintro s h arg extra fl fc ht rfl rfl
  have hw := ht.1.1.2.1
  have hlower {a : Answer} {j : Jobs} (e : (s.after (requestFrame h 8 arg extra)).requestLower arg = (a, j)) :
      Answers (.lower h arg extra) (requestFrame h 8 arg extra) 8 a j s := Answers.request ht rfl rfl e
  have hclear {a : Answer} {j : Jobs} (e : (s.after (requestFrame h 9 arg extra)).requestFaultClear arg = (a, j)) :
      Answers (.faultClear h arg extra) (requestFrame h 9 arg extra) 9 a j s := Answers.request ht rfl rfl e
  have hkl := State.after_spec (requestFrame h 8 arg extra) s
  have hkc := State.after_spec (requestFrame h 9 arg extra) s
  generalize s.after (requestFrame h 8 arg extra) = k at *
  generalize s.after (requestFrame h 9 arg extra) = m at *
  refine ⟨fun ha => hlower ?_, fun ha => hclear ?_, fun hs => ⟨fun h1 h3 => hlower ?_, fun h1 h2 => hclear ?_⟩, fun hs =>
    ⟨fun ha => hlower ?_, fun x hx => ⟨fun hp => ⟨hlower ?_, ?_⟩, fun hp => ⟨hlower ?_, hclear ?_⟩, fun hp => ⟨hclear ?_, ?_⟩⟩⟩⟩
  · rw [Jobs.requestLower, if_pos ha]
  · rw [Jobs.requestFaultClear, if_pos ha]
  · rw [Jobs.requestLower, if_neg (by omega), if_pos (by rw [hkl.cs, hs])]
  · rw [Jobs.requestFaultClear, if_neg (by omega), if_pos (by rw [hkc.cs, hs])]
  · subst ha
    simp [Jobs.requestLower, hkl.cs, hs]
  · rw [Jobs.requestLower_one hx (by rw [hkl.cs, hs]), Jobs.requestLowerOne, hkl.panto]
    rcases hp with hp | hp <;> rw [hp]
  · have hrec : m.panto x = s.jobs.panto x := hkc.panto x
    have hparam : m.pantoParam x 1 = s.jobs.pantoParam x 1 := (hkc.sameWords hw).pantoParam x 1
    have he := (Jobs.requestFaultClear_one hx (by rw [hkc.cs, hs])).trans (Jobs.faultClear_of (j := m) (by rw [hrec]; exact hp))
    have hread : Still s.jobs (m.touch (pantoAddr x 1)) := hkc.trans (.touch _ m)
    rw [hrec, hparam] at he
    by_cases hv : ∃ w, (s.jobs.panto x).height = some w ∧ w.toNat ≤ (s.jobs.pantoParam x 1).toNat
    · rw [if_pos ((optTest_iff _ _).mpr hv)] at he
      refine ⟨_, (hread.onlyPanto x).trans (.moveP x _ _), ?_, fun _ => ⟨by rw [Jobs.moveP_panto, if_pos rfl], hclear he⟩,
        fun hn => ?_⟩
      · cases x <;> exact hread.tmr
      · obtain ⟨w, hh, hle⟩ := hv
        exact absurd hle (Nat.not_le.mpr (hn w hh))
    · rw [if_neg (fun h => hv ((optTest_iff _ _).mp h))] at he
      exact ⟨_, hread.onlyPanto x, hread.tmr, fun h => absurd h hv, fun _ => ⟨hread.panto x, hclear he⟩⟩
  · rw [Jobs.requestLower_one hx (by rw [hkl.cs, hs]), Jobs.requestLowerOne, hkl.panto,
      Jobs.lower_of_not (by rw [hkl.panto]; rcases hp with hp | hp <;> rw [hp] <;> rfl)]
    rcases hp with hp | hp <;> rw [hp]
  · rw [Jobs.requestFaultClear_one hx (by rw [hkc.cs, hs]), Jobs.faultClear_not] <;> rw [hkc.panto] <;>
      rcases hp with hp | hp <;> simp [hp]
  · have hup := (PState.raised_iff _).mp hp
    rw [Jobs.requestFaultClear_one hx (by rw [hkc.cs, hs]), Jobs.faultClear_not] <;> rw [hkc.panto] <;>
      rcases hup with hp | hp | hp <;> simp [hp]
  · have hpk : (k.panto x).state.raised = true := by rw [hkl.panto]; exact hp
    obtain ⟨h1, h2, h3, h4⟩ := Jobs.lower_timers x k hpk
    refine ⟨k.lower x, (hkl.onlyPanto x).trans (.lower x k), ?_, ?_, h2, h3, .still hkl h4, hlower ?_⟩
    · rw [Jobs.lower_panto, if_pos ⟨rfl, hpk⟩, hkl.panto]
    · rw [← (hkl.sameWords hw).pantoParam]; exact h1
    · have hup := (PState.raised_iff _).mp hpk
      rw [Jobs.requestLower_one hx (by rw [hkl.cs, hs]), Jobs.requestLowerOne]
      rcases hup with hp | hp | hp <;> rw [hp]

/-- Settles O40. -/
theorem lowerAllRequests : Obligations.LowerAllRequests := by
  unfold Obligations.LowerAllRequests
  rintro s h arg extra fon foff ht rfl rfl
  have hon {a : Answer} {j : Jobs} (e : (s.after (requestFrame h 11 arg extra)).requestLowerAllOn arg = (a, j)) :
      Answers (.lowerAllOn h arg extra) (requestFrame h 11 arg extra) 11 a j s := Answers.of ht (.inr rfl) rfl rfl e
  have hoff {a : Answer} {j : Jobs} (e : (s.after (requestFrame h 11 0 extra)).requestLowerAllOff = (a, j)) :
      Answers (.lowerAllOff h extra) (requestFrame h 11 0 extra) 11 a j s := Answers.of ht (.inr rfl) rfl rfl e
  have hk := State.after_spec (requestFrame h 11 arg extra) s
  have hm := State.after_spec (requestFrame h 11 0 extra) s
  generalize s.after (requestFrame h 11 arg extra) = k at *
  generalize s.after (requestFrame h 11 0 extra) = m at *
  refine ⟨fun ha => hon ?_, fun ha hl => hon ?_, fun ha hl => ?_, fun hl => hoff ?_, fun hl => hoff ?_⟩
  · rw [Jobs.requestLowerAllOn, if_pos ha]
  · rw [Jobs.requestLowerAllOn, if_neg (by simp [ha]), if_pos (by rw [hk.oc, hl])]
  · subst ha
    obtain ⟨hoc, hflag, htodo, hcs, hice, hpanto⟩ := Jobs.forced_spec k
    refine ⟨_, hon (Jobs.requestLowerAllOn_of (by rw [hk.oc, hl])), by rw [hoc, hk.oc], hflag, htodo, hcs.trans hk.cs,
      hice.trans hk.ice, fun x => ⟨fun hp => ?_, fun hp => ?_⟩⟩
    · rw [Jobs.lower_both_panto, hpanto, hk.panto, if_pos hp]
    · rw [Jobs.lower_both_panto, hpanto, hk.panto, if_neg (by simp [hp])]
  · rw [Jobs.requestLowerAllOff, if_pos (by rw [hm.oc, hl]), hm.oc]
  · rw [Jobs.requestLowerAllOff, if_neg (by rw [hm.oc, hl]; decide)]

/-- Settles O41: the frozen image by `Jobs.presentSending_get`, the timers by `Timers.mapHeld`. -/
theorem holdRequests : Obligations.HoldRequests := by
  unfold Obligations.HoldRequests
  rintro s h arg extra fon foff ht rfl rfl
  have hon {a : Answer} {j : Jobs} (e : (s.after (requestFrame h 12 arg extra)).requestHoldOn arg = (a, j)) :
      Answers (.holdOn h arg extra) (requestFrame h 12 arg extra) 12 a j s := Answers.of ht (.inr rfl) rfl rfl e
  have hoff {a : Answer} {j : Jobs} (e : (s.after (requestFrame h 12 0 extra)).requestHoldOff = (a, j)) :
      Answers (.holdOff h extra) (requestFrame h 12 0 extra) 12 a j s := Answers.of ht (.inr rfl) rfl rfl e
  have hk := State.after_spec (requestFrame h 12 arg extra) s
  have hm := State.after_spec (requestFrame h 12 0 extra) s
  have hstands := State.after_mapStands (requestFrame h 12 arg extra) ht.1.2
  generalize s.after (requestFrame h 12 arg extra) = k at *
  generalize s.after (requestFrame h 12 0 extra) = m at *
  refine ⟨fun ha => hon ?_, fun ha hl => hon ?_, fun ha hl hh => hon ?_, fun ha hl hh => ?_, fun hh => hoff ?_, fun hh => ?_⟩
  · rw [Jobs.requestHoldOn, if_pos ha]
  · rw [Jobs.requestHoldOn, if_neg (by simp [ha]), if_pos (by rw [hk.oc, hl])]
  · rw [Jobs.requestHoldOn, if_neg (by simp [ha]), if_neg (by simp [hk.oc, hl]), if_pos (by rw [hk.oc, hh])]
  · refine ⟨(k.setOc { k.oc with hold := true, frozen := some k.presentSending }).setTmr (k.tmr.mapHeld Timer.hold),
      k.presentSending, hon ?_, ?_, fun r => ?_, fun i => ⟨fun hi => ?_, fun hi => ?_⟩⟩
    · rw [Jobs.requestHoldOn, if_neg (by simp [ha]), if_neg (by simp [hk.oc, hl]), if_neg (by simp [hk.oc, hh])]
    · rw [← hk.oc]; rfl
    · rw [Jobs.presentSending_get, hk.oc, hstands]
    · exact ((Timers.get_mapHeld Timer.hold i k.tmr).trans (if_pos hi)).trans (hk.timer i)
    · have hi' : ((k.setOc { k.oc with hold := true, frozen := some k.presentSending }).setTmr
          (k.tmr.mapHeld Timer.hold)).timer i = (s.jobs.timer i).hold := by
        refine ((Timers.get_mapHeld Timer.hold i k.tmr).trans (if_neg hi)).trans ?_
        exact congrArg Timer.hold (hk.timer i)
      rw [hi']
      exact Timer.hold_spec _
  · rw [Jobs.requestHoldOff, Jobs.releaseHold, if_neg (by rw [hm.oc, hh]; decide)]
  · refine ⟨_, hoff (by rw [Jobs.requestHoldOff, Jobs.releaseHold, if_pos (by rw [hm.oc, hh])]), ?_, ?_, fun i =>
      ⟨fun hi => ?_, fun hi => ?_⟩⟩
    · rw [← hm.oc]; rfl
    · exact List.mem_append_right _ (List.mem_singleton.mpr rfl)
    · exact ((Timers.get_mapHeld Timer.release i m.tmr).trans (if_pos hi)).trans (hm.timer i)
    · refine ((Timers.get_mapHeld Timer.release i m.tmr).trans (if_neg hi)).trans ?_
      exact congrArg Timer.release (hm.timer i)

end

section
/-! PROOFS. The AHEAD frames (O42 to O44): the speed each takes, what an announced feature makes of the feature list, CANCEL
and ICE_ZONE. -/

namespace Sys2Proof.Machine

open Sys2Proof

variable {j k : Jobs} {s : State}

/-! ### The feature list (R35) -/

theorem Feature.has_iff (n : Byte) (g : Feature) : Feature.has n g = true ↔ g.number = some n := by simp [Feature.has]

/-- R35: where a feature goes in: before the first entry it is earlier than. -/
theorem insertFeature_split (f : Feature) (l : List Feature) : ∃ before after : List Feature, l = before ++ after ∧
    insertFeature f l = before ++ f :: after ∧ (∀ g ∈ before, f.earlier g = false) ∧
    ∀ g, after.head? = some g → f.earlier g = true := by
  induction l with
  | nil => exact ⟨[], [], rfl, rfl, fun _ h => absurd h List.not_mem_nil, fun _ h => nomatch h⟩
  | cons g rest ih =>
    by_cases he : f.earlier g = true
    · refine ⟨[], g :: rest, rfl, by rw [insertFeature, if_pos he]; rfl, fun _ h => absurd h List.not_mem_nil, fun g' h => ?_⟩
      cases h
      exact he
    · obtain ⟨before, after, hl, hi, hb, ha⟩ := ih
      refine ⟨g :: before, after, by rw [hl]; rfl, by rw [insertFeature, if_neg he, hi]; rfl, fun g' h => ?_, ha⟩
      rcases List.mem_cons.mp h with rfl | h
      · simpa using he
      · exact hb g' h

/-- R35: the number is in the list, or there is room. -/
theorem offerTo_room (f : Feature) (n : Byte) (l : List Feature)
    (h : (∃ o ∈ l, o.number = some n) ∨ l.length < 4) :
    offerTo f n l = (insertFeature f (l.filter (fun o => o.number != some n)), none) := by
  have hrest : (l.filter (fun g => !Feature.has n g)).length < l.length ∨
      (l.filter (fun g => !Feature.has n g)).length < Config.featureRoom := by
    rcases h with ⟨o, ho, hn⟩ | h
    · refine .inl (List.length_filter_lt_length_iff_exists.mpr ⟨o, ho, ?_⟩)
      simp [(Feature.has_iff n o).mpr hn]
    · exact .inr (lt_of_le_of_lt (List.length_filter_le ..) h)
  unfold offerTo
  dsimp only
  rw [if_pos hrest]
  rfl

/-- R35: a full list that does not hold the number keeps its four earliest. -/
theorem offerTo_full (f : Feature) (n : Byte) (l : List Feature) (z : Feature) (hn : ∀ o ∈ l, o.number ≠ some n)
    (h4 : 4 ≤ l.length) (hz : l.getLast? = some z) :
    offerTo f n l = if f.earlier z then (insertFeature f l.dropLast, some z.subject) else (l, some n.toNat) := by
  have hall : l.filter (fun g => !Feature.has n g) = l := by
    refine List.filter_eq_self.mpr fun o ho => ?_
    simpa [Feature.has] using hn o ho
  have hroom : Config.featureRoom = 4 := rfl
  unfold offerTo
  dsimp only
  rw [hall, if_neg (by omega), hz]

/-! ### Announced features (R34) -/

theorem Jobs.takeSpeed_words (a : Announcement) (j : Jobs) : SameWords j (j.takeSpeed a) := .of_tm rfl

/-- R34: the due time and the coast of an announced feature. -/
theorem Jobs.announced_eq (kind : FeatureKind) (a : Announcement) (j : Jobs) {v t : Nat}
    (hv : v = max (min 400 a.speed.toNat) 5) (ht : t = (a.distance.toNat - (j.changeover 0).toNat) * 3600 / v) :
    j.announced kind a = { kind := kind, number := some a.number, target := .code a.target,
                           due := some (j.tag + BitVec.ofNat 32 t), arrival := some j.tag,
                           coast := (a.length.toNat + (j.changeover 1).toNat) * 3600 / v, dueMark := t == 0 } := by
  have hmax : max (speedOf a) 5 = v := hv.symm
  have ht' : (if a.distance.toNat ≤ (j.changeover 0).toNat then 0
      else travelTime (a.distance.toNat - (j.changeover 0).toNat) (speedOf a)) = t := by
    rw [ht, travelTime, hmax]
    split
    · rename_i h
      rw [Nat.sub_eq_zero_of_le h]
      simp
    · rfl
  unfold Jobs.announced
  dsimp only
  rw [ht', travelTime, hmax]

/-- `k` differs from `j` at most in the feature list, table memory's bookkeeping and the step's lists. -/
def OnlyList (j k : Jobs) : Prop :=
  k = { j with cs := { j.cs with list := k.cs.list }, tm := k.tm, todo := k.todo, out := k.out }

theorem Still.onlyList (h : Still j k) : OnlyList j k := by
  have hr := h.rest
  unfold OnlyList
  rw [h.cs]
  exact hr

theorem OnlyList.flag (h : OnlyList j k) (f : Flag) (x : Nat) : OnlyList j (k.flag f x) := by
  obtain ⟨l, tm, todo, out, rfl⟩ : ∃ l tm todo out, k = { j with cs := { j.cs with list := l }, tm := tm, todo := todo, out := out } :=
    ⟨_, _, _, _, h⟩
  rfl

/-- R35: what an offered feature makes of the jobs. -/
theorem Jobs.offerFeature_spec (kind : FeatureKind) (a : Announcement) (j : Jobs) {g : Feature}
    (hg : j.announced kind a = g) : OnlyList j (j.offerFeature kind a) ∧
    (((∃ c, j.cs.current = some c ∧ c.number = some a.number) ∨ (kind = .boundary ∧ j.resolve a.target = none)) →
      (j.offerFeature kind a).cs.list = j.cs.list ∧
      Flagged .featureDiscarded (BitVec.ofNat 16 a.number.toNat) (j.offerFeature kind a).out) ∧
    ((∀ c, j.cs.current = some c → c.number ≠ some a.number) → (kind = .boundary → j.resolve a.target ≠ none) →
      (j.offerFeature kind a).cs.list = (offerTo g a.number j.cs.list).1 ∧
      ∀ n, (offerTo g a.number j.cs.list).2 = some n →
        Flagged .featureDiscarded (BitVec.ofNat 16 n) (j.offerFeature kind a).out) := by
  subst hg
  have hmargins := Still.touchAll [0x150, 0x151] j
  have hread : Still j (if kind = .boundary then (j.touchAll [0x150, 0x151]).touchResolve a.target else j.touchAll [0x150, 0x151]) := by
    split
    · exact hmargins.trans (.touchResolve _ _)
    · exact hmargins
  have hcur : (j.touchAll [0x150, 0x151]).cs.current.any (fun g => Feature.has a.number g) = true ↔
      ∃ c, j.cs.current = some c ∧ c.number = some a.number := by
    rw [Jobs.touchAll_cs]
    cases j.cs.current <;> simp [Feature.has]
  unfold Jobs.offerFeature
  dsimp only
  by_cases hc : ∃ c, j.cs.current = some c ∧ c.number = some a.number
  · rw [if_pos (hcur.mpr hc)]
    refine ⟨(hmargins.trans (.setOut _ _)).onlyList, fun _ => ⟨by simp, Flagged.flag _ _ _⟩, fun hn _ => ?_⟩
    obtain ⟨c, hcc, hcn⟩ := hc
    exact absurd hcn (hn c hcc)
  · rw [if_neg (fun h => hc (hcur.mp h))]
    generalize hb : (if kind = .boundary then (j.touchAll [0x150, 0x151]).touchResolve a.target
      else j.touchAll [0x150, 0x151]) = b at hread
    by_cases hu : kind = .boundary ∧ j.resolve a.target = none
    · rw [if_pos (by simp [hu.1, hu.2])]
      refine ⟨(hread.trans (.setOut _ _)).onlyList, fun _ => ⟨?_, Flagged.flag _ _ _⟩, fun _ hn => absurd hu.2 (hn hu.1)⟩
      rw [Jobs.flag_cs, hread.cs]
    · rw [if_neg (by simpa using hu), hread.cs]
      have hlist : OnlyList j ((b.setCs { j.cs with list := (offerTo (j.announced kind a) a.number j.cs.list).1 }).push .cs) := by
        unfold OnlyList
        rw [hread.rest]
        rfl
      cases hl : (offerTo (j.announced kind a) a.number j.cs.list).2 with
      | none =>
        refine ⟨hlist, fun h => ?_, fun _ _ => ⟨rfl, fun n hn => nomatch hn⟩⟩
        exact absurd h (not_or.mpr ⟨hc, hu⟩)
      | some n =>
        refine ⟨hlist.flag _ _, fun h => absurd h (not_or.mpr ⟨hc, hu⟩), fun _ _ => ⟨rfl, fun n' hn => ?_⟩⟩
        cases hn
        exact Flagged.flag _ _ _

/-! ### Commands -/

/-- R32: an AHEAD frame that carries a whole announcement acts by its kind, once its speed is taken. -/
theorem exec_ahead {i : Instr} {f : Frame} {a : Announcement} (hi : i.ahead? = some (f, a)) :
    i.frame? = some (.train, f) ∧ ∃ act : Jobs → Jobs, (∀ j, (act j).speed = j.speed) ∧
      ∀ s, exec i s = s.taking .train f (fun f s => s.ahead f a act) := by
  have hoffer : ∀ (kind : FeatureKind) (a : Announcement) (j : Jobs), (j.offerFeature kind a).speed = j.speed := by
    intro kind a j
    unfold Jobs.offerFeature
    dsimp only
    split
    · exact Jobs.touchAll_speed _ j
    · have hread : Still j (if kind = .boundary then (j.touchAll [0x150, 0x151]).touchResolve a.target
          else j.touchAll [0x150, 0x151]) := by
        split
        · exact (Still.touchAll _ j).trans (.touchResolve _ _)
        · exact .touchAll _ j
      split
      · exact hread.speed
      · split <;> exact hread.speed
  have hcancel : ∀ (n : Byte) (j : Jobs), (j.cancel n).speed = j.speed := by
    intro n j
    unfold Jobs.cancel
    split <;> rfl
  cases i <;> simp only [Instr.ahead?, Option.some.injEq, Prod.mk.injEq, reduceCtorEq] at hi
  all_goals obtain ⟨rfl, rfl⟩ := hi
  case aheadNeutral => exact ⟨rfl, _, hoffer .neutral _, fun _ => rfl⟩
  case aheadBoundary => exact ⟨rfl, _, hoffer .boundary _, fun _ => rfl⟩
  case aheadCancel => exact ⟨rfl, _, hcancel _, fun _ => rfl⟩
  case aheadSpeed => exact ⟨rfl, _, fun _ => rfl, fun _ => rfl⟩
  case aheadIceZone => exact ⟨rfl, Jobs.iceZone _, fun _ => rfl, fun _ => rfl⟩

/-- R32: in RUN the frame's owner acts on the jobs that its consumption leaves, its speed taken. -/
theorem State.ahead_run (f : Frame) (a : Announcement) (act : Jobs → Jobs) (h : s.jobs.dev = .run) :
    s.ahead f a act = ((s.consume f).setJobs (act ((s.after f).takeSpeed a))).finish := by
  unfold State.ahead State.onJobs
  dsimp only
  rw [if_pos (show (s.consume f).jobs.dev = .run from (State.after_spec f s).dev.trans h)]
  rfl

theorem State.ahead_config (f : Frame) (a : Announcement) (act : Jobs → Jobs) (h : s.jobs.dev = .config) :
    s.ahead f a act = (s.consume f).finish := by
  have hd : (s.consume f).jobs.dev = .config := (State.after_spec f s).dev.trans h
  unfold State.ahead State.onJobs
  dsimp only
  rw [if_neg (by rw [hd]; decide)]
  rfl

/-- R32: in RUN, what an AHEAD command comes to. -/
theorem EndsFrom.ahead {i : Instr} {f : Frame} {a : Announcement} {act : Jobs → Jobs} {u : State} (h : Running s)
    (hf : i.frame? = some (.train, f)) (hi : exec i s = s.taking .train f (fun f s => s.ahead f a act))
    (e : (s.consume f).setJobs (act ((s.after f).takeSpeed a)) = u) : EndsFrom i s u :=
  EndsFrom.of_taking h.1.1 hf hi (by rw [State.ahead_run f a act h.2, e])

theorem leadOf_eq (w : Word) : leadOf w = if bits w 0 2 = 1 then .p1 else if bits w 0 2 = 2 then .p2 else .unknown := by
  unfold leadOf
  split <;> simp_all

end Sys2Proof.Machine

open Sys2Proof Sys2Proof.Machine

/-- Settles O42. -/
theorem speedFromAhead : Obligations.SpeedFromAhead := by
  unfold Obligations.SpeedFromAhead
  refine ⟨fun s i f a h hi hd => ?_, fun s i f a h hh hi => ?_, fun s h code a hr => ?_, fun s h payload hr => ?_⟩
  · obtain ⟨hf, act, -, he⟩ := exec_ahead hi
    exact EndsFrom.of_taking h hf (he s) (State.ahead_config f a act hd)
  · obtain ⟨hf, act, hact, he⟩ := exec_ahead hi
    refine ⟨_, EndsFrom.ahead h hf (he s) rfl hh, ?_⟩
    rw [(State.finish_reacts _).1]
    have hk := State.after_spec f s
    show (act ((s.after f).takeSpeed a)).speed = _
    rw [hact]
    show SpeedRec.mk .. = _
    rw [hk.tag, hk.speed, leadOf_eq]
    congr 1
    · unfold speedOf
      split <;> omega
    · by_cases hz : a.speed = 0 <;> simp [hz]
  · exact EndsFrom.ahead hr rfl rfl rfl
  · exact EndsFrom.of_taking (k := fun f s => (s.consume f).finish) hr rfl rfl rfl

/-- Settles O43: the announced feature by `Jobs.announced_eq`, the list by the two cases of `offerTo`. -/
theorem featureOffers : Obligations.FeatureOffers := by
  unfold Obligations.FeatureOffers
  intro s i h a kind f g v t hr hi hv ht hg'
  have hw := hr.1.2.1
  have hk := State.after_spec f s
  have hsame : SameWords s.jobs ((s.after f).takeSpeed a) := (hk.sameWords hw).trans (Jobs.takeSpeed_words a _)
  have hcs : ((s.after f).takeSpeed a).cs = s.jobs.cs := hk.cs
  have hg := Jobs.announced_eq (t := t) kind a ((s.after f).takeSpeed a) hv (by rw [hsame.changeover]; exact ht)
  rw [hsame.changeover, show ((s.after f).takeSpeed a).tag = s.jobs.tag from hk.tag, ← hg'] at hg
  obtain ⟨honly, hdrop, htake⟩ := Jobs.offerFeature_spec kind a _ hg
  rw [hcs, hsame.resolve] at hdrop htake
  refine ⟨((s.after f).takeSpeed a).offerFeature kind a, ?_, ?_, hdrop, fun hcur hres => ⟨fun hroom => ?_,
    fun hnone z h4 hz => ⟨fun he => ?_, fun he => ?_⟩⟩⟩
  · rcases hi with ⟨rfl, rfl, rfl⟩ | ⟨rfl, rfl, rfl⟩ <;> exact EndsFrom.ahead hr rfl rfl rfl
  · unfold OnlyList at honly
    rw [honly, hcs]
    show _ = _
    have hrest := hk.rest
    unfold Jobs.takeSpeed
    rw [hrest]
    rfl
  · rw [(htake hcur hres).1, offerTo_room _ _ _ hroom]
  · obtain ⟨hl, hf⟩ := htake hcur hres
    rw [offerTo_full _ _ _ z hnone h4 hz, if_pos he] at hl hf
    exact ⟨hl, hf _ rfl⟩
  · obtain ⟨hl, hf⟩ := htake hcur hres
    rw [offerTo_full _ _ _ z hnone h4 hz, if_neg (by simp [he])] at hl hf
    exact ⟨hl, hf _ rfl⟩

/-- Settles O44. -/
theorem cancelsAndZones : Obligations.CancelsAndZones := by
  unfold Obligations.CancelsAndZones
  refine ⟨insertFeature_split, fun s h a hr => ⟨fun hc => EndsFrom.ahead hr rfl rfl ?_, fun hc => EndsFrom.ahead hr rfl rfl ?_,
    EndsFrom.ahead hr rfl rfl ?_⟩⟩
  · have hcs : ((s.after (aheadFrame h 2 a)).takeSpeed a).cs = s.jobs.cs := State.after_cs _ s
    obtain ⟨c, hcc, hcn⟩ := hc
    rw [Jobs.cancel, hcs, if_pos (by simp [hcc, Feature.has, hcn])]
    rfl
  · have hcs : ((s.after (aheadFrame h 2 a)).takeSpeed a).cs = s.jobs.cs := State.after_cs _ s
    have hno : s.jobs.cs.current.any (fun g => Feature.has a.number g) = false := by
      cases hcc : s.jobs.cs.current with
      | none => rfl
      | some c => simpa [Feature.has] using hc c hcc
    rw [Jobs.cancel, hcs, hno, if_neg (by decide)]
    rfl
  · have hice : ((s.after (aheadFrame h 4 a)).takeSpeed a).ice = s.jobs.ice := (State.after_spec _ s).ice
    rw [Jobs.iceZone, hice]
    rfl

end

section
/-! PROOFS. The timers of a pantograph, its blindness and its arc supervision (O52, O53). `Descends j k` says that work which
takes `j` to `k` never leaves a raised pantograph but by lowering it, nor LOWERING at all. -/

namespace Sys2Proof.Machine

open Sys2Proof

variable {j k l : Jobs} {s : State} {x : Panto}

/-! ### A raised pantograph leaves its state within a step only for LOWERING -/

/-- A pantograph raised in `j` is raised or LOWERING in `k`, and one LOWERING stays so. -/
structure Descends (j k : Jobs) : Prop where
  raised : ∀ x, (j.panto x).state.raised = true → (k.panto x).state.raised = true ∨ (k.panto x).state = .lowering
  lowering : ∀ x, (j.panto x).state = .lowering → (k.panto x).state = .lowering

theorem Descends.of_states (h : ∀ x, (k.panto x).state = (j.panto x).state) : Descends j k :=
  ⟨fun x hr => .inl (by rw [h x]; exact hr), fun x hl => by rw [h x]; exact hl⟩

theorem Descends.of_pantos (h1 : k.p1 = j.p1) (h2 : k.p2 = j.p2) : Descends j k :=
  .of_states fun x => by cases x <;> simp only [Jobs.panto, h1, h2]

theorem Descends.refl (j : Jobs) : Descends j j := .of_states fun _ => rfl

theorem Descends.trans (h : Descends j k) (h' : Descends k l) : Descends j l :=
  ⟨fun x hr => (h.raised x hr).elim (h'.raised x) fun hl => .inr (h'.lowering x hl),
    fun x hl => h'.lowering x (h.lowering x hl)⟩

theorem OnlyChangeover.descends (h : OnlyChangeover j k) : Descends j k := .of_pantos h.p1 h.p2

theorem Still.descends (h : Still j k) : Descends j k := .of_pantos h.p1 h.p2

theorem Descends.setIce (v : Ice) (j : Jobs) : Descends j (j.setIce v) := .of_pantos rfl rfl
theorem Descends.setCs (v : Cs) (j : Jobs) : Descends j (j.setCs v) := .of_pantos rfl rfl
theorem Descends.setLsi (v : Lsi) (j : Jobs) : Descends j (j.setLsi v) := .of_pantos rfl rfl
theorem Descends.setFb (v : Feedback) (j : Jobs) : Descends j (j.setFb v) := .of_pantos rfl rfl
theorem Descends.setTodo (v : List Change) (j : Jobs) : Descends j (j.setTodo v) := .of_pantos rfl rfl
theorem Descends.push (c : Change) (j : Jobs) : Descends j (j.push c) := .of_pantos rfl rfl
theorem Descends.flag (f : Flag) (n : Nat) (j : Jobs) : Descends j (j.flag f n) := .of_pantos rfl rfl
theorem Descends.onTimer (i : TimerId) (f : Timer → Timer) (j : Jobs) : Descends j (j.onTimer i f) := .of_pantos rfl rfl
theorem Descends.load (i : TimerId) (n : Nat) (m : TimerMode) (j : Jobs) : Descends j (j.load i n m) := .of_pantos rfl rfl
theorem Descends.stop (i : TimerId) (j : Jobs) : Descends j (j.stop i) := .of_pantos rfl rfl
theorem Descends.touch (a : Nat) (j : Jobs) : Descends j (j.touch a) := (Still.touch a j).descends

theorem Descends.lower (y : Panto) (j : Jobs) : Descends j (j.lower y) := by
  have hp := fun x => Jobs.lower_panto y x j
  refine ⟨fun x hr => ?_, fun x hl => ?_⟩
  · rw [hp x]
    split
    · exact .inr rfl
    · exact .inl hr
  · rw [hp x, if_neg (fun h => ?_)]
    · exact hl
    · obtain ⟨rfl, h⟩ := h
      rw [hl] at h
      cases h

/-- R61: a raise that is made starts from LOWERED. -/
theorem Descends.raise (y : Panto) (r : Role) (b : Asker) (j : Jobs) : Descends j (j.raise y r b).2 := by
  by_cases hs : j.raiseAnswer y r b = .accepted ∧ (j.panto y).state.raised = false
  · have hlow := Jobs.raiseAnswer_lowered y r b j hs.1 hs.2
    rw [Jobs.raise_started hs.1 hs.2]
    refine (Jobs.touchRaise_still y j).descends.trans ?_
    have hp := fun x => Jobs.prepare_panto y x r (j.touchRaise y)
    have hlow' : ((j.touchRaise y).panto y).state = .lowered := by rw [(Jobs.touchRaise_still y j).panto]; exact hlow
    have hne : ∀ x, x = y → ((j.touchRaise y).panto x).state.raised = false ∧ ((j.touchRaise y).panto x).state ≠ .lowering := by
      rintro x rfl
      rw [hlow']
      exact ⟨rfl, by decide⟩
    refine ⟨fun x h => .inl ?_, fun x h => ?_⟩
    · rw [hp x, if_neg fun hx => by rw [(hne x hx).1] at h; cases h]
      exact h
    · rw [hp x, if_neg fun hx => (hne x hx).2 h]
      exact h
  · have hstill : (j.raise y r b).2 = j.touchRaise y := by
      unfold Jobs.raise
      dsimp only
      rw [if_neg]
      simpa using hs
    rw [hstill]
    exact (Jobs.touchRaise_still y j).descends

theorem Descends.setPanto_cause (y : Panto) (c : Option Cause) (j : Jobs) :
    Descends j (j.setPanto y { j.panto y with cause := c }) :=
  .of_states fun x => by cases x <;> cases y <;> rfl

theorem Descends.lowerBlind (y : Panto) (j : Jobs) : Descends j (j.lowerBlind y) := by
  unfold Jobs.lowerBlind
  split
  · exact (Descends.lower y j).trans (.setPanto_cause y _ _)
  · exact .refl j

/-! #### The Line System Identifier and the changeover -/

theorem Descends.confirm (v : Line) (j : Jobs) : Descends j (j.confirm v) := by
  unfold Jobs.confirm Jobs.setConfirmed
  grind (ematch := 20) [Descends.trans, Descends.refl, Descends.setLsi, Descends.push, Descends.flag]

theorem Descends.lostEntries (j : Jobs) : Descends j j.lostEntries := by
  unfold Jobs.lostEntries
  grind (ematch := 20) [Descends.trans, Descends.refl, Descends.setLsi, Descends.confirm]

theorem Descends.lsiRestart (j : Jobs) : Descends j j.lsiRestart := by
  unfold Jobs.lsiRestart Jobs.lsiAfresh
  grind (ematch := 20) [Descends.trans, Descends.refl, Descends.lostEntries, Descends.setLsi, Descends.push]

theorem Descends.setOpen (j : Jobs) : Descends j j.setOpen := (OnlyChangeover.setOpen j).descends
theorem Descends.enterHold (r : HoldReason) (step : CsState) (j : Jobs) : Descends j (j.enterHold r step) :=
  (OnlyChangeover.enterHold r step j).descends
theorem Descends.failStep (r : HoldReason) (j : Jobs) : Descends j (j.failStep r) := .enterHold r _ j
theorem Descends.csTo (c : CsState) (j : Jobs) : Descends j (j.csTo c) := .of_pantos rfl rfl
theorem Descends.enterIdle (j : Jobs) : Descends j j.enterIdle := (OnlyChangeover.enterIdle j).descends
theorem Descends.enterOpening (j : Jobs) : Descends j j.enterOpening := (OnlyChangeover.enterOpening j).descends
theorem Descends.enterIdentifying (j : Jobs) : Descends j j.enterIdentifying := (OnlyChangeover.enterIdentifying j).descends
theorem Descends.touchTarget (j : Jobs) : Descends j j.touchTarget := (Still.touchTarget j).descends
theorem Descends.touchClosing (j : Jobs) : Descends j j.touchClosing := (Still.touchClosing j).descends
theorem Descends.touchResolve (c : BitVec 4) (j : Jobs) : Descends j (j.touchResolve c) := (Still.touchResolve j c).descends
theorem Descends.touchLine (e : Fin 8) (j : Jobs) : Descends j (j.touchLine e) := (Still.touchLine j e).descends
theorem Descends.adoptTarget (e : Fin 8) (j : Jobs) : Descends j (j.adoptTarget e) := .setCs _ j
theorem Descends.loadStep (i : Nat) (j : Jobs) : Descends j (j.loadStep i) := (OnlyChangeover.loadStep i j).descends
theorem Descends.enterArmed (j : Jobs) : Descends j j.enterArmed := ((OnlyChangeover.dropStale j).descends).trans (.csTo _ _)

theorem Descends.enterLowering (j : Jobs) : Descends j j.enterLowering := by
  have h : Descends j ((j.lower .p1).lower .p2) := (Descends.lower .p1 j).trans (.lower .p2 _)
  exact h.trans (.of_states fun x => by rw [Jobs.enterLowering_panto])

theorem Descends.enterCoasting (j : Jobs) : Descends j j.enterCoasting := by
  unfold Jobs.enterCoasting
  grind (ematch := 20) [Descends.trans, Descends.refl, Descends.stop, Descends.setCs, Descends.loadStep, Descends.load, Descends.csTo]

theorem Descends.enterSelecting (j : Jobs) : Descends j j.enterSelecting := by
  unfold Jobs.enterSelecting
  grind (ematch := 20) [Descends.trans, Descends.refl, Descends.enterHold, Descends.touchTarget, Descends.setCs, Descends.loadStep, Descends.csTo]

theorem Descends.noteMade (y : Panto) (was : PState) (j : Jobs) : Descends j (j.noteMade y was) := by
  unfold Jobs.noteMade
  grind [Descends.refl, Descends.setIce]

theorem Descends.enterRaising (j : Jobs) : Descends j j.enterRaising := by
  have hr : ∀ (y : Panto) (r : Role) (b : Asker) (k : Jobs), Descends k (k.raise y r b).2 := Descends.raise
  unfold Jobs.enterRaising
  grind (ematch := 20) [Descends.trans, Descends.refl, Descends.touchTarget, Descends.touch, Descends.stop, Descends.enterHold, Descends.setCs, Descends.noteMade, Descends.csTo]

theorem Descends.enterClosing (j : Jobs) : Descends j j.enterClosing := by
  unfold Jobs.enterClosing
  grind (ematch := 20) [Descends.trans, Descends.refl, Descends.touchClosing, Descends.enterHold, Descends.setCs, Descends.touch, Descends.load, Descends.loadStep, Descends.csTo]

theorem Descends.dueCheck (j : Jobs) : Descends j j.dueCheck := by
  unfold Jobs.dueCheck Jobs.takeHead
  grind (ematch := 20) [Descends.trans, Descends.refl, Descends.setCs, Descends.enterOpening, Descends.enterHold]

theorem Descends.coastToRoof (j : Jobs) : Descends j j.coastToRoof := by
  unfold Jobs.coastToRoof
  grind (ematch := 20) [Descends.trans, Descends.refl, Descends.touchTarget, Descends.failStep, Descends.stop, Descends.enterLowering, Descends.lsiRestart, Descends.enterIdentifying]

theorem Descends.coastingTest (j : Jobs) : Descends j j.coastingTest := by
  unfold Jobs.coastingTest Jobs.coastOver
  grind (ematch := 20) [Descends.trans, Descends.refl, Descends.setCs, Descends.coastToRoof, Descends.stop, Descends.enterClosing, Descends.failStep]

theorem Descends.loweringTest (j : Jobs) : Descends j j.loweringTest := by
  unfold Jobs.loweringTest
  grind (ematch := 20) [Descends.trans, Descends.refl, Descends.touchTarget, Descends.stop, Descends.failStep, Descends.enterRaising, Descends.enterSelecting]

theorem Descends.selectingTest (j : Jobs) : Descends j j.selectingTest := by
  unfold Jobs.selectingTest
  grind (ematch := 20) [Descends.trans, Descends.refl, Descends.failStep, Descends.setCs, Descends.stop, Descends.enterRaising]

theorem Descends.raisingTest (j : Jobs) : Descends j j.raisingTest := by
  unfold Jobs.raisingTest
  grind (ematch := 20) [Descends.trans, Descends.refl, Descends.lsiRestart, Descends.enterIdentifying]

theorem Descends.identifyingTest (j : Jobs) : Descends j j.identifyingTest := by
  unfold Jobs.identifyingTest
  grind (ematch := 20) [Descends.trans, Descends.refl, Descends.touchLine, Descends.adoptTarget, Descends.enterLowering, Descends.enterClosing, Descends.failStep, Descends.touchResolve]

theorem Descends.closingDone (j : Jobs) : Descends j j.closingDone := by
  unfold Jobs.closingDone
  grind (ematch := 20) [Descends.trans, Descends.refl, Descends.stop, Descends.setCs, Descends.flag, Descends.enterIdle]

theorem Descends.closingTest (j : Jobs) : Descends j j.closingTest := by
  unfold Jobs.closingTest
  grind (ematch := 20) [Descends.trans, Descends.refl, Descends.touchClosing, Descends.setOpen, Descends.enterRaising, Descends.failStep, Descends.closingDone]

theorem Descends.csTest (due : Bool) (j : Jobs) : Descends j (j.csTest due) := by
  unfold Jobs.csTest
  grind (ematch := 20) [Descends.refl, Descends.enterArmed, Descends.enterIdle, Descends.dueCheck, Descends.enterCoasting, Descends.coastingTest, Descends.loweringTest, Descends.selectingTest, Descends.raisingTest, Descends.identifyingTest, Descends.closingTest]

theorem Descends.csConfirmed (j : Jobs) : Descends j j.csConfirmed := by
  unfold Jobs.csConfirmed
  grind (ematch := 20) [Descends.trans, Descends.refl, Descends.csTest, Descends.flag, Descends.setOpen, Descends.setCs, Descends.enterHold, Descends.touch, Descends.enterCoasting]

theorem Descends.csBreaker (old new : BreakerFb) (j : Jobs) : Descends j (j.csBreaker old new) := by
  unfold Jobs.csBreaker
  grind (ematch := 20) [Descends.trans, Descends.refl, Descends.flag, Descends.setOpen, Descends.setCs, Descends.enterIdle, Descends.csTest]

theorem Descends.csPanto (y : Panto) (old new : PState) (role : Role) (j : Jobs) : Descends j (j.csPanto y old new role) := by
  unfold Jobs.csPanto Jobs.csCollectorGone
  grind (ematch := 20) [Descends.trans, Descends.refl, Descends.setOpen, Descends.setCs, Descends.enterRaising, Descends.failStep, Descends.csTest]

theorem Descends.csLowerAll (j : Jobs) : Descends j j.csLowerAll := by
  unfold Jobs.csLowerAll
  grind (ematch := 20) [Descends.trans, Descends.refl, Descends.setOpen, Descends.failStep]

theorem Descends.csReact (c : Change) (j : Jobs) : Descends j (j.csReact c) := by
  cases c
  case look => exact .csTest _ j
  case cs => exact .csTest _ j
  case confirmed => exact .csConfirmed j
  case breaker => exact .csBreaker _ _ j
  case selector => exact .csTest _ j
  case panto => exact .csPanto _ _ _ _ j
  case lowerAllOn => exact .csLowerAll j

/-! #### The Ice Clearing Controller and the Output Composer -/

theorem Descends.ocFollow (e : EarthFb) (j : Jobs) : Descends j (j.ocFollow e) := by
  have h1 : (j.ocFollow e).p1 = j.p1 := by unfold Jobs.ocFollow; dsimp only; split <;> rfl
  have h2 : (j.ocFollow e).p2 = j.p2 := by unfold Jobs.ocFollow; dsimp only; split <;> rfl
  exact .of_pantos h1 h2

theorem Descends.ocReact (j : Jobs) : Descends j j.ocReact := .ocFollow _ j
theorem Descends.ocSync (j : Jobs) : Descends j j.ocSync := .ocFollow _ j

theorem Descends.touchIce (is : List Nat) (j : Jobs) : Descends j (j.touchIce is) := (Still.touchIce j is).descends

theorem Descends.nextPhase (y : Panto) (b : Bool) (j : Jobs) : Descends j (j.nextPhase y b) := by
  unfold Jobs.nextPhase Jobs.loadPhase Jobs.restPhase
  grind (ematch := 20) [Descends.trans, Descends.refl, Descends.touchIce, Descends.setIce, Descends.load, Descends.stop, Descends.onTimer]

theorem Descends.followCycle (y : Panto) (j : Jobs) : Descends j (j.followCycle y) := by
  unfold Jobs.followCycle Jobs.startCycle Jobs.supplyCycle Jobs.endCycle
  grind (ematch := 20) [Descends.trans, Descends.refl, Descends.nextPhase, Descends.onTimer, Descends.stop, Descends.setIce]

theorem Descends.dropScraper (j : Jobs) : Descends j j.dropScraper := by
  unfold Jobs.dropScraper
  grind (ematch := 20) [Descends.trans, Descends.refl, Descends.lower, Descends.setIce]

theorem Descends.setMode (m : IceMode) (j : Jobs) : Descends j (j.setMode m) := by
  unfold Jobs.setMode
  grind (ematch := 20) [Descends.trans, Descends.refl, Descends.setIce, Descends.followCycle, Descends.flag, Descends.push]

theorem Descends.leaveTo (m : IceMode) (j : Jobs) : Descends j (j.leaveTo m) := by
  unfold Jobs.leaveTo
  grind (ematch := 20) [Descends.trans, Descends.refl, Descends.dropScraper, Descends.setMode]

theorem Descends.scraperRefused (m : IceMode) (j : Jobs) : Descends j (j.scraperRefused m) := by
  unfold Jobs.scraperRefused
  grind (ematch := 20) [Descends.trans, Descends.refl, Descends.setIce, Descends.leaveTo]

theorem Descends.enterScrape (j : Jobs) : Descends j j.enterScrape := by
  have hr : ∀ (y : Panto) (r : Role) (b : Asker) (k : Jobs), Descends k (k.raise y r b).2 := Descends.raise
  unfold Jobs.enterScrape
  grind (ematch := 20) [Descends.trans, Descends.refl, Descends.leaveTo, Descends.setIce, Descends.setMode, Descends.scraperRefused]

theorem Descends.touchPermits (j : Jobs) : Descends j j.touchPermits := by
  unfold Jobs.touchPermits
  have hm : ∀ (r : MapRole) (k : Jobs), Descends k (k.touchMap r) := fun r k => (Still.touchAll _ k).descends
  have hc : ∀ k : Jobs, Descends k k.touchConfirmed := fun k => (Still.touchConfirmed k).descends
  grind (ematch := 20) [Descends.trans, Descends.refl, Descends.touchIce]

theorem Descends.choose (j : Jobs) : Descends j j.choose := by
  unfold Jobs.choose
  grind (ematch := 20) [Descends.trans, Descends.refl, Descends.touchPermits, Descends.enterScrape, Descends.leaveTo]

theorem Descends.watch (j : Jobs) : Descends j j.watch := by
  unfold Jobs.watch
  grind (ematch := 20) [Descends.trans, Descends.refl, Descends.touchPermits, Descends.scraperRefused, Descends.leaveTo]

theorem Descends.suspension (j : Jobs) : Descends j j.suspension := by
  unfold Jobs.suspension Jobs.suspendIfMust Jobs.endSuspension
  grind (ematch := 20) [Descends.trans, Descends.refl, Descends.leaveTo, Descends.setIce, Descends.choose]

theorem Descends.react (c : Change) (j : Jobs) : Descends j (j.react c) := by
  have hs : ∀ k : Jobs, Descends k k.suspendIfMust := fun k => by
    unfold Jobs.suspendIfMust
    split
    · exact .leaveTo _ k
    · exact .refl k
  have hc : ∀ k : Jobs, Descends k k.chooseUnlessSuspended := fun k => by
    unfold Jobs.chooseUnlessSuspended
    split
    · exact .refl k
    · exact .choose k
  unfold Jobs.react
  grind (ematch := 20) [Descends.trans, Descends.lostEntries, Descends.ocReact, Descends.csReact, Descends.suspension]

/-- What the level rules do before they come to the blind pantographs. -/
def Jobs.followed (j : Jobs) : Jobs := (((j.lostEntries).syncFeedback).ocReact).ocSync

theorem Descends.followed (j : Jobs) : Descends j j.followed := by
  have hf : ∀ k : Jobs, Descends k k.syncFeedback := fun k => by
    unfold Jobs.syncFeedback
    grind (ematch := 20) [Descends.trans, Descends.refl, Descends.setFb, Descends.push]
  exact (((Descends.lostEntries j).trans (hf _)).trans (.ocReact _)).trans (.ocSync _)

/-- What the level rules do once they have dealt with the blind pantographs. -/
def Jobs.iceLevels (j : Jobs) : Jobs :=
  (((((((j.iceInputs).ocReact).suspension).ocReact).watch).ocReact).followCycle .p1).followCycle .p2

theorem Jobs.levels_eq (j : Jobs) : j.levels = ((j.followed.lowerBlind .p1).lowerBlind .p2).iceLevels := rfl

theorem Descends.iceLevels (j : Jobs) : Descends j j.iceLevels :=
  (((((((Descends.setIce _ j).trans (.ocReact _)).trans (.suspension _)).trans (.ocReact _)).trans (.watch _)).trans
    (.ocReact _)).trans (.followCycle _ _)).trans (.followCycle _ _)

theorem Descends.levels (j : Jobs) : Descends j j.levels := by
  rw [Jobs.levels_eq]
  exact (((Descends.followed j).trans (.lowerBlind _ _)).trans (.lowerBlind _ _)).trans (.iceLevels _)

theorem Descends.pump (n : Nat) (j : Jobs) : Descends j (j.pump n) := by
  induction n generalizing j with
  | zero => exact .setTodo _ j
  | succ n ih =>
    rw [Jobs.pump]
    split
    · exact .refl j
    case _ c rest _ =>
      refine Descends.trans (k := (j.setTodo rest).answer c) ((Descends.setTodo rest j).trans ?_) (ih _)
      unfold Jobs.answer
      split
      · exact ((Descends.ocReact _).trans (.react _ _)).trans (.levels _)
      · exact .refl _

/-! ### Blindness (R70) -/

theorem Held.pantoNode (h : Held j k) (hw : j.tableWf) (x : Panto) : k.pantoNode x = j.pantoNode x := by
  unfold Jobs.pantoNode Jobs.node
  rw [(h.sameWords hw).mapNode, h.nodes]

theorem Jobs.mapPoisoned_iff (r : MapRole) (j : Jobs) :
    j.mapPoisoned r = true ↔ ∃ i, i < 2 ∧ j.marked (r.addr + i) = true := by
  simp [Jobs.mapPoisoned, Jobs.anyMarked, span, Nat.add_comm]

theorem Jobs.isBlind_iff (x : Panto) (j : Jobs) : j.isBlind x = true ↔ (j.panto x).state.raised = true ∧
    ((j.pantoNode x).state = .lost ∨
      ∃ i, i < 2 ∧ (j.marked ((MapRole.height x).addr + i) = true ∨ j.marked ((MapRole.press x).addr + i) = true)) := by
  have hsplit : (∃ i, i < 2 ∧ (j.marked ((MapRole.height x).addr + i) = true ∨ j.marked ((MapRole.press x).addr + i) = true)) ↔
      j.mapPoisoned (.height x) = true ∨ j.mapPoisoned (.press x) = true := by
    rw [Jobs.mapPoisoned_iff, Jobs.mapPoisoned_iff]
    exact ⟨fun ⟨i, hi, h⟩ => h.imp (⟨i, hi, ·⟩) (⟨i, hi, ·⟩),
      fun h => h.elim (fun ⟨i, hi, h⟩ => ⟨i, hi, .inl h⟩) fun ⟨i, hi, h⟩ => ⟨i, hi, .inr h⟩⟩
  rw [hsplit]
  simp [Jobs.isBlind, or_assoc]

/-- R70: a blind pantograph is lowered with cause BLIND. -/
theorem Jobs.lowerBlind_blind (h : j.isBlind x = true) : OnlyPanto x j (j.lowerBlind x) ∧
    (j.lowerBlind x).panto x = { j.panto x with state := .lowering, low := 0, cause := some .blind } ∧
    ((j.lowerBlind x).timer x.stepTimer).loaded (timing (j.pantoParam x 6)) .oneShot ∧
    ((j.lowerBlind x).timer x.settleTimer).stopped ∧ ((j.lowerBlind x).timer x.arcTimer).stopped := by
  have hr := ((Jobs.isBlind_iff x j).mp h).1
  obtain ⟨hstep, hsettle, harc, -⟩ := Jobs.lower_timers x j hr
  have e : j.lowerBlind x = (j.lower x).setPanto x { (j.lower x).panto x with cause := some .blind } := by
    unfold Jobs.lowerBlind
    rw [if_pos h]
  rw [e]
  refine ⟨(OnlyPanto.lower x j).trans (.setPanto x _ _), ?_, ?_, ?_, ?_⟩
  · rw [Jobs.panto_setPanto, Jobs.lower_panto, if_pos ⟨rfl, hr⟩]
  · rw [Jobs.timer_setPanto]; exact hstep
  · rw [Jobs.timer_setPanto]; exact hsettle
  · rw [Jobs.timer_setPanto]; exact harc

theorem Jobs.lowerBlind_not (h : j.isBlind x = false) : j.lowerBlind x = j := by
  unfold Jobs.lowerBlind
  rw [if_neg (by simp [h])]

theorem Jobs.lowerBlind_lost (hs : (j.panto x).state.raised = true ∨ (j.panto x).state = .lowering)
    (hl : (j.pantoNode x).state = .lost) : ((j.lowerBlind x).panto x).state = .lowering := by
  rcases hs with hs | hs
  · rw [(Jobs.lowerBlind_blind ((Jobs.isBlind_iff x j).mpr ⟨hs, .inl hl⟩)).2.1]
  · exact (Descends.lowerBlind x j).lowering x hs

/-- R70: the level rules lower a pantograph whose node is LOST. -/
theorem Jobs.levels_lost (hw : j.tableWf) (hs : (j.panto x).state.raised = true ∨ (j.panto x).state = .lowering)
    (hl : (j.pantoNode x).state = .lost) : (j.levels.panto x).state = .lowering := by
  have hd := Descends.followed j
  have hh : Held j j.followed :=
    (((Held.lostEntries j).trans (Held.syncFeedback _)).trans (Held.ocReact _)).trans (Held.ocSync _)
  have hs' : (j.followed.panto x).state.raised = true ∨ (j.followed.panto x).state = .lowering :=
    hs.elim (hd.raised x) fun h => .inr (hd.lowering x h)
  have hl' : (j.followed.pantoNode x).state = .lost := by rw [hh.pantoNode hw]; exact hl
  rw [Jobs.levels_eq]
  refine (Descends.iceLevels _).lowering x ?_
  cases x with
  | p1 => exact (Descends.lowerBlind .p2 _).lowering .p1 (Jobs.lowerBlind_lost hs' hl')
  | p2 =>
    have h1 := Descends.lowerBlind .p1 j.followed
    have hw1 : j.followed.tableWf := hh.tableWf hw
    refine Jobs.lowerBlind_lost (hs'.elim (h1.raised .p2) fun h => .inr (h1.lowering .p2 h)) ?_
    rw [(Held.lowerBlind .p1 _).pantoNode hw1]
    exact hl'

/-- R70: within a step in which something changes, a raised pantograph whose node is LOST comes to LOWERING. -/
theorem Jobs.settle_lost (hw : j.tableWf) (hd : j.dev = .run) (ht : j.todo ≠ []) (hs : (j.panto x).state.raised = true)
    (hl : (j.pantoNode x).state = .lost) : (j.settle.panto x).state = .lowering := by
  obtain ⟨c, rest, hc⟩ := List.exists_cons_of_ne_nil ht
  have hpump : j.pump 64 = ((((j.setTodo rest).ocReact).react c).levels).pump 63 := by
    rw [Jobs.pump, hc]
    dsimp only
    unfold Jobs.answer
    rw [if_pos (show (j.setTodo rest).dev = .run from hd)]
  have hreact : Descends j (((j.setTodo rest).ocReact).react c) :=
    ((Descends.setTodo _ j).trans (.ocReact _)).trans (.react _ _)
  have hheld : Held j (((j.setTodo rest).ocReact).react c) := ((Held.setTodo _ j).trans (.ocReact _)).trans (.react _ _)
  unfold Jobs.settle
  rw [hpump]
  refine (Descends.ocSync _).lowering x ((Descends.pump 63 _).lowering x ?_)
  exact Jobs.levels_lost (hheld.tableWf hw) (hreact.raised x hs) (by rw [hheld.pantoNode hw]; exact hl)

/-! ### The steps of the roof jobs -/

/-- A step that is work of the roof jobs, and what it makes of them. -/
theorem EndsFrom.work {i : Instr} {f : Jobs → Jobs} (h : s.inReset = false)
    (hi : exec i s = s.unlessReset fun s => s.work f) (e : f s.jobs = j) : EndsFrom i s (s.setJobs j) :=
  EndsFrom.of_eq (hi.trans (State.unlessReset_of h _)) (by rw [← e]; rfl)

theorem EndsFrom.work_same {i : Instr} {f : Jobs → Jobs} (h : s.inReset = false)
    (hi : exec i s = s.unlessReset fun s => s.work f) (e : f s.jobs = s.jobs) : EndsFrom i s s :=
  EndsFrom.work h hi e

theorem Jobs.expired_not {i : TimerId} (h : (j.timer i).owed = []) : j.expired i = false := by
  simpa [Jobs.expired, Jobs.timer] using h

/-! ### The timers of a pantograph (R63, R65, R69) -/

theorem Jobs.settleExpiry_of (h : (j.timer x.settleTimer).owed ≠ []) : j.settleExpiry x =
    if (j.panto x).state = .preparing then
      (((j.takeExpiry x.settleTimer).touch (pantoAddr x 5)).moveP x { j.panto x with state := .raising, contact := 0 }).load
        x.stepTimer (timing (j.pantoParam x 5)) .oneShot
    else j.takeExpiry x.settleTimer := by
  unfold Jobs.settleExpiry
  rw [if_pos ((Jobs.expired_iff _ j).mpr h)]
  simp only [Jobs.panto_takeExpiry]
  rfl

/-- A pantograph FAULTED at the end of its step timer. -/
def Jobs.faulted (x : Panto) (c : Cause) (j : Jobs) : Jobs :=
  ((j.takeExpiry x.stepTimer).moveP x { j.panto x with state := .faulted, cause := some c }).flag .pantoFaulted x.num

theorem Jobs.faulted_spec (x : Panto) (c : Cause) (j : Jobs) : OnlyPanto x j (j.faulted x c) ∧
    (j.faulted x c).panto x = { j.panto x with state := .faulted, cause := some c } ∧
    Flagged .pantoFaulted (BitVec.ofNat 16 x.num) (j.faulted x c).out ∧ OtherTimers [x.stepTimer] j (j.faulted x c) := by
  refine ⟨((OnlyPanto.takeExpiry x _ j).trans (.moveP x _ _)).trans (.flag x _ _ _), ?_, Flagged.flag _ _ _, ?_⟩
  · exact (Jobs.moveP_panto x x _ _).trans (if_pos rfl)
  · exact (OtherTimers.onTimer (List.mem_singleton_self _) _ j).trans (OtherTimers.of_tmr (by cases x <;> rfl))

theorem Jobs.raiseTimeout_of (h : (j.timer x.stepTimer).owed ≠ []) (hs : (j.panto x).state ≠ .lowering) :
    j.raiseTimeout x = if (j.panto x).state = .raising then j.faulted x .raiseTimeout else j.takeExpiry x.stepTimer := by
  unfold Jobs.raiseTimeout
  rw [if_pos (by simp [(Jobs.expired_iff _ j).mpr h, hs])]
  simp only [Jobs.panto_takeExpiry]
  rfl

theorem Jobs.lowerTimeout_of (h : (j.timer x.stepTimer).owed ≠ []) (hs : (j.panto x).state = .lowering) :
    j.lowerTimeout x = j.faulted x .lowerTimeout := by
  unfold Jobs.lowerTimeout
  rw [if_pos (by simp [(Jobs.expired_iff _ j).mpr h, hs])]
  rfl

end Sys2Proof.Machine

open Sys2Proof Sys2Proof.Machine

/-- Settles O52: the timers by the case of each expiry, the blind pantograph by `Jobs.lowerBlind_blind`, and the lowering of
one whose node is LOST by following it through the answered changes (`Jobs.settle_lost`). -/
theorem pantographTimeouts : Obligations.PantographTimeouts := by
  unfold Obligations.PantographTimeouts
  refine ⟨?blind, ?lost, ?idle, ?acts⟩
  case blind =>
    rintro j k x blind - rfl hb
    have hblind : j.isBlind x = ((j.panto x).state.raised && blind) := by
      rw [Bool.eq_iff_iff, Jobs.isBlind_iff, Bool.and_eq_true, hb]
    refine ⟨fun h => Jobs.lowerBlind_not ?_, fun hr hbl => Jobs.lowerBlind_blind ?_⟩
    · rw [hblind]
      rcases h with h | h <;> simp [h]
    · rw [hblind, hr, hbl]
      rfl
  case lost =>
    intro u x hw hd ht hr hl
    have hj := (State.finish_spec u).2.2.2
    have hp : u.finish.jobs.panto x = u.jobs.settle.panto x := by rw [hj]; cases x <;> rfl
    rw [hp]
    exact Jobs.settle_lost hw.1 hd ht hr hl
  case idle =>
    intro s x h
    refine ⟨fun ho => EndsFrom.work_same h rfl ?_, fun ho => ⟨EndsFrom.work_same h rfl ?_, EndsFrom.work_same h rfl ?_⟩,
      fun hs => EndsFrom.work_same h rfl ?_, fun hs => EndsFrom.work_same h rfl ?_⟩
    · rw [Jobs.settleExpiry, Jobs.expired_not ho]; rfl
    · rw [Jobs.raiseTimeout, Jobs.expired_not ho]; rfl
    · rw [Jobs.lowerTimeout, Jobs.expired_not ho]; rfl
    · rw [Jobs.raiseTimeout, if_neg (by simp [hs])]
    · rw [Jobs.lowerTimeout, if_neg (by simp [hs])]
  case acts =>
    intro s x h
    refine ⟨fun ho hs => ?_, fun ho hs => EndsFrom.work h rfl ?_, fun ho => ⟨fun hs => ?_, fun hs => ?_, fun hs hs' => ?_⟩⟩
    · refine ⟨s.jobs.settleExpiry x, ?_, EndsFrom.work h rfl rfl, ?_⟩ <;> rw [Jobs.settleExpiry_of ho, if_pos hs]
      · exact ((((OnlyPanto.takeExpiry x _ _).trans ((Still.touch _ _).onlyPanto x)).trans (.moveP x _ _)).trans (.load x _ _ _ _))
      · refine ⟨?_, ?_, ?_⟩
        · rw [Jobs.panto_load, Jobs.moveP_panto, if_pos rfl]
        · rw [Jobs.timer_load, if_pos rfl]
          exact Timer.loaded_timing _ _ _
        · intro i hi
          simp only [List.mem_cons, List.not_mem_nil, or_false, not_or] at hi
          rw [Jobs.timer_load, if_neg hi.1, Jobs.timer_moveP, Jobs.timer_touch, Jobs.timer_takeExpiry, if_neg hi.2]
    · rw [Jobs.settleExpiry_of ho, if_neg hs]
    · have hr := Jobs.raiseTimeout_of ho (by rw [hs]; decide)
      rw [if_pos hs] at hr
      obtain ⟨honly, hp, hf, ht⟩ := Jobs.faulted_spec x .raiseTimeout s.jobs
      exact ⟨_, honly, EndsFrom.work h rfl hr, hp, hf, ht⟩
    · obtain ⟨honly, hp, hf, ht⟩ := Jobs.faulted_spec x .lowerTimeout s.jobs
      exact ⟨_, honly, EndsFrom.work h rfl (Jobs.lowerTimeout_of ho hs), hp, hf, ht⟩
    · refine EndsFrom.work h rfl ?_
      rw [Jobs.raiseTimeout_of ho hs', if_neg hs]

end

section
/-! PROOFS. Arc supervision (O53): the samples of an arc input, the edges they make, and the arc interval. -/

namespace Sys2Proof.Machine

open Sys2Proof

variable {j : Jobs} {x : Panto}

/-! ### The record of an arc input -/

theorem Jobs.arcIn_setArcIn (x : Panto) (v : ArcInput) (j : Jobs) : (j.setArcIn x v).arcIn x = v := by cases x <;> rfl
theorem Jobs.arcIn_touch (x : Panto) (a : Nat) (j : Jobs) : (j.touch a).arcIn x = j.arcIn x := by
  unfold Jobs.arcIn
  rw [Jobs.touch_arc]
theorem Jobs.arcIn_setPanto (x y : Panto) (r : PantoRec) (j : Jobs) : (j.setPanto y r).arcIn x = j.arcIn x := by
  cases y <;> rfl
theorem Jobs.setArcIn_dev (x : Panto) (v : ArcInput) (j : Jobs) : (j.setArcIn x v).dev = j.dev := by cases x <;> rfl

theorem ArcInput.accepted_eq {a : ArcInput} {high : Bool} (h : a.last = some high) :
    ({ a with last := some high, level := some high } : ArcInput) = { a with level := some high } := by
  obtain ⟨last, level, count⟩ := a
  cases h
  rfl

/-! ### Samples and edges (R125, R126) -/

theorem Jobs.arcFalling_eq (x : Panto) (j : Jobs) : j.arcFalling x = decide (j.pantoParam x 8 = 1) := rfl

/-- R125: a sample that comes for the first time, or agrees with the accepted level. -/
theorem Jobs.arcSample_not {high : Bool} (h : (j.arcIn x).last ≠ some high ∨ (j.arcIn x).level = some high) :
    j.arcSample x high = j.setArcIn x { j.arcIn x with last := some high } := by
  unfold Jobs.arcSample
  rw [if_neg]
  rintro ⟨h1, h2⟩
  exact h.elim (· h1) h2

/-- R125: the first accepted level gives no edge. -/
theorem Jobs.arcSample_first {high : Bool} (h : (j.arcIn x).last = some high) (hl : (j.arcIn x).level = none) :
    j.arcSample x high = j.setArcIn x { j.arcIn x with level := some high } := by
  unfold Jobs.arcSample
  rw [if_pos ⟨h, by rw [hl]; simp⟩, hl]
  dsimp only
  rw [ArcInput.accepted_eq h]

/-- The jobs once an edge to the level `high` has been accepted, before it acts. -/
def Jobs.edged (x : Panto) (high : Bool) (j : Jobs) : Jobs :=
  (j.setArcIn x { j.arcIn x with level := some high }).touch (pantoAddr x 8)

theorem Jobs.edged_arcIn (x : Panto) (high : Bool) (j : Jobs) :
    (j.edged x high).arcIn x = { j.arcIn x with level := some high } :=
  (Jobs.arcIn_touch x _ _).trans (Jobs.arcIn_setArcIn x _ j)

theorem Jobs.edged_panto (x y : Panto) (high : Bool) (j : Jobs) : (j.edged x high).panto y = j.panto y :=
  (Jobs.panto_touch y _ _).trans (Jobs.panto_setArcIn y x _ j)

/-- R126: an accepted edge acts where it is the polarity's active one, in RUN. -/
theorem Jobs.arcSample_edge {high : Bool} (h : (j.arcIn x).last = some high) (hl : (j.arcIn x).level = some (!high)) :
    j.arcSample x high =
      if (high != j.arcFalling x) = true ∧ j.dev = .run then (j.edged x high).arcEvent x else j.edged x high := by
  unfold Jobs.arcSample
  rw [if_pos ⟨h, by rw [hl]; cases high <;> simp⟩, hl]
  dsimp only
  rw [ArcInput.accepted_eq h]
  by_cases ha : (high != j.arcFalling x) = true ∧ j.dev = .run
  · rw [if_pos ha, if_pos (by simp [ha.1, ha.2])]
    rfl
  · rw [if_neg ha, if_neg (by simpa using ha)]
    rfl

/-- R76: an arc event outside IN_CONTACT does nothing. -/
theorem Jobs.arcEvent_not (h : (j.panto x).state ≠ .inContact) : j.arcEvent x = j := if_neg h

/-- R76: an arc event within the budget takes one from it. -/
theorem Jobs.arcEvent_budget (h : (j.panto x).state = .inContact) (hb : 0 < (j.arcIn x).count) :
    j.arcEvent x = j.setArcIn x { j.arcIn x with count := (j.arcIn x).count - 1 } := by
  unfold Jobs.arcEvent
  rw [if_pos h]
  exact if_pos hb

/-- R76: an arc event beyond the budget is counted, the first of them in an interval with ARC_BURST. -/
theorem Jobs.arcEvent_excess (h : (j.panto x).state = .inContact) (hb : (j.arcIn x).count = 0) :
    (j.arcEvent x).arcIn x = j.arcIn x ∧
    (j.arcEvent x).panto x = { j.panto x with excess := min 255 ((j.panto x).excess + 1), burst := true } ∧
    (j.arcEvent x).panto x.other = j.panto x.other ∧ (j.arcEvent x).tmr = j.tmr ∧ (j.arcEvent x).cs = j.cs ∧
    ((j.panto x).burst = true → (j.arcEvent x).ice = j.ice) ∧
    ((j.panto x).burst = false → (j.arcEvent x).ice = { j.ice with tally := min 255 (j.ice.tally + 1) } ∧
      Flagged .arcBurst (BitVec.ofNat 16 x.num) (j.arcEvent x).out) := by
  have hne : ¬ 0 < (j.arcIn x).count := by omega
  unfold Jobs.arcEvent
  rw [if_pos h]
  dsimp only
  rw [if_neg hne]
  cases hp : (j.panto x).burst with
  | true =>
    rw [if_pos rfl]
    refine ⟨Jobs.arcIn_setPanto x x _ j, ?_, by cases x <;> rfl, by cases x <;> rfl, by cases x <;> rfl,
      fun _ => by cases x <;> rfl, fun hf => nomatch hf⟩
    rw [Jobs.panto_setPanto, ← hp]
  | false =>
    rw [if_neg (by decide)]
    refine ⟨by cases x <;> rfl, by cases x <;> rfl, by cases x <;> rfl, by cases x <;> rfl, by cases x <;> rfl,
      (fun hf => nomatch hf), fun _ => ⟨by cases x <;> rfl, Flagged.flag _ _ _⟩⟩

/-- R126: ARC_EDGE is the sample that accepts an active edge. -/
theorem Jobs.arcEdge_of {high : Bool} (h : (j.arcIn x).last = some high) (hl : (j.arcIn x).level = some (!high))
    (ha : high ≠ j.arcFalling x) : j.arcEdge x = j.arcSample x high := by
  unfold Jobs.arcEdge
  rw [h, hl]
  exact if_pos (by simp [ha])

theorem Jobs.arcEdge_not (h : (j.arcIn x).last = none ∨ (j.arcIn x).level = none ∨ (j.arcIn x).last = (j.arcIn x).level) :
    j.arcEdge x = j := by
  unfold Jobs.arcEdge
  cases hl : (j.arcIn x).last with
  | none => rfl
  | some high =>
    cases hv : (j.arcIn x).level with
    | none => rfl
    | some was =>
      rw [hl, hv] at h
      refine if_neg ?_
      rcases h with h | h | h
      · cases h
      · cases h
      · cases h
        simp

/-! ### The arc interval (R77) -/

theorem Jobs.arcInterval_of (h : (j.timer x.arcTimer).owed ≠ []) : j.arcInterval x =
    if (j.panto x).state = .inContact then
      (((j.takeExpiry x.arcTimer).touch (pantoAddr x 9)).setPanto x { j.panto x with excess := 0, burst := false }).setArcIn x
        { j.arcIn x with count := min 255 (j.pantoParam x 9).toNat }
    else j.takeExpiry x.arcTimer := by
  have ha : (j.takeExpiry x.arcTimer).arcIn x = j.arcIn x := by cases x <;> rfl
  unfold Jobs.arcInterval
  rw [if_pos ((Jobs.expired_iff _ j).mpr h)]
  simp only [Jobs.panto_touch, Jobs.panto_takeExpiry, Jobs.arcIn_touch, ha]
  rfl

end Sys2Proof.Machine

open Sys2Proof Sys2Proof.Machine

/-- Settles O53: the samples by the cases of R125 and R126 (`Jobs.arcSample_not`, `_first`, `_edge`), an active edge by those
of R76 (`Jobs.arcEvent_budget`, `_excess`), the interval by R77. -/
theorem arcSupervision : Obligations.ArcSupervision := by
  unfold Obligations.ArcSupervision
  refine ⟨?sample, ?edge, ?noEdge, ?interval⟩
  case sample =>
    rintro s x high a h rfl
    refine ⟨fun hn => EndsFrom.work h rfl (Jobs.arcSample_not hn),
      fun hl hv => EndsFrom.work h rfl (Jobs.arcSample_first hl hv), fun falling hf hl hv => ?_⟩
    have he := Jobs.arcSample_edge hl hv
    have hfall : s.jobs.arcFalling x = falling := by rw [hf, Jobs.arcFalling_eq]
    rw [hfall] at he
    have hstate : ((s.jobs.edged x high).panto x).state = (s.jobs.panto x).state := by rw [Jobs.edged_panto]
    refine ⟨fun hn => EndsFrom.work h rfl (he.trans ?_), fun hne hrun hc => ?_⟩
    · by_cases ha : (high != falling) = true ∧ s.jobs.dev = .run
      · rw [if_pos ha]
        refine Jobs.arcEvent_not (hstate ▸ ?_)
        rcases hn with hn | hn | hn
        · simp [hn] at ha
        · simp [hn] at ha
        · exact hn
      · rw [if_neg ha]
        rfl
    · rw [if_pos ⟨by simpa using hne, hrun⟩] at he
      have hin := Jobs.edged_arcIn x high s.jobs
      refine ⟨fun hb => EndsFrom.work h rfl (he.trans ?_), fun hb => ⟨_, EndsFrom.work h rfl he, ?_⟩⟩
      · rw [Jobs.arcEvent_budget (hstate.trans hc) (by rw [hin]; exact hb), hin]
        rfl
      · obtain ⟨hi, hp, ho, ht, hcs, hburst, hnew⟩ := Jobs.arcEvent_excess (hstate.trans hc) (by rw [hin]; exact hb)
        rw [Jobs.edged_panto] at hp ho hburst hnew
        have hk : (s.jobs.edged x high).tmr = s.jobs.tmr ∧ (s.jobs.edged x high).cs = s.jobs.cs ∧
            (s.jobs.edged x high).ice = s.jobs.ice := by
          unfold Jobs.edged
          rw [Jobs.touch_tmr, Jobs.touch_cs, Jobs.touch_ice]
          cases x <;> exact ⟨rfl, rfl, rfl⟩
        rw [hk.2.2] at hburst hnew
        exact ⟨hi.trans hin, hp, ho, ht.trans hk.1, hcs.trans hk.2.1, hburst, hnew⟩
  case edge =>
    intro s x high hl hv hne
    have he : s.jobs.arcEdge x = s.jobs.arcSample x high := Jobs.arcEdge_of hl hv (by rw [Jobs.arcFalling_eq]; exact hne)
    show (s.unlessReset fun s => s.work (Jobs.arcEdge x)) = s.unlessReset fun s => s.work (Jobs.arcSample x high)
    cases hr : s.inReset with
    | true => rw [State.unlessReset_in hr, State.unlessReset_in hr]
    | false =>
      rw [State.unlessReset_of hr, State.unlessReset_of hr]
      unfold State.work State.onJobs
      rw [he]
  case noEdge => exact fun s x h hn => EndsFrom.work_same h rfl (Jobs.arcEdge_not hn)
  case interval =>
    intro s x h
    refine ⟨fun ho => EndsFrom.work_same h rfl ?_, fun ho => ⟨fun hs => EndsFrom.work h rfl ?_, fun hs => ?_⟩⟩
    · rw [Jobs.arcInterval, Jobs.expired_not ho]
      rfl
    · rw [Jobs.arcInterval_of ho, if_neg hs]
    · have hi := Jobs.arcInterval_of ho
      rw [if_pos hs] at hi
      refine ⟨_, EndsFrom.work h rfl hi, ?_, Jobs.arcIn_setArcIn x _ _, ?_⟩
      · rw [Jobs.panto_setArcIn, Jobs.panto_setPanto]
      · intro i hn
        rw [Jobs.timer_setArcIn, Jobs.timer_setPanto, Jobs.timer_touch, Jobs.timer_takeExpiry, if_neg (by simpa using hn)]

end

section
/-! PROOFS. The capture buffer (O60): which entries match a trigger, what a FRAME entry's words hold, what an offered entry
does to the buffer, and how a frame or a report comes to be offered. -/

namespace Sys2Proof.Machine

open Sys2Proof

variable {s t u : State} {c : Capture}

/-! ### Fields of words -/

theorem bit_iff (w : Word) (i : Nat) : bit w i = true ↔ bits w i 1 = 1 := by
  rw [bit, BitVec.getLsbD, Nat.testBit_eq_decide_div_mod_eq, decide_eq_true_iff]
  rfl

theorem bits_toWord {n : Nat} (h : n < 65536) (lo k : Nat) : bits (toWord n) lo k = n / 2 ^ lo % 2 ^ k := by
  rw [bits, toWord, BitVec.toNat_ofNat, Nat.mod_eq_of_lt h]

theorem Kind.code_lt (k : Kind) : k.code < 8 := by cases k <;> decide

theorem Disposition.code_lt (d : Disposition) : d.code < 8 := by
  rcases d with _ | _ | _ | r
  · decide
  · decide
  · decide
  · cases r <;> decide

/-! ### The trigger (R176) -/

theorem masked_eq_iff (a b m : Word) : a &&& m = b &&& m ↔ ∀ i, m.getLsbD i = true → a.getLsbD i = b.getLsbD i := by
  constructor
  · intro h i hm
    have hi := congrArg (BitVec.getLsbD · i) h
    simpa [BitVec.getLsbD_and, hm] using hi
  · intro h
    refine BitVec.eq_of_getLsbD_eq fun i hi => ?_
    rw [BitVec.getLsbD_and, BitVec.getLsbD_and]
    cases hm : m.getLsbD i with
    | false => rw [Bool.and_false, Bool.and_false]
    | true => rw [h i hm]

theorem absent_or_eq {α : Type} [DecidableEq α] (o : Option α) (a : α) :
    (o == none || o == some a) = true ↔ ∀ x, o = some x → x = a := by
  cases o <;> simp

theorem Trigger.hitsFrame_iff (d : Option Direction) (kind : Option Kind) (point mask : Word) (dir : Direction) (f : Frame) :
    (Trigger.frame d kind point mask).hitsFrame dir f = true ↔ (∀ x, d = some x → x = dir) ∧
      (∀ x, kind = some x → x = f.kind) ∧ ∀ i, mask.getLsbD i = true → f.point.getLsbD i = point.getLsbD i := by
  rw [Trigger.hitsFrame, Bool.and_eq_true, Bool.and_eq_true, absent_or_eq, absent_or_eq, beq_iff_eq, masked_eq_iff, and_assoc]

/-! ### The words of a FRAME entry (R172) -/

/-- 13.5: the descriptor's fields, each in its own bits. -/
theorem frameEntry_descriptor (tag : Long) (p : Port) (dir : Direction) (f : Frame) (d : Disposition) (k : Option Nat)
    (hk : ∀ i, k = some i → i < 16) (w : Word) (hw : w = (frameEntry tag p dir f d k).descriptor) :
    bits w 14 2 = 1 ∧ bits w 13 1 = portCode p ∧ bits w 12 1 = dir.code ∧ bits w 9 3 = f.kind.code ∧ bits w 6 3 = d.code ∧
    bits w 0 5 = k.getD 31 := by
  have h1 : portCode p < 2 := by cases p <;> decide
  have h2 : dir.code < 2 := by cases dir <;> decide
  have h3 := Kind.code_lt f.kind
  have h4 := Disposition.code_lt d
  have h5 : k.getD 31 < 32 := by
    cases k with
    | none => decide
    | some i => exact Nat.lt_of_lt_of_le (hk i rfl) (by decide)
  subst hw
  unfold frameEntry
  dsimp only
  have hb := bits_toWord (n := 0x4000 + portCode p * 0x2000 + dir.code * 0x1000 + f.kind.code * 512 + d.code * 64 + k.getD 31)
    (by omega)
  simp only [hb, Nat.reducePow]
  omega

theorem frameEntry_sizes (f : Frame) (h : f.payload.length ≤ 16) (w : Word)
    (hw : w = toWord (f.payload.length * 256 + f.seq.toNat)) :
    bits w 8 5 = f.payload.length ∧ bits w 0 8 = f.seq.toNat := by
  have hs := f.seq.isLt
  subst hw
  have hb := bits_toWord (n := f.payload.length * 256 + f.seq.toNat) (by omega)
  simp only [hb, Nat.reducePow]
  omega

/-! ### An offered entry (R173, R177) -/

theorem CaptureMode.records_iff (m : CaptureMode) (frame : Bool) :
    m.records frame = true ↔ m = .mixed ∨ m = .frames ∧ frame = true ∨ m = .events ∧ frame = false := by
  cases m <;> cases frame <;> simp [CaptureMode.records]

/-- R173, R177: an entry of a class that the mode does not record, or offered while FROZEN, is not written. -/
theorem Capture.offer_not (frame hit : Bool) (e : CaptureEntry) (h : c.mode.records frame = false ∨ c.state = .frozen) :
    c.offer frame hit e = (c, false) := by
  unfold Capture.offer
  cases hr : c.mode.records frame with
  | false => exact if_neg (by decide)
  | true =>
    rw [if_pos rfl, h.resolve_left (by simp [hr])]

/-- R173: the indexes after a write. -/
theorem Capture.write_eq (frame : Bool) (e : CaptureEntry) (c : Capture) : c.write frame e =
    { c with mem := Store.write CaptureEntry.empty (c.index frame) e c.mem,
             frameIndex := if frame then c.mode.after true c.frameIndex else c.frameIndex,
             eventIndex := if frame then c.eventIndex else c.mode.after false c.eventIndex } := by
  cases frame <;> rfl

theorem Capture.offer_armed (frame hit : Bool) (e : CaptureEntry) (hr : c.mode.records frame = true) (hs : c.state = .armed) :
    c.offer frame hit e = if hit then
        ({ c.write frame e with place := some (c.index frame, e.tag), remaining := c.post,
                                state := if c.post = 0 then .frozen else .triggered }, c.post == 0)
      else (c.write frame e, false) := by
  unfold Capture.offer
  rw [if_pos hr, hs]
  dsimp only
  rw [Capture.write_eq]

theorem Capture.offer_triggered (frame hit : Bool) (e : CaptureEntry) (hr : c.mode.records frame = true)
    (hs : c.state = .triggered) : c.offer frame hit e =
      ({ c.write frame e with remaining := c.remaining - 1, state := if c.remaining - 1 = 0 then .frozen else .triggered },
        c.remaining - 1 == 0) := by
  unfold Capture.offer
  rw [if_pos hr, hs]
  dsimp only
  rw [Capture.write_eq]

/-- R173, R177: what a recorded entry leaves of the buffer: its own place, its region's index, the state, the count and the
trigger's place. -/
theorem Capture.offer_recorded (frame hit : Bool) (e : CaptureEntry) (hr : c.mode.records frame = true)
    (hs : c.state ≠ .frozen) : ∃ state remaining place, (c.offer frame hit e).1 =
      { c.write frame e with state := state, remaining := remaining, place := place } := by
  cases hst : c.state with
  | frozen => exact absurd hst hs
  | armed =>
    rw [Capture.offer_armed frame hit e hr hst]
    cases hit <;> exact ⟨_, _, _, rfl⟩
  | triggered =>
    rw [Capture.offer_triggered frame hit e hr hst]
    exact ⟨_, _, _, rfl⟩

/-! ### Frames and the buffer (R174) -/

/-- R174, R177: a frame offered with its own deciding entry, from a state that has its selection, its time tag and the
buffer as `s` has them. -/
theorem Offered.offer (p : Port) (dir : Direction) (f : Frame) (d : Disposition)
    (hs : t.selects (s.jobs.routeOf f) = s.selects (s.jobs.routeOf f)) (ht : t.jobs.tag = s.jobs.tag) (hc : t.cb = s.cb) :
    Offered p dir f d s (t.offerFrame p dir f d (s.jobs.routeOf f)) := by
  rintro k selected b rfl hsel hb
  have hsel' : t.selects (s.jobs.routeOf f) = selected := by
    rw [hs, hsel]
    cases s.jobs.routeOf f <;> rfl
  unfold State.offerFrame
  rw [hsel']
  refine ⟨fun h => ?_, fun h => ?_⟩
  · rw [h, if_neg (by decide)]
    exact hc
  · obtain ⟨c, froze⟩ := b
    rw [h, if_pos rfl, hc, ht, ← hb]
    cases froze with
    | false => exact ⟨rfl, fun h2 => nomatch h2⟩
    | true => exact ⟨rfl, fun _ => ⟨_, _, List.mem_cons_self⟩⟩

theorem Offered.offerFrame (p : Port) (dir : Direction) (f : Frame) (d : Disposition) (hj : t.jobs = s.jobs) (hc : t.cb = s.cb) :
    Offered p dir f d s (t.offerFrame p dir f d (s.jobs.routeOf f)) := by
  refine .offer p dir f d ?_ (by rw [hj]) hc
  cases s.jobs.routeOf f with
  | none => exact congrArg Capture.unmatched hc
  | some i => exact congrArg (Jobs.routeCapture i) hj

/-- What comes after a frame's offer leaves it offered while it leaves the buffer and adds to the reports. -/
theorem Offered.later {p : Port} {dir : Direction} {f : Frame} {d : Disposition} (h : Offered p dir f d s t)
    (hc : u.cb = t.cb) (ho : t.jobs.out <+: u.jobs.out) : Offered p dir f d s u := by
  intro k selected b hk hsel hb
  obtain ⟨h1, h2⟩ := h k selected b hk hsel hb
  exact ⟨fun hs => hc.trans (h1 hs), fun hs => ⟨hc.trans (h2 hs).1, fun hb => ((h2 hs).2 hb).of_prefix ho⟩⟩

theorem State.offerFrame_fr (p : Port) (dir : Direction) (f : Frame) (d : Disposition) (k : Option Nat) (s : State) :
    (s.offerFrame p dir f d k).fr = s.fr := by
  unfold State.offerFrame State.noteFrozen
  split
  · dsimp only
    split <;> rfl
  · rfl

/-- R151, R174: an originated frame that the train transmit queue takes, or refuses. -/
theorem State.originate_spec (f : Frame) (s : State) :
    (s.originate f).fr = (if s.fr.up.length < 16
        then { s.fr with train := { s.fr.train with originated := s.fr.train.originated + 1 },
                         up := s.fr.up ++ [{ forwarded := false, frame := f }] }
        else { s.fr with train := { s.fr.train with originated := s.fr.train.originated + 1 },
                         lost := min 65535 (s.fr.lost + 1) }) ∧
    Offered .train .up f (if s.fr.up.length < 16 then .originated else .dropped .queueFull) s (s.originate f) := by
  have ht : s.fr.takesOriginated = decide (s.fr.up.length < 16) := rfl
  unfold State.originate
  rw [ht]
  by_cases h : s.fr.up.length < 16
  · simp only [h, decide_true, if_true]
    refine ⟨(State.offerFrame_fr ..).trans rfl, ?_⟩
    exact (Offered.offerFrame .train .up f .originated
      (t := s.setFr ((s.fr.count .train Counters.originate).pushUp f false)) rfl rfl).later rfl (Held.touchRouteOf f _).out
  · simp only [h, decide_false, if_false]
    refine ⟨(State.offerFrame_fr ..).trans rfl, ?_⟩
    exact (Offered.offerFrame .train .up f (.dropped .queueFull)
      (t := s.setFr { s.fr.count .train Counters.originate with lost := min 65535 (s.fr.lost + 1) }) rfl rfl).later rfl
      (Held.touchRouteOf f _).out

end Sys2Proof.Machine

open Sys2Proof Sys2Proof.Machine

/-- Settles O60. -/
theorem captureEntries : Obligations.CaptureEntries := by
  unfold Obligations.CaptureEntries
  refine ⟨?hits, ?words, ?originated, ?offered⟩
  case hits =>
    refine fun d kind point mask code dir f g => ⟨Trigger.hitsFrame_iff d kind point mask dir f, ?_, rfl, rfl, rfl, rfl⟩
    exact beq_iff_eq
  case words =>
    rintro tag p dir f d k e rfl hk hlen
    obtain ⟨hclass, hport, hdir, hkind, hdisp, hroute⟩ := frameEntry_descriptor tag p dir f d k hk _ rfl
    obtain ⟨hsize, hseq⟩ := frameEntry_sizes f hlen _ rfl
    refine ⟨rfl, hclass, ?_, ?_, hkind, hdisp, hroute, rfl, hsize, hseq, rfl⟩
    · rw [bit_iff, hport]
      cases p <;> simp [portCode]
    · rw [bit_iff, hdir]
      cases dir <;> simp [Direction.code]
  case originated =>
    rintro s u f rfl
    obtain ⟨hfr, ho⟩ := State.originate_spec f s
    refine ⟨rfl, ?_, fun h => ?_, fun h => ?_⟩
    · rw [hfr]
      split <;> rfl
    · rw [if_pos h] at hfr ho
      rw [hfr]
      exact ⟨rfl, rfl, ho⟩
    · rw [if_neg (by omega)] at hfr ho
      rw [hfr]
      exact ⟨rfl, rfl, ho⟩
  case offered =>
    rintro c frame hit e i next hi hnext
    refine ⟨fun h => Capture.offer_not frame hit e ?_, fun hm hs hw => ?_⟩
    · rcases h with ⟨hm, rfl⟩ | ⟨hm, rfl⟩ | h
      · exact .inl (by rw [hm]; rfl)
      · exact .inl (by rw [hm]; rfl)
      · exact .inr h
    · have hr := (CaptureMode.records_iff c.mode frame).mpr hm
      have hidx : c.index frame = i := hi.symm
      have hafter : c.mode.after frame i = next := by
        rw [hnext]
        cases hmode : c.mode <;> cases frame <;> rfl
      refine ⟨fun a => ?_, ?_, fun ha hh => ?_, fun ha hh => ?_, fun ht => ?_⟩
      · obtain ⟨st, n, pl, he⟩ := Capture.offer_recorded frame hit e hr hs
        rw [he, Capture.write_eq, hidx]
        exact Store.read_write hw i a e
      · obtain ⟨st, n, pl, he⟩ := Capture.offer_recorded frame hit e hr hs
        rw [he, Capture.write_eq]
        subst hi
        cases frame <;> rw [← hafter] <;> rfl
      · rw [Capture.offer_armed frame hit e hr ha, hh, Capture.write_eq]
        exact ⟨ha, rfl, rfl⟩
      · rw [Capture.offer_armed frame hit e hr ha, hh, if_pos rfl, hidx]
        exact ⟨rfl, rfl, fun h => ⟨if_pos h, by simp [h]⟩, fun h => ⟨if_neg (by omega), by simp; omega⟩⟩
      · rw [Capture.offer_triggered frame hit e hr ht, Capture.write_eq]
        exact ⟨rfl, rfl, fun h => ⟨if_pos (by omega), by simp; omega⟩, fun h => ⟨if_neg (by omega), by simp; omega⟩⟩

end

section
/-! PROOFS. One tick of time (O50): the timers, the marks of the feature list and the scrub read. -/

namespace Sys2Proof.Machine

open Sys2Proof

variable {j k : Jobs}

/-! ### Timers (R116, R119) -/

theorem Timers.get_map (f : Timer → Timer) (i : TimerId) (t : Timers) : (t.map f).get i = f (t.get i) := by
  cases i <;> rfl

theorem Timer.tick_not {tag : Long} {t : Timer} (h : t.running = false ∨ t.held = true ∨ t.count = 0) : t.tick tag = t := by
  unfold Timer.tick Timer.counting
  rcases h with h | h | h <;> simp [h]

theorem Timer.tick_counting {tag : Long} {t : Timer} (hr : t.running = true) (hh : t.held = false) (hc : 0 < t.count) :
    t.tick tag = if t.count = 1 then
        (if t.mode = .oneShot then { t with count := 0, running := false, owed := t.owed ++ [tag] }
          else { t with count := t.reload, owed := t.owed ++ [tag] })
      else { t with count := t.count - 1 } := by
  unfold Timer.tick Timer.counting
  rw [if_pos (by simp [hr, hh, hc])]
  split
  · cases t.mode <;> rfl
  · rfl

/-! ### One checked read (R183) -/

/-- What a read makes of table memory depends on table memory alone. -/
theorem Jobs.touch_tm_congr (a : Nat) (h : k.tm = j.tm) : (k.touch a).tm = (j.touch a).tm := by
  have hc : k.cell a = j.cell a := by unfold Jobs.cell; rw [h]
  unfold Jobs.touch
  dsimp only
  rw [hc, h]
  split
  · rfl
  · split
    · rfl
    · exact h

theorem Jobs.cell_of_tm (h : k.tm.mem = j.tm.mem) (a : Nat) : k.cell a = j.cell a := by unfold Jobs.cell; rw [h]

/-- R183: what a read makes of the word it reads. -/
theorem Jobs.touch_cell (a : Nat) (hw : j.tableWf) :
    ((j.cell a).mark = false → inverted (j.cell a).check = 1 → (j.touch a).cell a = { data := (j.cell a).data } ∧
      (j.touch a).tm.corrected = min 255 (j.tm.corrected + 1) ∧
      Flagged .tableCorrected (BitVec.ofNat 16 a) (j.touch a).out) ∧
    ((j.cell a).mark = false → 2 ≤ inverted (j.cell a).check → (j.touch a).cell a = { j.cell a with mark := true } ∧
      Flagged .tablePoisoned (BitVec.ofNat 16 a) (j.touch a).out) ∧
    (((j.cell a).mark = true ∨ inverted (j.cell a).check = 0) → (j.touch a).cell a = j.cell a) := by
  have hcorr : (j.cell a).correctable = true ↔ (j.cell a).mark = false ∧ inverted (j.cell a).check = 1 := by
    simp [TWord.correctable]
  have hbad : (j.cell a).bad = true ↔ (j.cell a).mark = true ∨ 2 ≤ inverted (j.cell a).check := by simp [TWord.bad]
  have hstore : ∀ v : TWord, Store.read {} a (j.tm.store a v).mem = v := fun v =>
    (TableMem.read_store hw a a v).trans (if_pos rfl)
  rcases Jobs.touch_spec a j with ⟨hc, e⟩ | ⟨hc, hb, hm, e⟩ | ⟨⟨hc, hb⟩, e⟩
  · obtain ⟨hm, h1⟩ := hcorr.mp hc
    rw [e]
    exact ⟨fun _ _ => ⟨hstore _, rfl, Flagged.flag _ _ _⟩, fun _ h2 => by omega,
      fun h => by rcases h with h | h <;> simp_all⟩
  · have h1 : inverted (j.cell a).check ≠ 1 := fun h => by simp [hcorr.mpr ⟨hm, h⟩] at hc
    rw [e]
    refine ⟨fun _ h => absurd h h1, fun _ _ => ⟨hstore _, Flagged.flag _ _ _⟩, fun h => ?_⟩
    rcases hbad.mp hb with hb | hb
    · simp [hm] at hb
    · rcases h with h | h
      · simp [hm] at h
      · omega
  · rw [e]
    refine ⟨fun hm h => by simp [hcorr.mpr ⟨hm, h⟩] at hc, fun hm h => ?_, fun _ => rfl⟩
    rcases hb with hb | hb
    · simp [hbad.mpr (.inr h)] at hb
    · simp [hm] at hb

/-! ### The tick -/

/-- The jobs with the tick's time tag, timers and speed. -/
def Jobs.ticked (j : Jobs) : Jobs :=
  ((j.setTag (j.tag + 1)).setTmr (j.tmr.map (Timer.tick (j.tag + 1)))).setSpeed (j.speed.age (j.tag + 1))

/-- The read that the marks of the feature list make. -/
def Jobs.limitRead (j : Jobs) : Jobs := if j.cs.list = [] then j else j.touch 0x158

theorem Jobs.limitRead_still (j : Jobs) : Still j j.limitRead := by
  unfold Jobs.limitRead
  split
  · exact .refl j
  · exact .touch _ j

/-- R37: the marks of the feature list. -/
theorem Jobs.ageFeatures_eq (j : Jobs) : j.ageFeatures =
    j.limitRead.setCs { j.cs with list := j.cs.list.map (Feature.age j.tag (timing (j.changeover 8))) } := by
  unfold Jobs.ageFeatures Jobs.limitRead
  cases hl : j.cs.list with
  | nil =>
    rw [if_pos (show ([] : List Feature).isEmpty = true from rfl), if_pos rfl]
    obtain ⟨dev, tag, tm, tmr, arc, lmu, lsi, speed, cs⟩ := j
    obtain ⟨state, list⟩ := cs
    cases hl
    rfl
  | cons f rest =>
    rw [if_neg (by simp), if_neg (by simp)]
    dsimp only
    rw [Jobs.touch_cs, Jobs.touch_tag, hl]

theorem Jobs.limitRead_tm (h : k.tm = j.tm) (hc : k.cs = j.cs) : k.limitRead.tm = j.limitRead.tm := by
  unfold Jobs.limitRead
  rw [hc]
  split
  · exact h
  · exact Jobs.touch_tm_congr _ h

/-- The scrub read as one read of the ticked jobs, the pointer moved on. -/
theorem Jobs.tick_scrubRead (j : Jobs) : ∃ r : Jobs, Still j.tick r ∧ r = j.tick.touch j.tm.scrub ∧
    j.tick = j.ticked.limitRead.setCs
      { j.cs with list := j.cs.list.map (Feature.age (j.tag + 1) (timing (j.changeover 8))) } ∧
    j.tick.scrubRead = r.setTm { r.tm with scrub := (j.tm.scrub + 1) % 512 } := by
  have htick : j.tick = j.ticked.limitRead.setCs
      { j.cs with list := j.cs.list.map (Feature.age (j.tag + 1) (timing (j.changeover 8))) } := Jobs.ageFeatures_eq j.ticked
  have hscrub : j.tick.tm.scrub = j.tm.scrub := by
    rw [htick]
    exact (Jobs.limitRead_still j.ticked).scrub
  refine ⟨_, .touch _ _, rfl, htick, ?_⟩
  unfold Jobs.scrubRead
  dsimp only
  rw [hscrub]
  rfl

end Sys2Proof.Machine

open Sys2Proof Sys2Proof.Machine

/-- Settles O50. -/
theorem tickOfTime : Obligations.TickOfTime := by
  unfold Obligations.TickOfTime
  refine ⟨?tick, fun tag t => ⟨Timer.tick_not, fun hr hh => ?timer⟩⟩
  case timer =>
    refine ⟨fun hc => ?_, fun hc hm => ?_, fun hc hm => ?_⟩
    · rw [Timer.tick_counting hr hh (by omega), if_neg (by omega)]
    · rw [Timer.tick_counting hr hh (by omega), if_pos hc, if_pos hm]
    · rw [Timer.tick_counting hr hh (by omega), if_pos hc, if_neg (by rw [hm]; decide)]
  case tick =>
    rintro s b a h hb rfl
    have hb' : b = s.jobs.limitRead := hb
    have hb' : b = s.jobs.limitRead := hb
    obtain ⟨r, hread, hr, htick, he⟩ := Jobs.tick_scrubRead s.jobs
    obtain ⟨tm1, todo1, out1, h1⟩ : ∃ tm todo out, s.jobs.ticked.limitRead =
        { s.jobs.ticked with tm := tm, todo := todo, out := out } := ⟨_, _, _, (Jobs.limitRead_still _).rest⟩
    obtain ⟨tm2, todo2, out2, h2⟩ : ∃ tm todo out, r = { s.jobs.tick with tm := tm, todo := todo, out := out } :=
      ⟨_, _, _, hread.rest⟩
    have hbtm : s.jobs.tick.tm = b.tm := by
      rw [htick, hb']
      exact Jobs.limitRead_tm rfl rfl
    have hrtm : r.tm = (b.touch s.jobs.tm.scrub).tm := hr ▸ Jobs.touch_tm_congr _ hbtm
    refine ⟨(s.setLatch (s.latch.map (fun l => { l with ticks := l.ticks + 1 }))).setJobs s.jobs.tick.scrubRead,
      EndsFrom.of_eq (State.unlessReset_of h _) rfl, rfl, ?_, ?_, fun i => ?_, ?_, ?_, fun hw w hwc => ?_⟩ <;>
      dsimp only [State.setJobs] <;> rw [he]
    · rw [h2, htick, h1]
      rfl
    · rw [← hrtm]
      rfl
    · rw [h2, htick, h1]
      exact Timers.get_map _ i _
    · rw [h2, htick, h1]
      rfl
    · rw [h2, htick, h1]
      rfl
    · subst hwc
      have hbw : b.tableWf := hb' ▸ (Jobs.limitRead_still _).tableWf hw.1
      have htw : s.jobs.tick.tableWf := by
        show Store.wf {} s.jobs.tick.tm.mem = true
        rw [hbtm]
        exact hbw
      have hcell : ∀ c, s.jobs.tick.cell c = b.cell c := Jobs.cell_of_tm (by rw [hbtm])
      obtain ⟨hfix, hmark, hsame⟩ := Jobs.touch_cell s.jobs.tm.scrub htw
      rw [hcell, hbtm, ← hr] at hfix
      rw [hcell, ← hr] at hmark hsame
      refine ⟨fun c hc => ?_, hfix, hmark, hsame⟩
      show r.cell c = _
      rw [hr, Jobs.cell_touch_ne htw hc, hcell]

end

section
/-! PROOFS. The poll that is due (O28): the search of one pass, the search through the passes, and why it finds a poll. -/

namespace Sys2Proof.Machine

open Sys2Proof

variable {j : Jobs}

/-! ### The search of one pass (R164) -/

/-- R164: slot `i` is due in pass `q`. -/
def Jobs.dueIn (q i : Nat) (j : Jobs) : Prop := j.slotUsable i = true ∧ q % j.slotDivisor i = 0

theorem Jobs.dueFrom_some {q start i : Nat} (h : j.dueFrom q start = some i) :
    i < 32 ∧ start ≤ i ∧ j.dueIn q i ∧ ∀ k, start ≤ k → k < i → ¬ j.dueIn q k := by
  unfold Jobs.dueFrom at h
  obtain ⟨hi, hmem, hmin⟩ := List.find?_range_eq_some.mp h
  simp only [Bool.and_eq_true, decide_eq_true_eq, beq_iff_eq] at hi
  refine ⟨List.mem_range.mp hmem, hi.1.1, ⟨hi.1.2, hi.2⟩, fun k hs hk hd => ?_⟩
  have hno := hmin k hk
  simp [hs, hd.1, hd.2] at hno

theorem Jobs.dueFrom_none {q start : Nat} (h : j.dueFrom q start = none) (k : Nat) (hk : k < 32) (hs : start ≤ k) :
    ¬ j.dueIn q k := by
  intro hd
  have hno := List.find?_eq_none.mp h k (List.mem_range.mpr hk)
  simp [hs, hd.1, hd.2] at hno

/-! ### The search through the passes -/

/-- Where the search of a pass starts: at the cursor in the present pass, at slot 0 in the later ones. -/
def startIn (start m : Nat) : Nat := if m = 0 then start else 0

theorem Jobs.findPoll_some (n : Nat) {pass start i q : Nat} (hp : pass < 360360) (h : j.findPoll n pass start = some (i, q)) :
    ∃ m, m < n ∧ q = (pass + m) % 360360 ∧ j.dueFrom q (startIn start m) = some i ∧
      ∀ l, l < m → j.dueFrom ((pass + l) % 360360) (startIn start l) = none := by
  induction n generalizing pass start with
  | zero => cases h
  | succ n ih =>
    rw [Jobs.findPoll] at h
    cases hd : j.dueFrom pass start with
    | some i' =>
      rw [hd] at h
      cases h
      exact ⟨0, Nat.succ_pos n, (Nat.mod_eq_of_lt hp).symm, hd, fun l hl => absurd hl (Nat.not_lt_zero l)⟩
    | none =>
      rw [hd] at h
      obtain ⟨m, hm, hq, hi, hno⟩ := ih (Nat.mod_lt _ (by decide)) h
      have hshift : ∀ l, ((pass + 1) % 360360 + l) % 360360 = (pass + (l + 1)) % 360360 := fun l => by omega
      have hzero : ∀ l, startIn 0 l = startIn start (l + 1) := fun l => by simp [startIn]
      refine ⟨m + 1, by omega, by rw [← hshift]; exact hq, by rw [← hzero]; exact hi, fun l hl => ?_⟩
      cases l with
      | zero =>
        show j.dueFrom ((pass + 0) % 360360) start = none
        rw [Nat.add_zero, Nat.mod_eq_of_lt hp]
        exact hd
      | succ l =>
        rw [← hshift, ← hzero]
        exact hno l (by omega)

theorem Jobs.findPoll_none (n : Nat) {pass start : Nat} (hp : pass < 360360) (h : j.findPoll n pass start = none) (m : Nat)
    (hm : m < n) : j.dueFrom ((pass + m) % 360360) (startIn start m) = none := by
  induction n generalizing pass start m with
  | zero => exact absurd hm (Nat.not_lt_zero m)
  | succ n ih =>
    rw [Jobs.findPoll] at h
    cases hd : j.dueFrom pass start with
    | some i' =>
      rw [hd] at h
      cases h
    | none =>
      rw [hd] at h
      cases m with
      | zero =>
        rw [Nat.add_zero, Nat.mod_eq_of_lt hp]
        exact hd
      | succ m =>
        have hl := ih (Nat.mod_lt _ (by decide)) h m (by omega)
        rw [show (pass + (m + 1)) % 360360 = ((pass + 1) % 360360 + m) % 360360 by omega]
        simpa [startIn] using hl

/-! ### A usable slot is due within fifteen passes -/

theorem dvd_passes {d : Nat} (h1 : 1 ≤ d) (h15 : d ≤ 15) : d ∣ 360360 := by
  interval_cases d <;> decide

theorem Jobs.slotDivisor_bounds (k : Nat) (j : Jobs) : 1 ≤ j.slotDivisor k ∧ j.slotDivisor k ≤ 15 := by
  unfold Jobs.slotDivisor
  omega

/-- R163, R164: among any fifteen passes in a row there is one in which a usable slot is due. -/
theorem Jobs.due_within {k : Nat} (h : j.slotUsable k = true) (pass : Nat) :
    ∃ m, 0 < m ∧ m ≤ 15 ∧ j.dueIn ((pass + m) % 360360) k := by
  obtain ⟨h1, h15⟩ := Jobs.slotDivisor_bounds k j
  have hd := dvd_passes h1 h15
  have hr : pass % j.slotDivisor k < j.slotDivisor k := Nat.mod_lt _ (by omega)
  refine ⟨j.slotDivisor k - pass % j.slotDivisor k, by omega, by omega, h, ?_⟩
  rw [Nat.mod_mod_of_dvd _ hd]
  have hsum : pass + (j.slotDivisor k - pass % j.slotDivisor k) =
      j.slotDivisor k * (pass / j.slotDivisor k) + j.slotDivisor k := by
    have := Nat.div_add_mod pass (j.slotDivisor k)
    omega
  rw [hsum, Nat.add_mod_right, Nat.mul_mod_right]

end Sys2Proof.Machine

open Sys2Proof Sys2Proof.Machine

/-- Settles O28. -/
theorem pollsInOrder : Obligations.PollsInOrder := by
  unfold Obligations.PollsInOrder
  refine ⟨fun s i q hp h => ?_, fun s k hk => ⟨?_, fun hu hp h => ?_⟩⟩
  · obtain ⟨n, hn, hq, hi, hno⟩ := Jobs.findPoll_some 17 hp h
    obtain ⟨hlt, hstart, ⟨hu, hdue⟩, hfirst⟩ := Jobs.dueFrom_some hi
    have hpass : (s.rb.pass + 0) % 360360 = s.rb.pass := Nat.mod_eq_of_lt hp
    refine ⟨hlt, hu, hdue, n, by omega, hq, fun h0 => by simpa [startIn, h0] using hstart, fun k hk hku => ⟨?_, ?_, ?_, ?_⟩⟩
    · rintro rfl hc hki hz
      exact hfirst k hc hki ⟨hku, by rw [hq, hpass]; exact hz⟩
    · intro h0 hc hz
      have hl := hno 0 h0
      rw [hpass] at hl
      exact Jobs.dueFrom_none hl k hk hc ⟨hku, hz⟩
    · intro m hm hmn hz
      refine Jobs.dueFrom_none (hno m hmn) k hk ?_ ⟨hku, hz⟩
      rw [startIn, if_neg (by omega)]
      exact Nat.zero_le k
    · intro h0 hki hz
      refine hfirst k ?_ hki ⟨hku, hz⟩
      rw [startIn, if_neg (by omega)]
      exact Nat.zero_le k
  · have hn : roofNode (s.jobs.slotNode k) = true ↔ 1 ≤ s.jobs.slotNode k ∧ s.jobs.slotNode k ≤ 62 := decide_eq_true_iff
    rw [Jobs.slotUsable, Bool.and_eq_true, Bool.and_eq_true, hn, Bool.not_eq_true', and_assoc]
    rfl
  · obtain ⟨m, h0, hm, hd⟩ := Jobs.due_within hu s.rb.pass
    refine Jobs.dueFrom_none (Jobs.findPoll_none 17 hp h m (by omega)) k hk ?_ hd
    rw [startIn, if_neg (by omega)]
    exact Nat.zero_le k

end

section
/-! PROOFS. Taking a frame from its port (O29): what is left of the part once a frame has been taken and judged. -/

namespace Sys2Proof.Machine

open Sys2Proof

variable {s : State} {j : Jobs}

/-! ### Reads of words that table memory lists, whether or not it is in canonical form -/

theorem Store.find_erase_listed {α : Type} {m : Store α} {a b : Nat} {v : α} (hab : b ≠ a) (h : Store.find b m = some v) :
    Store.find b (Store.erase a m) = some v := by
  induction m with
  | nil => cases h
  | cons e rest ih =>
    obtain ⟨c, w⟩ := e
    simp only [Store.erase]
    simp only [Store.find] at h
    split
    · simpa only [Store.find] using h
    · split
      · rename_i hca hac
        subst hac
        rw [if_neg (fun hc => hab hc.symm)] at h
        split at h
        · cases h
        · exact h
      · simp only [Store.find]
        split
        · rename_i hc
          rwa [if_pos hc] at h
        · rename_i hc
          rw [if_neg hc] at h
          split
          · rename_i hlt
            rw [if_pos hlt] at h
            cases h
          · rename_i hlt
            rw [if_neg hlt] at h
            exact ih h

/-- A write that leaves the word at its own address with its data keeps the data of every word that is not 0. -/
theorem Store.read_write_data (m : Store TWord) (a b : Nat) (v : TWord) (hv : v.data = (Store.read {} a m).data)
    (hb : (Store.read ({} : TWord) b m).data ≠ 0) :
    (Store.read {} b (Store.write {} a v m)).data = (Store.read ({} : TWord) b m).data := by
  unfold Store.write
  split
  · rename_i hd
    have hab : b ≠ a := by
      rintro rfl
      rw [← hv, hd] at hb
      exact hb rfl
    cases hf : Store.find b m with
    | none =>
      rw [Store.read, hf] at hb
      exact absurd rfl hb
    | some w => rw [Store.read, Store.find_erase_listed hab hf, Store.read, hf]
  · rw [Store.read, Store.find_put]
    split
    · rename_i hab
      rw [hab]
      exact hv
    · rfl

theorem Jobs.touch_word (a b : Nat) (h : j.word b ≠ 0) : (j.touch a).word b = j.word b := by
  rcases Jobs.touch_spec a j with ⟨-, e⟩ | ⟨-, -, -, e⟩ | ⟨-, e⟩
  · rw [e]
    exact Store.read_write_data _ a b _ rfl h
  · rw [e]
    exact Store.read_write_data _ a b _ rfl h
  · rw [e]

theorem Jobs.touchAll_word (as : List Nat) {b : Nat} (h : j.word b ≠ 0) : (j.touchAll as).word b = j.word b := by
  induction as generalizing j with
  | nil => rfl
  | cons a as ih =>
    have h1 := Jobs.touch_word a b h
    exact (ih (by rw [h1]; exact h)).trans h1

/-- R144: the entry that decides a frame has a word that is not 0: its valid field. -/
theorem Jobs.routeOf_word {f : Frame} {k : Nat} (h : j.routeOf f = some k) : j.word (routeAddr k) ≠ 0 := by
  unfold Jobs.routeOf at h
  split at h
  · cases h
  · have hu := List.find?_some h
    simp only [Bool.and_eq_true, Jobs.routeUsable] at hu
    intro h0
    have hvalid := hu.1.1.1
    rw [h0] at hvalid
    exact absurd hvalid (by decide)

/-- R144, R174: the reads of a match leave the frame's selection as it is. -/
theorem Jobs.routeCapture_matched {f g : Frame} {k : Nat} (h : j.routeOf f = some k) :
    (j.touchRouteOf g).routeCapture k = j.routeCapture k := by
  obtain ⟨as, -, he⟩ := Jobs.touchRouteOf_reads g j
  unfold Jobs.routeCapture
  rw [he, Jobs.touchAll_word as (Jobs.routeOf_word h)]

/-! ### A frame taken and judged -/

/-- R174: whether a frame is selected depends on its deciding entry's capture flag and on the buffer's option. -/
theorem State.selects_congr {s t : State} {k : Option Nat} (hc : t.cb.unmatched = s.cb.unmatched)
    (hj : ∀ i, k = some i → t.jobs.routeCapture i = s.jobs.routeCapture i) : t.selects k = s.selects k := by
  cases k with
  | none => exact hc
  | some i => exact hj i rfl

/-- R174: an offered frame changes the buffer and the reports alone. -/
theorem State.offerFrame_eq (p : Port) (dir : Direction) (f : Frame) (d : Disposition) (k : Option Nat) (s : State) :
    s.offerFrame p dir f d k = { s with
      jobs := (s.offerFrame p dir f d k).jobs,
      cb := if s.selects k then (s.cb.offer true (s.cb.trigger.hitsFrame dir f) (frameEntry s.jobs.tag p dir f d k)).1
        else s.cb } := by
  unfold State.offerFrame
  cases s.selects k with
  | false => rfl
  | true =>
    rw [if_pos rfl, if_pos rfl]
    dsimp only
    cases (s.cb.offer true (s.cb.trigger.hitsFrame dir f) (frameEntry s.jobs.tag p dir f d k)).2 <;> rfl

theorem State.matching_selects (f : Frame) (s : State) :
    (s.matching f).selects (s.jobs.routeOf f) = s.selects (s.jobs.routeOf f) :=
  State.selects_congr rfl fun _ h => Jobs.routeCapture_matched h

/-- R144, R145, R150: a frame just taken, matched and judged. -/
theorem State.judgeRouted_eq (p : Port) (f : Frame) (d : Disposition) (s : State) : s.judgeRouted p f d = { s with
    jobs := (s.judgeRouted p f d).jobs,
    fr := s.fr.count p (Counters.outcome d),
    cb := if s.selects (s.jobs.routeOf f) then
        (s.cb.offer true (s.cb.trigger.hitsFrame (Port.inward p) f)
          (frameEntry s.jobs.tag p (Port.inward p) f d (s.jobs.routeOf f))).1
      else s.cb } := by
  have h := State.offerFrame_eq p (Port.inward p) f d (s.jobs.routeOf f)
    ((s.matching f).setFr (s.fr.count p (Counters.outcome d)))
  have hsel : ((s.matching f).setFr (s.fr.count p (Counters.outcome d))).selects (s.jobs.routeOf f) =
      s.selects (s.jobs.routeOf f) := State.matching_selects f s
  have htag : (s.jobs.touchRouteOf f).tag = s.jobs.tag := (Still.touchRouteOf f s.jobs).tag
  rw [hsel] at h
  have htag' : ((s.matching f).setFr (s.fr.count p (Counters.outcome d))).jobs.tag = s.jobs.tag := htag
  rw [htag'] at h
  exact h

/-- R132, R145, R150, R174: taking a frame under a disposition. -/
theorem Took.judgeRouted (p : Port) (f : Frame) (d : Disposition) (s : State) : Took p f d s ((s.take p f).judgeRouted p f d) := by
  have hj : (s.take p f).jobs = s.jobs := State.take_jobs p f s
  have hcb : (s.take p f).cb = s.cb := by
    rw [State.take_spec]
    cases p <;> split <;> rfl
  have hsel : (s.take p f).selects (s.jobs.routeOf f) = s.selects (s.jobs.routeOf f) :=
    State.selects_congr (by rw [hcb]) fun _ _ => by rw [hj]
  refine ⟨?_, ?_⟩
  · have h := (State.judgeRouted_spec p f d (s.take p f)).jobs.rest
    have e : ((s.take p f).setFr ((s.take p f).fr.count p (Counters.outcome d))).jobs = s.jobs := hj
    rw [e] at h
    exact h
  · have h := State.judgeRouted_eq p f d (s.take p f)
    rw [hj, hcb, hsel] at h
    rw [h, State.take_spec]
    cases p
    · cases hb : s.train.holds f <;> simp [State.port, State.setPort, State.setFr, State.setTrain, Router.count, hb]
    · cases hb : s.roof.holds f <;> simp [State.port, State.setPort, State.setFr, State.setRoof, Router.count, hb]

/-- R167: a frame that answers no exchange in progress. -/
theorem State.roofFrame_stray {f : Frame} (h : (s.isAnswer f && s.rb.exchange.any (fun e => e.accepts f)) = false) :
    s.roofFrame f = (if s.isAnswer f = true then ((s.take .roof f).judgeRouted .roof f (.dropped .stray)).missed
      else (s.take .roof f).judgeRouted .roof f (.dropped .stray)).finish := by
  unfold State.roofFrame
  dsimp only
  rw [h, if_neg (by decide)]

end Sys2Proof.Machine

open Sys2Proof Sys2Proof.Machine

/-- Settles O29. -/
theorem framesAreTaken : Obligations.FramesAreTaken := by
  unfold Obligations.FramesAreTaken
  refine ⟨?absent, fun s f => Took.judgeRouted .train f .consumed s, ?misdirected, ?stray⟩
  case absent =>
    intro s i p f hf hb
    obtain ⟨k, -, hk⟩ := exec_taking_finishes hf
    rw [hk, State.taking]
    cases hr : s.inReset with
    | true => exact State.unlessReset_in hr _
    | false => rw [State.unlessReset_of hr, hb]; rfl
  case misdirected =>
    intro s p k h payload hr
    refine ⟨_, Took.judgeRouted p _ _ s, EndsFrom.of_taking (k := fun f s => s.misdirected p f) hr rfl rfl ?_⟩
    have hb : (p == .roof && s.isAnswer (h.frame k payload)) = true ↔ p = .roof ∧ s.isAnswer (h.frame k payload) = true := by simp
    unfold State.misdirected
    dsimp only
    rw [if_congr hb rfl rfl]
  case stray =>
    intro s i h k payload hr hi hno
    refine ⟨_, Took.judgeRouted .roof _ _ s, ?_⟩
    have hexec : i.frame? = some (.roof, h.frame k payload) ∧
        exec i s = s.taking .roof (h.frame k payload) fun f s => s.roofFrame f := by
      rcases hi with ⟨rfl, rfl⟩ | ⟨rfl, rfl⟩ <;> exact ⟨rfl, rfl⟩
    have hunfit : (s.isAnswer (h.frame k payload) && s.rb.exchange.any (fun e => e.accepts (h.frame k payload))) = false := by
      rcases hno with hno | hno
      · rw [hno, Bool.false_and]
      · cases he : s.rb.exchange with
        | none => rw [Option.any_none, Bool.and_false]
        | some e => rw [Option.any_some, hno e he, Bool.and_false]
    exact EndsFrom.of_taking (k := fun f s => s.roofFrame f) hr hexec.1 hexec.2 (State.roofFrame_stray hunfit)

end

section
/-! PROOFS. ORDER and QUERY frames of the train (O31): the deciding entry, what a refused, a queued and a not queued frame
leaves, and the words of an admitted ORDER. -/

namespace Sys2Proof.Machine

open Sys2Proof

variable {s t : State} {j k l : Jobs} {g : PointEntry → PointEntry}

/-! ### The deciding entry (R144) -/

theorem Jobs.deciding_some {p : Word} {n : Nat} (h : j.deciding p = some n) :
    n < 16 ∧ j.routeUsable n = true ∧ j.routeCovers n p = true ∧
    ∀ i, i < n → j.routeUsable i = true → j.routeCovers i p = false := by
  obtain ⟨hn, hmem, hmin⟩ := List.find?_range_eq_some.mp h
  rw [Bool.and_eq_true] at hn
  refine ⟨List.mem_range.mp hmem, hn.1, hn.2, fun i hi hu => ?_⟩
  have hno := hmin i hi
  rw [hu, Bool.true_and] at hno
  simpa using hno

theorem Jobs.deciding_none {p : Word} (h : j.deciding p = none) (i : Nat) (hi : i < 16) (hu : j.routeUsable i = true) :
    j.routeCovers i p = false := by
  have hno := List.find?_eq_none.mp h i (List.mem_range.mpr hi)
  rw [hu, Bool.true_and] at hno
  simpa using hno

/-! ### Words of the point image table that change alone -/

/-- `k` is `j` but for table memory's bookkeeping, the step's lists, and the entries of the point image table, each of which
`g` has changed but for its point, its owned bits and its earthing bit. -/
structure Reworded (g : PointEntry → PointEntry) (j k : Jobs) : Prop where
  rest : k = { j with oc := { j.oc with table := j.oc.table.map g }, tm := k.tm, todo := k.todo, out := k.out }
  words : SameWords j k
  point : ∀ e, (g e).point = e.point
  owned : ∀ e, (g e).owned = e.owned
  earth : ∀ e, (g e).earth = e.earth

theorem Outputs.entry_map (hg : ∀ e, (g e).point = e.point) (p : Word) (o : Outputs) :
    ({ o with table := o.table.map g } : Outputs).entry p = (o.entry p).map g := by
  show (o.table.map g).find? (fun e => e.point == p) = (o.table.find? (fun e => e.point == p)).map g
  rw [List.find?_map]
  congr 2
  funext e
  simp [hg]

section
variable (h : Reworded g j k)
include h

theorem Reworded.entry (p : Word) : k.oc.entry p = (j.oc.entry p).map g := by
  rw [h.rest]
  exact Outputs.entry_map h.point p j.oc

theorem Reworded.sent (r : OwnedRole) : k.sent r = j.sent r := by
  have hs : k.oc.sending = j.oc.sending := by rw [h.rest]
  unfold Jobs.sent
  rw [h.words.mapUsable, hs]

theorem Reworded.overlay (e : PointEntry) (w : Word) : k.overlay (g e) w = j.overlay e w := by
  unfold Jobs.overlay
  rw [h.owned]
  simp only [h.sent]

theorem Reworded.earthGate (e : PointEntry) (w : Word) : k.earthGate (g e) w = j.earthGate e w := by
  have hs : k.oc.safe = j.oc.safe := by rw [h.rest]
  unfold Jobs.earthGate
  rw [h.earth, h.words.mapUsable, hs]

theorem Reworded.recomposed (p w : Word) : k.recomposed p w = j.recomposed p w := by
  unfold Jobs.recomposed
  rw [h.entry]
  cases j.oc.entry p with
  | none => rfl
  | some e =>
    show k.earthGate (g e) (k.overlay (g e) w) = j.earthGate e (j.overlay e w)
    rw [h.overlay, h.earthGate]

theorem Reworded.condition (n : Nat) : k.condition n = j.condition n := by
  have hr := h.rest
  generalize k.tm = tm at hr
  generalize k.todo = todo at hr
  generalize k.out = out at hr
  subst hr
  unfold Jobs.condition
  split <;> rfl

theorem Reworded.rowPasses (r : Nat) : k.rowPasses r = j.rowPasses r := by
  unfold Jobs.rowPasses
  simp only [h.words.word, h.condition]

theorem Reworded.rowBit (hl : ∀ e, (g e).lastSent = e.lastSent) (p : Word) (o : Option PointEntry) (i : Nat) (v : Bool) :
    k.rowBit p (o.map g) i v = j.rowBit p o i v := by
  have hoff : offValue (o.map g) i = offValue o i := by
    cases o with
    | none => rfl
    | some e =>
      unfold offValue
      rw [Option.map_some, Option.bind_some, Option.bind_some, h.earth]
  have hlast : ((o.map g).map (fun e => bit e.lastSent i)).getD false = (o.map (fun e => bit e.lastSent i)).getD false := by
    cases o with
    | none => rfl
    | some e => simp [hl]
  unfold Jobs.rowBit
  rw [h.words.decidingRow, hoff, hlast]
  simp only [h.words.rowPoisoned, h.rowPasses, h.words.word]

theorem Reworded.applyRows (hl : ∀ e, (g e).lastSent = e.lastSent) (p : Word) (o : Option PointEntry) (w : Word) :
    k.applyRows p (o.map g) w = j.applyRows p o w := by
  have howns : ∀ i, (o.map g).any (fun e => e.owns i) = o.any (fun e => e.owns i) := by
    intro i
    cases o with
    | none => rfl
    | some e => exact congrArg (fun l : List (OwnedRole × BitRef) => l.any (fun o => o.2.bit.val == i)) (h.owned e)
  unfold Jobs.applyRows
  simp only [howns, h.rowBit hl]

/-- R154 to R158: an admitted word does not depend on the last words of the points. -/
theorem Reworded.admitted (hl : ∀ e, (g e).lastSent = e.lastSent) (p w : Word) : k.admitted p w = j.admitted p w := by
  have hrows := h.applyRows hl p (j.oc.entry p)
  unfold Jobs.admitted
  rw [h.entry]
  cases he : j.oc.entry p with
  | none =>
    rw [he] at hrows
    exact hrows w
  | some e =>
    rw [he] at hrows
    show k.earthGate (g e) (k.applyRows p (some (g e)) (k.earthGate (g e) (k.overlay (g e) w))) = _
    have hrows' : ∀ w, k.applyRows p (some (g e)) w = j.applyRows p (some e) w := hrows
    rw [h.overlay, h.earthGate, hrows', h.earthGate]

theorem Reworded.heldBits (p : Word) (w v : Word) : heldBits (k.oc.entry p) w v = heldBits (j.oc.entry p) w v := by
  rw [h.entry]
  cases j.oc.entry p with
  | none => rfl
  | some e =>
    unfold Machine.heldBits PointEntry.owns
    simp only [Option.map_some, Option.any_some, h.owned]

end

theorem Reworded.refl (j : Jobs) : Reworded id j j where
  rest := by rw [List.map_id]
  words := .refl j
  point _ := rfl
  owned _ := rfl
  earth _ := rfl

theorem Reworded.trans {g' : PointEntry → PointEntry} (h : Reworded g j k) (h' : Reworded g' k l) : Reworded (g' ∘ g) j l where
  rest := by
    have h2 := h'.rest
    have ho : k.oc = { j.oc with table := j.oc.table.map g } := by rw [h.rest]
    rw [ho] at h2
    rw [h2] at *
    rw [h.rest]
    simp only [List.map_map]
  words := h.words.trans h'.words
  point e := (h'.point _).trans (h.point e)
  owned e := (h'.owned _).trans (h.owned e)
  earth e := (h'.earth _).trans (h.earth e)

theorem Still.reworded (hk : Still (j.setOc { j.oc with table := j.oc.table.map g }) k)
    (hw : j.tableWf) (hp : ∀ e, (g e).point = e.point) (ho : ∀ e, (g e).owned = e.owned) (he : ∀ e, (g e).earth = e.earth) :
    Reworded g j k where
  rest := hk.rest
  words := by
    have hset : SameWords j (j.setOc { j.oc with table := j.oc.table.map g }) := .of_tm rfl
    have hwf : (j.setOc { j.oc with table := j.oc.table.map g }).tableWf := hw
    exact hset.trans (hk.sameWords hwf)
  point := hp
  owned := ho
  earth := he

theorem Reworded.tableWf (h : Still (j.setOc { j.oc with table := j.oc.table.map g }) k) (hw : j.tableWf) : k.tableWf :=
  Still.tableWf h hw

/-! ### Admission of an ORDER's words (R154) -/

/-- The reads of an evaluated point. -/
theorem Still.touchPoint (o : Option PointEntry) (j : Jobs) : Still j (j.touchPoint o) := by
  unfold Jobs.touchPoint
  cases o with
  | none => exact .touchAll _ j
  | some e => exact (Still.touchMaps j _).trans (.touchAll _ _)

/-- The point of channel `c` of node `n`. -/
def pointAt (n c : Nat) : Word := toWord (n * 256 + c)

theorem pointAt_eq {n c : Nat} (hn : n < 256) (hc : c ≤ 255) (p : Word) : p = pointAt n c ↔ nodeOf p = n ∧ channelOf p = c := by
  have hp := p.isLt
  unfold pointAt toWord nodeOf channelOf
  constructor
  · rintro rfl
    rw [BitVec.toNat_ofNat]
    omega
  · rintro ⟨h1, h2⟩
    refine BitVec.eq_of_toNat_eq ?_
    rw [BitVec.toNat_ofNat]
    omega

theorem channelOf_le (p : Word) : channelOf p ≤ 255 := Nat.le_of_lt_succ (Nat.mod_lt _ (by decide))

/-- A point's entry with the word last written to it. -/
def PointEntry.written (p w : Word) (e : PointEntry) : PointEntry := if e.point = p then { e with lastWord := w } else e

theorem PointEntry.written_keeps (p w : Word) (e : PointEntry) : (e.written p w).point = e.point ∧
    (e.written p w).owned = e.owned ∧ (e.written p w).earth = e.earth ∧ (e.written p w).lastSent = e.lastSent := by
  unfold PointEntry.written
  split <;> exact ⟨rfl, rfl, rfl, rfl⟩

/-- R154: what the admission of one word gives. -/
theorem Jobs.admitWord_spec (hw : j.tableWf) (p w : Word) : (j.admitWord p w).1 = j.admitted p w ∧
    Reworded (PointEntry.written p w) j (j.admitWord p w).2 ∧ (j.admitWord p w).2.tableWf ∧
    (Machine.heldBits (j.oc.entry p) w (j.admitted p w) = true → Flagged .interlockHeld p (j.admitWord p w).2.out) := by
  have hkeep := PointEntry.written_keeps p w
  have hset : Reworded (PointEntry.written p w) j (j.setOc { j.oc with table := j.oc.table.map (PointEntry.written p w) }) :=
    Still.reworded (.refl _) hw (fun e => (hkeep e).1) (fun e => (hkeep e).2.1) (fun e => (hkeep e).2.2.1)
  have hv : (j.admitWord p w).1 = j.admitted p w := hset.admitted (fun e => (hkeep e).2.2.2) p w
  have hstill : Still (j.setOc { j.oc with table := j.oc.table.map (PointEntry.written p w) }) (j.admitWord p w).2 := by
    unfold Jobs.admitWord
    dsimp only
    split
    · exact (Still.touchPoint _ _).trans (.setOut _ _)
    · exact .touchPoint _ _
  refine ⟨hv, Still.reworded hstill hw (fun e => (hkeep e).1) (fun e => (hkeep e).2.1) (fun e => (hkeep e).2.2.1),
    hstill.tableWf hw, fun hh => ?_⟩
  have hh' : Machine.heldBits (j.oc.entry p) w (j.admitWord p w).1 = true := by rw [hv]; exact hh
  unfold Jobs.admitWord at hh' ⊢
  dsimp only at hh' ⊢
  rw [if_pos hh']
  have hf := Flagged.flag .interlockHeld p.toNat
    ((j.setOc (j.oc.onEntry p fun e => { e with lastWord := w })).touchPoint (j.oc.entry p))
  rwa [BitVec.ofNat_toNat, BitVec.setWidth_eq] at hf

/-- The words of an ORDER from a channel on, as admitted. -/
def Jobs.admittedWords (n c : Nat) (ws : List Word) (j : Jobs) : List Word :=
  ws.mapIdx fun i w => if c + i ≤ 255 then j.admitted (pointAt n (c + i)) w else w

/-- A point's entry with the last word that an ORDER's words from a channel of a node on give it. -/
def PointEntry.ordered (n c : Nat) (ws : List Word) (e : PointEntry) : PointEntry :=
  { e with lastWord := if nodeOf e.point = n ∧ c ≤ channelOf e.point then ws.getD (channelOf e.point - c) e.lastWord
                       else e.lastWord }

theorem PointEntry.ordered_nil (n c : Nat) (e : PointEntry) : e.ordered n c [] = e := by
  unfold PointEntry.ordered
  simp

theorem PointEntry.ordered_cons {n c : Nat} (hn : n < 256) (hc : c ≤ 255) (w : Word) (ws : List Word) (e : PointEntry) :
    (e.written (pointAt n c) w).ordered n (c + 1) ws = e.ordered n c (w :: ws) := by
  have hp := pointAt_eq hn hc e.point
  unfold PointEntry.written PointEntry.ordered
  by_cases h : e.point = pointAt n c
  · obtain ⟨h1, h2⟩ := hp.mp h
    simp [h, show nodeOf (pointAt n c) = n from h ▸ h1, show channelOf (pointAt n c) = c from h ▸ h2]
  · rw [if_neg h]
    by_cases hin : nodeOf e.point = n ∧ c ≤ channelOf e.point
    · have hlt : c + 1 ≤ channelOf e.point := by
        rcases Nat.lt_or_eq_of_le hin.2 with hl | he
        · exact hl
        · exact absurd (hp.mpr ⟨hin.1, he.symm⟩) h
      rw [if_pos hin, if_pos ⟨hin.1, hlt⟩]
      congr 1
      rw [show channelOf e.point - c = (channelOf e.point - (c + 1)) + 1 by omega, List.getD_cons_succ]
    · rw [if_neg hin, if_neg fun hh => hin ⟨hh.1, by omega⟩]

theorem PointEntry.ordered_past {n c : Nat} (hc : 255 < c) (ws : List Word) (e : PointEntry) : e.ordered n c ws = e := by
  have := channelOf_le e.point
  unfold PointEntry.ordered
  rw [if_neg (by omega)]

/-- R154: what the admission of an ORDER's words gives. -/
theorem Jobs.admitWords_spec {n : Nat} (hn : n < 256) (ws : List Word) (c : Nat) (j : Jobs) (hw : j.tableWf) :
    (j.admitWords n c ws).1 = j.admittedWords n c ws ∧
    Reworded (PointEntry.ordered n c ws) j (j.admitWords n c ws).2 ∧
    j.out <+: (j.admitWords n c ws).2.out ∧
    ∀ (i : Nat) (w : Word), ws[i]? = some w → c + i ≤ 255 →
      Machine.heldBits (j.oc.entry (pointAt n (c + i))) w (j.admitted (pointAt n (c + i)) w) = true →
      Flagged .interlockHeld (pointAt n (c + i)) (j.admitWords n c ws).2.out := by
  induction ws generalizing c j with
  | nil =>
    have hid : PointEntry.ordered n c [] = id := funext fun e => e.ordered_nil n c
    refine ⟨rfl, ?_, List.prefix_rfl, fun i w h => by simp at h⟩
    rw [hid]
    exact .refl j
  | cons w ws ih =>
    have hshift : ∀ i, c + 1 + i = c + (i + 1) := fun i => by omega
    by_cases hc : c ≤ 255
    · have hkeep := PointEntry.written_keeps (pointAt n c) w
      obtain ⟨hv, hre, hwf, hfl⟩ := Jobs.admitWord_spec hw (pointAt n c) w
      obtain ⟨hvs, hres, hout, hfls⟩ := ih (c + 1) _ hwf
      have he : j.admitWords n c (w :: ws) = ((j.admitWord (pointAt n c) w).1 ::
          ((j.admitWord (pointAt n c) w).2.admitWords n (c + 1) ws).1,
          ((j.admitWord (pointAt n c) w).2.admitWords n (c + 1) ws).2) := by
        rw [Jobs.admitWords, if_pos hc]
        rfl
      have hcomp : PointEntry.ordered n (c + 1) ws ∘ PointEntry.written (pointAt n c) w = PointEntry.ordered n c (w :: ws) :=
        funext fun e => PointEntry.ordered_cons hn hc w ws e
      have hsame : ∀ p v, (j.admitWord (pointAt n c) w).2.admitted p v = j.admitted p v :=
        hre.admitted fun e => (hkeep e).2.2.2
      rw [he]
      refine ⟨?_, hcomp ▸ hre.trans hres, ?_, fun i v hi hci hh => ?_⟩
      · rw [hv, hvs]
        unfold Jobs.admittedWords
        rw [List.mapIdx_cons]
        simp only [hshift, hsame, Nat.add_zero, if_pos hc]
      · exact (Held.admitWord _ w j).out.trans hout
      · cases i with
        | zero =>
          cases hi
          exact (hfl hh).of_prefix hout
        | succ i =>
          refine hshift i ▸ hfls i v hi (by omega) ?_
          rw [hshift, hre.heldBits, hsame]
          exact hh
    · obtain ⟨hvs, hres, hout, -⟩ := ih (c + 1) j hw
      have he : j.admitWords n c (w :: ws) = (w :: (j.admitWords n (c + 1) ws).1, (j.admitWords n (c + 1) ws).2) := by
        rw [Jobs.admitWords, if_neg hc]
      have hpast : ∀ d us, 255 < d → PointEntry.ordered n d us = id := fun d us hd =>
        funext fun e => e.ordered_past hd us
      rw [he]
      refine ⟨?_, ?_, hout, fun i v _ hci _ => by omega⟩
      · rw [hvs]
        unfold Jobs.admittedWords
        rw [List.mapIdx_cons]
        simp only [hshift, Nat.add_zero, if_neg hc]
      · rw [hpast _ _ (by omega)] at hres ⊢
        exact hres

/-! ### Frames the train has for the roof (R147, R153) -/

theorem Jobs.routeOf_deciding {f : Frame} (hn : roofNode (nodeOf f.point) = true) : j.routeOf f = j.deciding f.point := by
  unfold Jobs.routeOf
  rw [if_neg (by simp [hn])]

theorem Jobs.refusal_unclaimed {f : Frame} (hk : f.kind = .order ∨ f.kind = .query)
    (h : roofNode (nodeOf f.point) = false ∨ j.deciding f.point = none) : j.refusal f = some .unclaimed := by
  have hnone : j.routeOf f = none := by
    unfold Jobs.routeOf
    split
    · rfl
    · rename_i hno
      exact h.resolve_left fun hn => hno ⟨hk, hn⟩
  rw [Jobs.refusal, hnone]

theorem Jobs.refusal_decided {f : Frame} {k : Nat} (hn : roofNode (nodeOf f.point) = true) (h : j.deciding f.point = some k) :
    j.refusal f = if j.routeDown k then none else some .blocked := by
  rw [Jobs.refusal, Jobs.routeOf_deciding hn, h]

theorem State.trainOrder_refused {f : Frame} {r : DropReason} (h : s.jobs.refusal f = some r) :
    s.trainOrder f = (s.take .train f).judgeRouted .train f (.dropped r) := by
  unfold State.trainOrder
  dsimp only
  rw [State.take_jobs, h]

theorem State.trainQuery_refused {f : Frame} {r : DropReason} (h : s.jobs.refusal f = some r) :
    s.trainQuery f = ((s.take .train f).judgeRouted .train f (.dropped r)).onJobs
      (fun j => j.report (.frame (noReplyFrame f.point f.seq f.payload.length))) := by
  unfold State.trainQuery
  dsimp only
  rw [State.take_jobs, h]

/-- The part with what an offer makes of the buffer. -/
def State.offeredTo (b : Capture × Bool) (s : State) : State := (s.setCb b.1).noteFrozen b.2

theorem State.offerFrame_if (p : Port) (dir : Direction) (f : Frame) (d : Disposition) (k : Option Nat) (s : State) :
    s.offerFrame p dir f d k = if s.selects k then
      s.offeredTo (s.cb.offer true (s.cb.trigger.hitsFrame dir f) (frameEntry s.jobs.tag p dir f d k)) else s := rfl

theorem State.offeredTo_setFr (b : Capture × Bool) (r : Router) (s : State) :
    (s.setFr r).offeredTo b = (s.offeredTo b).setFr r := by
  obtain ⟨c, froze⟩ := b
  cases froze <;> rfl

theorem State.offerFrame_setFr (p : Port) (dir : Direction) (f : Frame) (d : Disposition) (k : Option Nat) (r : Router)
    (s : State) : (s.setFr r).offerFrame p dir f d k = (s.offerFrame p dir f d k).setFr r := by
  have hsel : (s.setFr r).selects k = s.selects k := by cases k <;> rfl
  rw [State.offerFrame_if, State.offerFrame_if, hsel]
  split
  · exact State.offeredTo_setFr _ r s
  · rfl

theorem State.take_down (f : Frame) (s : State) : (s.take .train f).fr.down = s.fr.down := by
  rw [State.take_fr]
  rfl

/-- R153: a QUERY that the downstream queue has room for. -/
theorem State.trainQuery_queued {f : Frame} (h : s.jobs.refusal f = none) (hroom : s.fr.down.length < 8) :
    s.trainQuery f = ((s.take .train f).judgeRouted .train f .forwarded).setFr
      { ((s.take .train f).judgeRouted .train f .forwarded).fr with down := s.fr.down ++ [f] } := by
  have htakes : ((s.take .train f).matching f).fr.takesDown = true := by
    show decide ((s.take .train f).fr.down.length < 8) = true
    rw [State.take_down]
    exact decide_eq_true hroom
  have hfr : ((s.take .train f).judgeRouted .train f .forwarded).fr =
      (s.take .train f).fr.count .train (Counters.outcome .forwarded) := State.offerFrame_fr ..
  rw [hfr, ← State.take_down f s]
  unfold State.trainQuery
  dsimp only
  rw [State.take_jobs, h]
  unfold State.queueDown
  rw [if_pos htakes]
  unfold State.judgeRouted State.judge
  rw [State.take_jobs]
  rw [State.offerFrame_setFr, State.offerFrame_setFr, State.offerFrame_setFr]
  rfl

/-- R153: a QUERY that finds the downstream queue full. -/
theorem State.trainQuery_full {f : Frame} (h : s.jobs.refusal f = none) (hfull : 8 ≤ s.fr.down.length) :
    s.trainQuery f = ((s.take .train f).judgeRouted .train f (.dropped .queueFull)).onJobs (fun j => j.flag .queueDrop 1) := by
  have htakes : ((s.take .train f).matching f).fr.takesDown = false := by
    show decide ((s.take .train f).fr.down.length < 8) = false
    rw [State.take_down]
    exact decide_eq_false (by omega)
  unfold State.trainQuery
  dsimp only
  rw [State.take_jobs, h]
  unfold State.queueDown
  rw [if_neg (by rw [htakes]; decide)]
  unfold State.judgeRouted
  rw [State.take_jobs]

/-- R154: the roof jobs once the words of an ORDER have been admitted, and the words. -/
def Jobs.admitsOrder (f : Frame) (j : Jobs) : List Word × Jobs :=
  (j.touchRouteOf f).admitWords (nodeOf f.point) (channelOf f.point) f.payload

/-- R147: an ORDER with its words admitted, before it is queued. -/
def State.admitting (f : Frame) (s : State) : State := (s.take .train f).setJobs (s.jobs.admitsOrder f).2

theorem State.trainOrder_admitted {f : Frame} (h : s.jobs.refusal f = none) :
    s.trainOrder f = (s.admitting f).queueDown f { f with payload := (s.jobs.admitsOrder f).1 } (s.jobs.routeOf f) := by
  unfold State.trainOrder
  dsimp only
  rw [State.take_jobs, h]
  show ((((s.take .train f).matching f).setJobs _).queueDown f _ _) = _
  have hj : ((s.take .train f).matching f).jobs = s.jobs.touchRouteOf f := congrArg (Jobs.touchRouteOf f) (State.take_jobs ..)
  rw [hj]
  rfl

/-- R154: what the admission of an ORDER's words leaves. -/
theorem Jobs.admitsOrder_spec (f : Frame) (hw : j.tableWf) : (j.admitsOrder f).1 = j.admittedWords (nodeOf f.point) (channelOf f.point) f.payload ∧
    Reworded (PointEntry.ordered (nodeOf f.point) (channelOf f.point) f.payload) j (j.admitsOrder f).2 ∧
    ∀ (i : Nat) (w : Word), f.payload[i]? = some w → channelOf f.point + i ≤ 255 →
      Machine.heldBits (j.oc.entry (pointAt (nodeOf f.point) (channelOf f.point + i))) w
        (j.admitted (pointAt (nodeOf f.point) (channelOf f.point + i)) w) = true →
      Flagged .interlockHeld (pointAt (nodeOf f.point) (channelOf f.point + i)) (j.admitsOrder f).2.out := by
  have hstill := Still.touchRouteOf f j
  have hmatched : Reworded id j (j.touchRouteOf f) :=
    { rest := by rw [List.map_id]; exact hstill.rest, words := hstill.sameWords hw, point := fun _ => rfl,
      owned := fun _ => rfl, earth := fun _ => rfl }
  have hn : nodeOf f.point < 256 := by
    have := f.point.isLt
    unfold nodeOf
    omega
  have hsame : ∀ p v, (j.touchRouteOf f).admitted p v = j.admitted p v := hmatched.admitted fun _ => rfl
  obtain ⟨h1, h2, -, h4⟩ := Jobs.admitWords_spec hn f.payload (channelOf f.point) _ (hstill.tableWf hw)
  refine ⟨?_, hmatched.trans h2, fun i w hi hc hh => h4 i w hi hc ?_⟩
  · refine h1.trans ?_
    unfold Jobs.admittedWords
    simp only [hsame]
  · rw [hmatched.heldBits, hsame]
    exact hh

theorem Flagged.offerFrame {x : Flag} {n : Word} (h : Flagged x n s.jobs.out) (p : Port) (dir : Direction) (f : Frame)
    (d : Disposition) (k : Option Nat) : Flagged x n (s.offerFrame p dir f d k).jobs.out := by
  obtain ⟨dev, line, hm⟩ := h
  rw [State.offerFrame_if]
  split
  · unfold State.offeredTo State.noteFrozen
    split
    · exact ⟨dev, line, List.mem_cons_of_mem _ hm⟩
    · exact ⟨dev, line, hm⟩
  · exact ⟨dev, line, hm⟩

theorem OnlyReads.flag (h : OnlyReads j k) (f : Flag) (n : Nat) : OnlyReads j (k.flag f n) := by
  unfold OnlyReads at *
  rw [h]
  rfl

theorem Still.offerFrame (p : Port) (dir : Direction) (f : Frame) (d : Disposition) (k : Option Nat) (s : State) :
    Still s.jobs (s.offerFrame p dir f d k).jobs := (Delivered.offerFrame p dir f d k s).jobs

/-- R147, R154: what holds of every state that an admitted ORDER is offered to the buffer from. -/
theorem State.admitted_offered {f : Frame} (hw : StoresWf s) (d : Disposition) (r : Router) (u : State)
    (hu : u = ((s.admitting f).setFr r).offerFrame .train .down f d (s.jobs.routeOf f)) :
    u.rb = s.rb ∧ u.roof = s.roof ∧ u.latch = s.latch ∧ u.nu = s.nu ∧ u.fr = r ∧
    OnlyReads (s.jobs.setOc { s.jobs.oc with table := u.jobs.oc.table }) u.jobs ∧
    Offered .train .down f d s u ∧
    u.jobs.oc.table = s.jobs.oc.table.map (PointEntry.ordered (nodeOf f.point) (channelOf f.point) f.payload) ∧
    ∀ (i : Nat) (w : Word), f.payload[i]? = some w → channelOf f.point + i ≤ 255 →
      Machine.heldBits (s.jobs.oc.entry (pointAt (nodeOf f.point) (channelOf f.point + i))) w
        (s.jobs.admitted (pointAt (nodeOf f.point) (channelOf f.point + i)) w) = true →
      Flagged .interlockHeld (pointAt (nodeOf f.point) (channelOf f.point + i)) u.jobs.out := by
  obtain ⟨-, hre, hflag⟩ := Jobs.admitsOrder_spec f hw.1
  obtain ⟨-, hroof, hrb, hlatch, hnu, hcb, -, -⟩ := State.take_train f s
  have he := State.offerFrame_eq .train .down f d (s.jobs.routeOf f) ((s.admitting f).setFr r)
  rw [← hu] at he
  have hj : Still (s.jobs.admitsOrder f).2 u.jobs := hu ▸ Still.offerFrame .train .down f d _ ((s.admitting f).setFr r)
  have hrest := hre.rest
  have htag : (s.jobs.admitsOrder f).2.tag = s.jobs.tag := by rw [hrest]
  have htable : u.jobs.oc.table = s.jobs.oc.table.map (PointEntry.ordered (nodeOf f.point) (channelOf f.point) f.payload) := by
    rw [hj.oc, hrest]
  refine ⟨?_, ?_, ?_, ?_, ?_, ?_, ?_, htable, fun i w hi hc hh => ?_⟩
  · rw [he]; exact hrb
  · rw [he]; exact hroof
  · rw [he]; exact hlatch
  · rw [he]; exact hnu
  · rw [he]; rfl
  · rw [htable]
    have hjr := hj.rest
    unfold OnlyReads
    rw [hjr, hrest]
    rfl
  · rw [hu]
    refine Offered.offer .train .down f d (State.selects_congr ?_ fun i _ => ?_) htag hcb
    · exact congrArg Capture.unmatched hcb
    · exact hre.words.routeCapture i
  · rw [hu]
    exact (hflag i w hi hc hh).offerFrame ..

end Sys2Proof.Machine

open Sys2Proof Sys2Proof.Machine

/-- Settles O31: the deciding entry, refused and queued frames by the cases of `Jobs.refusal`, and an admitted ORDER by
`State.admitted_offered`. -/
theorem framesForTheRoof : Obligations.FramesForTheRoof := by
  unfold Obligations.FramesForTheRoof
  refine ⟨fun j p k h => Jobs.deciding_some h, fun j p h => Jobs.deciding_none h, fun j k p => ?covers, ?refused, ?admitted⟩
  case covers =>
    have e1 : routeAddr k + 1 = 0x011 + 4 * k := by unfold routeAddr; omega
    have e2 : routeAddr k + 2 = 0x012 + 4 * k := by unfold routeAddr; omega
    rw [Jobs.routeCovers, decide_eq_true_iff, e1, e2]
  case refused =>
    intro s h payload hl
    have hr := hl.1
    have horder : ∀ {u : State} {r : DropReason}, s.jobs.refusal (h.frame .order payload) = some r →
        u = (s.take .train (h.frame .order payload)).judgeRouted .train (h.frame .order payload) (.dropped r) →
        EndsFrom (.trainOrder h payload) s u := fun hf hu =>
      EndsFrom.of_taking (k := fun f s => (s.trainOrder f).finish) hr rfl rfl (by rw [hu, State.trainOrder_refused hf])
    have hquery : ∀ {u : State}, s.trainQuery (h.frame .query payload) = u → EndsFrom (.trainQuery h payload) s u := fun hu =>
      EndsFrom.of_taking (k := fun f s => (s.trainQuery f).finish) hr rfl rfl (by rw [hu])
    refine ⟨fun hno => ?_, fun k hn hk => ⟨fun hd => ?_, fun hd hroom => ?_, fun hd hfull => ?_⟩⟩
    · have ho : s.jobs.refusal (h.frame .order payload) = some .unclaimed := Jobs.refusal_unclaimed (.inl rfl) hno
      have hq : s.jobs.refusal (h.frame .query payload) = some .unclaimed := Jobs.refusal_unclaimed (.inr rfl) hno
      exact ⟨_, _, Took.judgeRouted .train _ _ s, Took.judgeRouted .train _ _ s, horder ho rfl,
        hquery (State.trainQuery_refused hq)⟩
    · have ho : s.jobs.refusal (h.frame .order payload) = some .blocked := by
        rw [Jobs.refusal_decided (f := h.frame .order payload) hn hk, hd]; rfl
      have hq : s.jobs.refusal (h.frame .query payload) = some .blocked := by
        rw [Jobs.refusal_decided (f := h.frame .query payload) hn hk, hd]; rfl
      exact ⟨_, _, Took.judgeRouted .train _ _ s, Took.judgeRouted .train _ _ s, horder ho rfl,
        hquery (State.trainQuery_refused hq)⟩
    · have hq : s.jobs.refusal (h.frame .query payload) = none := by
        rw [Jobs.refusal_decided (f := h.frame .query payload) hn hk, hd]; rfl
      exact ⟨_, Took.judgeRouted .train _ _ s, hquery (State.trainQuery_queued hq hroom)⟩
    · have hq : s.jobs.refusal (h.frame .query payload) = none := by
        rw [Jobs.refusal_decided (f := h.frame .query payload) hn hk, hd]; rfl
      exact ⟨_, Took.judgeRouted .train _ _ s, hquery (State.trainQuery_full hq hfull)⟩
  case admitted =>
    intro s h payload k hl hn hk hd
    have href : s.jobs.refusal (h.frame .order payload) = none := by
      rw [Jobs.refusal_decided (f := h.frame .order payload) hn hk, hd]; rfl
    have hends : ∀ {u : State}, s.trainOrder (h.frame .order payload) = u → EndsFrom (.trainOrder h payload) s u := fun hu =>
      EndsFrom.of_taking (k := fun f s => (s.trainOrder f).finish) hl.1 rfl rfl (by rw [hu])
    have hadm := State.trainOrder_admitted href
    have hwords := (Jobs.admitsOrder_spec (h.frame .order payload) hl.2.1).1
    have hfr : (s.admitting (h.frame .order payload)).fr = s.fr.count .train Counters.take :=
      State.take_fr .train _ s
    by_cases hroom : s.fr.down.length < 8
    · rw [State.queueDown, if_pos (by rw [hfr]; exact decide_eq_true hroom)] at hadm
      obtain ⟨h1, h2, h3, h4, h5, h6, h7, h8, h9⟩ := State.admitted_offered hl.2 .forwarded _ _ hadm
      rw [hfr] at h5
      refine ⟨_, hends rfl, h1, h2, h3, h4, by rw [h5]; rfl, by rw [h5]; rfl, h6,
        fun _ => ⟨by rw [h5, hwords]; rfl, by rw [h5]; rfl, h7⟩, fun hf => by omega, h8, ?_⟩
      rintro i w p hi hc rfl hh
      exact h9 i w hi hc hh
    · rw [State.queueDown, if_neg (by rw [hfr]; exact fun h => hroom (of_decide_eq_true h))] at hadm
      obtain ⟨h1, h2, h3, h4, h5, h6, h7, h8, h9⟩ := State.admitted_offered (f := h.frame .order payload) hl.2
        (.dropped .queueFull) _ ((s.admitting (h.frame .order payload)).judge .train (h.frame .order payload)
          (.dropped .queueFull) (s.jobs.routeOf (h.frame .order payload))) rfl
      have h5' := h5.trans (congrArg (Router.count .train (Counters.outcome (.dropped .queueFull))) hfr)
      refine ⟨_, hends hadm, h1, h2, h3, h4, (congrArg Router.roof h5' :), (congrArg Router.up h5' :), ?_,
        fun hf => by omega, fun _ => ⟨(congrArg Router.down h5' :), Flagged.flag _ _ _, h7.later rfl ?_,
        (congrArg Router.train h5' :)⟩, h8, ?_⟩
      · exact OnlyReads.flag h6 _ _
      · exact List.prefix_append _ _
      · rintro i w p hi hc rfl hh
        exact (h9 i w hi hc hh).of_prefix (List.prefix_append _ _)

end

section
/-! PROOFS. Answers from the roof (O30): the match, the end of the exchange, the node's record and the frame's way. -/

namespace Sys2Proof.Machine

open Sys2Proof

variable {s t u : State} {j : Jobs}

/-! ### Offers and reports -/

/-- R177: an offer puts at most CAPTURE_FROZEN before what waits to be reported. -/
theorem State.offerFrame_out (p : Port) (dir : Direction) (f : Frame) (d : Disposition) (k : Option Nat) (s : State) :
    ∃ first : List Report, (s.offerFrame p dir f d k).jobs.out = first ++ s.jobs.out ∧
      ∀ r ∈ first, ∃ (dev : Device) (line : Line), r = .flag .captureFrozen 0 dev line := by
  rw [State.offerFrame_if]
  split
  · unfold State.offeredTo State.noteFrozen
    split
    · refine ⟨[_], rfl, fun r hr => ?_⟩
      rw [List.mem_singleton] at hr
      exact ⟨_, _, hr⟩
    · exact ⟨[], rfl, fun _ h => absurd h List.not_mem_nil⟩
  · exact ⟨[], rfl, fun _ h => absurd h List.not_mem_nil⟩

theorem Jobs.flag_out {early later : List Report} (h : j.out = early ++ later) (f : Flag) (n : Nat) :
    (j.flag f n).out = early ++ (later ++ [.flag f (BitVec.ofNat 16 n) j.dev j.lsi.confirmed]) := by
  rw [← List.append_assoc, ← h]
  rfl

/-! ### The match and the answered node (R149, R167, R168) -/

/-- R168: a node that has answered. -/
def answeredNode (tag : Long) : NodeRec := { state := .active, missed := 0, last := some tag }

theorem Jobs.nodeAnswered_config (h : j.dev = .config) (n : Nat) : j.nodeAnswered n = j := by
  unfold Jobs.nodeAnswered
  rw [if_neg (by rw [h]; decide)]

theorem Jobs.nodeAnswered_run (h : j.dev = .run) (hw : j.nodesWf) (n : Nat) :
    (∀ m, (j.nodeAnswered n).node m = if m = n then answeredNode j.tag else j.node m) ∧
    ∃ later, (j.nodeAnswered n).out = j.out ++ later ∧
      ((j.node n).state = .lost → Flagged .nodeReturned (BitVec.ofNat 16 n) later) := by
  have hnode : ∀ m, ((j.setNode n (answeredNode j.tag)).push .look).node m = if m = n then answeredNode j.tag else j.node m :=
    fun m => Jobs.node_setNode hw n m (answeredNode j.tag)
  unfold Jobs.nodeAnswered
  rw [if_pos h]
  by_cases hl : (j.node n).state = .lost
  · dsimp only
    rw [if_pos (decide_eq_true hl)]
    exact ⟨hnode, _, rfl, fun _ => ⟨_, _, List.mem_singleton.mpr rfl⟩⟩
  · dsimp only
    rw [if_neg (by simp [hl])]
    exact ⟨hnode, [], (List.append_nil _).symm, fun h => absurd h hl⟩

/-- The roof jobs once an answer has been matched and its node and the bindings have had it. -/
def Jobs.tookAnswer (f : Frame) (n : Nat) (j : Jobs) : Jobs := ((j.touchRouteOf f).nodeAnswered n).bindings f

theorem Jobs.bindings_config (h : j.dev = .config) (f : Frame) : j.bindings f = j := by
  unfold Jobs.bindings
  rw [if_neg (by simp [h])]

theorem Jobs.tookAnswer_config (h : j.dev = .config) (f : Frame) (n : Nat) : j.tookAnswer f n = j.touchRouteOf f := by
  have hd : (j.touchRouteOf f).dev = .config := (Still.touchRouteOf f j).dev.trans h
  unfold Jobs.tookAnswer
  rw [Jobs.nodeAnswered_config hd, Jobs.bindings_config hd]

theorem Jobs.tookAnswer_out (f : Frame) (n : Nat) (hw : j.nodesWf) : ∃ later,
    (j.tookAnswer f n).out = (j.touchRouteOf f).out ++ later ∧
      (j.dev = .run → (j.node n).state = .lost → Flagged .nodeReturned (BitVec.ofNat 16 n) later) := by
  have hm := Still.touchRouteOf f j
  cases hd : j.dev with
  | config =>
    rw [Jobs.tookAnswer_config hd]
    exact ⟨[], (List.append_nil _).symm, fun h => nomatch h⟩
  | run =>
    have hw' : (j.touchRouteOf f).nodesWf := by
      unfold Jobs.nodesWf
      rw [hm.nodes]
      exact hw
    obtain ⟨-, later, hl, hf⟩ := Jobs.nodeAnswered_run (hm.dev.trans hd) hw' n
    obtain ⟨more, hmore⟩ := (Held.bindings f ((j.touchRouteOf f).nodeAnswered n)).out
    refine ⟨later ++ more, ?_, fun _ hlost => ?_⟩
    · rw [← List.append_assoc, ← hl]
      exact hmore.symm
    · exact (hf (by rw [hm.node]; exact hlost)).of_prefix (List.prefix_append _ _)

theorem Jobs.tookAnswer_node (h : j.dev = .run) (hw : j.nodesWf) (f : Frame) (n m : Nat) :
    (j.tookAnswer f n).node m = if m = n then answeredNode j.tag else j.node m := by
  have hm := Still.touchRouteOf f j
  have hw' : (j.touchRouteOf f).nodesWf := by
    unfold Jobs.nodesWf
    rw [hm.nodes]
    exact hw
  have hb : (j.tookAnswer f n).node m = ((j.touchRouteOf f).nodeAnswered n).node m := by
    unfold Jobs.tookAnswer Jobs.node
    rw [(Held.bindings f _).nodes]
  rw [hb, (Jobs.nodeAnswered_run (hm.dev.trans h) hw' n).1 m, hm.tag, hm.node]

/-! ### The frame's way (R149, R151) -/

/-- R167: the part once an answer has been taken, its exchange ended and its owners have had it. -/
def State.tookAnswer (f : Frame) (e : Exchange) (s : State) : State :=
  ((s.take .roof f).setRb s.rb.idle).setJobs (s.jobs.tookAnswer f e.node)

theorem State.roofFrame_answer {f : Frame} {e : Exchange} (ha : s.isAnswer f = true) (he : s.rb.exchange = some e)
    (hf : e.accepts f = true) : s.roofFrame f =
      ((s.tookAnswer f e).routeUpward f (s.jobs.routeOf f) (s.jobs.upward (s.jobs.routeOf f))).finish := by
  have hrb : (s.take .roof f).rb = s.rb := by
    rw [State.take_spec]
    split <;> rfl
  have hj : (s.take .roof f).jobs = s.jobs := State.take_jobs _ _ _
  unfold State.roofFrame
  dsimp only
  rw [if_pos (by rw [ha, he]; exact hf), hj]
  have hans : (((s.take .roof f).matching f).answered).onJobs (Jobs.bindings f) = s.tookAnswer f e := by
    unfold State.answered State.matching State.tookAnswer Jobs.tookAnswer
    show (((((s.take .roof f).onJobs (Jobs.touchRouteOf f)).setRb (s.take .roof f).rb.idle).onJobs
      (Jobs.nodeAnswered (((s.take .roof f).rb.exchange.map fun e => e.node).getD 0))).onJobs (Jobs.bindings f)) = _
    rw [hrb, he, ← hj]
    rfl
  rw [hans]

/-- R132: the answer frame leaves the roof port's buffers. -/
theorem State.take_answer {f : Frame} (ha : s.isAnswer f = true) : s.take .roof f =
    (s.setRoof { s.roof with buffers := s.roof.buffers.tail }).setFr (s.fr.count .roof Counters.take) := by
  have hh : (s.port .roof).holds f = true := by
    unfold State.isAnswer at ha
    rw [Bool.and_eq_true] at ha
    show s.roof.buffers.head?.any (fun r => r.frame == f) = true
    cases hb : s.roof.buffers.head? with
    | none => simp [hb] at ha
    | some r =>
      have h2 := ha.2
      rw [hb, Option.any_some, Bool.and_eq_true] at h2
      exact h2.1
  rw [State.take_spec, if_pos hh]
  rfl

/-- What an offer of the answer to the buffer leaves of the part. -/
theorem State.tookAnswer_offered {f : Frame} {e : Exchange} (hl : Live s) (ha : s.isAnswer f = true) (d : Disposition) (r : Router)
    (hu : u = ((s.tookAnswer f e).setFr r).offerFrame .roof .up f d (s.jobs.routeOf f)) :
    u.rb = { s.rb with slot := .idle, exchange := none, answerTimer := false, answerLimit := false } ∧
    u.roof = { s.roof with buffers := s.roof.buffers.tail } ∧ u.train = s.train ∧ u.fr = r ∧ u.nu = s.nu ∧ u.latch = s.latch ∧
    (s.jobs.dev = .config → OnlyReads s.jobs u.jobs) ∧
    (s.jobs.dev = .run → ∀ n, u.jobs.node n = if n = e.node then answeredNode s.jobs.tag else s.jobs.node n) ∧
    ∃ first later : List Report, u.jobs.out = first ++ (s.jobs.touchRouteOf f).out ++ later ∧
      (∀ r ∈ first, ∃ (dev : Device) (line : Line), r = .flag .captureFrozen 0 dev line) ∧
      (s.jobs.dev = .run → (s.jobs.node e.node).state = .lost → Flagged .nodeReturned (BitVec.ofNat 16 e.node) later) := by
  have heq := State.offerFrame_eq .roof .up f d (s.jobs.routeOf f) ((s.tookAnswer f e).setFr r)
  rw [← hu] at heq
  have hbase : s.tookAnswer f e = (((s.setRoof { s.roof with buffers := s.roof.buffers.tail }).setFr
      (s.fr.count .roof Counters.take)).setRb s.rb.idle).setJobs (s.jobs.tookAnswer f e.node) := by
    unfold State.tookAnswer
    rw [State.take_answer ha]
  have hj : Still (s.jobs.tookAnswer f e.node) u.jobs := by
    have h := Still.offerFrame .roof .up f d (s.jobs.routeOf f) ((s.tookAnswer f e).setFr r)
    rw [← hu] at h
    exact h
  obtain ⟨first, hfirst, hall⟩ := State.offerFrame_out .roof .up f d (s.jobs.routeOf f) ((s.tookAnswer f e).setFr r)
  obtain ⟨later, hlater, hret⟩ := Jobs.tookAnswer_out f e.node hl.2.2.1
  rw [hbase] at heq
  refine ⟨by rw [heq]; rfl, by rw [heq]; rfl, by rw [heq]; rfl, by rw [heq]; rfl, by rw [heq]; rfl, by rw [heq]; rfl, fun hd => ?_,
    fun hd n => ?_, first, later, ?_, hall, hret⟩
  · rw [Jobs.tookAnswer_config hd] at hj
    exact ((Still.touchRouteOf f s.jobs).trans hj).rest
  · rw [hj.node, Jobs.tookAnswer_node hd hl.2.2.1]
  · rw [hu, hfirst]
    show first ++ (s.jobs.tookAnswer f e.node).out = _
    rw [hlater, List.append_assoc]

end Sys2Proof.Machine

open Sys2Proof Sys2Proof.Machine

/-- Settles O30. -/
theorem roofAnswers : Obligations.RoofAnswers := by
  unfold Obligations.RoofAnswers
  rintro s i h k payload f e hl hi rfl ha he hacc
  have hexec : i.frame? = some (.roof, h.frame k payload) ∧
      exec i s = s.taking .roof (h.frame k payload) fun f s => s.roofFrame f := by
    rcases hi with ⟨rfl, rfl⟩ | ⟨rfl, rfl⟩ <;> exact ⟨rfl, rfl⟩
  have hroute : s.jobs.routeOf (h.frame k payload) = s.jobs.deciding (h.frame k payload).point := by
    unfold Jobs.routeOf
    refine if_neg ?_
    rcases hi with ⟨-, rfl⟩ | ⟨-, rfl⟩ <;> exact fun hc => by rcases hc.1 with hc | hc <;> cases hc
  have hends : ∀ u, (s.tookAnswer (h.frame k payload) e).routeUpward (h.frame k payload)
      (s.jobs.routeOf (h.frame k payload)) (s.jobs.upward (s.jobs.routeOf (h.frame k payload))) = u → EndsFrom i s u :=
    fun u hu => EndsFrom.of_taking (k := fun f s => s.roofFrame f) hl.1 hexec.1 hexec.2
      (by rw [State.roofFrame_answer ha he hacc, hu])
  have hfr : (s.tookAnswer (h.frame k payload) e).fr = s.fr.count .roof Counters.take :=
    State.take_fr .roof _ s
  have hpass : s.jobs.upward (s.jobs.routeOf (h.frame k payload)) =
      (s.jobs.deciding (h.frame k payload).point).all (fun r => s.jobs.routeUp r) := by rw [hroute]; rfl
  cases hup : s.jobs.upward (s.jobs.routeOf (h.frame k payload)) with
  | false =>
    rw [hup] at hends hpass
    obtain ⟨h1, h2, h3, h4, h5, h6, h7, h8, h9⟩ := State.tookAnswer_offered hl ha .consumed
      ((s.tookAnswer (h.frame k payload) e).fr.count .roof (Counters.outcome .consumed)) rfl
    replace h4 := h4.trans (congrArg (Router.count .roof (Counters.outcome .consumed)) hfr)
    exact ⟨_, hends _ rfl, h1, h2, h3, (congrArg Router.down h4 :), (congrArg Router.train h4 :), h5, h6, h7, h8, h9,
      fun pass hp => ⟨fun _ => ⟨(congrArg Router.up h4 :), (congrArg Router.roof h4 :)⟩,
        fun ht => absurd (hp.symm.trans ht) (by rw [← hpass]; decide),
        fun ht => absurd (hp.symm.trans ht) (by rw [← hpass]; decide)⟩⟩
  | true =>
    rw [hup] at hends hpass
    have htakes : (s.tookAnswer (h.frame k payload) e).fr.takesForwarded = true ↔ s.fr.share < 14 ∧ s.fr.up.length < 16 := by
      rw [hfr]
      show (decide (s.fr.share < 14) && decide (s.fr.up.length < 16)) = true ↔ _
      rw [Bool.and_eq_true, decide_eq_true_iff, decide_eq_true_iff]
    have hwrong : ∀ pass : Bool, pass = (s.jobs.deciding (h.frame k payload).point).all (fun r => s.jobs.routeUp r) →
        pass ≠ false := fun pass hp => by rw [hp, ← hpass]; decide
    by_cases hroom : s.fr.share < 14 ∧ s.fr.up.length < 16
    · obtain ⟨h1, h2, h3, h4, h5, h6, h7, h8, h9⟩ := State.tookAnswer_offered hl ha .forwarded
        (((s.tookAnswer (h.frame k payload) e).fr.pushUp (h.frame k payload) true).count .roof (Counters.outcome .forwarded)) rfl
      have hway : (s.tookAnswer (h.frame k payload) e).routeUpward (h.frame k payload)
          (s.jobs.routeOf (h.frame k payload)) true = _ := if_pos (htakes.mpr hroom)
      replace h4 := h4.trans (congrArg (fun r => (Router.pushUp (h.frame k payload) true r).count .roof
        (Counters.outcome .forwarded)) hfr)
      exact ⟨_, hends _ hway, h1, h2, h3, (congrArg Router.down h4 :), (congrArg Router.train h4 :), h5, h6, h7, h8, h9,
        fun pass hp => ⟨fun hn => absurd hn (hwrong pass hp),
          fun _ _ _ => ⟨(congrArg Router.up h4 :), (congrArg Router.roof h4 :)⟩, fun _ hf => by omega⟩⟩
    · obtain ⟨h1, h2, h3, h4, h5, h6, h7, h8, first, later, h9, h10, h11⟩ := State.tookAnswer_offered hl ha (.dropped .queueFull)
        ((s.tookAnswer (h.frame k payload) e).fr.count .roof (Counters.outcome (.dropped .queueFull))) rfl
      have hway : (s.tookAnswer (h.frame k payload) e).routeUpward (h.frame k payload)
          (s.jobs.routeOf (h.frame k payload)) true = _ := if_neg (fun ht => hroom (htakes.mp ht))
      replace h4 := h4.trans (congrArg (Router.count .roof (Counters.outcome (.dropped .queueFull))) hfr)
      exact ⟨_, hends _ hway, h1, h2, h3, (congrArg Router.down h4 :), (congrArg Router.train h4 :), h5, h6,
        fun hd => (h7 hd).flag _ _, h8, ⟨first, _, Jobs.flag_out h9 _ _, h10, fun hd hlost => (h11 hd hlost).of_prefix (List.prefix_append _ _)⟩,
        fun pass hp => ⟨fun hn => absurd hn (hwrong pass hp), fun _ hs hq => absurd ⟨hs, hq⟩ hroom,
          fun _ _ => ⟨(congrArg Router.up h4 :), (congrArg Router.roof h4 :), Flagged.flag _ _ _⟩⟩⟩

end

section
/-! PROOFS. The choice of the next exchange (O27): what each source of the roof bus sends, and what its start leaves of the
part. -/

namespace Sys2Proof.Machine

open Sys2Proof

variable {s t u : State} {j k : Jobs}

/-! ### Reads that leave a frame's deciding entry -/

/-- R144: the deciding entry of a frame rests on the route table's cells alone. -/
theorem Jobs.routeOf_congr (h : ∀ a, 0x10 ≤ a → a < 0x50 → k.cell a = j.cell a) (f : Frame) : k.routeOf f = j.routeOf f := by
  have hcell : ∀ i, i < 16 → ∀ n, n < 4 → k.cell (routeAddr i + n) = j.cell (routeAddr i + n) := fun i hi n hn =>
    h _ (by unfold routeAddr; omega) (by unfold routeAddr; omega)
  have hdec : k.deciding f.point = j.deciding f.point := by
    unfold Jobs.deciding
    refine List.find?_congr fun i hi => ?_
    have hc := hcell i (List.mem_range.mp hi)
    have hword : ∀ n, n < 4 → k.word (routeAddr i + n) = j.word (routeAddr i + n) := fun n hn => congrArg TWord.data (hc n hn)
    have hbad : ∀ n, n < 4 → k.bad (routeAddr i + n) = j.bad (routeAddr i + n) := fun n hn => congrArg TWord.bad (hc n hn)
    have hmark : k.marked (routeAddr i + 3) = j.marked (routeAddr i + 3) := congrArg TWord.mark (hc 3 (by decide))
    have hany : k.anyBad (span (routeAddr i) 3) = j.anyBad (span (routeAddr i) 3) := by
      simp only [Jobs.anyBad, span, List.any_map, show List.range 3 = [0, 1, 2] from rfl, List.any_cons, List.any_nil,
        Function.comp, hbad 0 (by decide), hbad 1 (by decide), hbad 2 (by decide)]
    have hword0 : k.word (routeAddr i) = j.word (routeAddr i) := hword 0 (by decide)
    rw [Jobs.routeUsable, Jobs.routeUsable, Jobs.routeCovers, Jobs.routeCovers, hword0, hword 1 (by decide),
      hword 2 (by decide), hany, hmark]
  unfold Jobs.routeOf
  rw [hdec]

theorem Jobs.routeOf_touchAll (as : List Nat) (has : ∀ a ∈ as, 0x50 ≤ a) (hw : j.tableWf) (f : Frame) :
    (j.touchAll as).routeOf f = j.routeOf f :=
  Jobs.routeOf_congr (fun a _ ha => Jobs.cell_touchAll_ne as hw fun h => by have := has a h; omega) f

theorem mapsReads_ge (rs : List MapRole) : ∀ a ∈ mapsReads rs, 0x50 ≤ a := by
  intro a ha
  obtain ⟨r, -, har⟩ := List.mem_flatMap.mp ha
  obtain ⟨n, -, rfl⟩ := List.mem_map.mp har
  unfold MapRole.addr
  omega

/-- The reads of an evaluated point lie beyond the route table. -/
theorem Jobs.touchPoint_reads (o : Option PointEntry) (j : Jobs) :
    ∃ as, (∀ a ∈ as, 0x50 ≤ a) ∧ j.touchPoint o = j.touchAll as := by
  have hrows : ∀ a ∈ span 0x050 64, 0x50 ≤ a := by
    intro a ha
    obtain ⟨n, -, rfl⟩ := List.mem_map.mp ha
    omega
  cases o with
  | none => exact ⟨_, hrows, rfl⟩
  | some e =>
    refine ⟨mapsReads e.roles ++ span 0x050 64, fun a ha => ?_, ?_⟩
    · rcases List.mem_append.mp ha with ha | ha
      · exact mapsReads_ge _ a ha
      · exact hrows a ha
    · show (j.touchMaps e.roles).touchAll (span 0x050 64) = _
      rw [Jobs.touchMaps_eq, Jobs.touchAll_append]

/-! ### Frames the part originates, and the exchange they start (R161, R165) -/

/-- R165, R174: what an originated frame leaves of the part. -/
theorem State.originateRoof_eq (f : Frame) (s : State) : s.originateRoof f = { s with
    jobs := (s.originateRoof f).jobs, fr := s.fr.count .roof Counters.originate, cb := (s.originateRoof f).cb } := by
  have h := State.offerFrame_eq .roof .down f .originated (s.jobs.routeOf f) (s.setFr (s.fr.count .roof Counters.originate))
  unfold State.originateRoof
  dsimp only
  rw [h]
  rfl

theorem State.originateRoof_still (f : Frame) (s : State) : Still s.jobs (s.originateRoof f).jobs :=
  (Still.offerFrame .roof .down f .originated (s.jobs.routeOf f) (s.setFr (s.fr.count .roof Counters.originate))).trans
    (Still.touchRouteOf f _)

/-- R174: the frame is offered as from `s`, where the deciding entry, the buffer and the time tag are those of `s`. -/
theorem Offered.originateRoof {f : Frame} (hroute : t.jobs.routeOf f = s.jobs.routeOf f)
    (hsel : t.selects (s.jobs.routeOf f) = s.selects (s.jobs.routeOf f)) (htag : t.jobs.tag = s.jobs.tag) (hcb : t.cb = s.cb) :
    Offered .roof .down f .originated s (t.originateRoof f) := by
  have h := Offered.offer (t := t.setFr (t.fr.count .roof Counters.originate)) .roof .down f .originated
    (Eq.trans (by cases s.jobs.routeOf f <;> rfl) hsel) htag hcb
  rw [← hroute] at h
  exact h.later rfl (Held.touchRouteOf f _).out

theorem EndsFrom.choice (hr : s.inReset = false) (h : s.choice = u) : EndsFrom .exchangeChoice s u := fun _ => by
  show s.unlessReset (fun s => s.choice.finish) = _
  rw [State.unlessReset_of hr, h]

theorem Starts.of_choice {x : ExchangeKind} {f : Frame} (hr : s.inReset = false) (h : s.choice = u.startExchange x f)
    (hroof : u.roof = s.roof) (htrain : u.train = s.train) : Starts x f s (u.startExchange x f).finish := by
  obtain ⟨h1, h2, h3, -⟩ := State.finish_keeps (u.startExchange x f)
  refine ⟨EndsFrom.choice hr h fun _ _ hf => (nomatch hf), by rw [h3]; rfl, by rw [h3]; rfl, ?_, by rw [h1]; exact htrain⟩
  rw [h2]
  show { u.roof with sending := some f.chars } = _
  rw [hroof]

/-- R105: a step's end only marks points of the point image table, and keeps the ORDERs' sequence number. -/
theorem State.finish_marked (u : State) :
    Marked u.jobs.oc.table u.finish.jobs.oc.table ∧ u.finish.jobs.oc.seq = u.jobs.oc.seq := by
  have h := (Reacts.pump 64 u.jobs).trans (Reacts.ocSync _)
  rw [State.finish_oc]
  exact ⟨h.table, h.seq⟩

theorem Marked.mem {a b : List PointEntry} (h : Marked a b) {e : PointEntry} (he : e ∈ b) :
    ∃ e' ∈ a, e.point = e'.point ∧ e.lastSent = e'.lastSent := by
  obtain ⟨i, hi, rfl⟩ := List.mem_iff_getElem.mp he
  have hia : i < a.length := h.1 ▸ hi
  obtain ⟨e', h1, -, h2⟩ := h.2 i a[i] (List.getElem?_eq_getElem hia)
  rw [List.getElem?_eq_getElem hi, Option.some.injEq] at h1
  refine ⟨a[i], List.getElem_mem hia, ?_, ?_⟩ <;> rw [h1, h2]

/-! ### The first pending point (R106) -/

/-- A point's entry once its word has been composed and sent. -/
def PointEntry.composed (p w : Word) (e : PointEntry) : PointEntry :=
  if e.point = p then { e with lastSent := w, pending := false } else e

/-- The jobs once a point's word has been composed, before the reads of its composition. -/
def Jobs.composing (e : PointEntry) (j : Jobs) : Jobs :=
  j.setOc { j.oc with seq := j.oc.seq + 1, table := j.oc.table.map (PointEntry.composed e.point (j.composed e)) }

theorem Jobs.compose_spec (e : PointEntry) (hw : j.tableWf) :
    (j.compose e).1 = { kind := .order, flags := 0, point := e.point, seq := j.oc.seq, payload := [j.composed e] } ∧
    (j.compose e).2.oc = (j.composing e).oc ∧
    (j.compose e).2.tag = j.tag ∧ SameWords j (j.compose e).2 ∧ ∀ f, (j.compose e).2.routeOf f = j.routeOf f := by
  have heq : (j.compose e).2 = (j.composing e).touchPoint (some e) := by
    unfold Jobs.compose Jobs.composing PointEntry.composed Outputs.onEntry
    dsimp only
  rw [heq]
  have hset : Still (j.composing e) ((j.composing e).touchPoint (some e)) := Still.touchPoint (some e) (j.composing e)
  have hwf : (j.composing e).tableWf := hw
  obtain ⟨as, has, he⟩ := Jobs.touchPoint_reads (some e) (j.composing e)
  have hsame : SameWords j (j.composing e) := .of_tm rfl
  have htag : (j.composing e).tag = j.tag := rfl
  refine ⟨rfl, hset.oc, hset.tag.trans htag, hsame.trans (hset.sameWords hwf), fun f => ?_⟩
  have hroute := Jobs.routeOf_touchAll as has hwf f
  rw [← he] at hroute
  exact hroute

theorem State.sendComposed_eq (e : PointEntry) (s : State) :
    s.sendComposed e = ((s.setJobs (s.jobs.compose e).2).originateRoof (s.jobs.compose e).1).startExchange .composer
      (s.jobs.compose e).1 := by
  unfold State.sendComposed
  cases s.jobs.compose e
  rfl

theorem State.choice_composer {e : PointEntry} (hf : s.busFree = true) (hd : s.jobs.dev = .run)
    (hp : s.jobs.oc.firstPending = some e) : s.choice = s.sendComposed e := by
  unfold State.choice
  rw [if_pos hf, if_pos hd, hp]

/-! ### The queue head (R107, R165) -/

/-- A point's entry with a word just sent. -/
def PointEntry.sentAs (p v : Word) (e : PointEntry) : PointEntry := if e.point = p then { e with lastSent := v } else e

theorem PointEntry.sentAs_keeps (p v : Word) (e : PointEntry) : (e.sentAs p v).point = e.point ∧
    (e.sentAs p v).owned = e.owned ∧ (e.sentAs p v).earth = e.earth := by
  unfold PointEntry.sentAs
  split <;> exact ⟨rfl, rfl, rfl⟩

/-- A point's entry once the words of a queued ORDER from a channel of a node on have been sent, each as `again` makes it. -/
def PointEntry.resent (again : Word → Word → Word) (n c : Nat) (ws : List Word) (e : PointEntry) : PointEntry :=
  if nodeOf e.point = n ∧ c ≤ channelOf e.point ∧ channelOf e.point < c + ws.length then
    { e with lastSent := again e.point (ws.getD (channelOf e.point - c) 0) }
  else e

theorem PointEntry.resent_nil (again : Word → Word → Word) (n c : Nat) (e : PointEntry) : e.resent again n c [] = e := by
  unfold PointEntry.resent
  rw [if_neg fun h => by simp only [List.length_nil] at h; omega]

theorem PointEntry.resent_past (again : Word → Word → Word) {n c : Nat} (hc : 255 < c) (ws : List Word) (e : PointEntry) :
    e.resent again n c ws = e := by
  have := channelOf_le e.point
  unfold PointEntry.resent
  rw [if_neg (by omega)]

theorem PointEntry.resent_cons (again : Word → Word → Word) {n c : Nat} (hn : n < 256) (hc : c ≤ 255) (w : Word)
    (ws : List Word) (e : PointEntry) :
    (e.sentAs (pointAt n c) (again (pointAt n c) w)).resent again n (c + 1) ws = e.resent again n c (w :: ws) := by
  have hp := pointAt_eq hn hc e.point
  unfold PointEntry.sentAs PointEntry.resent
  by_cases h : e.point = pointAt n c
  · obtain ⟨h1, h2⟩ := hp.mp h
    simp [h, show nodeOf (pointAt n c) = n from h ▸ h1, show channelOf (pointAt n c) = c from h ▸ h2]
  · rw [if_neg h]
    by_cases hin : nodeOf e.point = n ∧ c ≤ channelOf e.point ∧ channelOf e.point < c + (w :: ws).length
    · obtain ⟨hnode, hle, hlt⟩ := hin
      rw [List.length_cons] at hlt
      have hne : channelOf e.point ≠ c := fun hh => h (hp.mpr ⟨hnode, hh⟩)
      rw [if_pos ⟨hnode, by omega, by omega⟩, if_pos ⟨hnode, hle, by rw [List.length_cons]; omega⟩]
      rw [show channelOf e.point - c = (channelOf e.point - (c + 1)) + 1 by omega, List.getD_cons_succ]
    · rw [if_neg fun hh => hin ⟨hh.1, by omega, by rw [List.length_cons]; omega⟩, if_neg hin]

/-- The words of an ORDER from a channel on, as composed again. -/
def Jobs.recomposedWords (n c : Nat) (ws : List Word) (j : Jobs) : List Word :=
  ws.mapIdx fun i w => if c + i ≤ 255 then j.recomposed (pointAt n (c + i)) w else w

/-- The jobs with every entry of the point image table changed. -/
def Jobs.tabled (g : PointEntry → PointEntry) (j : Jobs) : Jobs := j.setOc { j.oc with table := j.oc.table.map g }

/-- R107, R159: what the second composition of an ORDER's words gives. -/
theorem Jobs.recomposeWords_spec {n : Nat} (hn : n < 256) (ws : List Word) (c : Nat) (j : Jobs) (hw : j.tableWf) :
    (j.recomposeWords n c ws).1 = j.recomposedWords n c ws ∧
    Reworded (PointEntry.resent (fun p w => j.recomposed p w) n c ws) j (j.recomposeWords n c ws).2 := by
  induction ws generalizing c j with
  | nil =>
    have hid : PointEntry.resent (fun p w => j.recomposed p w) n c [] = id := funext fun e => e.resent_nil _ n c
    rw [hid]
    exact ⟨rfl, .refl j⟩
  | cons w ws ih =>
    have hshift : ∀ i, c + 1 + i = c + (i + 1) := fun i => by omega
    by_cases hc : c ≤ 255
    · have hkeep := PointEntry.sentAs_keeps (pointAt n c) (j.recomposed (pointAt n c) w)
      have hstill : ∃ k, Still (j.tabled (PointEntry.sentAs (pointAt n c) (j.recomposed (pointAt n c) w))) k ∧
          j.recomposeWords n c (w :: ws) = (j.recomposed (pointAt n c) w :: (k.recomposeWords n (c + 1) ws).1,
            (k.recomposeWords n (c + 1) ws).2) := by
        rw [Jobs.recomposeWords]
        simp only [if_pos hc]
        cases j.oc.entry (toWord (n * 256 + c)) with
        | none => exact ⟨_, .refl _, rfl⟩
        | some e => exact ⟨_, Still.touchMaps _ e.roles, rfl⟩
      obtain ⟨k, hk, he⟩ := hstill
      have hre := Still.reworded hk hw (fun e => (hkeep e).1) (fun e => (hkeep e).2.1) (fun e => (hkeep e).2.2)
      obtain ⟨hvs, hres⟩ := ih (c + 1) k (Reworded.tableWf hk hw)
      have hsame : (fun p v => k.recomposed p v) = fun p v => j.recomposed p v := funext fun p => funext fun v => hre.recomposed p v
      rw [hsame] at hres
      have hcomp : PointEntry.resent (fun p v => j.recomposed p v) n (c + 1) ws ∘
          PointEntry.sentAs (pointAt n c) (j.recomposed (pointAt n c) w) =
          PointEntry.resent (fun p v => j.recomposed p v) n c (w :: ws) :=
        funext fun e => PointEntry.resent_cons _ hn hc w ws e
      rw [he]
      refine ⟨?_, hcomp ▸ hre.trans hres⟩
      rw [hvs]
      unfold Jobs.recomposedWords
      rw [List.mapIdx_cons]
      simp only [hshift, hre.recomposed, Nat.add_zero, if_pos hc]
    · obtain ⟨hvs, hres⟩ := ih (c + 1) j hw
      have he : j.recomposeWords n c (w :: ws) = (w :: (j.recomposeWords n (c + 1) ws).1, (j.recomposeWords n (c + 1) ws).2) := by
        rw [Jobs.recomposeWords, if_neg hc, if_neg hc]
      have hpast : ∀ d us, 255 < d → PointEntry.resent (fun p v => j.recomposed p v) n d us = id := fun d us hd =>
        funext fun e => e.resent_past _ hd us
      rw [he]
      refine ⟨?_, ?_⟩
      · rw [hvs]
        unfold Jobs.recomposedWords
        rw [List.mapIdx_cons]
        simp only [hshift, Nat.add_zero, if_neg hc]
      · rw [hpast _ _ (by omega)] at hres ⊢
        exact hres

theorem State.searchedAll_eq (s : State) : ∃ k, Still s.jobs k ∧ s.searchedAll = s.setJobs k := by
  unfold State.searchedAll
  split
  · exact ⟨_, Still.touchAll _ _, rfl⟩
  · exact ⟨_, .refl _, rfl⟩

theorem State.choosePoll_none (h : s.jobs.dev = .config ∨ s.duePoll = none) : s.choosePoll =
    (match s.fr.down with
      | f :: rest => s.searchedAll.sendQueued f rest
      | [] => s.searchedAll) := by
  have hnone : (if s.jobs.dev = .run then s.duePoll else none) = none := by
    rcases h with h | h
    · rw [if_neg (by rw [h]; decide)]
    · rw [h, ite_self]
  unfold State.choosePoll
  rw [hnone]
  cases s.fr.down <;> rfl

theorem State.choice_none (hf : s.busFree = true) (hp : s.jobs.dev = .run → s.jobs.oc.firstPending = none)
    (h : s.rb.lastKind = .queue ∨ s.fr.down = []) : s.choice = s.choosePoll := by
  have hnone : (if s.jobs.dev = .run then s.jobs.oc.firstPending else none) = none := by
    split
    · rename_i hd
      exact hp hd
    · rfl
  unfold State.choice
  rw [if_pos hf, hnone]
  rcases h with h | h
  · rw [h]
  · rw [h]
    cases s.rb.lastKind <;> rfl

/-- R162: the queue head is sent, after the reads of a search that found no poll or after none. -/
theorem State.choice_queued {f : Frame} {rest : List Frame} (hf : s.busFree = true)
    (hp : s.jobs.dev = .run → s.jobs.oc.firstPending = none) (hd : s.fr.down = f :: rest)
    (h : s.rb.lastKind = .poll ∨ s.jobs.dev = .config ∨ s.duePoll = none) :
    ∃ k, Still s.jobs k ∧ s.choice = (s.setJobs k).sendQueued f rest := by
  cases hl : s.rb.lastKind with
  | poll =>
    have hnone : (if s.jobs.dev = .run then s.jobs.oc.firstPending else none) = none := by
      split
      · rename_i hrun
        exact hp hrun
      · rfl
    refine ⟨s.jobs, .refl _, ?_⟩
    unfold State.choice
    rw [if_pos hf, hnone, hl, hd]
    rfl
  | queue =>
    obtain ⟨k, hk, he⟩ := State.searchedAll_eq s
    refine ⟨k, hk, ?_⟩
    rw [State.choice_none hf hp (.inl hl), State.choosePoll_none (h.resolve_left (by rw [hl]; decide)), hd, he]

/-- R162: with nothing to send only the reads of the search are made. -/
theorem State.choice_idle (hf : s.busFree = true) (hp : s.jobs.dev = .run → s.jobs.oc.firstPending = none)
    (hd : s.fr.down = []) (h : s.jobs.dev = .config ∨ s.duePoll = none) :
    ∃ k, Still s.jobs k ∧ s.choice = s.setJobs k := by
  obtain ⟨k, hk, he⟩ := State.searchedAll_eq s
  refine ⟨k, hk, ?_⟩
  rw [State.choice_none hf hp (.inr hd), State.choosePoll_none h, hd, he]

/-- R168: a node that a poll or QUERY asks. -/
theorem Jobs.nodeAsked_spec (n : Nat) (j : Jobs) : (j.nodeAsked n).oc = j.oc ∧ (j.nodeAsked n).tm = j.tm ∧
    (j.nodeAsked n).tag = j.tag ∧
    (j.nodesWf → j.dev = .run → (j.node n).state = .unused → ((j.nodeAsked n).node n).state = .waiting) := by
  unfold Jobs.nodeAsked
  split
  · refine ⟨rfl, rfl, rfl, fun hw _ _ => ?_⟩
    rw [Jobs.node_push, Jobs.node_setNode hw, if_pos rfl]
  · rename_i hno
    exact ⟨rfl, rfl, rfl, fun _ hd hu => absurd ⟨hd, hu⟩ hno⟩

/-- The part with the queue head taken for sending. -/
def State.dequeued (rest : List Frame) (s : State) : State :=
  (s.setFr { s.fr with down := rest }).setRb { s.rb with lastKind := .queue }

theorem State.sendQueued_order {f : Frame} (hk : f.kind = .order) (rest : List Frame) (s : State) : s.sendQueued f rest =
    ((s.dequeued rest).setJobs (s.jobs.recomposeWords (nodeOf f.point) (channelOf f.point) f.payload).2).startExchange
      .queuedOrder { f with payload := (s.jobs.recomposeWords (nodeOf f.point) (channelOf f.point) f.payload).1 } := by
  unfold State.sendQueued
  dsimp only
  rw [if_pos hk]
  rfl

theorem State.sendQueued_query {f : Frame} (hk : f.kind ≠ .order) (rest : List Frame) (s : State) : s.sendQueued f rest =
    ((s.dequeued rest).onJobs (Jobs.nodeAsked (nodeOf f.point))).startExchange .queuedQuery f := by
  unfold State.sendQueued
  dsimp only
  rw [if_neg hk]
  rfl

/-! ### A poll (R164, R165) -/

/-- R164, R165: the scheduler once slot `i` has been polled in pass `q`. -/
def Sched.polled (i q : Nat) (b : Sched) : Sched :=
  { b with lastKind := .poll, cursor := if i = 31 then 0 else i + 1, pass := if i = 31 then (q + 1) % 360360 else q,
           pollSeq := b.pollSeq + 1 }

theorem Jobs.slotNode_lt (i : Nat) (j : Jobs) : j.slotNode i < 64 := Nat.mod_lt _ (by decide)

theorem nodeOf_toWord {n : Nat} (h : n < 64) : nodeOf (toWord (n * 256)) = n := by
  unfold nodeOf toWord
  rw [BitVec.toNat_ofNat]
  omega

/-- R165: the poll of slot `i`. -/
def State.pollFrame (i : Nat) (s : State) : Frame :=
  { kind := .query, flags := 0, point := toWord (s.jobs.slotNode i * 256), seq := s.rb.pollSeq, payload := [] }

/-- The addresses that the search for the poll of slot `i` in pass `q` reads. -/
def State.examined (i q : Nat) (s : State) : List Nat := (searched s.rb.cursor s.rb.pass (some (i, q))).map slotAddr

/-- The part once the node of slot `i` has been asked. -/
def State.polled (i q : Nat) (s : State) : State :=
  (s.setJobs ((s.jobs.touchAll (s.examined i q)).nodeAsked (s.jobs.slotNode i))).setRb (s.rb.polled i q)

theorem State.sendPoll_eq (i q : Nat) (s : State) :
    s.sendPoll i q = ((s.polled i q).originateRoof (s.pollFrame i)).startExchange .poll (s.pollFrame i) := by
  have hn : nodeOf (toWord (s.jobs.slotNode i * 256)) = s.jobs.slotNode i := nodeOf_toWord (Jobs.slotNode_lt i _)
  unfold State.sendPoll State.polled Sched.polled
  dsimp only
  rw [hn]
  split <;> rfl

theorem State.choice_poll {i q : Nat} (hf : s.busFree = true) (hd : s.jobs.dev = .run) (hp : s.jobs.oc.firstPending = none)
    (h : s.rb.lastKind = .queue ∨ s.fr.down = []) (hdue : s.duePoll = some (i, q)) : s.choice = s.sendPoll i q := by
  rw [State.choice_none hf (fun _ => hp) h]
  unfold State.choosePoll
  rw [if_pos hd, hdue]

end Sys2Proof.Machine

open Sys2Proof Sys2Proof.Machine

/-- Settles O27, source by source. -/
theorem exchangeChoice : Obligations.ExchangeChoice := by
  unfold Obligations.ExchangeChoice
  refine ⟨fun s hr hb => EndsFrom.choice hr (by rw [State.choice, if_neg (by rw [hb]; decide)]), ?composer, ?queued, ?poll, ?idle⟩
  case composer =>
    intro s e hrun hb hp
    obtain ⟨hl, hd⟩ := hrun
    obtain ⟨hframe, hoc, htag, hsame, hroute⟩ := Jobs.compose_spec e hl.2.1
    have hchoice := State.choice_composer hb hd hp
    have heq := State.sendComposed_eq e s
    generalize s.jobs.compose e = c at heq hframe hoc htag hsame hroute
    obtain ⟨f, k⟩ := c
    dsimp only at heq hframe hoc htag hsame hroute
    rw [← hframe]
    have hu := State.originateRoof_eq f (s.setJobs k)
    have hju := (State.originateRoof_still f (s.setJobs k)).oc.trans hoc
    have hoff : Offered .roof .down f .originated s ((s.setJobs k).originateRoof f) :=
      Offered.originateRoof (hroute f) (State.selects_congr rfl fun i _ => hsame.routeCapture i) htag rfl
    generalize (s.setJobs k).originateRoof f = u at *
    obtain ⟨-, -, hrb, -, -, -, hfroof, hdown, -⟩ := State.finish_keeps (u.startExchange .composer f)
    obtain ⟨hmarked, hseq⟩ := State.finish_marked (u.startExchange .composer f)
    refine ⟨_, Starts.of_choice hl.1 (hchoice.trans heq) (by rw [hu]; rfl) (by rw [hu]; rfl), ?_, ?_, ?_, ?_, ?_,
      ⟨_, rfl, hoff.later rfl List.prefix_rfl, hju⟩, ?_⟩
    · rw [hdown, hu]; rfl
    · rw [hrb, hu]; rfl
    · rw [hrb, hu]; rfl
    · rw [hfroof, hu]; rfl
    · rw [hseq]
      exact congrArg Outputs.seq hju
    · intro e' he' hpoint
      obtain ⟨e0, he0, h1, h2⟩ := hmarked.mem he'
      have htable : u.jobs.oc.table = s.jobs.oc.table.map (PointEntry.composed e.point (s.jobs.composed e)) :=
        congrArg Outputs.table hju
      have he0' : e0 ∈ s.jobs.oc.table.map (PointEntry.composed e.point (s.jobs.composed e)) := htable ▸ he0
      obtain ⟨e1, -, rfl⟩ := List.mem_map.mp he0'
      rw [h2]
      rw [h1] at hpoint
      unfold PointEntry.composed at hpoint ⊢
      split
      · rfl
      · rename_i hne
        rw [if_neg hne] at hpoint
        exact absurd hpoint hne
  case queued =>
    intro s f rest hl hb hp hd hsrc
    obtain ⟨k, hk, hchoice⟩ := State.choice_queued hb hp hd hsrc
    by_cases hkind : f.kind = .order
    · have hn : nodeOf f.point < 256 := by
        have := f.point.isLt
        unfold nodeOf
        omega
      have hsame : Reworded id s.jobs k :=
        { rest := by rw [List.map_id]; exact hk.rest, words := hk.sameWords hl.2.1, point := fun _ => rfl,
          owned := fun _ => rfl, earth := fun _ => rfl }
      have hrec : (fun p w => k.recomposed p w) = fun p w => s.jobs.recomposed p w :=
        funext fun p => funext fun w => hsame.recomposed p w
      obtain ⟨hws, hre⟩ := Jobs.recomposeWords_spec hn f.payload (channelOf f.point) k (hk.tableWf hl.2.1)
      have hwords : k.recomposedWords (nodeOf f.point) (channelOf f.point) f.payload =
          f.payload.mapIdx (fun i w => if channelOf f.point + i ≤ 255 then
            s.jobs.recomposed (toWord (nodeOf f.point * 256 + (channelOf f.point + i))) w else w) := by
        unfold Jobs.recomposedWords
        simp only [hsame.recomposed]
        rfl
      rw [State.sendQueued_order hkind] at hchoice
      rw [if_pos hkind, if_pos hkind]
      have hws' := hws.trans hwords
      rw [show (s.setJobs k).jobs = k from rfl, hws'] at hchoice
      obtain ⟨-, -, hrb, -, -, -, hfroof, hdown, -⟩ := State.finish_keeps ((((s.setJobs k).dequeued rest).setJobs
        (k.recomposeWords (nodeOf f.point) (channelOf f.point) f.payload).2).startExchange .queuedOrder
        { f with payload := f.payload.mapIdx (fun i w => if channelOf f.point + i ≤ 255 then
              s.jobs.recomposed (toWord (nodeOf f.point * 256 + (channelOf f.point + i))) w else w) })
      refine ⟨_, Starts.of_choice hl.1 hchoice rfl rfl, by rw [hdown]; rfl, by rw [hrb]; rfl, by rw [hrb]; rfl, by rw [hrb]; rfl,
        by rw [hfroof]; rfl, ⟨_, rfl, ?_⟩, fun hne => absurd hkind hne⟩
      have hoc : (k.recomposeWords (nodeOf f.point) (channelOf f.point) f.payload).2.oc =
          (k.tabled (PointEntry.resent (fun p w => k.recomposed p w) (nodeOf f.point) (channelOf f.point) f.payload)).oc := by
        rw [hre.rest]
        rfl
      rw [hrec] at hoc
      unfold Jobs.tabled Jobs.setOc at hoc
      rw [hk.oc] at hoc
      refine hoc.trans ?_
      simp only [hkind, true_and]
      rfl
    · rw [State.sendQueued_query hkind] at hchoice
      rw [if_neg hkind, if_neg hkind]
      obtain ⟨hoc, -, -, hnode⟩ := Jobs.nodeAsked_spec (nodeOf f.point) k
      obtain ⟨-, -, hrb, -, -, -, hfroof, hdown, -, -, -, -, -, hnodes⟩ := State.finish_keeps ((((s.setJobs k).dequeued rest).onJobs
        (Jobs.nodeAsked (nodeOf f.point))).startExchange .queuedQuery f)
      refine ⟨_, Starts.of_choice hl.1 hchoice rfl rfl, by rw [hdown]; rfl, by rw [hrb]; rfl, by rw [hrb]; rfl, by rw [hrb]; rfl,
        by rw [hfroof]; rfl, ⟨_, rfl, ?_⟩, fun _ hrun hun => ?_⟩
      · refine (hoc.trans hk.oc).trans ?_
        simp only [hkind, false_and, if_false, List.map_id']
      · have hw : k.nodesWf := by
          unfold Jobs.nodesWf
          rw [hk.nodes]
          exact hl.2.2.1
        have h := hnode hw (hk.dev.trans hrun) (by rw [hk.node]; exact hun)
        unfold Jobs.node at h ⊢
        rw [hnodes]
        exact h
  case poll =>
    intro s i q hrun hb hp hsrc hdue
    obtain ⟨hl, hd⟩ := hrun
    have hchoice := (State.choice_poll hb hd hp hsrc hdue).trans (State.sendPoll_eq i q s)
    obtain ⟨hoc, htm, htag, hnode⟩ := Jobs.nodeAsked_spec (s.jobs.slotNode i) (s.jobs.touchAll (s.examined i q))
    have hk := Still.touchAll (s.examined i q) s.jobs
    have hsame : SameWords s.jobs (s.polled i q).jobs := (hk.sameWords hl.2.1).trans (.of_tm htm)
    have hroute : (s.polled i q).jobs.routeOf (s.pollFrame i) = s.jobs.routeOf (s.pollFrame i) := by
      have hreads : ∀ a ∈ s.examined i q, 0x50 ≤ a := by
        intro a ha
        obtain ⟨n, -, rfl⟩ := List.mem_map.mp ha
        unfold slotAddr
        omega
      refine (Jobs.routeOf_congr (fun a _ _ => ?_) _).trans (Jobs.routeOf_touchAll (s.examined i q) hreads hl.2.1 _)
      exact congrArg (fun tm : TableMem => Store.read {} a tm.mem) htm
    have hoff : Offered .roof .down (s.pollFrame i) .originated s ((s.polled i q).originateRoof (s.pollFrame i)) :=
      Offered.originateRoof hroute (State.selects_congr rfl fun i _ => hsame.routeCapture i) (htag.trans hk.tag) rfl
    have hu := State.originateRoof_eq (s.pollFrame i) (s.polled i q)
    have hju := State.originateRoof_still (s.pollFrame i) (s.polled i q)
    obtain ⟨-, -, hrb, -, -, -, hfroof, hdown, -, -, -, -, -, hnodes⟩ := State.finish_keeps
      (((s.polled i q).originateRoof (s.pollFrame i)).startExchange .poll (s.pollFrame i))
    rw [show ({ kind := .query, flags := 0, point := toWord (s.jobs.slotNode i * 256), seq := s.rb.pollSeq, payload := [] } : Frame) =
      s.pollFrame i from rfl]
    generalize (s.polled i q).originateRoof (s.pollFrame i) = u at *
    have hurb : u.rb = s.rb.polled i q := by rw [hu]; rfl
    have htrb : ∀ {α : Type} (g : Sched → α), (∀ b slot x, g { b with slot := slot, exchange := x } = g b) →
        g (u.startExchange .poll (s.pollFrame i)).finish.rb = g (s.rb.polled i q) := fun g hg => by
      rw [hrb, ← hurb]
      exact hg _ _ _
    refine ⟨_, Starts.of_choice hl.1 hchoice (by rw [hu]; rfl) (by rw [hu]; rfl), ?_, htrb Sched.lastKind fun _ _ _ => rfl,
      htrb Sched.pollSeq fun _ _ _ => rfl, ?_,
      ⟨_, rfl, hoff.later rfl List.prefix_rfl, (hju.oc.trans hoc).trans hk.oc⟩, fun hne => ⟨?_, ?_⟩, fun heq => ⟨?_, ?_⟩, fun hun => ?_⟩
    · rw [hdown, hu]; rfl
    · rw [hfroof, hu]; rfl
    · exact (htrb Sched.cursor fun _ _ _ => rfl).trans (if_neg hne)
    · exact (htrb Sched.pass fun _ _ _ => rfl).trans (if_neg hne)
    · exact (htrb Sched.cursor fun _ _ _ => rfl).trans (if_pos heq)
    · exact (htrb Sched.pass fun _ _ _ => rfl).trans (if_pos heq)
    · have hw : (s.jobs.touchAll (s.examined i q)).nodesWf := by
        unfold Jobs.nodesWf
        rw [hk.nodes]
        exact hl.2.2.1
      have h := hnode hw (hk.dev.trans hd) (by rw [hk.node]; exact hun)
      unfold Jobs.node at h ⊢
      rw [hnodes]
      rw [show (u.startExchange .poll (s.pollFrame i)).jobs.nodes = ((s.jobs.touchAll (s.examined i q)).nodeAsked (s.jobs.slotNode i)).nodes
        from hju.nodes]
      exact h
  case idle =>
    intro s hl hb hp hd
    have hsrc : s.jobs.dev = .config ∨ s.duePoll = none := by
      cases hdev : s.jobs.dev with
      | config => exact .inl rfl
      | run => exact .inr (hp hdev).2
    obtain ⟨k, hk, he⟩ := State.choice_idle hb (fun hrun => (hp hrun).1) hd hsrc
    exact ⟨_, EndsFrom.choice hl.1 he, hk.rest, rfl⟩

end

section
/-! PROOFS. The changeover sequencer at work (O51): the tests of each state, what it makes of the changes other blocks report,
and its two timers. -/

namespace Sys2Proof.Machine

open Sys2Proof

variable {s : State} {j k m : Jobs}

/-! ### Small facts about the record -/

theorem Jobs.setCs_self {v : Cs} (h : v = j.cs) : j.setCs v = j := by rw [h]; rfl

theorem Aligned.setOpen (j : Jobs) : Aligned j j.setOpen :=
  ⟨.setOpen j, .setOpen j, by rw [Jobs.setOpen_cs], by rw [Jobs.setOpen_cs]⟩

/-- An entry to LOWERING goes by the two records and the words alone. -/
theorem SameWords.entersLowering {l : Jobs} (h : SameWords j k) (hp : ∀ x, k.panto x = j.panto x) (he : EntersLowering k l) :
    EntersLowering j l := by
  obtain ⟨hs, hx, ht⟩ := he
  refine ⟨hs, fun x => ?_, fun lowerTime hl => ?_⟩
  · rw [← hp x]; exact hx x
  · rw [← h.changeover]
    exact ht lowerTime fun x => by rw [hl, h.pantoValid, h.pantoParam]

/-- R47: whatever the entry to RAISING comes to, it leaves the command OPEN where it is OPEN, and no selector output on where
none is on. -/
theorem Jobs.enterRaising_keeps (hw : j.tableWf) :
    (j.cs.command = .open → j.enterRaising.cs.command = .open) ∧ (j.cs.pulse = false → j.enterRaising.cs.pulse = false) ∧
    (j.cs.selOut = none → j.enterRaising.cs.selOut = none) := by
  cases hc : j.raiseChoice with
  | none =>
    rw [Jobs.enterRaising_none hc, Jobs.enterHold_cs]
    exact ⟨fun _ => rfl, fun _ => rfl, fun _ => rfl⟩
  | some x =>
    by_cases ha : j.raiseAnswer x .collector .cs = .accepted
    · rw [(Jobs.enterRaising_made hw hc ha).1]
      exact ⟨id, id, id⟩
    · rw [(Jobs.enterRaising_failed hw hc ha).2.2]
      exact ⟨fun _ => rfl, fun _ => rfl, fun _ => rfl⟩

theorem Jobs.enterSelecting_keeps (hc : j.cs.command = .open) (hp : j.cs.pulse = false) :
    j.enterSelecting.cs.command = .open ∧ j.enterSelecting.cs.pulse = false := by
  have ht := (Still.touchTarget j).cs
  unfold Jobs.enterSelecting
  split
  · simp
  · split
    · simp
    · dsimp only
      split
      · simp
      · simp [ht, hc, hp]

/-- R49: the entry to CLOSING keeps the feature in hand. -/
theorem Jobs.enterClosing_current (hw : j.tableWf) : j.enterClosing.cs.current = j.cs.current := by
  cases hf : j.closeFailure with
  | none => rw [(Jobs.enterClosing_of_none hw hf).2.1]
  | some r => rw [Jobs.enterClosing_of_failure hf, Jobs.enterHold_cs, (Still.touchClosing j).cs]

/-- R26, R48: an identification restart and the entry to IDENTIFYING. -/
theorem Jobs.restart_identifies (hw : j.tableWf) :
    EntersIdentifying j j.lsiRestart.enterIdentifying ∧ Reidentifies j j.lsiRestart.enterIdentifying := by
  have hlost := j.lostEntries_spec.1
  have htag : j.lostEntries.tag = j.tag := (congrArg Jobs.tag hlost :)
  have hlmu : j.lostEntries.lmu = j.lmu := (congrArg Jobs.lmu hlost :)
  refine ⟨?_, ?_⟩
  · have h := Jobs.enterIdentifying_enters j.lsiRestart
    unfold EntersIdentifying at h ⊢
    rwa [((Held.lsiRestart j).sameWords hw).changeover] at h
  · have h : j.lsiRestart.enterIdentifying.lsi = j.lsiRestart.lsi := (OnlyChangeover.enterIdentifying _).lsi
    unfold Reidentifies
    rw [h, ← htag, ← hlmu]
    unfold Jobs.lsiRestart Jobs.lsiAfresh
    dsimp only
    split <;> rfl

/-! ### IDLE and ARMED (R41) -/

theorem Jobs.csTest_idle (due : Bool) (hs : j.cs.state = .idle) :
    ((j.cs.list = [] ∨ j.lsi.confirmed.isSystem = false) → j.csTest due = j) ∧
    (j.cs.list ≠ [] → j.lsi.confirmed.isSystem = true → j.csTest due = j.enterArmed) := by
  unfold Jobs.csTest
  rw [hs]
  refine ⟨fun h => if_neg ?_, fun hl hc => if_pos ?_⟩
  · rcases h with h | h <;> simp [h]
  · simp [hl, hc]

theorem Jobs.enterArmed_cs (j : Jobs) :
    j.enterArmed.cs = { j.cs with state := .armed, list := j.cs.list.filter (fun g => !g.staleMark) } := by
  simp [Jobs.enterArmed]

theorem Jobs.enterArmed_todo (j : Jobs) : j.enterArmed.todo = j.todo ++ [.cs] := by
  show j.dropStale.todo ++ [.cs] = _
  rw [Jobs.dropStale_todo]

/-- R41, R37: a list whose entries are all stale leaves ARMED for IDLE again. -/
theorem Jobs.enterArmed_stale (h : ∀ g ∈ j.cs.list, g.staleMark = true) : j.enterArmed.csTest true = j.enterArmed.enterIdle := by
  have hcs := j.enterArmed_cs
  have hnil : j.cs.list.filter (fun g => !g.staleMark) = [] := by
    rw [List.filter_eq_nil_iff]
    intro g hg
    simp [h g hg]
  rw [hnil] at hcs
  unfold Jobs.csTest
  rw [hcs]
  rfl

theorem Jobs.csTest_armed_nil (due : Bool) (hs : j.cs.state = .armed) (hl : j.cs.list = []) : j.csTest due = j.enterIdle := by
  unfold Jobs.csTest
  rw [hs, hl]
  rfl

theorem Jobs.csTest_armed_cons {f : Feature} {rest : List Feature} (due : Bool) (hs : j.cs.state = .armed)
    (hl : j.cs.list = f :: rest) :
    j.csTest due = if due = true ∧ f.dueMark = true ∧ j.oc.hold = false then j.takeHead f rest else j := by
  unfold Jobs.csTest Jobs.dueCheck
  rw [hs, hl]
  simp only [List.isEmpty_cons, Bool.false_eq_true, if_false, Bool.and_eq_true, Bool.not_eq_true']
  cases due <;> simp

/-- R41: the roof jobs with the due head in hand. -/
def Jobs.headTaken (f : Feature) (rest : List Feature) (j : Jobs) : Jobs :=
  j.setCs { j.cs with list := rest, current := some f, expected := some j.lsi.confirmed, deadSeen := false }

theorem Jobs.takeHead_eq (f : Feature) (rest : List Feature) (j : Jobs) : j.takeHead f rest =
    if j.lsi.confirmed.isSystem then (j.headTaken f rest).enterOpening else (j.headTaken f rest).enterHold .identify .armed := rfl

/-! ### COASTING (R43, R44) -/

/-- R44: the end of a coast under a feature that crosses. -/
theorem Aligned.coastToRoof (h : Aligned j m) (hw : m.tableWf) (hs : m.cs.state = .coasting) :
    (j.targetEntry = none → HeldFor .mismatch .coasting m.coastToRoof) ∧
    ∀ e, j.targetEntry = some e →
      (j.needsRoof e = true → EntersLowering j m.coastToRoof) ∧
      (j.needsRoof e = false → EntersIdentifying j m.coastToRoof ∧ Reidentifies j m.coastToRoof) := by
  have ht := Still.touchTarget m
  have hal : Aligned j (m.touchTarget.stop .t1) := (h.trans (ht.aligned hw)).trans ⟨rfl, .of_tm rfl, rfl, rfl⟩
  have hwf : (m.touchTarget.stop .t1).tableWf := ht.tableWf hw
  unfold Jobs.coastToRoof
  dsimp only
  rw [h.targetEntry]
  refine ⟨fun hn => ?_, fun e he => ⟨fun hneed => ?_, fun hneed => ?_⟩⟩
  · rw [hn]
    have hf := Jobs.failStep_heldFor .mismatch m.touchTarget
    rw [ht.cs, hs] at hf
    exact hf
  · rw [he, Option.map_some, h.only.needsRoof h.words, hneed]
    exact hal.entersLowering (Jobs.enterLowering_enters _)
  · rw [he, Option.map_some, h.only.needsRoof h.words, hneed]
    obtain ⟨h1, h2⟩ := Jobs.restart_identifies hwf
    refine ⟨hal.entersIdentifying h1, ?_⟩
    unfold Reidentifies at h2 ⊢
    rw [hal.only.tag, hal.only.lmu] at h2
    exact h2

theorem Jobs.coastOver_crossing (h : j.crossing = true) : j.coastOver = j.coastToRoof := by
  unfold Jobs.coastOver
  rw [if_pos h]

theorem Jobs.coastOver_expected (h : j.crossing = false) (he : j.cs.expected = some j.lsi.confirmed) :
    j.coastOver = ((j.stop .t0).stop .t1).enterClosing := by
  unfold Jobs.coastOver
  rw [if_neg (by simp [h]), if_pos he]

theorem Jobs.coastOver_unexpected (h : j.crossing = false) (he : j.cs.expected ≠ some j.lsi.confirmed) :
    j.coastOver = if j.lsi.confirmed.isSystem then j.failStep .mismatch else j := by
  unfold Jobs.coastOver
  rw [if_neg (by simp [h]), if_neg he]

theorem Aligned.stops (j : Jobs) : Aligned j ((j.stop .t0).stop .t1) := ⟨rfl, .of_tm rfl, rfl, rfl⟩

/-- R43: COASTING once its coast has been found ended. -/
def Jobs.coasted (j : Jobs) : Jobs :=
  j.setCs { j.cs with deadSeen := j.cs.deadSeen || decide (j.lsi.confirmed = .dead), coastEnded := true }

theorem Aligned.coasted (j : Jobs) : Aligned j j.coasted := ⟨rfl, .of_tm rfl, rfl, rfl⟩

theorem Jobs.coastingTest_waits (h1 : j.cs.coastEnded = false) (h2 : j.cs.deadSeen = false) (h3 : j.lsi.confirmed ≠ .dead) :
    j.coastingTest = j := by
  have hself : j.setCs { j.cs with deadSeen := j.cs.deadSeen || decide (j.lsi.confirmed = .dead), coastEnded :=
      j.cs.coastEnded || (j.cs.deadSeen || decide (j.lsi.confirmed = .dead)) } = j := by
    refine Jobs.setCs_self ?_
    rw [decide_eq_false h3, Bool.or_false]
    generalize j.cs = c at h1 h2
    cases c
    dsimp only at h1 h2
    rw [h1, h2]
    rfl
  unfold Jobs.coastingTest
  dsimp only
  rw [hself, if_neg (by simp [h1])]

theorem Jobs.coastingTest_over (h : j.cs.coastEnded = true ∨ j.cs.deadSeen = true ∨ j.lsi.confirmed = .dead) :
    j.coastingTest = j.coasted.coastOver := by
  have hended : (j.cs.coastEnded || (j.cs.deadSeen || decide (j.lsi.confirmed = .dead))) = true := by
    rcases h with h | h | h <;> simp [h]
  unfold Jobs.coastingTest
  dsimp only
  rw [hended]
  exact if_pos rfl

/-! ### IDENTIFYING (R48) -/

/-- R48: a system that the target ANY may take. -/
theorem Jobs.identifyingTest_any {e : Fin 8} (hc : j.lsi.confirmed = .system e) (ht : j.csTarget = .any)
    (hu : j.lineUsable e = true) : j.identifyingTest =
      if j.needsRoof e then ((j.touchLine e).adoptTarget e).enterLowering else ((j.touchLine e).adoptTarget e).enterClosing := by
  unfold Jobs.identifyingTest
  rw [hc, ht]
  dsimp only
  rw [if_pos hu]

theorem SameWords.adoptTarget (e : Fin 8) (j : Jobs) : SameWords j (j.adoptTarget e) := .of_tm rfl
theorem OnlyChangeover.adoptTarget (e : Fin 8) (j : Jobs) : OnlyChangeover j (j.adoptTarget e) := rfl

theorem Jobs.adopted_aligned (hw : j.tableWf) (e : Fin 8) : Aligned (j.adoptTarget e) ((j.touchLine e).adoptTarget e) := by
  have h := Still.touchLine j e
  have hs := h.sameWords hw
  have hback : OnlyChangeover (j.adoptTarget e) j := rfl
  refine ⟨(hback.trans h.onlyChangeover).trans (.adoptTarget e _),
    ((SameWords.adoptTarget e j).symm.trans hs).trans (.adoptTarget e _), ?_, ?_⟩
  · unfold Jobs.adoptTarget
    rw [Jobs.setCs_cs, Jobs.setCs_cs, h.cs, hs.lineCode]
  · unfold Jobs.adoptTarget
    rw [Jobs.setCs_cs, Jobs.setCs_cs, h.cs]

/-- R48: a target that names a code. -/
theorem Jobs.identifyingTest_code {c : BitVec 4} (h1 : j.lsi.confirmed ≠ .pending) (h2 : j.lsi.confirmed ≠ .none)
    (ht : j.csTarget = .code c) : j.identifyingTest =
      if (j.resolve c).any (fun e => decide (j.lsi.confirmed = .system e)) then (j.touchResolve c).enterClosing
      else (j.touchResolve c).failStep .mismatch := by
  unfold Jobs.identifyingTest
  rw [ht]
  cases hc : j.lsi.confirmed with
  | pending => exact absurd hc h1
  | none => exact absurd hc h2
  | dead => rfl
  | unknown => rfl
  | system e => rfl

/-! ### CLOSING (R49) -/

theorem Jobs.closingDone_spec (j : Jobs) :
    j.closingDone.cs = { j.cs with state := .idle, pulse := false, closingSystem := j.lsi.confirmed.index, current := none,
                                   expected := none } ∧
    (j.closingDone.timer .t0).stopped ∧ Flagged .changeoverDone (BitVec.ofNat 16 j.cs.state.code) j.closingDone.out := by
  have hpulse : ∃ k, k = (if j.cs.pulse then j.stop .t1 else j) ∧ k.cs = j.cs ∧ k.lsi = j.lsi := by
    refine ⟨_, rfl, ?_⟩
    split <;> exact ⟨rfl, rfl⟩
  obtain ⟨k, hk, hcs, hlsi⟩ := hpulse
  unfold Jobs.closingDone
  rw [← hk]
  dsimp only
  refine ⟨?_, ?_, ?_⟩
  · rw [Jobs.enterIdle_cs, Jobs.flag_cs, Jobs.setCs_cs, hcs, hlsi]
  · rw [Jobs.enterIdle_timer, if_pos rfl]
    exact Timer.stopped_stop _
  · rw [Jobs.setCs_cs, hcs]
    exact Flagged.flag _ _ _

theorem Jobs.closeFailure_noSystem {x : Panto} (hl : j.oc.lowerAll = false) (hx : j.collector = some x)
    (hp : (j.panto x).state = .inContact) (hc : j.lsi.confirmed.isSystem = false) : j.closeFailure = some .mismatch := by
  have hcoll : j.collecting = true := by
    unfold Jobs.collecting
    rw [hx]
    simp [hp]
  have hentry : j.confirmedEntry = none := by
    unfold Jobs.confirmedEntry
    have hnone : j.lsi.confirmed.index = none := by simpa [Line.isSystem] using hc
    rw [hnone]
    rfl
  unfold Jobs.closeFailure
  rw [hl, hcoll, hentry]
  rfl

/-! ### Changes that other blocks report -/

theorem Jobs.csPanto_failed {x : Panto} {old new : PState} {role : Role}
    (h : m = if collectorGone old new role then j.csCollectorGone else j) (hl : m.csContactLost old new role = false) :
    j.csPanto x old new role = if m.csPantoFailed x new role then m.failStep .pantograph else m.csTest false := by
  unfold Jobs.csPanto
  rw [← h]
  dsimp only
  rw [hl]
  rfl

/-- R50: what the loss of the collector alone makes of the sequencer. -/
theorem Jobs.csCollectorGone_resting (h : j.cs.state = .idle ∨ j.cs.state = .armed) :
    j.csCollectorGone = j.setOpen.setCs { j.setOpen.cs with closingSystem := none } := by
  unfold Jobs.csCollectorGone
  dsimp only
  rcases h with h | h <;> rw [Jobs.setOpen_cs, h]

theorem Jobs.csCollectorGone_held
    (h : j.cs.state = .opening ∨ j.cs.state = .coasting ∨ j.cs.state = .identifying ∨ j.cs.state = .closing) :
    j.csCollectorGone = j.setOpen.failStep .pantograph := by
  unfold Jobs.csCollectorGone
  dsimp only
  rcases h with h | h | h | h <;> rw [Jobs.setOpen_cs, h]

theorem Jobs.csCollectorGone_kept (h : j.cs.state = .lowering ∨ j.cs.state = .selecting ∨ j.cs.state = .raising ∨
    j.cs.state = .hold) : j.csCollectorGone = j.setOpen := by
  unfold Jobs.csCollectorGone
  dsimp only
  rcases h with h | h | h | h <;> rw [Jobs.setOpen_cs, h]

theorem collectorGone_iff (old new : PState) : collectorGone old new .collector = true ↔
    (old = .inContact ∨ old = .raising) ∧ (new = .lowering ∨ new = .dropped ∨ new = .faulted) := by
  cases old <;> cases new <;> simp [collectorGone]

/-- R50: in LOWERING, SELECTING, RAISING and HOLD the loss of the collector only puts the command to OPEN. -/
theorem Jobs.csPanto_kept {x : Panto} {old new : PState} {role : Role} (h : j.cs.state = .lowering ∨ j.cs.state = .selecting ∨
    j.cs.state = .raising ∨ j.cs.state = .hold) :
    ∃ m, (collectorGone old new role = true → m = j.setOpen) ∧ (collectorGone old new role = false → m = j) ∧
      m.cs.state = j.cs.state ∧ m.cs.chosen = j.cs.chosen ∧ (j.tableWf → m.tableWf) ∧
      j.csPanto x old new role = if m.csPantoFailed x new role then m.failStep .pantograph else m.csTest false := by
  have hlost : ∀ m : Jobs, m.cs.state = j.cs.state → m.csContactLost old new role = false := by
    intro m hm
    unfold Jobs.csContactLost
    rcases h with h | h | h | h <;> simp [hm, h]
  cases hg : collectorGone old new role with
  | true =>
    refine ⟨j.setOpen, fun _ => rfl, fun h => absurd h (by decide), by rw [Jobs.setOpen_cs], by rw [Jobs.setOpen_cs],
      (Held.setOpen j).tableWf, ?_⟩
    refine Jobs.csPanto_failed ?_ (hlost _ (by rw [Jobs.setOpen_cs]))
    rw [hg, if_pos rfl, Jobs.csCollectorGone_kept h]
  | false =>
    refine ⟨j, fun h => absurd h (by decide), fun _ => rfl, rfl, rfl, id, Jobs.csPanto_failed ?_ (hlost _ rfl)⟩
    rw [hg]
    rfl

theorem Jobs.lsiRestart_cs (j : Jobs) : j.lsiRestart.cs = j.cs := by
  have hlost : j.lostEntries.cs = j.cs := (congrArg Jobs.cs j.lostEntries_spec.1 :)
  unfold Jobs.lsiRestart Jobs.lsiAfresh
  dsimp only
  split <;> exact hlost

theorem Jobs.failStep_opens (r : HoldReason) (j : Jobs) :
    (j.failStep r).cs.command = .open ∧ (j.failStep r).cs.pulse = false := by
  obtain ⟨-, -, -, hc, hp, -⟩ := Jobs.failStep_heldFor r j
  exact ⟨hc, hp⟩

/-- R45 to R47: the tests of LOWERING, SELECTING, RAISING and HOLD leave the command OPEN. -/
theorem Jobs.csTest_open (hw : j.tableWf) (hc : j.cs.command = .open) (hp : j.cs.pulse = false) (h : j.cs.state = .lowering ∨
    j.cs.state = .selecting ∨ j.cs.state = .raising ∨ j.cs.state = .hold) :
    (j.csTest false).cs.command = .open ∧ (j.csTest false).cs.pulse = false := by
  unfold Jobs.csTest
  rcases h with h | h | h | h <;> rw [h] <;> dsimp only
  · have ht := Still.touchTarget j
    have hcs : (j.touchTarget.stop .t0).cs = j.cs := ht.cs
    have hwf : (j.touchTarget.stop .t0).tableWf := ht.tableWf hw
    unfold Jobs.loweringTest
    split
    · dsimp only
      split
      · exact Jobs.failStep_opens _ _
      · obtain ⟨h1, h2, -⟩ := Jobs.enterRaising_keeps hwf
        exact ⟨h1 (by rw [hcs]; exact hc), h2 (by rw [hcs]; exact hp)⟩
      · exact Jobs.enterSelecting_keeps (by rw [hcs]; exact hc) (by rw [hcs]; exact hp)
    · exact ⟨hc, hp⟩
  · unfold Jobs.selectingTest
    split
    · exact Jobs.failStep_opens _ _
    · split
      · exact Jobs.failStep_opens _ _
      · split
        · have hwf : ((j.setCs { j.cs with selOut := none }).stop .t0).tableWf := hw
          obtain ⟨h1, h2, -⟩ := Jobs.enterRaising_keeps hwf
          exact ⟨h1 hc, h2 hp⟩
        · split
          · exact Jobs.failStep_opens _ _
          · exact ⟨hc, hp⟩
  · unfold Jobs.raisingTest
    split
    · rw [Jobs.enterIdentifying_cs, Jobs.lsiRestart_cs]
      exact ⟨hc, hp⟩
    · exact ⟨hc, hp⟩
  · exact ⟨hc, hp⟩

/-- R50: the loss of the collector in a step that needs it ends in HOLD. -/
theorem Jobs.csPanto_held {x : Panto} {old new : PState} (hg : collectorGone old new .collector = true)
    (h : j.cs.state = .opening ∨ j.cs.state = .coasting ∨ j.cs.state = .identifying ∨ j.cs.state = .closing) :
    j.csPanto x old new .collector = j.setOpen.failStep .pantograph := by
  have hstate : (j.setOpen.failStep .pantograph).cs.state = .hold := (Jobs.failStep_heldFor _ _).1
  have he := Jobs.csPanto_failed (j := j) (m := j.setOpen.failStep .pantograph) (x := x) (old := old) (new := new) (role := .collector)
    (by rw [hg, if_pos rfl, Jobs.csCollectorGone_held h]) (by unfold Jobs.csContactLost; rw [hstate]; rfl)
  rw [he]
  unfold Jobs.csPantoFailed Jobs.csTest
  rw [hstate]
  rfl

/-- R50: the loss of the collector in IDLE and ARMED. -/
theorem Jobs.csPanto_resting {x : Panto} {old new : PState} (hg : collectorGone old new .collector = true)
    (h : j.cs.state = .idle ∨ j.cs.state = .armed) : ∃ m : Jobs,
    m.cs = { j.cs with command := .open, pulse := false, closingSystem := none } ∧ m.lsi = j.lsi ∧
    j.csPanto x old new .collector = m.csTest false := by
  have hcs : (j.setOpen.setCs { j.setOpen.cs with closingSystem := none }).cs =
      { j.cs with command := .open, pulse := false, closingSystem := none } := by
    rw [Jobs.setCs_cs, Jobs.setOpen_cs]
  have hstate : (j.setOpen.setCs { j.setOpen.cs with closingSystem := none }).cs.state = j.cs.state := by rw [hcs]
  refine ⟨_, hcs, (OnlyChangeover.setOpen j).lsi, ?_⟩
  have he := Jobs.csPanto_failed (j := j) (m := j.setOpen.setCs { j.setOpen.cs with closingSystem := none }) (x := x) (old := old)
    (new := new) (role := .collector) (by rw [hg, if_pos rfl, Jobs.csCollectorGone_resting h])
    (by unfold Jobs.csContactLost; rw [hstate]; rcases h with h | h <;> rw [h] <;> rfl)
  rw [he]
  unfold Jobs.csPantoFailed
  rw [hstate]
  rcases h with h | h <;> rw [h] <;> rfl

/-- The tests of IDLE and ARMED, the due-time check apart, keep the record but for its state and the stale entries. -/
theorem Jobs.csTest_resting (h : j.cs.state = .idle ∨ j.cs.state = .armed) :
    ∃ state list, (j.csTest false).cs = { j.cs with state := state, list := list } := by
  unfold Jobs.csTest
  rcases h with h | h <;> rw [h] <;> dsimp only
  · split
    · exact ⟨_, _, j.enterArmed_cs⟩
    · exact ⟨_, _, rfl⟩
  · split
    · exact ⟨_, _, j.enterIdle_cs⟩
    · exact ⟨_, _, rfl⟩

/-- R52: the jobs with a feature that the sequencer builds itself, the command OPEN. -/
def Jobs.surprised (f : Feature) (x : Option Line) (j : Jobs) : Jobs :=
  j.setOpen.setCs { j.setOpen.cs with current := some f, expected := x }

theorem Jobs.surprised_cs (f : Feature) (x : Option Line) (j : Jobs) : (j.surprised f x).cs =
    { j.cs with command := .open, pulse := false, current := some f, expected := x } := by
  unfold Jobs.surprised
  rw [Jobs.setCs_cs, Jobs.setOpen_cs]

theorem Held.surprised (f : Feature) (x : Option Line) (j : Jobs) : Held j (j.surprised f x) :=
  (Held.setOpen j).trans (Held.setCs_rest _ _ rfl rfl rfl)

theorem Jobs.csConfirmed_system {e : Fin 8} (hs : j.cs.state = .idle ∨ j.cs.state = .armed) (hc : j.cs.command = .close)
    (hl : j.lsi.confirmed = .system e) (hne : j.cs.closingSystem ≠ some e) : j.csConfirmed =
      ((j.flag .systemUnexpected j.cs.state.code).surprised energising (some (.system e))).enterHold .unexpected .identifying := by
  have hrest : (j.cs.state.resting && j.cs.command == .close) = true := by
    rcases hs with hs | hs <;> simp [hs, hc, CsState.resting]
  unfold Jobs.csConfirmed
  rw [if_pos hrest, hl]
  dsimp only
  rw [if_neg hne]
  rfl

/-- R52: the feature built at a DEAD unannounced, with its coast. -/
def unannounced (coast : Nat) : Feature :=
  { kind := .neutral, number := none, target := .any, due := none, coast := coast, arrival := none }

theorem Jobs.csConfirmed_dead (hs : j.cs.state = .idle ∨ j.cs.state = .armed) (hc : j.cs.command = .close)
    (hl : j.lsi.confirmed = .dead) : j.csConfirmed =
      (((j.touch 0x151).flag .deadUnannounced (j.touch 0x151).cs.state.code).surprised
        (unannounced (travelTime (j.changeover 1).toNat (if j.speed.isKnown then j.speed.kmh else 0)))
        (((j.touch 0x151).flag .deadUnannounced (j.touch 0x151).cs.state.code).setOpen.cs.closingSystem.map Line.system)).enterCoasting := by
  have hrest : (j.cs.state.resting && j.cs.command == .close) = true := by
    rcases hs with hs | hs <;> simp [hs, hc, CsState.resting]
  unfold Jobs.csConfirmed
  rw [if_pos hrest, hl]
  dsimp only
  rw [show j.cs.state.code = (j.touch 0x151).cs.state.code by rw [(Still.touch 0x151 j).cs]]
  rfl

/-! ### The end of a coast (R43, R44) -/

/-- R43: the roof jobs once the coast timer's expiry has been taken. -/
def Jobs.coastTaken (j : Jobs) : Jobs := (j.takeExpiry .t1).setCs { j.cs with coastEnded := true }

theorem Aligned.coastTaken (j : Jobs) : Aligned j j.coastTaken := ⟨rfl, .of_tm rfl, rfl, rfl⟩

theorem Jobs.coastExpiry_of (ho : (j.timer .t1).owed ≠ []) (hs : j.cs.state = .coasting) : j.coastExpiry =
    if !j.crossing && j.coastWaits then j.coastTaken.loadStep 6 else j.coastTaken.coastOver := by
  unfold Jobs.coastExpiry
  rw [if_pos (by simp [(Jobs.expired_iff _ j).mpr ho, hs])]
  rfl

/-! ### The step timer (R51) -/

theorem Jobs.csStepTimeout_fails {r : HoldReason} (ho : (j.timer .t0).owed ≠ [])
    (h : j.cs.state = .opening ∧ r = .breaker ∨
      j.cs.state = .coasting ∧ r = (if j.lsi.confirmed = .dead then .dead else .identify) ∨
      j.cs.state = .lowering ∧ r = .pantograph ∨ j.cs.state = .selecting ∧ r = .selector ∨
      j.cs.state = .identifying ∧ j.lsi.confirmed = .pending ∧ r = .identify ∨ j.cs.state = .closing ∧ r = .breaker) :
    j.csStepTimeout = (j.takeExpiry .t0).failStep r := by
  have hlsi : (j.takeExpiry .t0).lsi = j.lsi := rfl
  unfold Jobs.csStepTimeout
  rw [if_pos ((Jobs.expired_iff _ j).mpr ho)]
  dsimp only
  rw [Jobs.takeExpiry_cs, hlsi]
  rcases h with ⟨h, rfl⟩ | ⟨h, rfl⟩ | ⟨h, rfl⟩ | ⟨h, rfl⟩ | ⟨h, hc, rfl⟩ | ⟨h, rfl⟩ <;> rw [h]
  exact if_pos hc

/-! ### The entry's target and the choice of a pantograph (R44, R47, R49) -/

/-- R49: the first failing condition of CLOSING with the collector in contact under a confirmed system. -/
theorem Jobs.closeFailure_system {e : Fin 8} {x : Panto} (hl : j.oc.lowerAll = false) (hx : j.collector = some x)
    (hp : (j.panto x).state = .inContact) (hc : j.lsi.confirmed = .system e) : j.closeFailure =
      if j.lineUsable e then
        if j.isTarget e then if j.fb.sel.at (j.lineSelector e) then none else some .selector else some .mismatch
      else some .mismatch := by
  have hcoll : j.collecting = true := by
    unfold Jobs.collecting
    rw [hx]
    simp [hp]
  have hentry : j.confirmedEntry = if j.lineUsable e then some e else none := by
    unfold Jobs.confirmedEntry
    rw [hc]
    cases hu : j.lineUsable e <;> simp [Line.index, Option.filter, hu]
  unfold Jobs.closeFailure
  rw [hl, hcoll, hentry]
  cases j.lineUsable e with
  | false => simp
  | true =>
    simp only [if_true, Bool.not_true, Bool.false_eq_true, if_false]
    cases j.isTarget e <;> cases j.fb.sel.at (j.lineSelector e) <;> simp

theorem Jobs.eitherPanto_raised (h : ∃ y, (j.panto y).state.raised = true) : (j.panto j.eitherPanto).state.raised = true := by
  have hfirst : (j.panto (if j.p1.state.raised then .p1 else if j.p2.state.raised then .p2 else j.startPanto)).state.raised =
      true := by
    by_cases h1 : j.p1.state.raised = true
    · rw [if_pos h1]; exact h1
    · rw [if_neg h1]
      by_cases h2 : j.p2.state.raised = true
      · rw [if_pos h2]; exact h2
      · obtain ⟨y, hy⟩ := h
        cases y
        · exact absurd hy h1
        · exact absurd hy h2
  unfold Jobs.eitherPanto
  cases j.collector with
  | none => exact hfirst
  | some x =>
    dsimp only
    split
    · assumption
    · exact hfirst

theorem Jobs.eitherPanto_none (h : ∀ y, (j.panto y).state.raised = false) : j.eitherPanto = j.startPanto := by
  have h1 : j.p1.state.raised = false := h .p1
  have h2 : j.p2.state.raised = false := h .p2
  unfold Jobs.eitherPanto
  cases j.collector with
  | none => simp [h1, h2]
  | some x => simp [h1, h2, h x]

theorem Jobs.raiseChoice_either {e : Fin 8}
    (h : j.csTarget = .any ∨ ∃ c, j.csTarget = .code c ∧ j.resolve c = some e ∧ j.lineSet e ≠ 1 ∧ j.lineSet e ≠ 2) :
    j.raiseChoice = some j.eitherPanto := by
  unfold Jobs.raiseChoice
  rcases h with h | ⟨c, h, hc, h1, h2⟩
  · rw [h]
  · rw [h]
    dsimp only
    rw [hc]
    dsimp only
    rw [if_neg h1, if_neg h2]

theorem Jobs.raiseChoice_set {e : Fin 8} {c : BitVec 4} (h : j.csTarget = .code c) (hc : j.resolve c = some e) :
    (j.lineSet e = 1 → j.raiseChoice = some .p1) ∧ (j.lineSet e = 2 → j.raiseChoice = some .p2) := by
  unfold Jobs.raiseChoice
  rw [h]
  dsimp only
  rw [hc]
  refine ⟨fun h1 => if_pos h1, fun h2 => ?_⟩
  dsimp only
  rw [if_neg (by omega), if_pos h2]

theorem Jobs.needsRoof_iff (e : Fin 8) (j : Jobs) : j.needsRoof e = true ↔
    (j.lineSet e = 1 ∧ j.collector ≠ some .p1) ∨ (j.lineSet e = 2 ∧ j.collector ≠ some .p2) ∨
    (j.lineSet e ≠ 1 ∧ j.lineSet e ≠ 2 ∧ j.collector = none) ∨ j.fb.sel.at (j.lineSelector e) = false := by
  unfold Jobs.needsRoof
  rw [Bool.or_eq_true, Bool.not_eq_true']
  split
  · rename_i h
    simp [h]
  · rename_i h
    simp [h]
  · rename_i h1 h2
    have h1' : j.lineSet e ≠ 1 := h1
    have h2' : j.lineSet e ≠ 2 := h2
    simp [h1', h2', Option.isNone_iff_eq_none]

/-! ### The tests of the steps -/

theorem Jobs.csTest_coasting (due : Bool) (hw : j.tableWf) (hs : j.cs.state = .coasting) (hk : k = j.csTest due) :
    (j.cs.coastEnded = false → j.cs.deadSeen = false → j.lsi.confirmed ≠ .dead → k = j) ∧
    ((j.cs.coastEnded = true ∨ j.cs.deadSeen = true ∨ j.lsi.confirmed = .dead) →
      (j.crossing = false →
        (j.cs.expected = some j.lsi.confirmed → EntersClosing j k) ∧
        (j.cs.expected ≠ some j.lsi.confirmed → j.lsi.confirmed.isSystem = true → HeldFor .mismatch .coasting k) ∧
        (j.cs.expected ≠ some j.lsi.confirmed → j.lsi.confirmed.isSystem = false →
          k.cs.state = .coasting ∧ k.cs.coastEnded = true)) ∧
      (j.crossing = true →
        (j.targetEntry = none → HeldFor .mismatch .coasting k) ∧
        ∀ e, j.targetEntry = some e →
          (j.needsRoof e = true → EntersLowering j k) ∧
          (j.needsRoof e = false → EntersIdentifying j k ∧ Reidentifies j k))) := by
  subst hk
  have he : j.csTest due = j.coastingTest := by
    unfold Jobs.csTest
    rw [hs]
  rw [he]
  refine ⟨Jobs.coastingTest_waits, fun h => ?_⟩
  rw [Jobs.coastingTest_over h]
  have hal := Aligned.coasted j
  refine ⟨fun hx => ?_, fun hx => ?_⟩
  · have hx' : j.coasted.crossing = false := hal.crossing.trans hx
    refine ⟨fun hexp => ?_, fun hexp hc => ?_, fun hexp hc => ?_⟩
    · rw [Jobs.coastOver_expected hx' hexp]
      exact (hal.trans (.stops _)).entersClosing (Jobs.enterClosing_enters hw)
    · rw [Jobs.coastOver_unexpected hx' hexp, if_pos (by exact hc)]
      have hf := Jobs.failStep_heldFor .mismatch j.coasted
      rw [show j.coasted.cs.state = .coasting from hs] at hf
      exact hf
    · rw [Jobs.coastOver_unexpected hx' hexp, if_neg (by simp [hal.only.lsi, hc])]
      exact ⟨hs, rfl⟩
  · rw [Jobs.coastOver_crossing (hal.crossing.trans hx)]
    exact hal.coastToRoof hw hs

theorem Jobs.csTest_lowering (due : Bool) (hw : j.tableWf) (hs : j.cs.state = .lowering) (hk : k = j.csTest due) :
    ((j.p1.state ≠ .lowered ∨ j.p2.state ≠ .lowered) → k = j) ∧
    (j.p1.state = .lowered → j.p2.state = .lowered →
      (j.targetEntry = none → HeldFor .mismatch .lowering k) ∧
      ∀ e, j.targetEntry = some e →
        (j.fb.sel.at (j.lineSelector e) = true → EntersRaising j k) ∧
        (j.fb.sel.at (j.lineSelector e) = false → EntersSelecting j k)) := by
  subst hk
  have he : j.csTest due = j.loweringTest := by
    unfold Jobs.csTest
    rw [hs]
  have ht := Still.touchTarget j
  have hal : Aligned j (j.touchTarget.stop .t0) := (ht.aligned hw).trans ⟨rfl, .of_tm rfl, rfl, rfl⟩
  have hwf : (j.touchTarget.stop .t0).tableWf := ht.tableWf hw
  rw [he]
  unfold Jobs.loweringTest
  refine ⟨fun h => if_neg ?_, fun h1 h2 => ?_⟩
  · rw [Jobs.bothLowered_iff]
    exact fun ⟨h1, h2⟩ => h.elim (fun h => h h1) fun h => h h2
  · rw [if_pos ((Jobs.bothLowered_iff j).mpr ⟨h1, h2⟩)]
    dsimp only
    refine ⟨fun hn => ?_, fun e he => ⟨fun hsel => ?_, fun hsel => ?_⟩⟩
    · rw [hn]
      have hf := Jobs.failStep_heldFor .mismatch (j.touchTarget.stop .t0)
      rw [show (j.touchTarget.stop .t0).cs = j.cs from ht.cs, hs] at hf
      exact hf
    · rw [he, Option.map_some, hsel]
      exact hal.entersRaising (Jobs.enterRaising_enters hwf)
    · rw [he, Option.map_some, hsel]
      exact hal.entersSelecting (Jobs.enterSelecting_enters hwf)

theorem Jobs.csTest_selecting (due : Bool) (hw : j.tableWf) (hs : j.cs.state = .selecting) (hk : k = j.csTest due) :
    (j.fb.brk ≠ .open → HeldFor .breaker .selecting k) ∧
    (j.fb.brk = .open → (j.p1.state ≠ .lowered ∨ j.p2.state ≠ .lowered) → HeldFor .pantograph .selecting k) ∧
    (j.fb.brk = .open → j.p1.state = .lowered → j.p2.state = .lowered → ∀ pos, j.cs.selOut = some pos →
      (j.fb.sel.at pos = true → EntersRaising j k ∧ k.cs.selOut = none) ∧
      (j.fb.sel.at pos = false → (j.fb.sel = .illegal → HeldFor .selector .selecting k) ∧
        (j.fb.sel ≠ .illegal → k = j))) := by
  subst hk
  have he : j.csTest due = j.selectingTest := by
    unfold Jobs.csTest
    rw [hs]
  rw [he]
  unfold Jobs.selectingTest
  refine ⟨fun h => ?_, fun hb h => ?_, fun hb h1 h2 pos hpos => ?_⟩
  · rw [if_pos h]
    have hf := Jobs.failStep_heldFor .breaker j
    rwa [hs] at hf
  · rw [if_neg (by simp [hb]), if_pos (by simpa [Jobs.bothLowered, imp_iff_not_or] using h)]
    have hf := Jobs.failStep_heldFor .pantograph j
    rwa [hs] at hf
  · rw [if_neg (by simp [hb]), if_neg (by simp [Jobs.bothLowered, h1, h2]), hpos, Option.any_some]
    refine ⟨fun hsel => ?_, fun hsel => ?_⟩
    · rw [if_pos hsel]
      have hal : Aligned j ((j.setCs { j.cs with selOut := none }).stop .t0) := ⟨rfl, .of_tm rfl, rfl, rfl⟩
      have hwf : ((j.setCs { j.cs with selOut := none }).stop .t0).tableWf := hw
      exact ⟨hal.entersRaising (Jobs.enterRaising_enters hwf), (Jobs.enterRaising_keeps hwf).2.2 rfl⟩
    · rw [if_neg (by simp [hsel])]
      refine ⟨fun hi => ?_, fun hi => if_neg hi⟩
      rw [if_pos hi]
      have hf := Jobs.failStep_heldFor .selector j
      rwa [hs] at hf

theorem Jobs.csTest_identifying (due : Bool) (hw : j.tableWf) (hs : j.cs.state = .identifying) (hk : k = j.csTest due) :
    (j.lsi.confirmed = .pending → k = j) ∧
    (∀ c, j.csTarget = .code c → j.lsi.confirmed ≠ .pending → j.lsi.confirmed ≠ .none →
      (∀ e, j.resolve c = some e → j.lsi.confirmed = .system e → EntersClosing j k) ∧
      ((∀ e, j.resolve c = some e → j.lsi.confirmed ≠ .system e) → HeldFor .mismatch .identifying k)) ∧
    (j.csTarget = .any →
      (j.lsi.confirmed = .dead → HeldFor .dead .identifying k) ∧
      (j.lsi.confirmed = .unknown → HeldFor .identify .identifying k) ∧
      ∀ e, j.lsi.confirmed = .system e → j.lineUsable e = true →
        (∀ f, j.cs.current = some f → k.cs.current
          = some { f with target := .code (BitVec.ofNat 4 (j.lineCode e)), adopted := true }) ∧
        (j.needsRoof e = true → EntersLowering j k) ∧
        (j.needsRoof e = false → ∀ j' : Jobs, j' = j.adoptTarget e → EntersClosing j' k)) := by
  subst hk
  have he : j.csTest due = j.identifyingTest := by
    unfold Jobs.csTest
    rw [hs]
  rw [he]
  refine ⟨fun hc => ?_, fun c ht h1 h2 => ?_, fun ht => ⟨fun hc => ?_, fun hc => ?_, fun e hc hu => ?_⟩⟩
  · unfold Jobs.identifyingTest
    rw [hc]
  · rw [Jobs.identifyingTest_code h1 h2 ht]
    have hr := Still.touchResolve j c
    refine ⟨fun e hres hcon => ?_, fun hno => ?_⟩
    · rw [if_pos (by simp [hres, hcon])]
      exact (hr.aligned hw).entersClosing (Jobs.enterClosing_enters (hr.tableWf hw))
    · rw [if_neg]
      · have hf := Jobs.failStep_heldFor .mismatch (j.touchResolve c)
        rw [hr.cs, hs] at hf
        exact hf
      · intro hany
        cases hres : j.resolve c with
        | none => simp [hres] at hany
        | some e =>
          rw [hres, Option.any_some, decide_eq_true_iff] at hany
          exact hno e hres hany
  · unfold Jobs.identifyingTest
    rw [hc, ht]
    have hf := Jobs.failStep_heldFor .dead j
    rwa [hs] at hf
  · unfold Jobs.identifyingTest
    rw [hc, ht]
    have hf := Jobs.failStep_heldFor .identify j
    rwa [hs] at hf
  · rw [Jobs.identifyingTest_any hc ht hu]
    have hr := Still.touchLine j e
    have hal := Jobs.adopted_aligned hw e
    have hwf : ((j.touchLine e).adoptTarget e).tableWf := hr.tableWf hw
    have hcur : ((j.touchLine e).adoptTarget e).cs.current = j.cs.current.map (fun f =>
        { f with target := .code (BitVec.ofNat 4 (j.lineCode e)), adopted := true }) := hal.current
    have hsame : SameWords j ((j.touchLine e).adoptTarget e) := (SameWords.adoptTarget e j).trans hal.words
    refine ⟨fun f hf => ?_, fun hn => ?_, fun hn => ?_⟩
    · rw [hf, Option.map_some] at hcur
      split
      · rw [Jobs.enterLowering_cs]; exact hcur
      · rw [Jobs.enterClosing_current hwf]; exact hcur
    · rw [if_pos hn]
      exact hsame.entersLowering hal.only.panto (Jobs.enterLowering_enters _)
    · rintro j' rfl
      rw [if_neg (by simp [hn])]
      exact hal.entersClosing (Jobs.enterClosing_enters hwf)

theorem Jobs.csTest_closing (due : Bool) (hw : j.tableWf) (hs : j.cs.state = .closing) (hk : k = j.csTest due) :
    (∀ r, j.closeFailure = some r → (r = .pantograph → ∀ x, j.collector = some x → (j.panto x).state ≠ .raising) →
      HeldFor r .closing k) ∧
    (j.closeFailure = some .pantograph → ∀ x, j.collector = some x → (j.panto x).state = .raising →
      EntersRaising j k ∧ k.cs.command = .open) ∧
    (j.closeFailure = none → j.fb.brk ≠ .closed → OnlyReads j k) ∧
    (j.closeFailure = none → j.fb.brk = .closed →
      k.cs = { j.cs with state := .idle, pulse := false, current := none, expected := none,
                         closingSystem := j.lsi.confirmed.index } ∧ (k.timer .t0).stopped ∧
      Flagged .changeoverDone (BitVec.ofNat 16 CsState.closing.code) k.out) := by
  subst hk
  have he : j.csTest due = j.closingTest := by
    unfold Jobs.csTest
    rw [hs]
  have ht := Still.touchClosing j
  have hcoll : j.touchClosing.contactIsLost = j.collector.any (fun x => (j.panto x).state == .raising) := by
    unfold Jobs.contactIsLost
    rw [ht.onlyChangeover.collector]
    simp only [ht.panto]
  have hfail : ∀ r, HeldFor r .closing (j.touchClosing.failStep r) := fun r => by
    have hf := Jobs.failStep_heldFor r j.touchClosing
    rwa [ht.cs, hs] at hf
  rw [he]
  unfold Jobs.closingTest
  dsimp only
  refine ⟨fun r hr hx => ?_, fun hr x hx hst => ?_, fun hn hb => ?_, fun hn hb => ?_⟩
  · rw [hr]
    split
    · rename_i heq
      cases heq
      rw [if_neg]
      · exact hfail .pantograph
      · rw [hcoll]
        cases hc : j.collector with
        | none => simp
        | some x => simpa using hx rfl x hc
    · rename_i heq
      cases heq
      exact hfail _
    · rename_i heq
      cases heq
  · rw [hr]
    dsimp only
    rw [if_pos (by rw [hcoll, hx]; simp [hst])]
    have hal := (ht.aligned hw).trans (Aligned.setOpen _)
    have hwf : j.touchClosing.setOpen.tableWf := (Held.setOpen _).tableWf (ht.tableWf hw)
    refine ⟨hal.entersRaising (Jobs.enterRaising_enters hwf), (Jobs.enterRaising_keeps hwf).1 (by simp)⟩
  · rw [hn]
    dsimp only
    rw [ht.fb, if_neg hb]
    exact ht.rest
  · rw [hn]
    dsimp only
    rw [ht.fb, if_pos hb]
    obtain ⟨hcs, htimer, hflag⟩ := j.touchClosing.closingDone_spec
    rw [ht.cs, hs] at hflag
    rw [ht.cs, ht.lsi] at hcs
    exact ⟨hcs, htimer, hflag⟩

/-- R50: what the loss of the collector makes of each state. -/
theorem Jobs.csPanto_gone {x : Panto} {old new : PState} (hw : j.tableWf) (hg : collectorGone old new .collector = true) :
    (j.csPanto x old new .collector).cs.command = .open ∧ (j.csPanto x old new .collector).cs.pulse = false ∧
    ((j.cs.state = .idle ∨ j.cs.state = .armed) → (j.csPanto x old new .collector).cs.closingSystem = none) ∧
    ((j.cs.state = .idle ∧ (j.cs.list = [] ∨ j.lsi.confirmed.isSystem = false) ∨
      j.cs.state = .armed ∧ j.cs.list ≠ []) →
      (j.csPanto x old new .collector).cs = { j.cs with command := .open, pulse := false, closingSystem := none }) ∧
    ((j.cs.state = .opening ∨ j.cs.state = .coasting ∨ j.cs.state = .identifying ∨ j.cs.state = .closing) →
      HeldFor .pantograph j.cs.state (j.csPanto x old new .collector)) ∧
    (j.cs.state = .hold → (j.csPanto x old new .collector).cs.state = .hold ∧
      (j.csPanto x old new .collector).cs.reason = j.cs.reason ∧
      (j.csPanto x old new .collector).cs.stepOfFailure = j.cs.stepOfFailure) := by
  have hopen : (j.csPanto x old new .collector).cs.command = .open ∧ (j.csPanto x old new .collector).cs.pulse = false := by
    by_cases hrest : j.cs.state = .idle ∨ j.cs.state = .armed
    · obtain ⟨m, hm, -, hk⟩ := Jobs.csPanto_resting (x := x) hg hrest
      obtain ⟨state, list, hcs⟩ := Jobs.csTest_resting (j := m) (by rw [hm]; exact hrest)
      rw [hk, hcs, hm]
      exact ⟨rfl, rfl⟩
    · by_cases hheld : j.cs.state = .opening ∨ j.cs.state = .coasting ∨ j.cs.state = .identifying ∨ j.cs.state = .closing
      · rw [Jobs.csPanto_held hg hheld]
        exact Jobs.failStep_opens _ _
      · have hkept : j.cs.state = .lowering ∨ j.cs.state = .selecting ∨ j.cs.state = .raising ∨ j.cs.state = .hold := by
          cases hs : j.cs.state <;> simp [hs] at hrest hheld ⊢
        obtain ⟨m, hm, -, hstate, -, hmw, hk⟩ := Jobs.csPanto_kept (x := x) (old := old) (new := new) (role := .collector) hkept
        rw [hk]
        split
        · exact Jobs.failStep_opens _ _
        · exact Jobs.csTest_open (hmw hw) (by rw [hm hg, Jobs.setOpen_cs]) (by rw [hm hg, Jobs.setOpen_cs])
            (by rw [hstate]; exact hkept)
  refine ⟨hopen.1, hopen.2, fun hs => ?_, fun hs => ?_, fun hs => ?_, fun hs => ?_⟩
  · obtain ⟨m, hm, -, hk⟩ := Jobs.csPanto_resting (x := x) hg hs
    obtain ⟨state, list, hcs⟩ := Jobs.csTest_resting (j := m) (by rw [hm]; exact hs)
    rw [hk, hcs, hm]
  · obtain ⟨m, hm, hlsi, hk⟩ := Jobs.csPanto_resting (x := x) hg (hs.imp And.left And.left)
    have hstay : m.csTest false = m := by
      rcases hs with ⟨hs, hl⟩ | ⟨hs, hl⟩
      · refine (Jobs.csTest_idle (j := m) false (by rw [hm]; exact hs)).1 ?_
        rw [hm, hlsi]
        exact hl
      · obtain ⟨f, rest, hcons⟩ := List.exists_cons_of_ne_nil hl
        rw [Jobs.csTest_armed_cons (j := m) false (by rw [hm]; exact hs) (by rw [hm]; exact hcons), if_neg (by simp)]
    rw [hk, hstay, hm]
  · rw [Jobs.csPanto_held hg hs]
    have hf := Jobs.failStep_heldFor .pantograph j.setOpen
    rwa [Jobs.setOpen_cs] at hf
  · obtain ⟨m, hm, -, hstate, -, -, hk⟩ := Jobs.csPanto_kept (x := x) (old := old) (new := new) (role := .collector)
      (.inr (.inr (.inr hs)))
    have hfail : m.csPantoFailed x new .collector = false := by
      unfold Jobs.csPantoFailed
      rw [hstate, hs]
    have htest : m.csTest false = m := by
      unfold Jobs.csTest
      rw [hstate, hs]
    rw [hk, if_neg (by simp [hfail]), htest, hm hg, Jobs.setOpen_cs]
    exact ⟨hs, rfl, rfl⟩

/-- R52: a DEAD that no feature has announced. -/
theorem Jobs.csConfirmed_deadens (hs : j.cs.state = .idle ∨ j.cs.state = .armed) (hc : j.cs.command = .close)
    (hl : j.lsi.confirmed = .dead) :
    j.csConfirmed.cs.state = .coasting ∧ j.csConfirmed.cs.command = .open ∧ j.csConfirmed.cs.deadSeen = true ∧
    Flagged .deadUnannounced (BitVec.ofNat 16 j.cs.state.code) j.csConfirmed.out ∧
    j.csConfirmed.cs.expected = j.cs.closingSystem.map Line.system ∧
    ∀ kmh, kmh = (if j.speed.known = true ∧ j.speed.aged = false then j.speed.kmh else 0) →
      j.csConfirmed.cs.current = some { kind := .neutral, number := none, target := .any, due := none, arrival := none,
                                        coast := (j.changeover 1).toNat * 3600 / max 5 kmh } := by
  have ht := (Still.touch 0x151 j).cs
  have hlsi := (Still.touch 0x151 j).lsi
  have hflag := Flagged.flag .deadUnannounced (j.touch 0x151).cs.state.code (j.touch 0x151)
  rw [Jobs.csConfirmed_dead hs hc hl]
  generalize hf : (j.touch 0x151).flag .deadUnannounced (j.touch 0x151).cs.state.code = a at hflag ⊢
  have hacs : a.cs = j.cs := by rw [← hf, Jobs.flag_cs, ht]
  have halsi : a.lsi = j.lsi := by rw [← hf]; exact hlsi
  have hx : a.setOpen.cs.closingSystem.map Line.system = j.cs.closingSystem.map Line.system := by rw [Jobs.setOpen_cs, hacs]
  rw [hx]
  rw [ht] at hflag
  have hsur := Held.surprised (unannounced (travelTime (j.changeover 1).toNat (if j.speed.isKnown then j.speed.kmh else 0)))
    (j.cs.closingSystem.map Line.system) a
  have hlsi' : (a.surprised (unannounced (travelTime (j.changeover 1).toNat (if j.speed.isKnown then j.speed.kmh else 0)))
      (j.cs.closingSystem.map Line.system)).lsi = j.lsi := ((OnlyChangeover.setOpen a).lsi).trans halsi
  obtain ⟨-, hcs, -⟩ := Jobs.enterCoasting_spec (a.surprised
    (unannounced (travelTime (j.changeover 1).toNat (if j.speed.isKnown then j.speed.kmh else 0)))
    (j.cs.closingSystem.map Line.system))
  rw [Jobs.surprised_cs] at hcs
  refine ⟨by rw [hcs], by rw [hcs], ?_, hflag.held (hsur.trans (Held.enterCoasting _)), by rw [hcs], fun kmh hkmh => ?_⟩
  · rw [hcs, hlsi', hl]
    rfl
  · have hspeed : (if j.speed.isKnown then j.speed.kmh else 0) = kmh := by
      rw [hkmh]
      unfold SpeedRec.isKnown
      cases j.speed.known <;> cases j.speed.aged <;> simp
    rw [hcs, hspeed]
    unfold unannounced travelTime
    rw [Nat.max_comm]

end Sys2Proof.Machine

open Sys2Proof Sys2Proof.Machine

/-- Settles O51: the tests state by state, the changes by their kinds, the two timers by their expiries. -/
theorem changeoverTimeouts : Obligations.ChangeoverTimeouts := by
  unfold Obligations.ChangeoverTimeouts
  refine ⟨?pump, ?tests, ?conditions, ?lowerAll, ?gone, ?lowers, ?confirmed, ?tripped, ?noExpiry, ?expired, ?none, ?noCoast,
    ?coast, ?pulse⟩
  case pump =>
    intro n j c rest hd ht
    rw [Jobs.pump, ht]
    dsimp only
    unfold Jobs.answer
    rw [if_pos (show (j.setTodo rest).dev = .run from hd)]
  case tests =>
    rintro due j k hw rfl
    refine ⟨fun hs => ?idle, fun hs => ?armed, fun hs => ?opening, fun hs => ?coasting, fun hs => ?lowering, fun hs => ?selecting,
      fun hs => ?raising, fun hs => ?identifying, fun hs => ?closing, fun hs => ?hold⟩
    case idle =>
      obtain ⟨hstay, harm⟩ := Jobs.csTest_idle due hs
      refine ⟨hstay, fun hl hc => ?_⟩
      rw [harm hl hc]
      refine ⟨j.enterArmed_cs, j.enterArmed_todo, fun g hg hst => ?_, fun hall => ?_⟩
      · exact (Jobs.dropStale_flags j g hg hst).of_prefix List.prefix_rfl
      · have he : j.enterArmed.csReact .cs = j.enterArmed.enterIdle := Jobs.enterArmed_stale hall
        have hnil : j.cs.list.filter (fun g => !g.staleMark) = [] := by
          rw [List.filter_eq_nil_iff]
          intro g hg
          simp [hall g hg]
        rw [he, Jobs.enterIdle_cs, Jobs.enterArmed_cs, hnil]
        exact ⟨rfl, by rw [Jobs.enterIdle_timer, if_pos rfl]; exact Timer.stopped_stop _⟩
    case armed =>
      refine ⟨fun hl => ?_, fun f rest hl => ?_⟩
      · rw [Jobs.csTest_armed_nil due hs hl]
        exact ⟨rfl, by rw [Jobs.enterIdle_timer, if_pos rfl]; exact Timer.stopped_stop _⟩
      · rw [Jobs.csTest_armed_cons due hs hl]
        refine ⟨fun h => if_neg ?_, fun hdue hmark hhold => ?_⟩
        · rcases h with h | h | h <;> simp [h]
        · rw [if_pos ⟨hdue, hmark, hhold⟩, Jobs.takeHead_eq]
          refine ⟨fun hc => ?_, fun hc => ?_⟩
          · rw [if_pos hc]
            exact ⟨Jobs.enterOpening_cs _, Jobs.enterOpening_timer (j.headTaken f rest)⟩
          · rw [if_neg (by simp [hc])]
            refine ⟨Jobs.enterHold_heldFor .identify .armed _, ?_, ?_, ?_⟩ <;> rw [Jobs.enterHold_cs] <;> rfl
    case opening =>
      unfold Jobs.csTest
      rw [hs]
      dsimp only
      refine ⟨fun h => if_neg h, fun h => ?_⟩
      rintro coast rfl
      rw [if_pos h]
      obtain ⟨-, h1, h2, h3⟩ := j.enterCoasting_spec
      exact ⟨h1, h2, h3⟩
    case coasting => exact Jobs.csTest_coasting due hw hs rfl
    case lowering => exact Jobs.csTest_lowering due hw hs rfl
    case selecting => exact Jobs.csTest_selecting due hw hs rfl
    case raising =>
      intro x hx
      unfold Jobs.csTest Jobs.raisingTest
      rw [hs, hx]
      dsimp only
      rw [Option.any_some]
      refine ⟨fun h => if_neg (by simpa using h), fun h => ?_⟩
      rw [if_pos (by simpa using h)]
      exact Jobs.restart_identifies hw
    case identifying => exact Jobs.csTest_identifying due hw hs rfl
    case closing => exact Jobs.csTest_closing due hw hs rfl
    case hold =>
      unfold Jobs.csTest
      rw [hs]
  case conditions =>
    intro j e
    refine ⟨fun hl => ?_, fun hl => ⟨fun hno => ?_, fun x hx hp => ⟨fun hc => ?_, fun hc => ?_⟩⟩, Jobs.needsRoof_iff e j,
      fun c ht hr => Jobs.raiseChoice_set ht hr, fun x ht hx => ?_⟩
    · unfold Jobs.closeFailure
      rw [if_pos hl]
    · have hcoll : j.collecting = false := by
        unfold Jobs.collecting
        cases hx : j.collector with
        | none => rfl
        | some x => simpa using hno x hx
      unfold Jobs.closeFailure
      rw [hl, hcoll]
      rfl
    · exact Jobs.closeFailure_noSystem hl hx hp hc
    · rw [Jobs.closeFailure_system hl hx hp hc]
      refine ⟨fun hu => by rw [if_neg (by simp [hu])], fun hu meets hcur hneu hoth => ?_⟩
      have hmeets : j.isTarget e = meets := by
        unfold Jobs.isTarget
        cases hf : j.cs.current with
        | none => exact (hcur hf).symm
        | some f =>
          rw [Bool.eq_iff_iff]
          dsimp only
          by_cases hk : f.kind = .neutral
          · rw [if_pos hk, hneu f hf hk, beq_iff_eq]
          · rw [if_neg hk, hoth f hf hk]
            cases f.target <;> simp
      rw [if_pos hu, hmeets]
      refine ⟨fun hm => by rw [if_neg (by simp [hm])], fun hm hs => by rw [if_pos hm, if_neg (by simp [hs])],
        fun hm hs => by rw [if_pos hm, if_pos hs]⟩
    · rw [Jobs.raiseChoice_either ht, Option.some.injEq] at hx
      subst hx
      exact ⟨Jobs.eitherPanto_raised, Jobs.eitherPanto_none⟩
  case lowerAll =>
    rintro j k rfl
    have he : j.csReact .lowerAllOn = j.csLowerAll := rfl
    rw [he]
    unfold Jobs.csLowerAll
    refine ⟨fun h => by rw [h]; exact Jobs.setOpen_cs j, fun h => by rw [h], fun h1 h2 => ?_⟩
    split
    · exact absurd (by assumption) h1
    · exact absurd (by assumption) h2
    · exact Jobs.failStep_heldFor .lowerAll j
  case gone =>
    rintro j k x old new hw rfl
    have he : j.csReact (.panto x old new .collector) = j.csPanto x old new .collector := rfl
    rw [he]
    refine ⟨fun hold hnew => ?_, fun hold hnew hs => ?_, fun hs hx hnew => ?_⟩
    · exact Jobs.csPanto_gone hw ((collectorGone_iff old new).mpr ⟨hold, hnew⟩)
    · have hg : collectorGone old new .collector = false := by rw [hold, hnew]; rfl
      have hl : j.csContactLost old new .collector = true := by
        unfold Jobs.csContactLost
        rw [hs, hold, hnew]
        rfl
      have hm : (if collectorGone old new .collector = true then j.csCollectorGone else j) = j := by
        rw [hg]
        rfl
      unfold Jobs.csPanto
      dsimp only
      rw [hm, hl, if_pos rfl]
      exact Jobs.enterRaising_enters hw
    · obtain ⟨m, -, -, hstate, hchosen, -, hk⟩ := Jobs.csPanto_kept (x := x) (old := old) (new := new) (role := .collector)
        (.inr (.inr (.inl hs)))
      have hfail : m.csPantoFailed x new .collector = true := by
        unfold Jobs.csPantoFailed
        rw [hstate, hs, hchosen, hx]
        rcases hnew with rfl | rfl | rfl <;> simp
      rw [hk, if_pos hfail]
      have hf := Jobs.failStep_heldFor .pantograph m
      rwa [hstate, hs] at hf
  case lowers =>
    rintro j k x old new role hw rfl hs hnew
    obtain ⟨m, -, -, hstate, -, -, hk⟩ := Jobs.csPanto_kept (x := x) (old := old) (new := new) (role := role) (.inl hs)
    have hfail : m.csPantoFailed x new role = true := by
      unfold Jobs.csPantoFailed
      rw [hstate, hs]
      rcases hnew with rfl | rfl <;> rfl
    have he : j.csReact (.panto x old new role) = j.csPanto x old new role := rfl
    rw [he, hk, if_pos hfail]
    have hf := Jobs.failStep_heldFor .pantograph m
    rwa [hstate, hs] at hf
  case confirmed =>
    rintro j k rfl hs hc
    have he : j.csReact .confirmed = j.csConfirmed := rfl
    rw [he]
    refine ⟨fun e hcon hne => ?_, fun hcon => ?_⟩
    · rw [Jobs.csConfirmed_system hs hc hcon hne]
      refine ⟨Jobs.enterHold_heldFor .unexpected .identifying _, ?_, ?_, ?_⟩
      · exact (Flagged.flag _ _ j).held ((Held.surprised _ _ _).trans (Held.enterHold _ _ _))
      · rw [Jobs.enterHold_cs, Jobs.surprised_cs]
      · rw [Jobs.enterHold_cs, Jobs.surprised_cs]
        rfl
    · exact Jobs.csConfirmed_deadens hs hc hcon
  case tripped =>
    rintro j k rfl hs hc
    have he : j.csReact (.breaker .closed .open) = j.csBreaker .closed .open := rfl
    have hrest : j.cs.state.resting = true := by rcases hs with hs | hs <;> rw [hs] <;> rfl
    rw [he]
    unfold Jobs.csBreaker
    rw [if_pos ⟨rfl, rfl, hrest, hc⟩]
    dsimp only
    refine ⟨by rw [Jobs.enterIdle_cs, Jobs.setCs_cs, Jobs.setOpen_cs, Jobs.flag_cs], ?_⟩
    have hopen := (Flagged.flag .breakerTripped j.cs.state.code j).held (Held.setOpen _)
    exact hopen
  case noExpiry =>
    intro s hr ho
    refine EndsFrom.work_same hr rfl ?_
    rw [Jobs.csStepTimeout, Jobs.expired_not ho]
    rfl
  case expired =>
    intro s r hr ho hs
    obtain ⟨-, -, -, -, -, -, h0, h1, hf⟩ := Jobs.failStep_heldFor r (s.jobs.takeExpiry .t0)
    refine ⟨_, (OnlyChangeover.takeExpiry .t0 s.jobs).trans (.enterHold _ _ _), EndsFrom.work hr rfl (Jobs.csStepTimeout_fails ho hs),
      ?_, hf, h0, h1, (OtherTimers.onTimer (by simp) _ _).trans (Jobs.enterHold_others _ _ _)⟩
    exact Jobs.enterHold_cs _ _ _
  case none =>
    intro s hr ho hs
    refine EndsFrom.work hr rfl ?_
    unfold Jobs.csStepTimeout
    rw [if_pos ((Jobs.expired_iff _ _).mpr ho)]
    rcases hs with hs | hs | hs | hs | ⟨hs, hc⟩
    · simp [hs]
    · simp [hs]
    · simp [hs]
    · simp [hs]
    · have hlsi : (s.jobs.takeExpiry .t0).lsi = s.jobs.lsi := rfl
      simp [hs, hlsi, hc]
  case noCoast =>
    intro s hr h
    refine EndsFrom.work_same hr rfl (if_neg ?_)
    rcases h with h | h
    · simp [Jobs.expired_not h]
    · simp [h]
  case coast =>
    intro s f hl ho hs hf
    have hal := Aligned.coastTaken s.jobs
    have hends : ∀ {j : Jobs}, s.jobs.coastExpiry = j → EndsFrom .coastExpiry s (s.setJobs j) := fun e => EndsFrom.work hl.1 rfl e
    have he := Jobs.coastExpiry_of ho hs
    refine ⟨fun hk => ?_, fun hk => ?_⟩
    · have hx : s.jobs.crossing = false := by
        unfold Jobs.crossing
        rw [hf]
        simp [hk]
      have hx' : s.jobs.coastTaken.crossing = false := hx
      refine ⟨fun hexp hc => ?_, fun hexp hc => ?_, fun hexp hn => ?_⟩
      · rw [if_pos (by simp [hx, Jobs.coastWaits, hexp, hc])] at he
        refine ⟨_, hal.only.trans (.loadStep 6 _), hends he, Jobs.loadStep_cs 6 _, ?_⟩
        rw [Jobs.loadStep_timer, if_pos rfl, hal.words.changeover]
        exact Timer.loaded_timing _ _ _
      · rw [if_neg (by simp [Jobs.coastWaits, hc]), Jobs.coastOver_unexpected hx' hexp, if_pos (by exact hc)] at he
        obtain ⟨h1, h2, h3, h4, -⟩ := Jobs.failStep_heldFor .mismatch s.jobs.coastTaken
        exact ⟨_, hal.only.trans (.enterHold _ _ _), hends he, h1, h2, h3.trans (congrArg some hs), h4⟩
      · rw [if_neg (by simp [Jobs.coastWaits, hexp]), Jobs.coastOver_expected hx' hexp] at he
        have hal' := hal.trans (.stops _)
        have hwf : ((s.jobs.coastTaken.stop .t0).stop .t1).tableWf := hl.2.1
        obtain ⟨h1, h2, h3, h4, -⟩ := Jobs.enterClosing_of_none hwf (hal'.closeFailure.trans hn)
        rw [hal'.words.changeover] at h3 h4
        exact ⟨_, hal'.only.trans h1, hends he, by rw [h2], by rw [h2], by rw [h2], h3, h4⟩
    · have hx : s.jobs.crossing = true := by
        unfold Jobs.crossing
        rw [hf]
        rcases hk with hk | hk <;> simp [hk]
      rw [if_neg (by simp [hx]), Jobs.coastOver_crossing (hal.crossing.trans hx)] at he
      exact ⟨_, hends he, hal.coastToRoof hl.2.1 hs⟩
  case pulse =>
    intro s hr
    refine ⟨fun h => EndsFrom.work_same hr rfl (if_neg ?_), fun ho hs => EndsFrom.work hr rfl (if_pos ?_)⟩
    · rcases h with h | h
      · simp [Jobs.expired_not h]
      · simp [h]
    · simp [(Jobs.expired_iff _ _).mpr ho, hs]

end

section
/-! PROOFS. CLEAR_FLAGS, REARM and the frames that name no operation (O47). -/

namespace Sys2Proof.Machine

open Sys2Proof

variable {s t u : State} {f : Frame}

/-! ### A SERVICE frame taken and answered -/

theorem State.consume_took (f : Frame) (s : State) : Took .train f .consumed s (s.consume f) := Took.judgeRouted .train f .consumed s

theorem State.consume_nu (f : Frame) (s : State) : (s.consume f).nu = s.nu := by rw [(s.consume_took f).2]

theorem State.consume_still (f : Frame) (s : State) : Still s.jobs (s.consume f).jobs := State.after_spec f s

/-- R186: a reply that is wanted, or whose status is not OK. -/
theorem State.reply_of {c : SvcControl} {op : Nat} {st : Status} (h : c.reply = true ∨ st ≠ .ok) (s : State) :
    s.reply f c op st = s.onJobs (fun j => j.report (.frame (serviceReply f.seq op st))) := by
  unfold State.reply
  rw [if_pos]
  rcases h with h | h <;> simp [h]

theorem State.reply_ok (c : SvcControl) (op : Nat) (s : State) : s.reply f c op .ok =
    s.onJobs (fun j => if c.reply then j.report (.frame (serviceReply f.seq op .ok)) else j) := by
  unfold State.reply
  cases c.reply <;> rfl

theorem State.reply_still (f : Frame) (c : SvcControl) (op : Nat) (st : Status) (s : State) :
    Still s.jobs (s.reply f c op st).jobs ∧ s.reply f c op st = s.setJobs (s.reply f c op st).jobs ∧
    (c.reply = true ∨ st ≠ .ok → .frame (serviceReply f.seq op st) ∈ (s.reply f c op st).jobs.out) := by
  by_cases h : c.reply = true ∨ st ≠ .ok
  · rw [State.reply_of h]
    exact ⟨.setOut _ _, rfl, fun _ => List.mem_append_right _ (List.mem_singleton_self _)⟩
  · have hno : ¬ (c.reply || decide (st ≠ .ok)) = true := by simpa using h
    unfold State.reply
    rw [if_neg hno]
    exact ⟨.refl _, rfl, fun hr => absurd hr h⟩

/-! ### CLEAR_FLAGS (R188) -/

/-- R188: the flags that a mask's two words name are cleared, bits 27 to 31 ignored. -/
theorem clearFlags_bit (low high : Word) (flags : Long) (n : Nat) : (clearFlags low high flags).getLsbD n =
    (flags.getLsbD n && !(if n < 16 then low.getLsbD n else if n < 27 then high.getLsbD (n - 16) else false)) := by
  have hmask : (0x07FFFFFF#32).getLsbD n = decide (n < 27) := by
    rw [show (0x07FFFFFF#32) = BitVec.ofNat 32 (2 ^ 27 - 1) from rfl, BitVec.getLsbD_ofNat, Nat.testBit_two_pow_sub_one]
    by_cases h : n < 27
    · simp [h, show n < 32 by omega]
    · simp [h]
  unfold clearFlags
  simp only [BitVec.getLsbD_and, BitVec.getLsbD_not, BitVec.getLsbD_or, BitVec.getLsbD_setWidth, BitVec.getLsbD_shiftLeft, hmask]
  by_cases h32 : n < 32
  · by_cases h16 : n < 16
    · simp [h32, h16, show n < 27 by omega]
    · have hlow : low.getLsbD n = false := BitVec.getLsbD_of_ge _ _ (by omega)
      by_cases h27 : n < 27
      · simp [h32, h16, h27, hlow, show n - 16 < 32 by omega]
      · simp [h32, h16, h27]
  · have hflag : flags.getLsbD n = false := BitVec.getLsbD_of_ge _ _ (by omega)
    simp [hflag]

/-! ### REARM (R176, R178) -/

theorem Jobs.param_bad {j : Jobs} {i : Nat} (h : j.bad i = true) (d : Word) : j.param i d = d := by
  unfold Jobs.param
  rw [if_pos h]

theorem Jobs.param_good {j : Jobs} {i : Nat} (h : j.bad i = false) (d : Word) : j.param i d = j.word i := by
  unfold Jobs.param
  rw [if_neg (by simp [h])]

/-- R178: the indexes that a REARM leaves. -/
theorem Capture.rearm_eq (options descriptor point mask post : Word) (c : Capture) (m : CaptureMode)
    (hm : m = captureMode (bits options 0 2)) : c.rearm options descriptor point mask post =
      { mem := c.mem, mode := m, unmatched := bit options 8, trigger := triggerOf descriptor point mask,
        post := min 255 post.toNat, state := .armed, remaining := 0, place := none,
        frameIndex := if c.mode = m ∨ m = .events then c.frameIndex else 0,
        eventIndex := if c.mode = m ∨ m = .frames then c.eventIndex else if m = .mixed then 128 else 0 } := by
  unfold Capture.rearm Capture.home
  dsimp only
  rw [← hm]
  by_cases h : c.mode = m
  · simp [h]
  · cases hk : m <;> rw [hk] at h <;> simp [h]

theorem captureMode_iff (n : Nat) : (captureMode n = .frames ↔ n = 1) ∧ (captureMode n = .events ↔ n = 2) ∧
    (captureMode n = .mixed ↔ n ≠ 1 ∧ n ≠ 2) := by
  by_cases h1 : n = 1
  · subst h1; decide
  · by_cases h2 : n = 2
    · subst h2; decide
    · have hm : captureMode n = .mixed := by
        unfold captureMode
        split
        · exact absurd rfl h1
        · exact absurd rfl h2
        · rfl
      rw [hm]
      simp [h1, h2]

/-- R176: the directions that a descriptor's field names. -/
def directionOf (n : Nat) : Option Direction :=
  match n with
  | 1 => some .up
  | 2 => some .down
  | _ => none

theorem directionOf_iff {n : Nat} (h : n < 4) : (directionOf n = some .up ↔ n = 1) ∧ (directionOf n = some .down ↔ n = 2) ∧
    (directionOf n = none ↔ n = 0 ∨ n = 3) := by
  interval_cases n <;> decide

theorem kindOf_iff {n : Nat} (h : n < 8) (x : Kind) : kindOf n = x ↔ x.code = n := by
  interval_cases n <;> cases x <;> decide

theorem triggerOf_frame {d : Word} (point mask : Word) (h : bits d 14 2 = 1) : triggerOf d point mask =
    .frame (directionOf (bits d 12 2)) (if bits d 8 4 ≤ 7 then some (kindOf (bits d 8 4)) else none) point mask := by
  unfold triggerOf directionOf
  rw [h]
  rfl

end Sys2Proof.Machine

open Sys2Proof Sys2Proof.Machine

/-- Settles O47. -/
theorem flagsAndRearm : Obligations.FlagsAndRearm := by
  unfold Obligations.FlagsAndRearm
  refine ⟨?clear, ?rearm, captureMode_iff, ?trigger, fun j i d => ⟨fun h => Jobs.param_bad h d, fun h => Jobs.param_good h d⟩,
    ?unknown⟩
  case clear =>
    rintro s h c addr low high extra f hr rfl
    refine ⟨((s.consume (serviceFrame h 3 c (addr :: low :: high :: extra))).setNu
      { s.nu with flags := clearFlags low high s.nu.flags }).onJobs
        (fun j => if c.reply then j.report (.frame (serviceReply h.seq 3 .ok)) else j), ?_, rfl, clearFlags_bit low high s.nu.flags⟩
    refine EndsFrom.of_taking (k := fun f s => s.serviceClear f c low high) hr rfl rfl ?_
    unfold State.serviceClear
    dsimp only
    rw [State.consume_nu, State.reply_ok]
    rfl
  case rearm =>
    rintro s h c extra f d b m hl rfl rfl rfl rfl
    have hk := State.consume_still (serviceFrame h 4 c extra) s
    have hd := (Delivered.drain 1024 (s.consume (serviceFrame h 4 c extra))).jobs
    have hs := hk.trans hd
    have hsame := hs.sameWords hl.2.1
    generalize hdd : (s.consume (serviceFrame h 4 c extra)).drain 1024 = d at *
    have harm : d.rearm = (d.setCb (d.cb.rearm (s.jobs.param 5 0) (s.jobs.param 6 0) (s.jobs.param 7 0) (s.jobs.param 8 0)
        (s.jobs.param 9 0))).setJobs (d.jobs.touchAll (span 5 5)) := by
      unfold State.rearm
      simp only [hsame.param]
      rfl
    obtain ⟨hstill, heq, hout⟩ := State.reply_still (serviceFrame h 4 c extra) c 4 .ok d.rearm
    have hreads : Still s.jobs (d.rearm.reply (serviceFrame h 4 c extra) c 4 .ok).jobs := by
      refine (hs.trans (Still.touchAll (span 5 5) d.jobs)).trans ?_
      rw [harm] at hstill ⊢
      exact hstill
    refine ⟨d.rearm.reply (serviceFrame h 4 c extra) c 4 .ok, ?_, hreads.rest, ?_, ?_, fun hc => hout (.inl hc)⟩
    · refine EndsFrom.of_taking (k := fun f s => s.serviceRearm f c) hl.1 rfl rfl ?_
      unfold State.serviceRearm
      rw [hdd]
    · rw [heq, harm]
      rfl
    · rw [heq, harm]
      exact Capture.rearm_eq _ _ _ _ _ _ _ rfl
  case trigger =>
    rintro d point mask t rfl
    refine ⟨fun h => ?_, fun h => ?_, fun h => ?_⟩
    · unfold triggerOf
      rcases h with h | h <;> rw [h] <;> rfl
    · unfold triggerOf
      rw [h]
      rfl
    · obtain ⟨hup, hdown, hnone⟩ := directionOf_iff (n := bits d 12 2) (Nat.mod_lt _ (by decide))
      refine ⟨_, _, triggerOf_frame point mask h, hup, hdown, hnone, fun x => ?_, ?_⟩
      · by_cases hk : bits d 8 4 ≤ 7
        · rw [if_pos hk, Option.some.injEq, kindOf_iff (by omega)]
        · have hx := Kind.code_lt x
          rw [if_neg hk]
          simp only [reduceCtorEq, false_iff]
          omega
      · by_cases hk : bits d 8 4 ≤ 7
        · rw [if_pos hk]
          simp only [reduceCtorEq, false_iff]
          omega
        · rw [if_neg hk]
          simp only [true_iff]
          omega
  case unknown =>
    intro s h payload hr
    refine EndsFrom.of_taking (k := fun f s => s.serviceUnknown f) hr rfl rfl ?_
    unfold State.serviceUnknown
    cases payload with
    | nil => rfl
    | cons w ws =>
      have hw : bits w 13 3 = w.toNat / 8192 := by
        have := w.isLt
        unfold bits
        omega
      dsimp only
      rw [hw]
      rfl

end

section
/-! PROOFS. The point image table rebuilt, and the resets (O19, O49): the roof jobs at their resets, the reset line and
RESTART. -/

namespace Sys2Proof.Machine

open Sys2Proof

variable {s t u : State} {j k l : Jobs}

/-! ### The distinct points of the point map (R103) -/

theorem firstOf_append (ps : List Word) (p : Word) :
    firstOf (ps ++ [p]) = if (firstOf ps).contains p then firstOf ps else firstOf ps ++ [p] := by
  unfold firstOf
  rw [List.foldl_append]
  rfl

theorem mem_firstOf (ps : List Word) (p : Word) : p ∈ firstOf ps ↔ p ∈ ps := by
  induction ps using List.reverseRecOn with
  | nil => exact Iff.rfl
  | append_singleton ps q ih =>
    rw [firstOf_append, List.mem_append, List.mem_singleton, ← ih]
    split
    · rename_i h
      refine ⟨.inl, ?_⟩
      rintro (h' | rfl)
      · exact h'
      · exact List.contains_iff_mem.mp h
    · rw [List.mem_append, List.mem_singleton]

/-- R103: a point comes before another whose roles all come after one of its own. -/
def PointBefore (rs : List MapRole) (point : MapRole → Word) (p q : Word) : Prop :=
  ∃ r ∈ rs, point r = p ∧ ∀ r' ∈ rs, point r' = q → r.index < r'.index

theorem firstOf_ordered (point : MapRole → Word) (rs : List MapRole) (hrs : rs.Pairwise fun a b => a.index < b.index) :
    (firstOf (rs.map point)).Pairwise (PointBefore rs point) := by
  induction rs using List.reverseRecOn with
  | nil => exact List.Pairwise.nil
  | append_singleton rs r ih =>
    rw [List.pairwise_append] at hrs
    obtain ⟨hrs, -, hlast⟩ := hrs
    have hbefore : ∀ a ∈ rs, a.index < r.index := fun a ha => hlast a ha r (List.mem_singleton_self r)
    have hold : (firstOf (rs.map point)).Pairwise (PointBefore (rs ++ [r]) point) := by
      refine (ih hrs).imp ?_
      rintro p q ⟨a, ha, hp, hq⟩
      refine ⟨a, List.mem_append_left _ ha, hp, fun b hb hbq => ?_⟩
      rcases List.mem_append.mp hb with hb | hb
      · exact hq b hb hbq
      · rw [List.mem_singleton.mp hb]
        exact hbefore a ha
    rw [List.map_append, List.map_singleton, firstOf_append]
    split
    · exact hold
    · rename_i hnew
      rw [List.contains_iff_mem, mem_firstOf, List.mem_map] at hnew
      rw [List.pairwise_append]
      refine ⟨hold, List.pairwise_singleton _ _, fun p hp q hq => ?_⟩
      rw [List.mem_singleton] at hq
      subst hq
      obtain ⟨a, ha, rfl⟩ := List.mem_map.mp ((mem_firstOf _ p).mp hp)
      refine ⟨a, List.mem_append_left _ ha, rfl, fun b hb hbq => ?_⟩
      rcases List.mem_append.mp hb with hb | hb
      · exact absurd ⟨b, hb, hbq⟩ hnew
      · rw [List.mem_singleton.mp hb]
        exact hbefore a ha

theorem outputRoles_ordered : outputRoles.Pairwise fun a b => a.index < b.index := by decide

theorem OwnedRole.mem_all (r : OwnedRole) : r ∈ OwnedRole.all := by cases r <;> decide

/-! ### The rebuild (R103, R160) -/

theorem Rebuilt.of_words {old : Outputs} {pending : Bool} (h : Rebuilt old pending k) (hs : SameWords k l)
    (ht : l.oc.table = k.oc.table) : Rebuilt old pending l := by
  unfold Rebuilt at h ⊢
  rw [ht]
  simp only [hs.mapUsable, hs.mapPoint, hs.mapBit]
  exact h

theorem Jobs.pointEntry_spec (keep : Bool) (p : Word) (old : Outputs) (j : Jobs)
    (hold : old.entry p = if keep then j.oc.entry p else none) :
    (∀ (r : OwnedRole) (b : BitRef), (r, b) ∈ (j.pointEntry keep p).owned ↔
      j.mapUsable r.mapRole = true ∧ j.mapPoint r.mapRole = p ∧ b = j.mapBit r.mapRole) ∧
    (j.pointEntry keep p).earth =
      (if j.mapUsable .earth = true ∧ j.mapPoint .earth = p then some (j.mapBit .earth) else none) ∧
    (∀ o, old.entry p = some o → (j.pointEntry keep p).lastWord = o.lastWord ∧ (j.pointEntry keep p).lastSent = o.lastSent) ∧
    (old.entry p = none → (j.pointEntry keep p).lastWord = 0 ∧ (j.pointEntry keep p).lastSent = 0) := by
  unfold Jobs.pointEntry
  dsimp only
  rw [← hold]
  refine ⟨fun r b => ?_, ?_, fun o ho => ?_, fun ho => ?_⟩
  · simp only [List.mem_map, List.mem_filter, OwnedRole.mem_all, true_and, Bool.and_eq_true, beq_iff_eq, Prod.mk.injEq]
    constructor
    · rintro ⟨a, ⟨hu, hp⟩, rfl, rfl⟩
      exact ⟨hu, hp, rfl⟩
    · rintro ⟨hu, hp, rfl⟩
      exact ⟨r, ⟨hu, hp⟩, rfl, rfl⟩
  · simp only [Bool.and_eq_true, beq_iff_eq]
  · rw [ho]
    exact ⟨rfl, rfl⟩
  · rw [ho]
    exact ⟨rfl, rfl⟩

theorem SameWords.setOc (v : Outputs) (j : Jobs) : SameWords j (j.setOc v) := .of_tm rfl

theorem Jobs.rebuild_still (keep : Bool) (j : Jobs) :
    Still (j.setOc { j.oc with table := (j.rebuild keep).oc.table }) (j.rebuild keep) := by
  have h := Still.touchMaps j outputRoles
  unfold Jobs.rebuild
  dsimp only
  generalize j.touchMaps outputRoles = k at h ⊢
  have hrest := h.rest
  refine ⟨?_, h.mem, h.scrub⟩
  unfold Jobs.setOc
  rw [hrest]

theorem Jobs.rebuild_table (keep : Bool) (j : Jobs) :
    (j.rebuild keep).oc.table = j.outputPoints.map fun p => j.pointEntry keep p := by
  unfold Jobs.rebuild
  dsimp only
  generalize j.touchMaps outputRoles = k
  rfl

theorem Jobs.rebuild_rebuilt (keep : Bool) (old : Outputs) (hw : j.tableWf)
    (hold : ∀ p, old.entry p = if keep then j.oc.entry p else none) : Rebuilt old (j.dev == .run) (j.rebuild keep) := by
  have hstill := Jobs.rebuild_still keep j
  have hset := SameWords.setOc { j.oc with table := (j.rebuild keep).oc.table } j
  have hwf : (j.setOc { j.oc with table := (j.rebuild keep).oc.table }).tableWf := hw
  have hs := hset.trans (hstill.sameWords hwf)
  have hroles : ∀ r, r ∈ outputRoles.filter (fun r => j.mapUsable r) ↔ r ∈ outputRoles ∧ j.mapUsable r = true :=
    fun r => List.mem_filter
  unfold Rebuilt
  simp only [hs.mapUsable, hs.mapPoint, hs.mapBit, Jobs.rebuild_table]
  refine ⟨fun p => ?_, fun a b e e' ha hb hab => ?_, fun e he => ?_⟩
  · have hmem : p ∈ j.outputPoints ↔ ∃ r ∈ outputRoles, j.mapUsable r = true ∧ j.mapPoint r = p := by
      unfold Jobs.outputPoints
      rw [mem_firstOf, List.mem_map]
      simp only [hroles, and_assoc]
    rw [← hmem]
    constructor
    · rintro ⟨e, he, rfl⟩
      obtain ⟨q, hq, rfl⟩ := List.mem_map.mp he
      exact hq
    · exact fun hp => ⟨_, List.mem_map_of_mem hp, rfl⟩
  · have hord := firstOf_ordered (fun r => j.mapPoint r) (outputRoles.filter fun r => j.mapUsable r)
      (outputRoles_ordered.sublist List.filter_sublist)
    rw [List.getElem?_map, Option.map_eq_some_iff] at ha hb
    obtain ⟨p, hp, rfl⟩ := ha
    obtain ⟨q, hq, rfl⟩ := hb
    obtain ⟨hai, hp⟩ := List.getElem?_eq_some_iff.mp hp
    obtain ⟨hbi, hq⟩ := List.getElem?_eq_some_iff.mp hq
    obtain ⟨r, hr, hrp, hlt⟩ := List.pairwise_iff_getElem.mp hord a b hai hbi hab
    have hrr := (hroles r).mp hr
    refine ⟨r, hrr.1, hrr.2, hrp.trans hp, fun r' hr' hu' hq' => ?_⟩
    exact hlt r' ((hroles r').mpr ⟨hr', hu'⟩) (hq'.trans hq.symm)
  · obtain ⟨p, -, rfl⟩ := List.mem_map.mp he
    obtain ⟨h1, h2, h3, h4⟩ := Jobs.pointEntry_spec keep p old j (hold p)
    exact ⟨h1, h2, rfl, h3, h4⟩

/-! ### The roof jobs at their resets (R192, R193) -/

theorem Jobs.resetJobs_spec (tag : Long) (tm : TableMem) (c1 c2 : Option Cause) (hm : tm.mem = j.tm.mem) (hw : j.tableWf)
    (hk : k = Jobs.resetJobs tag tm c1 c2) :
    k = { ({} : Jobs) with tag := tag, tm := k.tm, lsi := { since := tag }, p1 := { cause := c1 }, p2 := { cause := c2 },
                           oc := { table := k.oc.table }, todo := k.todo, out := k.out } ∧
    k.tm.scrub = tm.scrub ∧ SameWords j k ∧ k.tableWf ∧ Rebuilt {} false k := by
  subst hk
  generalize hb : ({ ({} : Jobs) with tag := tag, tm := tm, lsi := { since := tag }, p1 := { cause := c1 },
                                      p2 := { cause := c2 } } : Jobs) = b
  have hwb : b.tableWf := by
    subst hb
    unfold Jobs.tableWf
    rw [hm]
    exact hw
  have hsame : SameWords j b := by
    subst hb
    refine ⟨fun a => ?_, fun a => ?_⟩
    · show (Store.read {} a tm.mem).data = _
      rw [hm]
      rfl
    · show (Store.read {} a tm.mem).bad = _
      rw [hm]
      rfl
  have he : Jobs.resetJobs tag tm c1 c2 = b.rebuild false := by
    unfold Jobs.resetJobs
    rw [hb]
  rw [he]
  have hstill := Jobs.rebuild_still false b
  have hset := SameWords.setOc { b.oc with table := (b.rebuild false).oc.table } b
  have hwf : (b.setOc { b.oc with table := (b.rebuild false).oc.table }).tableWf := hwb
  have hre := Jobs.rebuild_rebuilt false {} hwb fun p => Eq.trans (b := none) rfl (if_neg Bool.false_ne_true).symm
  have hdev : (b.dev == .run) = false := by subst hb; rfl
  rw [hdev] at hre
  refine ⟨?_, ?_, (hsame.trans hset).trans (hstill.sameWords hwf), hstill.tableWf hwf, hre⟩
  · refine hstill.rest.trans ?_
    subst hb
    rfl
  · refine hstill.scrub.trans ?_
    subst hb
    rfl

/-! ### The reset line (R193) -/

theorem SameWords.trainSettings (h : SameWords j k) : k.trainSettings = j.trainSettings := by
  unfold Jobs.trainSettings
  rw [h.bad, h.word]

theorem SameWords.roofSettings (h : SameWords j k) : k.roofSettings = j.roofSettings := by
  unfold Jobs.roofSettings
  rw [h.bad, h.word]

/-- R133: a SETTING error is flagged, and counted nowhere. -/
theorem State.linkError_setting (s : State) : s.linkError .roof .setting = s.onJobs (fun j => j.flag .roofLinkError LinkError.setting.code) :=
  rfl

/-- R193: the roof jobs as a reset leaves them, before the settings words are read. -/
def State.resetTo (s : State) : Jobs := Jobs.resetJobs 0 { mem := s.jobs.tm.mem } none none

/-- R193: the part after the line's release, with roof jobs `j` and the ports' settings from those of `i`. -/
def State.releasedWith (i j : Jobs) (s : State) : State where
  pending := s.pending
  inReset := false
  jobs := j
  train := PortState.restart i.trainSettings { mode := .stopped, settings := trainDefault }
  roof := { mode := .running, settings := i.roofSettings.getD roofDefault, settling := true }
  fr := {}
  rb := {}
  cb := { s.cb with state := .frozen }
  nu := {}
  latch := none

theorem Jobs.roofAtReset_eq (j : Jobs) : j.roofAtReset = (j.roofSettings.getD roofDefault, j.roofSettings.isNone) := by
  unfold Jobs.roofAtReset
  cases j.roofSettings <;> rfl

/-- R141, R193: a prohibited divisor that the release finds is reported as a SETTING error. -/
def Jobs.settingFlag (b : Bool) (j : Jobs) : Jobs := if b then j.flag .roofLinkError LinkError.setting.code else j

theorem Still.settingFlag (b : Bool) (j : Jobs) : Still j (j.settingFlag b) := by
  cases b with
  | true => exact .setOut _ j
  | false => exact .refl j

theorem State.resetRelease_of (h : s.inReset = true) : s.resetRelease =
    (s.releasedWith s.resetTo (((s.resetTo.touch 0).touch 1).settingFlag s.resetTo.roofSettings.isNone)).finish := by
  unfold State.resetRelease
  rw [if_pos h]
  unfold State.resetTo
  generalize Jobs.resetJobs 0 { mem := s.jobs.tm.mem } none none = i
  dsimp only
  generalize (i.touch 0).touch 1 = j
  rw [Jobs.roofAtReset_eq]
  dsimp only
  cases i.roofSettings.isNone <;> rfl

/-- R136: the divisor 0, which a poisoned word stands for too, sends the train port into DISCOVERY. -/
theorem Jobs.trainSettings_divisor (j : Jobs) : j.trainSettings.divisor = 0 ↔ j.bad 0 = true ∨ bits (j.word 0) 8 8 = 0 := by
  unfold Jobs.trainSettings
  cases j.bad 0 with
  | true => exact ⟨fun _ => .inl rfl, fun _ => rfl⟩
  | false => exact ⟨.inr, fun h => h.resolve_left Bool.false_ne_true⟩

/-- R141: the roof port's settings at the end of a reset. -/
theorem Jobs.roofSettings_getD (j : Jobs) : j.roofSettings.getD roofDefault =
    if j.bad 1 = true ∨ bits (j.word 1) 8 8 = 0 then roofDefault else settingsOf (j.word 1) := by
  unfold Jobs.roofSettings
  have hd : (settingsOf (j.word 1)).divisor = bits (j.word 1) 8 8 := rfl
  cases j.bad 1 <;> by_cases h : bits (j.word 1) 8 8 = 0 <;> simp [hd, h]

/-- R135, R136: mode and settings of a port that restarts by settings `n`. -/
theorem PortState.restart_mode (n : Settings) (v : PortState) : (v.restart n).settings = n ∧
    (v.restart n).mode = if n.divisor = 0 then .discovery else .running := by
  rw [PortState.restart_eq]
  split
  · exact ⟨rfl, rfl⟩
  · exact ⟨rfl, rfl⟩

theorem PortState.restart_counters (n : Settings) (v : PortState) : (v.restart n).buffers = v.buffers ∧
    (v.restart n).parityErrors = v.parityErrors ∧ (v.restart n).framingErrors = v.framingErrors ∧
    (v.restart n).overruns = v.overruns ∧ (v.restart n).checkErrors = v.checkErrors := by
  rw [PortState.restart_eq]
  split <;> exact ⟨rfl, rfl, rfl, rfl, rfl⟩

theorem State.releasedWith_ports (i : Jobs) (p : Port) : ((s.releasedWith i k).port p).buffers = [] ∧
    ((s.releasedWith i k).port p).parityErrors = 0 ∧ ((s.releasedWith i k).port p).framingErrors = 0 ∧
    ((s.releasedWith i k).port p).overruns = 0 ∧ ((s.releasedWith i k).port p).checkErrors = 0 := by
  cases p with
  | roof => exact ⟨rfl, rfl, rfl, rfl, rfl⟩
  | train => exact PortState.restart_counters i.trainSettings { mode := .stopped, settings := trainDefault }

/-- In CONFIG a step's end leaves the force flags. -/
theorem State.finish_forces_idle (h : u.jobs.todo = [] ∨ u.jobs.dev = .config) :
    u.finish.jobs.oc.lowerAll = u.jobs.oc.lowerAll ∧ u.finish.jobs.oc.hold = u.jobs.oc.hold := by
  obtain ⟨-, -, -, e⟩ := State.finish_spec u
  obtain ⟨-, -, -, -, -, h1, h2, -⟩ := Jobs.ocFollow_spec (u.jobs.setTodo []).earthNow (u.jobs.setTodo []) _ rfl
  rw [Jobs.settle_idle h] at e
  rw [e]
  exact ⟨h1, h2⟩

/-! ### RESTART (R192) -/

/-- R139, R192: what RESTART makes of the train port. -/
theorem State.restartTrain_spec (s : State) : Still s.jobs s.restartTrain.jobs ∧
    s.restartTrain = (s.setTrain s.restartTrain.train).setJobs s.restartTrain.jobs ∧
    (s.train.mode = .stopped → s.restartTrain.train = s.train) ∧
    (s.train.mode = .discovery → s.restartTrain.train = s.train.restart s.jobs.trainSettings) ∧
    (s.train.mode = .running → ∀ n', n' = { s.jobs.trainSettings with
        divisor := if s.jobs.trainSettings.divisor = 0 then s.train.settings.divisor else s.jobs.trainSettings.divisor } →
      s.restartTrain.train = { s.train with newSettings := if n' = s.train.settings then none else some n' }) := by
  unfold State.restartTrain
  cases hm : s.train.mode with
  | stopped => exact ⟨.refl _, rfl, fun _ => rfl, fun h => (nomatch h), fun h => (nomatch h)⟩
  | discovery => exact ⟨.touch 0 _, rfl, fun h => (nomatch h), fun _ => rfl, fun h => (nomatch h)⟩
  | running => exact ⟨.touch 0 _, rfl, fun h => (nomatch h), fun h => (nomatch h), fun _ _ hn => hn ▸ rfl⟩

/-- R192: the part with roof jobs `i`, its exchange abandoned and its queue and latch emptied. -/
def State.emptiedTo (i : Jobs) (s : State) : State :=
  (((s.setJobs i).abandon).setFr { s.fr with down := [] }).setLatch none

/-- R192: RESTART of a part that has nothing left to report. -/
theorem State.restart_eq (h : s.jobs.out = []) : s.restart =
    ((s.emptiedTo (Jobs.resetJobs s.jobs.tag s.jobs.tm s.jobs.p1.cause s.jobs.p2.cause)).restartTrain.rearm).onJobs
      (fun j => j.flag .restarted s.jobs.dev.code) := by
  unfold State.restart
  dsimp only
  rw [h]
  generalize Jobs.resetJobs s.jobs.tag s.jobs.tm s.jobs.p1.cause s.jobs.p2.cause = i
  rfl

theorem State.rearm_spec (s : State) : Still s.jobs s.rearm.jobs ∧ s.rearm = (s.setCb s.rearm.cb).setJobs s.rearm.jobs ∧
    s.rearm.cb.state = .armed ∧ s.rearm.cb.mem = s.cb.mem :=
  ⟨.touchAll _ _, rfl, rfl, Capture.rearm_mem _ _ _ _ _ _⟩

theorem State.reply_out (f : Frame) (c : SvcControl) (op : Nat) (st : Status) (s : State) :
    s.jobs.out <+: (s.reply f c op st).jobs.out := by
  unfold State.reply
  split
  · exact List.prefix_append _ _
  · exact List.prefix_rfl

theorem State.consume_train (f : Frame) (s : State) :
    (s.consume f).train.mode = s.train.mode ∧ (s.consume f).train.settings = s.train.settings := by
  rw [(s.consume_took f).2]
  dsimp only
  split <;> exact ⟨rfl, rfl⟩

theorem State.consume_roof (f : Frame) (s : State) : (s.consume f).fr.roof = s.fr.roof := by rw [(s.consume_took f).2]; rfl

/-- R139, R192: what the settings words give a train port under RESTART. -/
theorem State.restartTrain_settings {n : Settings} (hn : n = s.jobs.trainSettings) :
    (s.train.mode = .stopped → s.restartTrain.train.mode = .stopped ∧ s.restartTrain.train.settings = s.train.settings) ∧
    (s.train.mode = .discovery → s.restartTrain.train.settings = n ∧
      s.restartTrain.train.mode = if n.divisor = 0 then .discovery else .running) ∧
    (s.train.mode = .running → s.restartTrain.train.mode = .running ∧ s.restartTrain.train.settings = s.train.settings ∧
      ∀ n', n' = { n with divisor := if n.divisor = 0 then s.train.settings.divisor else n.divisor } →
        s.restartTrain.train.newSettings = if n' = s.train.settings then none else some n') := by
  subst hn
  obtain ⟨-, -, hstopped, hdiscovery, hrunning⟩ := s.restartTrain_spec
  refine ⟨fun h => ?_, fun h => ?_, fun h => ?_⟩
  · rw [hstopped h]; exact ⟨h, rfl⟩
  · rw [hdiscovery h]; exact PortState.restart_mode _ _
  · rw [hrunning h _ rfl]
    refine ⟨h, rfl, fun n' hn' => ?_⟩
    rw [hn']

end Sys2Proof.Machine

open Sys2Proof Sys2Proof.Machine

/-- Settles O19. -/
theorem resetLineSteps : Obligations.ResetLineSteps := by
  unfold Obligations.ResetLineSteps
  refine ⟨fun s h => ?assert, fun s h => ?outside, fun s h hw => ?release⟩
  case assert =>
    show Host.Outcome.next s.resetAssert = _
    unfold State.resetAssert
    rw [if_neg (by simp [h])]
    rfl
  case outside =>
    show Host.Outcome.next s.resetRelease = _
    unfold State.resetRelease
    rw [if_neg (by simp [h])]
  case release =>
    obtain ⟨hfresh, hscrub, hsame, hwf, hre⟩ := Jobs.resetJobs_spec 0 { mem := s.jobs.tm.mem } none none (j := s.jobs)
      (k := s.resetTo) rfl hw.1 rfl
    rw [show exec .resetRelease s = .next s.resetRelease from rfl, State.resetRelease_of h]
    have hall : Still s.resetTo _ :=
      ((Still.touch 0 _).trans (.touch 1 _)).trans (.settingFlag s.resetTo.roofSettings.isNone _)
    generalize ((s.resetTo.touch 0).touch 1).settingFlag s.resetTo.roofSettings.isNone = k at hall ⊢
    generalize s.resetTo = i at hfresh hscrub hsame hwf hre hall ⊢
    have hdev : (s.releasedWith i k).jobs.dev = .config := by
      rw [show (s.releasedWith i k).jobs = k from rfl, hall.dev, hfresh]
    have hidle := State.finish_jobs_idle (u := s.releasedWith i k) (.inr hdev)
    have hjobs : (s.releasedWith i k).finish.jobs = { ({} : Jobs) with
        tm := (s.releasedWith i k).finish.jobs.tm, oc := (s.releasedWith i k).finish.jobs.oc } := by
      refine hidle.trans ?_
      have hrest := hall.rest
      rw [hfresh] at hrest
      show ({ k with oc := _, tm := _, todo := [], out := [] } : Jobs) = _
      rw [hrest]
    have hkoc : k.oc = { table := i.oc.table } := hall.oc.trans (by rw [hfresh])
    obtain ⟨htrain, hroof, hrb, hlatch, -, hin, hfr, hdown, -, -, -, -, hptr, -⟩ := State.finish_keeps (s.releasedWith i k)
    obtain ⟨hl, hh⟩ := State.finish_forces_idle (u := s.releasedWith i k) (.inr hdev)
    obtain ⟨hdel, -⟩ := State.finish_spec (s.releasedWith i k)
    have hmem := hall.sameWords hwf
    have hfin := (State.finish_mem (s.releasedWith i k) (hall.tableWf hwf)).2
    obtain ⟨-, -, -, hsafe⟩ := State.finish_outputs (s.releasedWith i k) hin
    have hcb : (s.releasedWith i k).finish.cb = { s.cb with state := .frozen } := hdel.frozen rfl
    have hmode := PortState.restart_mode i.trainSettings { mode := .stopped, settings := trainDefault }
    have hbits := i.trainSettings_divisor
    rw [hsame.word, hsame.bad] at hbits
    refine ⟨_, rfl, hin, ?dev, ?tag, hptr.trans (hall.scrub.trans hscrub), ?nodes, ?tmr, ?cs, ?p1, ?p2, ?ice, ?lmu, ?lsi,
      ?speed, ?arc, ?fb, hl.trans (congrArg Outputs.lowerAll hkoc), hh.trans (congrArg Outputs.hold hkoc), ?safe, fun a =>
      ⟨(hfin a).1.trans ((hmem.word a).trans (hsame.word a)), (hfin a).2.trans ((hmem.bad a).trans (hsame.bad a))⟩,
      (congrArg Capture.mem hcb :), (congrArg Capture.state hcb :), hrb, hlatch, hdown, hfr,
      (congrArg PortState.mode htrain).trans (hmode.2.trans (if_congr hbits rfl rfl)),
      (congrArg PortState.settings htrain).trans (hmode.1.trans hsame.trainSettings), congrArg PortState.mode hroof,
      congrArg PortState.settling hroof,
      (congrArg PortState.settings hroof).trans ((congrArg (Option.getD · roofDefault) hsame.roofSettings).trans
        s.jobs.roofSettings_getD), s.releasedWith i k, rfl, rfl, rfl,
      hre.of_words hmem (congrArg Outputs.table hall.oc), State.releasedWith_ports i⟩
    case safe =>
      refine Bool.eq_false_iff.mpr fun h => ?_
      have hbrk := (hsafe.mp h).2.2
      rw [hjobs] at hbrk
      exact nomatch hbrk
    all_goals rw [hjobs]

/-- Settles O49. -/
theorem restarting : Obligations.Restarting := by
  unfold Obligations.Restarting
  rintro s h c extra f d hl rfl hd
  have hk := State.consume_still (serviceFrame h 6 c extra) s
  have hf := State.consume_took (serviceFrame h 6 c extra) s
  refine ⟨fun hrun hsafe => ?refused, fun hgo => ?taken⟩
  case refused =>
    refine EndsFrom.of_taking (k := fun f s => s.serviceRestart f c) hl.1 rfl rfl ?_
    unfold State.serviceRestart
    dsimp only
    rw [hk.dev, hk.oc, hrun, hsafe, if_neg (by decide), State.reply_of (.inr (by decide))]
    rfl
  case taken =>
    have hdel := Delivered.drain 1024 (s.consume (serviceFrame h 6 c extra))
    rw [← hd] at hdel
    have hs := hk.trans hdel.jobs
    have hout : d.jobs.out = [] := hd ▸ State.drain_out _ _
    have hex : EndsFrom (.serviceRestart h c extra) s (d.restart.reply (serviceFrame h 6 c extra) c 6 .ok) := by
      refine EndsFrom.of_taking (k := fun f s => s.serviceRestart f c) hl.1 rfl rfl ?_
      unfold State.serviceRestart
      dsimp only
      rw [hk.dev, hk.oc, if_pos hgo, ← hd]
    obtain ⟨hfresh, -, hsame, hwf, hre⟩ := Jobs.resetJobs_spec d.jobs.tag d.jobs.tm d.jobs.p1.cause d.jobs.p2.cause
      (j := d.jobs) rfl (hs.tableWf hl.2.1) rfl
    rw [State.restart_eq hout] at hex
    generalize Jobs.resetJobs d.jobs.tag d.jobs.tm d.jobs.p1.cause d.jobs.p2.cause = i at hex hfresh hsame hwf hre
    have hwords := (hs.sameWords hl.2.1).trans hsame
    obtain ⟨hst, het, -⟩ := (d.emptiedTo i).restartTrain_spec
    have htrain := fun (n : Settings) (hn : n = s.jobs.trainSettings) =>
      State.restartTrain_settings (s := d.emptiedTo i) (hn.trans hwords.trainSettings.symm)
    generalize (d.emptiedTo i).restartTrain = y at hex hst het htrain
    obtain ⟨hsr, her, harmed, hmem⟩ := y.rearm_spec
    generalize y.rearm = z at hex hsr her harmed hmem
    have hflag := Flagged.flag .restarted d.jobs.dev.code z.jobs
    obtain ⟨hsv, hev, hok⟩ := State.reply_still (serviceFrame h 6 c extra) c 6 .ok
      (z.onJobs fun j => j.flag .restarted d.jobs.dev.code)
    have hpre := State.reply_out (serviceFrame h 6 c extra) c 6 .ok (z.onJobs fun j => j.flag .restarted d.jobs.dev.code)
    generalize (z.onJobs fun j => j.flag .restarted d.jobs.dev.code).reply (serviceFrame h 6 c extra) c 6 .ok = u
      at hex hsv hev hok hpre
    have hall : Still i u.jobs := ((hst.trans hsr).trans (.setOut _ _)).trans hsv
    obtain ⟨hmode, hset⟩ := State.consume_train (serviceFrame h 6 c extra) s
    have htm : (d.emptiedTo i).train.mode = s.train.mode := (congrArg PortState.mode hdel.train).trans hmode
    have hts : (d.emptiedTo i).train.settings = s.train.settings := (congrArg PortState.settings hdel.train).trans hset
    have hz : z = { d.emptiedTo i with train := y.train, cb := z.cb, jobs := z.jobs } := her.trans (by rw [het]; rfl)
    have hu : u = { d.emptiedTo i with train := y.train, cb := z.cb, jobs := u.jobs } := hev.trans (by rw [hz]; rfl)
    simp only [htm, hts] at htrain
    refine ⟨u, hex, ?jobs, hre.of_words (hall.sameWords hwf) (congrArg Outputs.table hall.oc),
      (congrArg State.rb hu :), (congrArg (·.fr.down) hu :), (congrArg (·.fr.up) hu :),
      (congrArg (·.fr.roof) hu :).trans (hdel.frRoof.trans (State.consume_roof _ s)), (congrArg State.latch hu :),
      (congrArg State.nu hu :), (congrArg (·.cb.state) hu :).trans harmed,
      (congrArg (·.cb.mem) hu :).trans (hmem.trans (congrArg (·.cb.mem) het)), ?flag,
      fun a => ⟨(hall.sameWords hwf).word a |>.trans (hwords.word a), (hall.sameWords hwf).bad a |>.trans (hwords.bad a)⟩,
      fun n hn => ?train, fun hc => hok (.inl hc)⟩
    case jobs =>
      have hrest := hall.rest
      rw [hfresh, hs.tag, hs.p1, hs.p2] at hrest
      rw [hall.oc, hfresh]
      exact hrest
    case flag =>
      rw [← hs.dev]
      exact hflag.of_prefix hpre
    case train =>
      rw [show u.train = y.train from (congrArg State.train hu :)]
      exact htrain n hn

end

section
/-! PROOFS. COMMISSION (O48): the six checks, and the part on entry to RUN. -/

namespace Sys2Proof.Machine

open Sys2Proof

variable {s t u : State} {j k l : Jobs}

/-! ### The checks (R191) -/

/-- What the search ends at is a hit exactly where some hit has no stop before it. -/
theorem find_stops {α : Type} [LinearOrder α] {l : List α} {hit stop good : α → Bool} (hl : l.Pairwise (· < ·))
    (hgood : ∀ x, (hit x || stop x) = true → good x = hit x) :
    ((l.find? fun x => hit x || stop x).filter good).isSome = true ↔
      ∃ x ∈ l, hit x = true ∧ ∀ y ∈ l, y < x → stop y = false := by
  induction l with
  | nil => exact ⟨fun h => (nomatch h), fun ⟨x, hx, _⟩ => absurd hx List.not_mem_nil⟩
  | cons a l ih =>
    obtain ⟨ha, hl⟩ := List.pairwise_cons.mp hl
    cases hp : hit a || stop a with
    | true =>
      rw [List.find?_cons_of_pos (by exact hp)]
      have hg := hgood a hp
      constructor
      · intro h
        refine ⟨a, List.mem_cons_self, ?_, ?_⟩
        · rw [← hg]
          simpa [Option.isSome_filter] using h
        · intro y hy hlt
          rcases List.mem_cons.mp hy with rfl | hy
          · exact absurd hlt (lt_irrefl _)
          · exact absurd hlt (lt_asymm (ha y hy))
      · rintro ⟨x, hx, hhit, hbefore⟩
        have hhit : hit a = true := by
          rcases List.mem_cons.mp hx with rfl | hx
          · exact hhit
          · simpa [hbefore a List.mem_cons_self (ha x hx)] using hp
        simp [hg, hhit]
    | false =>
      obtain ⟨h1, h2⟩ := Bool.or_eq_false_iff.mp hp
      rw [List.find?_cons_of_neg (by simp [hp]), ih hl]
      constructor
      · rintro ⟨x, hx, hhit, hbefore⟩
        refine ⟨x, List.mem_cons_of_mem _ hx, hhit, fun y hy hlt => ?_⟩
        rcases List.mem_cons.mp hy with rfl | hy
        · exact h2
        · exact hbefore y hy hlt
      · rintro ⟨x, hx, hhit, hbefore⟩
        rcases List.mem_cons.mp hx with rfl | hx
        · rw [hhit] at h1
          exact nomatch h1
        · exact ⟨x, hx, hhit, fun y hy => hbefore y (List.mem_cons_of_mem _ hy)⟩

/-- R191: the outcome of check `n`. -/
def Jobs.check (j : Jobs) : Nat → Bool
  | 1 => commissionRoles.all fun r => j.mapUsable r
  | 2 => j.anyLine.isSome
  | 3 => j.lineSlot.isSome
  | 4 => j.pantoValid .p1
  | 5 => !(j.bad 0x145) && j.raisable j.startPanto
  | 6 => j.roofWordFit
  | _ => true

theorem Jobs.failedCheck_eq (j : Jobs) : j.failedCheck = (List.range' 1 6).find? fun n => !j.check n := by
  have hl : List.range' 1 6 = [1, 2, 3, 4, 5, 6] := rfl
  unfold Jobs.failedCheck
  simp only [hl, List.find?_cons, List.find?_nil, Jobs.check]
  grind

theorem lineEntries_all (k : Fin 8) : k ∈ lineEntries := by revert k; decide

theorem Jobs.check_two (j : Jobs) : j.anyLine.isSome = true ↔ CheckPasses j 2 := by
  have h := find_stops (l := lineEntries) (hit := fun k => j.lineUsable k) (stop := fun k => j.anyBad (span (lineAddr k) 6))
    (good := fun k => j.lineUsable k) (by decide) fun _ _ => rfl
  refine h.trans ⟨fun ⟨k, _, hk, hb⟩ => ⟨k, hk, fun i => hb i (lineEntries_all i)⟩,
    fun ⟨k, hk, hb⟩ => ⟨k, lineEntries_all k, hk, fun i _ => hb i⟩⟩

theorem Jobs.check_three (j : Jobs) : j.lineSlot.isSome = true ↔ CheckPasses j 3 := by
  have hgood : ∀ i : Nat, ((j.slotUsable i && j.slotNode i == j.mapNode .lineV) || j.bad (slotAddr i)) = true →
      (!j.bad (slotAddr i)) = (j.slotUsable i && j.slotNode i == j.mapNode .lineV) := by
    intro i hi
    unfold Jobs.slotUsable at hi ⊢
    cases hb : j.bad (slotAddr i) with
    | true => simp
    | false => simpa [hb] using hi
  have h := find_stops (l := List.range Config.pollSlots) (stop := fun i => j.bad (slotAddr i)) List.pairwise_lt_range hgood
  have heq : j.lineSlot = ((List.range Config.pollSlots).find? fun i =>
      (j.slotUsable i && j.slotNode i == j.mapNode .lineV) || j.bad (slotAddr i)).filter (fun i => !j.bad (slotAddr i)) := by
    unfold Jobs.lineSlot Jobs.lastSlot
    simp only [Bool.or_comm]
  rw [heq, h]
  simp only [List.mem_range, Bool.and_eq_true, beq_iff_eq]
  constructor
  · rintro ⟨i, hi, ⟨hu, hn⟩, hb⟩
    exact ⟨i, hi, hu, hn, fun m hm => hb m (hm.trans hi) hm⟩
  · rintro ⟨i, hi, hu, hn, hb⟩
    exact ⟨i, hi, ⟨hu, hn⟩, fun m _ hm => hb m hm⟩

theorem Jobs.check_five (j : Jobs) : (!(j.bad 0x145) && j.raisable j.startPanto) = true ↔ CheckPasses j 5 := by
  unfold Jobs.raisable
  rw [Bool.and_eq_true, Bool.and_eq_true, List.all_eq_true, Bool.not_eq_true']
  exact ⟨fun ⟨hb, hr, hv⟩ => ⟨hb, hv, hr⟩, fun ⟨hb, hv, hr⟩ => ⟨hb, hr, hv⟩⟩

theorem Jobs.check_six (j : Jobs) : j.roofWordFit = true ↔ CheckPasses j 6 := by
  unfold Jobs.roofWordFit
  rw [Bool.and_eq_true, Bool.not_eq_true', bne_iff_ne]
  exact Iff.rfl

theorem Jobs.check_iff (j : Jobs) {n : Nat} (h1 : 1 ≤ n) (h6 : n ≤ 6) : j.check n = true ↔ CheckPasses j n := by
  have hn : n = 1 ∨ n = 2 ∨ n = 3 ∨ n = 4 ∨ n = 5 ∨ n = 6 := by omega
  rcases hn with rfl | rfl | rfl | rfl | rfl | rfl
  · exact List.all_eq_true
  · exact j.check_two
  · exact j.check_three
  · exact Iff.rfl
  · exact j.check_five
  · exact j.check_six

theorem Jobs.failedCheck_none (j : Jobs) : j.failedCheck = none ↔ ∀ n, 1 ≤ n → n ≤ 6 → CheckPasses j n := by
  rw [j.failedCheck_eq, List.find?_range'_eq_none]
  refine ⟨fun h n h1 h6 => (j.check_iff h1 h6).mp (by simpa using h n h1 (by omega)), fun h n h1 h6 => ?_⟩
  simpa using (j.check_iff h1 (by omega)).mpr (h n h1 (by omega))

theorem Jobs.failedCheck_some (j : Jobs) (n : Nat) : j.failedCheck = some n ↔
    1 ≤ n ∧ n ≤ 6 ∧ ¬ CheckPasses j n ∧ ∀ m, 1 ≤ m → m < n → CheckPasses j m := by
  rw [j.failedCheck_eq, List.find?_range'_eq_some, List.mem_range'_1]
  constructor
  · rintro ⟨hn, ⟨h1, h6⟩, hb⟩
    refine ⟨h1, by omega, fun hc => ?_, fun m hm hlt => (j.check_iff hm (by omega)).mp (by simpa using hb m hm hlt)⟩
    simp [(j.check_iff h1 (by omega)).mpr hc] at hn
  · rintro ⟨h1, h6, hn, hb⟩
    refine ⟨?_, ⟨h1, by omega⟩, fun m hm hlt => by simpa using (j.check_iff hm (by omega)).mpr (hb m hm hlt)⟩
    rw [Bool.not_eq_true', ← Bool.not_eq_true, j.check_iff h1 h6]
    exact hn

/-! ### Jobs of which only timers change -/

/-- Between `j` and `k` only timers, reads of table memory and reports lie. -/
def Timed (j k : Jobs) : Prop := Still (j.setTmr k.tmr) k

theorem Still.setTmr (h : Still j k) (v : Timers) : Still (j.setTmr v) (k.setTmr v) :=
  ⟨by rw [h.rest]; rfl, h.mem, h.scrub⟩

theorem Timed.trans (h : Timed j k) (h' : Timed k l) : Timed j l := (Still.setTmr h l.tmr).trans h'

theorem Timed.still (h : Still j k) : Timed j k := by
  unfold Timed
  rw [h.tmr]
  exact h

theorem Timed.onTimer (i : TimerId) (f : Timer → Timer) (j : Jobs) : Timed j (j.onTimer i f) := .refl _

theorem Timed.sameWords (h : Timed j k) (hw : j.tableWf) : SameWords j k :=
  (SameWords.of_tm (j := j) (k := j.setTmr k.tmr) rfl).trans (Still.sameWords (j := j.setTmr k.tmr) h hw)

theorem Timed.tableWf (h : Timed j k) (hw : j.tableWf) : k.tableWf :=
  Still.tableWf (j := j.setTmr k.tmr) h hw

theorem Timed.rest (h : Timed j k) : k = { j with tmr := k.tmr, tm := k.tm, todo := k.todo, out := k.out } := Still.rest h

theorem Timed.panto (h : Timed j k) (x : Panto) : k.panto x = j.panto x := by
  rw [h.rest]
  cases x <;> rfl

/-! ### Entry to RUN (R191) -/

theorem SameWords.assessPeriod (h : SameWords j k) : k.assessPeriod = j.assessPeriod := by
  unfold Jobs.assessPeriod
  rw [h.iceParam]

theorem SameWords.statusPeriod (h : SameWords j k) : k.statusPeriod = j.statusPeriod := by
  unfold Jobs.statusPeriod
  rw [h.param]

/-- R78: what starting an interrupted lowering leaves alone, and when it loads the step timer. -/
theorem Jobs.startLowering_spec (x : Panto) (j : Jobs) : Timed j (j.startLowering x) ∧
    OtherTimers [x.stepTimer] j (j.startLowering x) ∧
    ((j.panto x).state = .lowering → (j.timer x.stepTimer).running = false → (j.timer x.stepTimer).count = 0 →
      ((j.startLowering x).timer x.stepTimer).loaded (timing (j.pantoParam x 6)) .oneShot) := by
  unfold Jobs.startLowering
  split
  · refine ⟨(Timed.still (.touch _ j)).trans (.onTimer _ _ _),
      (OtherTimers.of_tmr (Jobs.touch_tmr _ j)).trans (.onTimer (List.mem_singleton_self _) _ _), fun _ _ _ => ?_⟩
    rw [Jobs.timer_load, if_pos rfl]
    exact Timer.loaded_timing _ _ _
  · rename_i hn
    exact ⟨Timed.still (.refl j), .refl j _, fun h1 h2 h3 => absurd ⟨h1, h2, h3⟩ hn⟩

/-- R168: the record of a node at COMMISSION. -/
theorem nodesFrom_read (j : Jobs) (is : List Nat) (m : Store NodeRec) (hm : Store.wf {} m = true) (n : Nat) :
    Store.read {} n (is.foldl (fun m i => Store.write {} (j.slotNode i) { state := .waiting } m) m) =
      if is.any fun i => j.slotNode i == n then { state := .waiting } else Store.read {} n m := by
  induction is generalizing m with
  | nil => rfl
  | cons i is ih =>
    rw [List.foldl_cons, ih _ (Store.wf_write hm _ _), Store.read_write hm, List.any_cons]
    by_cases h : j.slotNode i = n
    · simp [h]
    · simp [h, Ne.symm h]

theorem Jobs.polledNodes_read (j : Jobs) (n : Nat) :
    ((∃ i, i < 32 ∧ j.slotUsable i = true ∧ j.slotNode i = n) → Store.read {} n j.polledNodes = { state := .waiting }) ∧
    ((∀ i, i < 32 → j.slotUsable i = true → j.slotNode i ≠ n) → Store.read {} n j.polledNodes = {}) := by
  unfold Jobs.polledNodes
  rw [nodesFrom_read j _ _ rfl]
  refine ⟨fun ⟨i, hi, hu, hn⟩ => if_pos ?_, fun h => if_neg ?_⟩
  · exact List.any_eq_true.mpr ⟨i, List.mem_filter.mpr ⟨List.mem_range.mpr hi, hu⟩, beq_iff_eq.mpr hn⟩
  · intro ha
    obtain ⟨i, hi, hn⟩ := List.any_eq_true.mp ha
    obtain ⟨hi, hu⟩ := List.mem_filter.mp hi
    exact h i (List.mem_range.mp hi) hu (beq_iff_eq.mp hn)

/-- R191: the records of the roof jobs at the values entry to RUN gives them, the table empty. -/
def Jobs.blank (nodes : Store NodeRec) (j : Jobs) : Jobs :=
  ((((((j.setCs {}).setSpeed {}).setFb {}).setIce {}).setLsi { since := j.tag }).setNodes nodes).setOc
    { ({} : Outputs) with table := [] }

/-- R191: the roof jobs at the values entry to RUN gives them, their table rebuilt, before the timers are started. -/
def Jobs.begun (j : Jobs) : Jobs :=
  ((((j.touchAll ((List.range Config.pollSlots).map slotAddr)).blank j.polledNodes).rebuild false).setDev .run).setLmu
    { state := .waiting }

/-- R191: the timers that entry to RUN starts. -/
def Jobs.startTimers (j : Jobs) : Jobs :=
  let j := ((j.load .t15 Config.starvationTime .oneShot).startLowering .p1).startLowering .p2
  let assess := j.assessPeriod
  let period := j.statusPeriod
  let j := ((j.touchIce [12]).load .t10 assess .periodic).load .t14 Config.refreshTime .periodic
  let j := j.touch 4
  if period = 0 then j.stop .t13 else j.load .t13 period .periodic

theorem Jobs.enterRun_eq (j : Jobs) : j.enterRun = j.begun.startTimers := rfl

theorem Jobs.blank_rest (nodes : Store NodeRec) (h : Still j k) : k.blank nodes =
    { j with tm := k.tm, todo := k.todo, out := k.out, cs := {}, speed := {}, fb := {}, ice := {}, lsi := { since := j.tag },
             nodes := nodes, oc := {} } := by
  rw [h.rest]
  rfl

theorem Jobs.blank_tm (nodes : Store NodeRec) (j : Jobs) : (j.blank nodes).tm = j.tm := by simp [Jobs.blank]

theorem Jobs.begun_spec (hw : j.tableWf) (hd : j.dev = .config) (hk : k = j.begun) :
    k = { j with tm := k.tm, todo := k.todo, out := k.out, cs := {}, speed := {}, fb := {}, ice := {},
                 lsi := { since := j.tag }, nodes := j.polledNodes, oc := { table := k.oc.table }, dev := .run,
                 lmu := { state := .waiting } } ∧
    SameWords j k ∧ k.tableWf ∧ Rebuilt {} false k := by
  have hread : Still j (j.touchAll ((List.range Config.pollSlots).map slotAddr)) := .touchAll _ j
  unfold Jobs.begun at hk
  generalize j.touchAll ((List.range Config.pollSlots).map slotAddr) = a at hread hk
  generalize j.polledNodes = nodes at hk ⊢
  have hb := Jobs.blank_rest nodes hread
  have hwb : (a.blank nodes).tableWf := by
    unfold Jobs.tableWf
    rw [Jobs.blank_tm]
    exact hread.tableWf hw
  have hsb : SameWords a (a.blank nodes) := .of_tm (Jobs.blank_tm nodes a)
  generalize a.blank nodes = b at hb hwb hsb hk
  have hstill := Jobs.rebuild_still false b
  have hset := SameWords.setOc { b.oc with table := (b.rebuild false).oc.table } b
  have hwc : (b.setOc { b.oc with table := (b.rebuild false).oc.table }).tableWf := hwb
  have hre := Jobs.rebuild_rebuilt false {} hwb fun p => Eq.trans (b := none) rfl (if_neg Bool.false_ne_true).symm
  have hdev : (b.dev == .run) = false := by rw [hb, beq_eq_false_iff_ne]; exact hd ▸ (by decide)
  rw [hdev] at hre
  generalize b.rebuild false = c at hstill hset hwc hre hk
  have hwords := ((hread.sameWords hw).trans hsb).trans (hset.trans (hstill.sameWords hwc))
  have hck : SameWords c k := .of_tm (by rw [hk]; rfl)
  refine ⟨?_, hwords.trans hck, ?_, hre.of_words hck (by rw [hk]; rfl)⟩
  · have hrest := hstill.rest
    rw [hb] at hrest
    rw [hk, hrest]
    rfl
  · rw [hk]
    exact hstill.tableWf hwc

/-- R191: what the start of the timers makes of them, and that it changes nothing else. -/
theorem Jobs.startTimers_spec (hw : j.tableWf) (hk : k = j.startTimers) :
    Timed j k ∧ OtherTimers [.t2, .t3, .t10, .t13, .t14, .t15] j k ∧ (k.timer .t15).loaded 200 .oneShot ∧
    (k.timer .t14).loaded 20 .periodic ∧ (k.timer .t10).loaded (max 1000 (j.iceParam 12).toNat) .periodic ∧
    (∀ n, n = (j.param 4 100).toNat → (n ≠ 0 → (k.timer .t13).loaded n .periodic) ∧
      (n = 0 → (k.timer .t13).stopped ∧ k.timer .t13 = (j.timer .t13).stop)) ∧
    ∀ x, (j.panto x).state = .lowering → (j.timer x.stepTimer).running = false → (j.timer x.stepTimer).count = 0 →
      (k.timer x.stepTimer).loaded (timing (j.pantoParam x 6)) .oneShot := by
  unfold Jobs.startTimers at hk
  have t1 : Timed j (j.load .t15 Config.starvationTime .oneShot) := .onTimer _ _ _
  have o1 : ∀ i, (j.load .t15 Config.starvationTime .oneShot).timer i =
      if i = .t15 then (j.timer .t15).load Config.starvationTime .oneShot else j.timer i := fun i => Jobs.timer_load _ i _ _ _
  generalize j.load .t15 Config.starvationTime .oneShot = a at t1 o1 hk
  obtain ⟨t2, o2, l2⟩ := a.startLowering_spec .p1
  generalize a.startLowering .p1 = b at t2 o2 l2 hk
  obtain ⟨t3, o3, l3⟩ := b.startLowering_spec .p2
  generalize b.startLowering .p2 = c at t3 o3 l3 hk
  have hc := (t1.trans t2).trans t3
  have hwords := hc.sameWords hw
  dsimp only at hk
  rw [hwords.assessPeriod, hwords.statusPeriod] at hk
  have t4 : Timed c (((c.touchIce [12]).load .t10 j.assessPeriod .periodic).load .t14 Config.refreshTime .periodic) :=
    ((Timed.still (.touchIce c [12])).trans (.onTimer _ _ _)).trans (.onTimer _ _ _)
  have o4 : ∀ i, (((c.touchIce [12]).load .t10 j.assessPeriod .periodic).load .t14 Config.refreshTime .periodic).timer i =
      if i = .t14 then (c.timer .t14).load Config.refreshTime .periodic
      else if i = .t10 then (c.timer .t10).load j.assessPeriod .periodic else c.timer i := by
    intro i
    simp [Jobs.touchIce]
  generalize ((c.touchIce [12]).load .t10 j.assessPeriod .periodic).load .t14 Config.refreshTime .periodic = d at t4 o4 hk
  have h5 : Still d (d.touch 4) := .touch 4 d
  generalize d.touch 4 = e at h5 hk
  have o5 := Jobs.timer_of_tmr h5.tmr
  have h6 : Timed e k ∧ ∀ i, i ≠ .t13 → k.timer i = e.timer i := by
    subst hk
    split
    · exact ⟨.onTimer _ _ _, fun i hi => (Jobs.timer_stop _ _ _).trans (if_neg hi)⟩
    · exact ⟨.onTimer _ _ _, fun i hi => (Jobs.timer_load _ _ _ _ _).trans (if_neg hi)⟩
  obtain ⟨t6, o6⟩ := h6
  have hkeep : ∀ i, i ≠ .t13 → i ≠ .t14 → i ≠ .t10 → k.timer i = c.timer i := by
    intro i h1 h2 h3
    rw [o6 i h1, o5, o4, if_neg h2, if_neg h3]
  have hc3 : ∀ i, i ≠ .t3 → c.timer i = b.timer i := fun i h => o3 i (show i ∉ [TimerId.t3] by simpa using h)
  have hb2 : ∀ i, i ≠ .t2 → b.timer i = a.timer i := fun i h => o2 i (show i ∉ [TimerId.t2] by simpa using h)
  have ht13 : e.timer .t13 = j.timer .t13 := by
    rw [o5, o4, if_neg (by decide), if_neg (by decide), hc3 _ (by decide), hb2 _ (by decide), o1, if_neg (by decide)]
  refine ⟨hc.trans ((t4.trans (.still h5)).trans t6), fun i hi => ?_, ?t15, ?t14, ?t10, ?t13, ?lower⟩
  · simp only [List.mem_cons, List.not_mem_nil, or_false, not_or] at hi
    obtain ⟨n2, n3, n10, n13, n14, n15⟩ := hi
    rw [hkeep i n13 n14 n10, hc3 i n3, hb2 i n2, o1, if_neg n15]
  case t15 =>
    rw [hkeep _ (by decide) (by decide) (by decide), hc3 _ (by decide), hb2 _ (by decide), o1, if_pos rfl]
    exact Timer.loaded_load (by decide) _ _
  case t14 =>
    rw [o6 _ (by decide), o5, o4, if_pos rfl]
    exact Timer.loaded_load (by decide) _ _
  case t10 =>
    rw [o6 _ (by decide), o5, o4, if_neg (by decide), if_pos rfl]
    exact Timer.loaded_load (le_trans (by decide) (Nat.le_max_left 1000 _)) _ _
  case t13 =>
    rintro n rfl
    refine ⟨fun h => ?_, fun h => ?_⟩
    · rw [hk, if_neg (show ¬ j.statusPeriod = 0 from h), Jobs.timer_load, if_pos rfl]
      exact Timer.loaded_load (Nat.pos_of_ne_zero h) _ _
    · rw [hk, if_pos (show j.statusPeriod = 0 from h), Jobs.timer_stop, if_pos rfl, ht13]
      exact ⟨Timer.stopped_stop _, rfl⟩
  case lower =>
    have hab := (t1.trans t2).sameWords hw
    intro x h1 h2 h3
    cases x with
    | p1 =>
      rw [hkeep _ (by decide) (by decide) (by decide), hc3 _ (by decide), ← (t1.sameWords hw).pantoParam]
      rw [← t1.panto] at h1
      have ha : a.timer .t2 = j.timer .t2 := (o1 _).trans (if_neg (by decide))
      exact l2 h1 (by rw [show Panto.p1.stepTimer = .t2 from rfl, ha]; exact h2)
        (by rw [show Panto.p1.stepTimer = .t2 from rfl, ha]; exact h3)
    | p2 =>
      rw [hkeep _ (by decide) (by decide) (by decide), ← hab.pantoParam]
      rw [← (t1.trans t2).panto] at h1
      have hb : b.timer .t3 = j.timer .t3 := ((hb2 _ (by decide)).trans (o1 _)).trans (if_neg (by decide))
      exact l3 h1 (by rw [show Panto.p2.stepTimer = .t3 from rfl, hb]; exact h2)
        (by rw [show Panto.p2.stepTimer = .t3 from rfl, hb]; exact h3)

theorem Timer.stop_stopped {t : Timer} (h : t.stopped) : t.stop = t := by
  obtain ⟨hr, ho⟩ := h
  unfold Timer.stop
  rw [if_pos ho, ← hr, ← ho]

theorem SameWords.failedCheck (h : SameWords j k) : k.failedCheck = j.failedCheck := by
  simp only [Jobs.failedCheck, Jobs.anyLine, Jobs.lastLine, Jobs.lineSlot, Jobs.lastSlot, Jobs.roofWordFit, Jobs.raisable,
    h.mapUsable, h.lineUsable, h.anyBad, h.slotUsable, h.slotNode, h.mapNode, h.bad, h.word, h.pantoValid, h.startPanto]
  rfl

theorem Still.touchChecks (j : Jobs) : Still j j.touchChecks := .touchAll _ j

/-- R191: COMMISSION passed. -/
theorem State.commission_of (f : Frame) (c : SvcControl) (hd : (s.consume f).jobs.dev = .config)
    (hc : (s.consume f).jobs.failedCheck = none) : s.serviceCommission f c =
      (((s.consume f).abandon.onJobs fun j => j.touchChecks.begun.startTimers).reply f c 5 .ok).finish := by
  unfold State.serviceCommission
  dsimp only
  rw [hd, if_neg (by decide), hc]
  rfl

end Sys2Proof.Machine

open Sys2Proof Sys2Proof.Machine

/-- Settles O48. -/
theorem commissioning : Obligations.Commissioning := by
  unfold Obligations.Commissioning
  refine ⟨Jobs.failedCheck_none, Jobs.failedCheck_some, ?_⟩
  rintro s h c extra f hl rfl
  have hk := State.consume_still (serviceFrame h 5 c extra) s
  have hf := (State.consume_took (serviceFrame h 5 c extra) s).2
  have hex : ∀ u : State, s.serviceCommission (serviceFrame h 5 c extra) c = u.finish →
      EndsFrom (.serviceCommission h c extra) s u := fun u hu =>
    EndsFrom.of_taking (k := fun f s => s.serviceCommission f c) hl.1 rfl rfl hu
  have hsame := hk.sameWords hl.2.1
  refine ⟨fun hrun => hex _ ?run, fun n hconfig hfail => ?failed, fun hconfig hpass => ?passed⟩
  case run =>
    unfold State.serviceCommission
    dsimp only
    rw [hk.dev, hrun, if_pos rfl, State.reply_of (.inr (by decide))]
    rfl
  case failed =>
    have hserv : s.serviceCommission (serviceFrame h 5 c extra) c = (((s.consume (serviceFrame h 5 c extra)).onJobs
        Jobs.touchChecks).reply (serviceFrame h 5 c extra) c 5 (.checkFail n)).finish := by
      unfold State.serviceCommission
      dsimp only
      rw [hk.dev, hconfig, if_neg (by decide), hsame.failedCheck, hfail]
    obtain ⟨v, hv, hch⟩ : ∃ v, (s.consume (serviceFrame h 5 c extra)).onJobs Jobs.touchChecks =
        (s.consume (serviceFrame h 5 c extra)).setJobs v ∧ Still (s.consume (serviceFrame h 5 c extra)).jobs v :=
      ⟨_, rfl, .touchChecks _⟩
    rw [hv] at hserv
    obtain ⟨hsv, hev, hin⟩ := State.reply_still (serviceFrame h 5 c extra) c 5 (.checkFail n)
      ((s.consume (serviceFrame h 5 c extra)).setJobs v)
    rw [hev] at hserv
    exact ⟨_, (Still.trans (hk.trans hch) hsv).rest, hex _ hserv, hin (.inr nofun)⟩
  case passed =>
    have hserv := State.commission_of (s := s) (serviceFrame h 5 c extra) c (hk.dev.trans hconfig) (hsame.failedCheck.trans hpass)
    have hcheck := hk.trans (Still.touchChecks (s.consume (serviceFrame h 5 c extra)).jobs)
    generalize hj : (s.consume (serviceFrame h 5 c extra)).jobs.touchChecks = j at hcheck
    have hw := hcheck.tableWf hl.2.1
    obtain ⟨hb, hwb, htb, hre⟩ := Jobs.begun_spec (k := j.begun) hw (hcheck.dev.trans hconfig) rfl
    have hu : (s.consume (serviceFrame h 5 c extra)).abandon.onJobs (fun j => j.touchChecks.begun.startTimers) =
        (s.consume (serviceFrame h 5 c extra)).abandon.setJobs j.begun.startTimers := by rw [← hj]; rfl
    rw [hu] at hserv
    generalize j.begun = b at hb hwb htb hre hserv
    obtain ⟨htimed, hother, h15, h14, h10, h13, hlow⟩ := Jobs.startTimers_spec (k := b.startTimers) htb rfl
    generalize b.startTimers = e at htimed hother h15 h14 h10 h13 hlow hserv
    obtain ⟨hsv, hev, hin⟩ := State.reply_still (serviceFrame h 5 c extra) c 5 .ok
      ((s.consume (serviceFrame h 5 c extra)).abandon.setJobs e)
    refine ⟨_, hex _ hserv, ?_⟩
    generalize ((s.consume (serviceFrame h 5 c extra)).abandon.setJobs e).reply (serviceFrame h 5 c extra) c 5 .ok = u
      at hsv hev hin
    have hsv : Still e u.jobs := hsv
    have hu : u = { (s.consume (serviceFrame h 5 c extra)).abandon with jobs := u.jobs } := hev
    have hcon : (s.consume (serviceFrame h 5 c extra)).abandon.fr = s.fr.count .train (fun c => c.take.outcome .consumed) ∧
        (s.consume (serviceFrame h 5 c extra)).abandon.latch = s.latch ∧
        (s.consume (serviceFrame h 5 c extra)).abandon.nu = s.nu := by
      unfold State.abandon
      rw [hf]
      exact ⟨rfl, rfl, rfl⟩
    have hjs := hcheck.sameWords hl.2.1
    have hbs := hjs.trans hwb
    have hus := (htimed.sameWords htb).trans (hsv.sameWords (htimed.tableWf htb))
    have hrest := hsv.rest
    rw [htimed.rest, hb] at hrest
    have hnodes := j.polledNodes_read
    simp only [hjs.slotUsable, hjs.slotNode] at hnodes
    generalize j.polledNodes = nodes at hb hrest hnodes
    have hpanto : ∀ x, b.panto x = s.jobs.panto x := fun x => by
      rw [← hcheck.panto, hb]
      cases x <;> rfl
    have htm : ∀ i, b.timer i = s.jobs.timer i := fun i =>
      Jobs.timer_of_tmr ((congrArg Jobs.tmr hb :).trans hcheck.tmr) i
    have htu := fun i => Jobs.timer_of_tmr hsv.tmr i
    rw [hcheck.rest] at hrest
    have hoc : u.jobs.oc = { table := b.oc.table } := (congrArg Jobs.oc hrest :)
    have hru := hre.of_words hus (congrArg Outputs.table hoc :)
    simp only [hpanto, htm, hbs.iceParam, hbs.param, hbs.pantoParam, ← htu] at h15 h14 h10 h13 hlow
    refine ⟨congrArg Jobs.dev hrest, (congrArg State.rb hu :),
      (congrArg (·.fr.down) hu :).trans (congrArg Router.down hcon.1 :), (congrArg (·.fr.up) hu :).trans (congrArg Router.up hcon.1 :),
      (congrArg State.latch hu :).trans hcon.2.1, (congrArg State.nu hu :).trans hcon.2.2, (congrArg Jobs.cs hrest :),
      (congrArg Jobs.ice hrest :), (congrArg Jobs.speed hrest :), (congrArg Jobs.fb hrest :), (congrArg Jobs.lsi hrest :),
      (congrArg Jobs.lmu hrest :), (congrArg Jobs.p1 hrest :), (congrArg Jobs.p2 hrest :), (congrArg Jobs.arc hrest :),
      (congrArg Jobs.tag hrest :), h15, h14, h10, fun n hn => ⟨(h13 n hn).1, fun hz => ?_⟩, hlow, fun i hi => ?_, fun m => ?_,
      ?_, hru, fun p hp => ?_, fun a => ⟨(hus.word a).trans (hbs.word a), (hus.bad a).trans (hbs.bad a)⟩, fun hc => hin (.inl hc)⟩
    · obtain ⟨hstop, heq⟩ := (h13 n hn).2 hz
      exact ⟨hstop, fun hs => heq.trans (Timer.stop_stopped hs)⟩
    · rw [htu, hother i hi, htm]
    · have hn : u.jobs.nodes = nodes := (congrArg Jobs.nodes hrest :)
      unfold Jobs.node
      rw [hn]
      obtain ⟨hyes, hno⟩ := hnodes m
      by_cases hp : ∃ i, i < 32 ∧ s.jobs.slotUsable i = true ∧ s.jobs.slotNode i = m
      · rw [hyes hp]
        obtain ⟨i, hi, hiu, hin⟩ := hp
        exact ⟨rfl, rfl, fun _ => rfl, fun h => absurd hin (h i hi hiu)⟩
      · have hq : ∀ i, i < 32 → s.jobs.slotUsable i = true → s.jobs.slotNode i ≠ m := fun i hi hiu hin => hp ⟨i, hi, hiu, hin⟩
        rw [hno hq]
        exact ⟨rfl, rfl, fun h => absurd h hp, fun _ => rfl⟩
    · rw [hoc]
    · obtain ⟨-, -, hall⟩ := hru
      obtain ⟨-, -, hpend, -, hnone⟩ := hall p hp
      exact ⟨hpend, (hnone rfl).1⟩

end

section
/-! PROOFS. What the Ice Clearing Controller, the blind pantographs and the feedbacks leave alone within a step.
`Bystands j k` says that work which takes `j` to `k` leaves the changeover sequencer and the feedbacks to themselves,
forgets no uncorrectable mark, makes no pantograph COLLECTOR, and hands no change to the sequencer that would end its step,
so long as no scraper is the collector. -/

namespace Sys2Proof.Machine

open Sys2Proof

variable {j k l : Jobs} {s : State} {x : Panto}

/-! ### Changes that end no step -/

/-- A change at which OPENING is not left: lower-all has not come on, and no collector has gone. -/
def Change.harmless : Change → Prop
  | .lowerAllOn => False
  | .panto _ old new role => collectorGone old new role = false
  | _ => True

theorem Change.harmless_of_role {y : Panto} {old new : PState} {role : Role} (h : role ≠ .collector) :
    (Change.panto y old new role).harmless := by
  cases role with
  | collector => exact absurd rfl h
  | _ => rfl

/-- The scraper is not the collector. -/
def Jobs.rolesApart (j : Jobs) : Prop := ∀ x, (j.panto x).role = .collector → j.ice.scraper ≠ some x

structure Bystands (j k : Jobs) : Prop where
  held : Held j k
  cs : k.cs = j.cs
  fb : k.fb = j.fb
  marks : j.tableWf → ∀ a, j.marked a = true → k.marked a = true
  role : ∀ x, (k.panto x).role = .collector → (j.panto x).role = .collector
  scraper : ∀ x, k.ice.scraper = some x → j.ice.scraper = some x ∨ (k.panto x).role ≠ .collector
  todo : j.rolesApart → ∀ c ∈ k.todo, c ∈ j.todo ∨ c.harmless

theorem Bystands.apart (h : Bystands j k) (ha : j.rolesApart) : k.rolesApart := fun x hr hs =>
  (h.scraper x hs).elim (ha x (h.role x hr)) fun hn => hn hr

theorem Bystands.refl (j : Jobs) : Bystands j j :=
  ⟨.refl j, rfl, rfl, fun _ _ h => h, fun _ h => h, fun _ h => .inl h, fun _ _ h => .inl h⟩

theorem Bystands.trans (h : Bystands j k) (h' : Bystands k l) : Bystands j l where
  held := h.held.trans h'.held
  cs := h'.cs.trans h.cs
  fb := h'.fb.trans h.fb
  marks hw a ha := h'.marks (h.held.tableWf hw) a (h.marks hw a ha)
  role x hr := h.role x (h'.role x hr)
  scraper x hs := (h'.scraper x hs).elim
    (fun hk => (h.scraper x hk).imp id fun hn hr => hn (h'.role x hr)) .inr
  todo ha c hc := (h'.todo (h.apart ha) c hc).elim (h.todo ha c) .inr

/-! ### The operations of the state -/

theorem Jobs.touch_marks (a : Nat) (hw : j.tableWf) (b : Nat) (h : j.marked b = true) : (j.touch a).marked b = true := by
  unfold Jobs.marked at h ⊢
  by_cases hb : b = a
  · subst hb
    rcases Jobs.touch_spec b j with ⟨hc, -⟩ | ⟨-, -, hm, -⟩ | ⟨-, e⟩
    · rw [TWord.correctable, h] at hc
      exact nomatch hc
    · rw [h] at hm
      exact nomatch hm
    · rw [e]; exact h
  · rw [Jobs.cell_touch_ne hw hb]
    exact h

theorem Jobs.touch_todo (a : Nat) (j : Jobs) : ∀ c ∈ (j.touch a).todo, c ∈ j.todo ∨ c.harmless := by
  intro c hc
  rcases Jobs.touch_spec a j with ⟨-, e⟩ | ⟨-, -, -, e⟩ | ⟨-, e⟩ <;> rw [e] at hc
  · exact .inl hc
  · rcases List.mem_append.mp hc with hc | hc
    · exact .inl hc
    · rw [List.mem_singleton.mp hc]
      exact .inr trivial
  · exact .inl hc

theorem Bystands.of_ice (held : Held j k) (cs : k.cs = j.cs) (fb : k.fb = j.fb) (tm : k.tm = j.tm)
    (panto : ∀ x, k.panto x = j.panto x) (scraper : ∀ x, k.ice.scraper = some x → j.ice.scraper = some x ∨ (j.panto x).role ≠ .collector)
    (todo : k.todo = j.todo) : Bystands j k := by
  refine ⟨held, cs, fb, fun _ a h => ?_, fun x h => by rwa [panto] at h, fun x h => ?_, fun _ c h => .inl (todo ▸ h)⟩
  · unfold Jobs.marked Jobs.cell at h ⊢
    rw [tm]
    exact h
  · rw [panto]
    exact scraper x h

theorem Bystands.touch (a : Nat) (j : Jobs) : Bystands j (j.touch a) :=
  ⟨.touch a j, Jobs.touch_cs a j, Jobs.touch_fb a j, fun hw b h => Jobs.touch_marks a hw b h,
    fun x h => by rwa [Jobs.panto_touch] at h, fun x h => .inl (by rwa [Jobs.touch_ice] at h), fun _ => j.touch_todo a⟩

theorem Bystands.touchAll (as : List Nat) (j : Jobs) : Bystands j (j.touchAll as) := by
  induction as generalizing j with
  | nil => exact .refl j
  | cons a as ih => exact (Bystands.touch a j).trans (ih _)

theorem Bystands.onTimer (i : TimerId) (f : Timer → Timer) (j : Jobs) : Bystands j (j.onTimer i f) :=
  .of_ice (.onTimer i f j) rfl rfl rfl (fun x => by cases x <;> rfl) (fun _ => .inl) rfl

theorem Bystands.load (i : TimerId) (n : Nat) (m : TimerMode) (j : Jobs) : Bystands j (j.load i n m) := .onTimer i _ j
theorem Bystands.stop (i : TimerId) (j : Jobs) : Bystands j (j.stop i) := .onTimer i _ j

theorem Bystands.flag (f : Flag) (n : Nat) (j : Jobs) : Bystands j (j.flag f n) :=
  .of_ice (.flag f n j) rfl rfl rfl (fun x => by cases x <;> rfl) (fun _ => .inl) rfl

theorem Bystands.push {c : Change} (hc : c.harmless) (j : Jobs) : Bystands j (j.push c) where
  held := .push c j
  cs := rfl
  fb := rfl
  marks _ _ h := h
  role x h := by cases x <;> exact h
  scraper _ h := .inl h
  todo _ d hd := (List.mem_append.mp hd).imp id fun hd => by rw [List.mem_singleton.mp hd]; exact hc

theorem Bystands.setIce_of {v : Ice} (hv : ∀ x, v.scraper = some x → j.ice.scraper = some x ∨ (j.panto x).role ≠ .collector) :
    Bystands j (j.setIce v) :=
  .of_ice (.setIce v j) rfl rfl rfl (fun x => by cases x <;> rfl) hv rfl

theorem Bystands.setIce (v : Ice) (j : Jobs) (hv : v.scraper = none ∨ v.scraper = j.ice.scraper) : Bystands j (j.setIce v) :=
  .setIce_of fun x h => by
    rcases hv with e | e
    · rw [e] at h; exact nomatch h
    · exact .inl (e ▸ h)

theorem Bystands.setLsi (v : Lsi) (j : Jobs) : Bystands j (j.setLsi v) :=
  .of_ice (.setLsi v j) rfl rfl rfl (fun x => by cases x <;> rfl) (fun _ => .inl) rfl

theorem Bystands.ocFollow (e : EarthFb) (j : Jobs) : Bystands j (j.ocFollow e) := by
  obtain ⟨h, -⟩ := Jobs.ocFollow_spec e j _ rfl
  refine .of_ice (.ocFollow e j) ?_ ?_ ?_ (fun x => ?_) (fun x hx => .inl ?_) ?_
  · rw [h]
  · rw [h]
  · rw [h]
  · rw [h]; cases x <;> rfl
  · rw [h] at hx; exact hx
  · rw [h]

theorem Bystands.ocReact (j : Jobs) : Bystands j j.ocReact := .ocFollow _ j
theorem Bystands.ocSync (j : Jobs) : Bystands j j.ocSync := .ocFollow _ j

/-! ### The Line System Identifier's lost entries -/

theorem Bystands.confirm (v : Line) (j : Jobs) : Bystands j (j.confirm v) := by
  unfold Jobs.confirm Jobs.setConfirmed
  exact ((Bystands.setLsi _ j).trans (.push (c := .confirmed) trivial _)).trans (.flag _ _ _)

theorem Bystands.lostEntries (j : Jobs) : Bystands j j.lostEntries := by
  unfold Jobs.lostEntries
  grind (ematch := 20) [Bystands.trans, Bystands.refl, Bystands.setLsi, Bystands.confirm]

/-! ### Lowering and raising -/

theorem Bystands.moveP {y : Panto} {r : PantoRec}
    (hr : r.role = .collector → (j.panto y).role = .collector)
    (hc : j.rolesApart → (Change.panto y (j.panto y).state r.state (j.panto y).role).harmless) : Bystands j (j.moveP y r) where
  held := .moveP y r j
  cs := Jobs.moveP_cs j y r
  fb := by cases y <;> rfl
  marks _ a h := by cases y <;> exact h
  role x h := by
    rw [Jobs.moveP_panto] at h
    split at h
    · next e => rw [e]; exact hr h
    · exact h
  scraper x h := .inl (by cases y <;> exact h)
  todo ha c hmem := by
    have hmem : c ∈ (j.setPanto y r).todo ++ [Change.panto y (j.panto y).state r.state (j.panto y).role] := hmem
    rcases List.mem_append.mp hmem with hmem | hmem
    · exact .inl (by cases y <;> exact hmem)
    · rw [List.mem_singleton.mp hmem]
      exact .inr (hc ha)

theorem Bystands.lower {y : Panto} (h : j.rolesApart → (j.panto y).role ≠ .collector) : Bystands j (j.lower y) := by
  unfold Jobs.lower
  split
  · have hread : Bystands j (((j.touch (pantoAddr y 6)).stop y.settleTimer).stop y.arcTimer) :=
      ((Bystands.touch _ j).trans (.stop _ _)).trans (.stop _ _)
    have hp : (((j.touch (pantoAddr y 6)).stop y.settleTimer).stop y.arcTimer).panto y = j.panto y := by
      simp only [Jobs.panto_stop, Jobs.panto_touch]
    have hapart : ∀ ha : (((j.touch (pantoAddr y 6)).stop y.settleTimer).stop y.arcTimer).rolesApart,
        j.rolesApart := fun ha x hx hs => by
      refine ha x (by simpa only [Jobs.panto_stop, Jobs.panto_touch] using hx) ?_
      rw [show (((j.touch (pantoAddr y 6)).stop y.settleTimer).stop y.arcTimer).ice = (j.touch (pantoAddr y 6)).ice from rfl,
        Jobs.touch_ice, hs]
    refine (hread.trans (.moveP (fun hr => ?_) fun ha => ?_)).trans (.load _ _ _ _)
    · rw [hp]; exact hr
    · rw [hp]; exact Change.harmless_of_role (h (hapart ha))
  · exact .refl j

/-- R88: the scraper that the IC gives up is not the collector. -/
theorem Bystands.dropScraper (j : Jobs) : Bystands j j.dropScraper := by
  unfold Jobs.dropScraper
  split
  · rename_i y hy
    exact (Bystands.lower fun ha hr => ha y hr hy).trans (.setIce _ _ (.inl rfl))
  · exact .refl j

theorem Bystands.touchRaise (y : Panto) (j : Jobs) : Bystands j (j.touchRaise y) := by
  unfold Jobs.touchRaise
  split
  · rw [Jobs.touchMaps_eq]
    exact (Bystands.touchAll _ j).trans (.touch _ _)
  · exact .refl j

/-- R62: a raise in the role of scraper. -/
theorem Bystands.raise_scraper (y : Panto) (b : Asker) (j : Jobs) : Bystands j (j.raise y .scraper b).2 := by
  unfold Jobs.raise
  dsimp only
  refine (Bystands.touchRaise y j).trans ?_
  split
  · unfold Jobs.prepare
    refine ((Bystands.touch _ _).trans (.moveP (fun hr => ?_) fun _ => ?_)).trans (.load _ _ _ _)
    · exact nomatch hr
    · simp [Change.harmless, collectorGone]
  · exact .refl _

/-! ### The heaters and the mode -/

theorem Bystands.setPhase (y : Panto) (p : HeatPhase) (j : Jobs) : Bystands j (j.setIce (j.ice.setPhase y p)) :=
  .setIce _ j (.inr (by cases y <;> rfl))

theorem Bystands.touchIce (is : List Nat) (j : Jobs) : Bystands j (j.touchIce is) := .touchAll _ j

theorem Bystands.nextPhase (y : Panto) (b : Bool) (j : Jobs) : Bystands j (j.nextPhase y b) := by
  unfold Jobs.nextPhase Jobs.loadPhase Jobs.restPhase
  grind (ematch := 20) [Bystands.trans, Bystands.refl, Bystands.touchIce, Bystands.setPhase, Bystands.load, Bystands.stop,
    Bystands.onTimer]

theorem Bystands.followCycle (y : Panto) (j : Jobs) : Bystands j (j.followCycle y) := by
  unfold Jobs.followCycle Jobs.startCycle Jobs.supplyCycle Jobs.endCycle
  grind (ematch := 20) [Bystands.trans, Bystands.refl, Bystands.nextPhase, Bystands.onTimer, Bystands.stop, Bystands.setPhase]

theorem Bystands.setMode_from {m : IceMode} (v : Ice) (h : Bystands j (j.setIce { v with mode := m })) :
    Bystands j ((j.setIce v).setMode m) := by
  unfold Jobs.setMode
  exact ((h.trans (.followCycle .p1 _)).trans (.followCycle .p2 _)).trans ((Bystands.flag _ _ _).trans (.push (c := .look) trivial _))

theorem Bystands.setMode (m : IceMode) (j : Jobs) : Bystands j (j.setMode m) :=
  Bystands.setMode_from (j := j) j.ice (.setIce _ j (.inr rfl))

theorem Bystands.leaveTo (m : IceMode) (j : Jobs) : Bystands j (j.leaveTo m) := by
  unfold Jobs.leaveTo
  split
  · exact .refl j
  · exact (Bystands.dropScraper j).trans (.setMode m _)

theorem Bystands.scraperRefused (m : IceMode) (j : Jobs) : Bystands j (j.scraperRefused m) :=
  (Bystands.setIce { j.ice with barred := true } j (.inr rfl)).trans (.leaveTo m _)

theorem Bystands.touchPermits (j : Jobs) : Bystands j j.touchPermits := by
  have hc : ∀ k : Jobs, Bystands k k.touchConfirmed := fun k => by rw [Jobs.touchConfirmed_eq]; exact .touchAll _ k
  have hm : ∀ (r : MapRole) (k : Jobs), Bystands k (k.touchMap r) := fun r k => .touchAll _ k
  unfold Jobs.touchPermits
  dsimp only
  split
  · exact ((Bystands.touchIce _ j).trans (hc _)).trans (hm _ _)
  · exact (Bystands.touchIce _ j).trans (hc _)

theorem Bystands.enterScrape (j : Jobs) : Bystands j j.enterScrape := by
  unfold Jobs.enterScrape
  split
  · exact .refl j
  · dsimp only
    split
    · exact .leaveTo _ j
    · rename_i y _
      have hr := Bystands.raise_scraper y .ic j
      split
      · rename_i k hk
        rw [hk] at hr
        have hacc : j.raiseAnswer y .scraper .ic = .accepted := congrArg Prod.fst hk
        have hrole := (Jobs.raise_accepted hacc (by decide)).2
        rw [hk] at hrole
        refine hr.trans (.setMode_from _ (.setIce_of fun x hx => .inr ?_))
        rw [← Option.some.inj hx, hrole]
        decide
      · rename_i k _ hk
        rw [hk] at hr
        exact hr.trans (.scraperRefused _ _)

theorem Bystands.choose (j : Jobs) : Bystands j j.choose := by
  unfold Jobs.choose
  dsimp only
  split
  · exact (Bystands.touchPermits j).trans (.enterScrape _)
  · exact (Bystands.touchPermits j).trans (.leaveTo _ _)

theorem Bystands.chooseUnlessSuspended (j : Jobs) : Bystands j j.chooseUnlessSuspended := by
  unfold Jobs.chooseUnlessSuspended
  split
  · exact .refl j
  · exact .choose j

theorem Bystands.watch (j : Jobs) : Bystands j j.watch := by
  unfold Jobs.watch
  grind (ematch := 20) [Bystands.trans, Bystands.refl, Bystands.touchPermits, Bystands.scraperRefused, Bystands.leaveTo]

theorem Bystands.suspendIfMust (j : Jobs) : Bystands j j.suspendIfMust := by
  unfold Jobs.suspendIfMust
  split
  · exact .leaveTo _ j
  · exact .refl j

theorem Bystands.suspension (j : Jobs) : Bystands j j.suspension := by
  unfold Jobs.suspension Jobs.endSuspension
  split
  · exact .suspendIfMust j
  · split
    · exact (Bystands.setIce _ j (.inr (by rfl))).trans (.choose _)
    · exact .refl j

theorem Bystands.iceInputs (j : Jobs) : Bystands j j.iceInputs := .setIce _ j (.inr rfl)

theorem Bystands.iceLevels (j : Jobs) : Bystands j j.iceLevels :=
  (((((((Bystands.iceInputs j).trans (.ocReact _)).trans (.suspension _)).trans (.ocReact _)).trans (.watch _)).trans
    (.ocReact _)).trans (.followCycle _ _)).trans (.followCycle _ _)

/-! ### The record of the Line System Identifier -/

@[simp] theorem Jobs.push_lsi (c : Change) (j : Jobs) : (j.push c).lsi = j.lsi := rfl
@[simp] theorem Jobs.flag_lsi (f : Flag) (n : Nat) (j : Jobs) : (j.flag f n).lsi = j.lsi := rfl
@[simp] theorem Jobs.onTimer_lsi (i : TimerId) (f : Timer → Timer) (j : Jobs) : (j.onTimer i f).lsi = j.lsi := rfl
@[simp] theorem Jobs.load_lsi (i : TimerId) (n : Nat) (m : TimerMode) (j : Jobs) : (j.load i n m).lsi = j.lsi := rfl
@[simp] theorem Jobs.stop_lsi (i : TimerId) (j : Jobs) : (j.stop i).lsi = j.lsi := rfl
@[simp] theorem Jobs.touchIce_lsi (is : List Nat) (j : Jobs) : (j.touchIce is).lsi = j.lsi := Jobs.touchAll_lsi _ j
@[simp] theorem Jobs.loadPhase_lsi (y : Panto) (p : HeatPhase) (n : Nat) (j : Jobs) : (j.loadPhase y p n).lsi = j.lsi := by
  unfold Jobs.loadPhase
  dsimp only
  split <;> rfl
@[simp] theorem Jobs.nextPhase_lsi (y : Panto) (b : Bool) (j : Jobs) : (j.nextPhase y b).lsi = j.lsi := by
  have hr : ∀ k : Jobs, (k.restPhase y).lsi = k.lsi := fun _ => rfl
  unfold Jobs.nextPhase
  grind [Jobs.loadPhase_lsi, Jobs.touchIce_lsi]
@[simp] theorem Jobs.followCycle_lsi (y : Panto) (j : Jobs) : (j.followCycle y).lsi = j.lsi := by
  unfold Jobs.followCycle Jobs.startCycle Jobs.supplyCycle Jobs.endCycle
  grind [Jobs.nextPhase_lsi, Jobs.onTimer_lsi, Jobs.stop_lsi, Jobs.setIce_lsi]
@[simp] theorem Jobs.setMode_lsi (m : IceMode) (j : Jobs) : (j.setMode m).lsi = j.lsi := by
  unfold Jobs.setMode
  dsimp only
  rw [Jobs.push_lsi, Jobs.flag_lsi, Jobs.followCycle_lsi, Jobs.followCycle_lsi, Jobs.setIce_lsi]
@[simp] theorem Jobs.moveP_lsi (y : Panto) (r : PantoRec) (j : Jobs) : (j.moveP y r).lsi = j.lsi := by cases y <;> rfl
@[simp] theorem Jobs.lower_lsi (y : Panto) (j : Jobs) : (j.lower y).lsi = j.lsi := by
  unfold Jobs.lower
  split
  · dsimp only
    rw [Jobs.load_lsi, Jobs.moveP_lsi, Jobs.stop_lsi, Jobs.stop_lsi, Jobs.touch_lsi]
  · rfl
@[simp] theorem Jobs.dropScraper_lsi (j : Jobs) : j.dropScraper.lsi = j.lsi := by
  unfold Jobs.dropScraper
  split
  · exact Jobs.lower_lsi _ j
  · rfl
@[simp] theorem Jobs.leaveTo_lsi (m : IceMode) (j : Jobs) : (j.leaveTo m).lsi = j.lsi := by
  unfold Jobs.leaveTo
  split <;> simp
@[simp] theorem Jobs.scraperRefused_lsi (m : IceMode) (j : Jobs) : (j.scraperRefused m).lsi = j.lsi := Jobs.leaveTo_lsi m _
@[simp] theorem Jobs.suspendIfMust_lsi (j : Jobs) : j.suspendIfMust.lsi = j.lsi := by
  unfold Jobs.suspendIfMust
  split <;> simp
@[simp] theorem Jobs.prepare_lsi (y : Panto) (r : Role) (j : Jobs) : (j.prepare y r).lsi = j.lsi := by
  unfold Jobs.prepare
  dsimp only
  rw [Jobs.load_lsi, Jobs.moveP_lsi, Jobs.touch_lsi]
@[simp] theorem Jobs.raise_lsi (y : Panto) (r : Role) (b : Asker) (j : Jobs) : (j.raise y r b).2.lsi = j.lsi := by
  have ht := (Jobs.touchRaise_still y j).lsi
  unfold Jobs.raise
  dsimp only
  split
  · rw [Jobs.prepare_lsi, ht]
  · exact ht
@[simp] theorem Jobs.touchPermits_lsi (j : Jobs) : j.touchPermits.lsi = j.lsi := by
  unfold Jobs.touchPermits
  dsimp only
  split <;> simp [Jobs.touchConfirmed_eq, Jobs.touchMap_eq]
@[simp] theorem Jobs.enterScrape_lsi (j : Jobs) : j.enterScrape.lsi = j.lsi := by
  have hr : ∀ y, (j.raise y .scraper .ic).2.lsi = j.lsi := fun y => Jobs.raise_lsi y _ _ j
  unfold Jobs.enterScrape
  grind [Jobs.leaveTo_lsi, Jobs.setMode_lsi, Jobs.scraperRefused_lsi, Jobs.setIce_lsi]
@[simp] theorem Jobs.choose_lsi (j : Jobs) : j.choose.lsi = j.lsi := by
  unfold Jobs.choose
  dsimp only
  split <;> simp
@[simp] theorem Jobs.watch_lsi (j : Jobs) : j.watch.lsi = j.lsi := by
  unfold Jobs.watch
  grind [Jobs.touchPermits_lsi, Jobs.scraperRefused_lsi, Jobs.leaveTo_lsi]
@[simp] theorem Jobs.chooseUnlessSuspended_lsi (j : Jobs) : j.chooseUnlessSuspended.lsi = j.lsi := by
  unfold Jobs.chooseUnlessSuspended
  split <;> simp
@[simp] theorem Jobs.suspension_lsi (j : Jobs) : j.suspension.lsi = j.lsi := by
  unfold Jobs.suspension Jobs.endSuspension
  grind [Jobs.suspendIfMust_lsi, Jobs.choose_lsi, Jobs.setIce_lsi]
@[simp] theorem Jobs.lowerBlind_lsi (y : Panto) (j : Jobs) : (j.lowerBlind y).lsi = j.lsi := by
  have hset : ∀ (k : Jobs) (r : PantoRec), (k.setPanto y r).lsi = k.lsi := fun k r => by cases y <;> rfl
  unfold Jobs.lowerBlind
  split
  · exact (hset _ _).trans (Jobs.lower_lsi y j)
  · rfl
@[simp] theorem Jobs.ocFollow_lsi (e : EarthFb) (j : Jobs) : (j.ocFollow e).lsi = j.lsi := by
  rw [(Jobs.ocFollow_spec e j _ rfl).1]
@[simp] theorem Jobs.ocReact_lsi (j : Jobs) : j.ocReact.lsi = j.lsi := Jobs.ocFollow_lsi _ j
@[simp] theorem Jobs.ocSync_lsi (j : Jobs) : j.ocSync.lsi = j.lsi := Jobs.ocFollow_lsi _ j
@[simp] theorem Jobs.syncFeedback_lsi (j : Jobs) : j.syncFeedback.lsi = j.lsi := by
  unfold Jobs.syncFeedback
  grind [Jobs.push_lsi, Jobs.setFb_lsi]
@[simp] theorem Jobs.iceLevels_lsi (j : Jobs) : j.iceLevels.lsi = j.lsi := by
  unfold Jobs.iceLevels
  simp only [Jobs.followCycle_lsi, Jobs.ocReact_lsi, Jobs.watch_lsi, Jobs.suspension_lsi]
  rfl

end Sys2Proof.Machine
end

section
/-! PROOFS. The due head entry (R41) through the whole of its step: what the sequencer has in hand once it has taken the head,
and that OPENING is kept where no collector is lost. -/

namespace Sys2Proof.Machine

open Sys2Proof

variable {j k l : Jobs} {s : State} {x : Panto} {f : Feature} {rest : List Feature} {now : Line}

/-! ### The sequencer's answers in OPENING and HOLD -/

theorem Jobs.csTest_opening_stays (due : Bool) (h : j.cs.state = .opening) (hb : j.fb.brk ≠ .open) : j.csTest due = j := by
  unfold Jobs.csTest
  rw [h]
  exact if_neg hb

theorem Jobs.csTest_hold (due : Bool) (h : j.cs.state = .hold) : j.csTest due = j := by
  unfold Jobs.csTest
  rw [h]

/-- In OPENING, with the breaker not open, only the loss of the collector and lower-all end the step. -/
theorem Jobs.csReact_opening (c : Change) (h : j.cs.state = .opening) (hb : j.fb.brk ≠ .open) (hc : j.cs.command = .open) :
    j.csReact c = j ∨ ¬ c.harmless ∧ ∃ r, j.csReact c = j.failStep r ∨ j.csReact c = j.setOpen.failStep r := by
  cases c with
  | look => exact .inl (Jobs.csTest_opening_stays _ h hb)
  | cs => exact .inl (Jobs.csTest_opening_stays _ h hb)
  | selector => exact .inl (Jobs.csTest_opening_stays _ h hb)
  | confirmed =>
    refine .inl ?_
    show j.csConfirmed = j
    unfold Jobs.csConfirmed
    rw [if_neg (by rw [h, hc]; decide)]
    exact Jobs.csTest_opening_stays _ h hb
  | breaker old new =>
    refine .inl ?_
    show j.csBreaker old new = j
    unfold Jobs.csBreaker
    rw [if_neg (by rw [hc]; simp)]
    exact Jobs.csTest_opening_stays _ h hb
  | panto y old new role =>
    by_cases hg : collectorGone old new role = true
    · have hrole : role = .collector := by
        cases role with
        | collector => rfl
        | _ => exact absurd hg (by simp [collectorGone])
      subst hrole
      refine .inr ⟨fun (hh : collectorGone old new .collector = false) => ?_, .pantograph, .inr (Jobs.csPanto_held hg (.inl h))⟩
      rw [hh] at hg
      exact nomatch hg
    · refine .inl ?_
      have hfail := Jobs.csPanto_failed (j := j) (m := j) (x := y) (old := old) (new := new) (role := role) (by rw [if_neg hg])
        (by unfold Jobs.csContactLost; rw [h]; rfl)
      refine hfail.trans ?_
      unfold Jobs.csPantoFailed
      rw [h]
      exact Jobs.csTest_opening_stays _ h hb
  | lowerAllOn =>
    refine .inr ⟨id, .lowerAll, .inl ?_⟩
    show j.csLowerAll = _
    unfold Jobs.csLowerAll
    rw [h]

/-- HOLD is left by requests alone. -/
theorem Jobs.csReact_hold (c : Change) (h : j.cs.state = .hold) : j.csReact c = j ∨ j.csReact c = j.setOpen := by
  cases c with
  | look => exact .inl (Jobs.csTest_hold _ h)
  | cs => exact .inl (Jobs.csTest_hold _ h)
  | selector => exact .inl (Jobs.csTest_hold _ h)
  | confirmed =>
    refine .inl ?_
    show j.csConfirmed = j
    unfold Jobs.csConfirmed
    rw [if_neg (by rw [h]; simp [CsState.resting])]
    exact Jobs.csTest_hold _ h
  | breaker old new =>
    refine .inl ?_
    show j.csBreaker old new = j
    unfold Jobs.csBreaker
    rw [if_neg (by rw [h]; simp [CsState.resting])]
    exact Jobs.csTest_hold _ h
  | panto y old new role =>
    have hstep : ∀ m : Jobs, m.cs.state = .hold → (m = if collectorGone old new role then j.csCollectorGone else j) →
        j.csPanto y old new role = m := by
      intro m hm he
      rw [Jobs.csPanto_failed he (by unfold Jobs.csContactLost; rw [hm]; rfl)]
      unfold Jobs.csPantoFailed
      rw [hm]
      exact Jobs.csTest_hold _ hm
    by_cases hg : collectorGone old new role = true
    · refine .inr (hstep _ (by rw [Jobs.setOpen_cs]; exact h) ?_)
      rw [if_pos hg]
      unfold Jobs.csCollectorGone
      dsimp only
      rw [Jobs.setOpen_cs, h]
    · exact .inl (hstep j h (by rw [if_neg hg]))
  | lowerAllOn =>
    refine .inl ?_
    show j.csLowerAll = j
    unfold Jobs.csLowerAll
    rw [h]

/-! ### The head taken -/

/-- Work on one block's records that leaves the feedbacks and forgets no uncorrectable mark. -/
structure Spares (j k : Jobs) : Prop where
  held : Held j k
  fb : k.fb = j.fb
  marks : j.tableWf → ∀ a, j.marked a = true → k.marked a = true

theorem Bystands.spares (h : Bystands j k) : Spares j k := ⟨h.held, h.fb, h.marks⟩

theorem Spares.trans (h : Spares j k) (h' : Spares k l) : Spares j l :=
  ⟨h.held.trans h'.held, h'.fb.trans h.fb, fun hw a ha => h'.marks (h.held.tableWf hw) a (h.marks hw a ha)⟩

theorem Spares.of_tm (held : Held j k) (fb : k.fb = j.fb) (tm : k.tm = j.tm) : Spares j k :=
  ⟨held, fb, fun _ a h => by unfold Jobs.marked Jobs.cell at h ⊢; rwa [tm]⟩

theorem Spares.setOpen (j : Jobs) : Spares j j.setOpen := by
  refine .of_tm (.setOpen j) (OnlyChangeover.setOpen j).fb ?_
  unfold Jobs.setOpen
  dsimp only
  split <;> rfl

theorem Spares.enterHold (r : HoldReason) (step : CsState) (j : Jobs) : Spares j (j.enterHold r step) := by
  have htm : (j.enterHold r step).tm = j.setOpen.tm := rfl
  refine ⟨.enterHold r step j, (OnlyChangeover.enterHold r step j).fb, fun hw a h => ?_⟩
  have h := (Spares.setOpen j).marks hw a h
  unfold Jobs.marked Jobs.cell at h ⊢
  rwa [htm]

theorem Spares.touch (a : Nat) (j : Jobs) : Spares j (j.touch a) := (Bystands.touch a j).spares

theorem Spares.onTimer (i : TimerId) (f : Timer → Timer) (j : Jobs) : Spares j (j.onTimer i f) := (Bystands.onTimer i f j).spares

theorem Spares.moveP (y : Panto) (r : PantoRec) (j : Jobs) : Spares j (j.moveP y r) :=
  .of_tm (.moveP y r j) (by cases y <;> rfl) (by cases y <;> rfl)

theorem Spares.lower (y : Panto) (j : Jobs) : Spares j (j.lower y) := by
  unfold Jobs.lower
  split
  · exact ((((Spares.touch _ j).trans (.onTimer _ _ _)).trans (.onTimer _ _ _)).trans (.moveP _ _ _)).trans (.onTimer _ _ _)
  · exact (Bystands.refl j).spares

theorem Spares.lowerBlind (y : Panto) (j : Jobs) : Spares j (j.lowerBlind y) := by
  have hset : ∀ (k : Jobs) (r : PantoRec), (k.setPanto y r).tm = k.tm ∧ (k.setPanto y r).fb = k.fb := by
    intro k r
    cases y <;> exact ⟨rfl, rfl⟩
  refine ⟨.lowerBlind y j, ?_, fun hw a h => ?_⟩ <;> unfold Jobs.lowerBlind <;> split
  · exact (hset _ _).2.trans (Spares.lower y j).fb
  · rfl
  · have h := (Spares.lower y j).marks hw a h
    unfold Jobs.marked Jobs.cell at h ⊢
    rwa [(hset _ _).1]
  · exact h

theorem Spares.anyMarked (h : Spares j k) (hw : j.tableWf) (as : List Nat) (hm : j.anyMarked as = true) :
    k.anyMarked as = true := by
  unfold Jobs.anyMarked at hm ⊢
  obtain ⟨a, ha, hm⟩ := List.any_eq_true.mp hm
  exact List.any_eq_true.mpr ⟨a, ha, h.marks hw a hm⟩

theorem Spares.mapStands (h : Spares j k) (hw : j.tableWf) (r : MapRole) (hk : k.mapStands r = true) : j.mapStands r = true := by
  unfold Jobs.mapStands at hk ⊢
  rw [(h.held.sameWords hw).mapNamed, Bool.and_eq_true, Bool.not_eq_true'] at hk
  rw [Bool.and_eq_true, Bool.not_eq_true']
  refine ⟨hk.1, Bool.eq_false_iff.mpr fun hm => ?_⟩
  rw [h.anyMarked hw _ hm] at hk
  exact nomatch hk.2

/-- R39: a breaker reading that is not OPEN does not come to be OPEN by work that leaves what it is read from. -/
theorem Spares.brkNow (h : Spares j k) (hw : j.tableWf) (hb : j.brkNow ≠ .open) : k.brkNow ≠ .open := by
  unfold Jobs.brkNow Jobs.node at hb ⊢
  rw [(h.held.sameWords hw).mapNode, h.held.nodes, h.fb]
  cases hk : k.mapStands .brkPos with
  | false => simp
  | true =>
    rw [h.mapStands hw _ hk] at hb
    exact hb

/-- The head `f` has been taken in this step, with `now` for the confirmed system, and the breaker does not read OPEN. -/
structure HeadInHand (f : Feature) (rest : List Feature) (now : Line) (j : Jobs) : Prop where
  run : j.dev = .run
  wf : j.tableWf
  list : j.cs.list = rest
  current : j.cs.current = some f
  expected : j.cs.expected = some now
  command : j.cs.command = .open
  brk : j.fb.brk ≠ .open
  reading : j.brkNow ≠ .open
  state : (now.isSystem = true ∧ (j.cs.state = .opening ∨ j.cs.state = .hold)) ∨
    (now.isSystem = false ∧ j.cs.state = .hold ∧ j.cs.reason = some .identify ∧ j.cs.stepOfFailure = some .armed)

theorem HeadInHand.of_spares (h : HeadInHand f rest now j) (hs : Spares j k) (hc : k.cs = j.cs) :
    HeadInHand f rest now k where
  run := hs.held.dev.trans h.run
  wf := hs.held.tableWf h.wf
  list := hc ▸ h.list
  current := hc ▸ h.current
  expected := hc ▸ h.expected
  command := hc ▸ h.command
  brk := hs.fb ▸ h.brk
  reading := hs.brkNow h.wf h.reading
  state := hc ▸ h.state

theorem HeadInHand.bystands (h : HeadInHand f rest now j) (hb : Bystands j k) : HeadInHand f rest now k :=
  h.of_spares hb.spares hb.cs

theorem HeadInHand.setOpen (h : HeadInHand f rest now j) : HeadInHand f rest now j.setOpen where
  run := (Held.setOpen j).dev.trans h.run
  wf := (Held.setOpen j).tableWf h.wf
  list := by rw [Jobs.setOpen_cs]; exact h.list
  current := by rw [Jobs.setOpen_cs]; exact h.current
  expected := by rw [Jobs.setOpen_cs]; exact h.expected
  command := by rw [Jobs.setOpen_cs]
  brk := (Spares.setOpen j).fb ▸ h.brk
  reading := (Spares.setOpen j).brkNow h.wf h.reading
  state := by rw [Jobs.setOpen_cs]; exact h.state

theorem HeadInHand.failStep (h : HeadInHand f rest now j) (ho : j.cs.state = .opening) (r : HoldReason) :
    HeadInHand f rest now (j.failStep r) where
  run := (Held.failStep r j).dev.trans h.run
  wf := (Held.failStep r j).tableWf h.wf
  list := by rw [Jobs.failStep, Jobs.enterHold_cs]; exact h.list
  current := by rw [Jobs.failStep, Jobs.enterHold_cs]; exact h.current
  expected := by rw [Jobs.failStep, Jobs.enterHold_cs]; exact h.expected
  command := by rw [Jobs.failStep, Jobs.enterHold_cs]
  brk := (Spares.enterHold r j.cs.state j).fb ▸ h.brk
  reading := (Spares.enterHold r j.cs.state j).brkNow h.wf h.reading
  state := by
    rcases h.state with ⟨hs, -⟩ | ⟨-, hh, -⟩
    · rw [Jobs.failStep, Jobs.enterHold_cs]
      exact .inl ⟨hs, .inr rfl⟩
    · rw [ho] at hh
      exact nomatch hh

theorem HeadInHand.csReact (h : HeadInHand f rest now j) (c : Change) : HeadInHand f rest now (j.csReact c) := by
  by_cases ho : j.cs.state = .opening
  · rcases Jobs.csReact_opening c ho h.brk h.command with e | ⟨-, r, e | e⟩ <;> rw [e]
    · exact h
    · exact h.failStep ho r
    · exact h.setOpen.failStep (by rw [Jobs.setOpen_cs]; exact ho) r
  · have hh : j.cs.state = .hold := by
      rcases h.state with ⟨-, hs⟩ | ⟨-, hs, -⟩
      · exact hs.resolve_left ho
      · exact hs
    rcases Jobs.csReact_hold c hh with e | e <;> rw [e]
    · exact h
    · exact h.setOpen

theorem Jobs.syncFeedback_spec (j : Jobs) : j.syncFeedback = { j with fb := j.syncFeedback.fb, todo := j.syncFeedback.todo } ∧
    j.syncFeedback.fb = { j.fb with brk := j.brkNow, sel := j.selNow } ∧
    ∀ c ∈ j.syncFeedback.todo, c ∈ j.todo ∨ c.harmless := by
  unfold Jobs.syncFeedback
  dsimp only
  split <;> split
  · exact ⟨rfl, rfl, fun c h => .inl h⟩
  · refine ⟨rfl, rfl, fun c h => (List.mem_append.mp h).imp id fun h => ?_⟩
    rw [List.mem_singleton.mp h]
    trivial
  · refine ⟨rfl, rfl, fun c h => (List.mem_append.mp h).imp id fun h => ?_⟩
    rw [List.mem_singleton.mp h]
    trivial
  · refine ⟨rfl, rfl, fun c h => ?_⟩
    rcases List.mem_append.mp h with h | h
    · refine (List.mem_append.mp h).imp id fun h => ?_
      rw [List.mem_singleton.mp h]
      trivial
    · rw [List.mem_singleton.mp h]
      exact .inr trivial

theorem Jobs.brkNow_congr (htm : k.tm = j.tm) (hn : k.nodes = j.nodes) (hr : k.fb.brkRaw = j.fb.brkRaw) :
    k.brkNow = j.brkNow := by
  have hcell : ∀ a, k.cell a = j.cell a := fun a => by unfold Jobs.cell; rw [htm]
  have hnode : k.node (k.mapNode .brkPos) = j.node (j.mapNode .brkPos) := by
    unfold Jobs.node Jobs.mapNode Jobs.mapPoint Jobs.word
    rw [hn, hcell]
  unfold Jobs.brkNow
  rw [Jobs.mapStands_congr .brkPos fun n _ => hcell _, hnode, hr]

theorem HeadInHand.syncFeedback (h : HeadInHand f rest now j) : HeadInHand f rest now j.syncFeedback := by
  obtain ⟨he, hfb, -⟩ := j.syncFeedback_spec
  have hcs : j.syncFeedback.cs = j.cs := by rw [he]
  have hh := Held.syncFeedback j
  refine ⟨hh.dev.trans h.run, hh.tableWf h.wf, hcs ▸ h.list, hcs ▸ h.current, hcs ▸ h.expected, hcs ▸ h.command, ?_, ?_,
    hcs ▸ h.state⟩
  · rw [hfb]; exact h.reading
  · have hb : j.syncFeedback.brkNow = j.brkNow := by
      have hraw : j.syncFeedback.fb.brkRaw = j.fb.brkRaw := by rw [hfb]
      have htm : j.syncFeedback.tm = j.tm := by rw [he]
      have hnodes : j.syncFeedback.nodes = j.nodes := by rw [he]
      exact Jobs.brkNow_congr htm hnodes hraw
    rw [hb]
    exact h.reading

/-- What the answer to a change does before the sequencer's act. -/
def Jobs.acted (j : Jobs) : Jobs := ((j.lostEntries).suspendIfMust).ocReact

theorem Bystands.acted (j : Jobs) : Bystands j j.acted := ((Bystands.lostEntries j).trans (.suspendIfMust _)).trans (.ocReact _)

/-- What the answer to a change does after the sequencer's act. -/
theorem Bystands.react_rest (c : Change) (j : Jobs) : Bystands (j.acted.csReact c) (j.react c) := by
  have hs := (Bystands.ocReact (j.acted.csReact c)).trans (.suspension _)
  unfold Jobs.react
  cases c with
  | confirmed => exact (hs.trans (.ocReact _)).trans (.chooseUnlessSuspended _)
  | _ => exact hs

theorem Bystands.setPanto_role {y : Panto} {r : PantoRec} (hr : r.role = (j.panto y).role) : Bystands j (j.setPanto y r) where
  held := .setPanto y r j
  cs := Jobs.setPanto_cs j y r
  fb := by cases y <;> rfl
  marks _ a h := by cases y <;> exact h
  role x h := by
    by_cases hx : x = y
    · subst hx
      rwa [Jobs.panto_setPanto, hr] at h
    · rwa [Jobs.panto_setPanto_other hx] at h
  scraper x h := .inl (by cases y <;> exact h)
  todo _ c h := .inl (by cases y <;> exact h)

theorem Bystands.lowerBlind {y : Panto} (h : j.isBlind y = true → (j.panto y).role ≠ .collector) : Bystands j (j.lowerBlind y) := by
  unfold Jobs.lowerBlind
  split
  · rename_i hb
    exact (Bystands.lower fun _ => h hb).trans (.setPanto_role rfl)
  · exact .refl j

theorem HeadInHand.levels (h : HeadInHand f rest now j) : HeadInHand f rest now j.levels := by
  rw [Jobs.levels_eq]
  have h1 := (h.bystands (.lostEntries j)).syncFeedback
  have h2 : HeadInHand f rest now j.followed := (h1.bystands (.ocReact _)).bystands (.ocSync _)
  have hcs : ∀ (y : Panto) (k : Jobs), (k.lowerBlind y).cs = k.cs := by
    intro y k
    unfold Jobs.lowerBlind
    dsimp only
    split
    · rw [Jobs.setPanto_cs, Jobs.lower_cs]
    · rfl
  exact ((h2.of_spares (.lowerBlind .p1 _) (hcs _ _)).of_spares (.lowerBlind .p2 _) (hcs _ _)).bystands (.iceLevels _)

theorem HeadInHand.answer (h : HeadInHand f rest now j) (c : Change) : HeadInHand f rest now (j.answer c) := by
  unfold Jobs.answer
  rw [if_pos h.run]
  exact ((((h.bystands (.ocReact j)).bystands (.acted _)).csReact c).bystands (.react_rest c _)).levels

theorem HeadInHand.setTodo (h : HeadInHand f rest now j) (v : List Change) : HeadInHand f rest now (j.setTodo v) :=
  h.of_spares (.of_tm (.setTodo v j) rfl rfl) rfl

theorem HeadInHand.pump (h : HeadInHand f rest now j) (n : Nat) : HeadInHand f rest now (j.pump n) := by
  induction n generalizing j with
  | zero => exact h.setTodo []
  | succ n ih =>
    rw [Jobs.pump]
    split
    · exact h
    · exact ih ((h.setTodo _).answer _)

/-! ### OPENING kept -/

/-- OPENING, with no cause of its loss at hand: the collector is no scraper and sees, and every change that waits is
harmless. -/
structure OpeningSafe (j : Jobs) : Prop where
  state : j.cs.state = .opening
  apart : j.rolesApart
  todo : ∀ c ∈ j.todo, c.harmless
  sees : ∀ x, (j.panto x).role = .collector → (j.pantoNode x).state ≠ .lost ∧ j.mapUsable (.height x) = true ∧
    j.mapUsable (.press x) = true

theorem OpeningSafe.bystands (h : OpeningSafe j) (hw : j.tableWf) (hb : Bystands j k) : OpeningSafe k where
  state := hb.cs ▸ h.state
  apart := hb.apart h.apart
  todo c hc := (hb.todo h.apart c hc).elim (h.todo c) id
  sees x hx := by
    have hwords := hb.held.sameWords hw
    rw [hb.held.pantoNode hw, hwords.mapUsable, hwords.mapUsable]
    exact h.sees x (hb.role x hx)

theorem OpeningSafe.syncFeedback (h : OpeningSafe j) : OpeningSafe j.syncFeedback := by
  obtain ⟨he, -, htodo⟩ := j.syncFeedback_spec
  have hp : ∀ x, j.syncFeedback.panto x = j.panto x := fun x => by rw [he]; cases x <;> rfl
  have hcs : j.syncFeedback.cs = j.cs := by rw [he]
  have hice : j.syncFeedback.ice = j.ice := by rw [he]
  have hwords : SameWords j j.syncFeedback := .of_tm (by rw [he])
  have hnodes : j.syncFeedback.nodes = j.nodes := by rw [he]
  refine ⟨hcs ▸ h.state, fun x hx hs => ?_, fun c hc => (htodo c hc).elim (h.todo c) id, fun x hx => ?_⟩
  · rw [hp] at hx
    rw [hice] at hs
    exact h.apart x hx hs
  · rw [hp] at hx
    unfold Jobs.pantoNode Jobs.node
    rw [hwords.mapNode, hnodes, hwords.mapUsable, hwords.mapUsable]
    exact h.sees x hx

/-- A pantograph whose entries are usable and whose node is not LOST is not blind. -/
theorem Jobs.blind_unseeing (hb : j.isBlind x = true) (hl : (j.pantoNode x).state ≠ .lost) (hh : j.mapUsable (.height x) = true)
    (hp : j.mapUsable (.press x) = true) : False := by
  have hbad : ∀ r : MapRole, j.mapUsable r = true → ∀ i, i < 2 → j.marked (r.addr + i) = true → False := by
    intro r hu i hi hm
    unfold Jobs.mapUsable Jobs.anyBad at hu
    rw [Bool.and_eq_true, Bool.not_eq_true', List.any_eq_false] at hu
    refine hu.2 (r.addr + i) ?_ ?_
    · unfold span
      exact List.mem_map.mpr ⟨i, List.mem_range.mpr hi, rfl⟩
    · unfold Jobs.bad TWord.bad
      rw [show (j.cell (r.addr + i)).mark = true from hm]
      rfl
  rcases ((Jobs.isBlind_iff x j).mp hb).2 with h | ⟨i, hi, h | h⟩
  · exact hl h
  · exact hbad _ hh i hi h
  · exact hbad _ hp i hi h

theorem OpeningSafe.lowerBlind (h : OpeningSafe j) (hw : j.tableWf) (y : Panto) : OpeningSafe (j.lowerBlind y) :=
  h.bystands hw (.lowerBlind fun hb hr => Jobs.blind_unseeing hb (h.sees y hr).1 (h.sees y hr).2.1 (h.sees y hr).2.2)

theorem OpeningSafe.levels (h : OpeningSafe j) (hw : j.tableWf) : OpeningSafe j.levels := by
  rw [Jobs.levels_eq]
  have w1 := (Held.lostEntries j).tableWf hw
  have w2 := (Held.syncFeedback _).tableWf w1
  have w3 := (Held.ocReact _).tableWf w2
  have w4 : j.followed.tableWf := (Held.ocSync _).tableWf w3
  have h4 : OpeningSafe j.followed :=
    (((h.bystands hw (.lostEntries j)).syncFeedback).bystands w2 (.ocReact _)).bystands w3 (.ocSync _)
  have w5 := (Held.lowerBlind .p1 _).tableWf w4
  have w6 := (Held.lowerBlind .p2 _).tableWf w5
  exact ((h4.lowerBlind w4 .p1).lowerBlind w5 .p2).bystands w6 (.iceLevels _)

theorem OpeningSafe.answer (h : OpeningSafe j) (hd : HeadInHand f rest now j) {c : Change} (hc : c.harmless) :
    OpeningSafe (j.answer c) := by
  have h1 := h.bystands hd.wf (.ocReact j)
  have d1 := hd.bystands (.ocReact j)
  have h2 := h1.bystands d1.wf (.acted _)
  have d2 := d1.bystands (.acted _)
  have he : j.ocReact.acted.csReact c = j.ocReact.acted :=
    (Jobs.csReact_opening c h2.state d2.brk d2.command).resolve_right fun hn => hn.1 hc
  have hr := Bystands.react_rest c j.ocReact
  rw [he] at hr
  unfold Jobs.answer
  rw [if_pos hd.run]
  exact (h2.bystands d2.wf hr).levels (hr.held.tableWf d2.wf)

theorem OpeningSafe.pump (h : OpeningSafe j) (hd : HeadInHand f rest now j) (n : Nat) : OpeningSafe (j.pump n) := by
  induction n generalizing j with
  | zero => exact ⟨h.state, h.apart, fun c hc => absurd hc List.not_mem_nil, h.sees⟩
  | succ n ih =>
    rw [Jobs.pump]
    split
    · exact h
    · rename_i c more hc
      have hs : OpeningSafe (j.setTodo more) :=
        ⟨h.state, h.apart, fun d hm => h.todo d (hc ▸ List.mem_cons_of_mem c hm), h.sees⟩
      have hcc : c.harmless := h.todo c (hc ▸ List.mem_cons_self)
      exact ih (hs.answer (hd.setTodo more) hcc) ((hd.setTodo more).answer c)

/-! ### The step -/

theorem Spares.enterOpening (j : Jobs) : Spares j j.enterOpening := by
  have h : Spares j ((j.setOpen.touch 0x152).load .t0 (timing (j.setOpen.changeover 2)) .oneShot) :=
    ((Spares.setOpen j).trans (.touch _ _)).trans (.onTimer _ _ _)
  exact h.trans (.of_tm (.csTo _ _) rfl rfl)

theorem Jobs.enterOpening_todo (j : Jobs) : ∀ c ∈ j.enterOpening.todo, c ∈ j.todo ∨ c.harmless := by
  intro c hc
  have he : j.enterOpening.todo = (j.setOpen.touch 0x152).todo ++ [.cs] := rfl
  have ho : j.setOpen.todo = j.todo := by
    unfold Jobs.setOpen
    dsimp only
    split <;> rfl
  rw [he] at hc
  rcases List.mem_append.mp hc with hc | hc
  · rw [← ho]
    exact Jobs.touch_todo _ _ c hc
  · rw [List.mem_singleton.mp hc]
    exact .inr trivial

theorem Spares.headTaken (f : Feature) (rest : List Feature) (hl : j.cs.list = f :: rest) : Spares j (j.headTaken f rest) :=
  .of_tm (.setCs_list _ j rfl rfl (by rw [hl]; exact Nat.le_succ _)) rfl rfl

/-- R41: the head taken from where the answer to the change has come to. -/
theorem Jobs.takeHead_inHand (hw : j.tableWf) (hr : j.dev = .run) (hl : j.cs.list = f :: rest) (hb : j.fb.brk ≠ .open)
    (hn : j.brkNow ≠ .open) : HeadInHand f rest j.lsi.confirmed (j.takeHead f rest) := by
  have hh := Spares.headTaken f rest hl
  rw [Jobs.takeHead_eq]
  cases hsys : j.lsi.confirmed.isSystem with
  | true =>
    have hs := hh.trans (.enterOpening _)
    rw [if_pos rfl]
    refine ⟨hs.held.dev.trans hr, hs.held.tableWf hw, ?_, ?_, ?_, ?_, hs.fb ▸ hb, hs.brkNow hw hn, .inl ⟨hsys, .inl ?_⟩⟩ <;>
      rw [Jobs.enterOpening_cs] <;> rfl
  | false =>
    have hs := hh.trans (.enterHold .identify .armed _)
    rw [if_neg Bool.false_ne_true]
    refine ⟨hs.held.dev.trans hr, hs.held.tableWf hw, ?_, ?_, ?_, ?_, hs.fb ▸ hb, hs.brkNow hw hn, .inr ⟨hsys, ?_, ?_, ?_⟩⟩ <;>
      rw [Jobs.enterHold_cs] <;> rfl

/-- What the collector of `j` needs to keep its changeover step. -/
def Jobs.collectorKept (j : Jobs) : Prop :=
  ∀ x, (j.panto x).role = .collector → j.ice.scraper ≠ some x ∧ (j.pantoNode x).state ≠ .lost ∧
    j.mapUsable (.height x) = true ∧ j.mapUsable (.press x) = true

theorem Bystands.collectorKept (hb : Bystands j k) (hw : j.tableWf) (h : j.collectorKept) : k.collectorKept := fun x hx => by
  have hwords := hb.held.sameWords hw
  obtain ⟨-, h2, h3, h4⟩ := h x (hb.role x hx)
  rw [hb.held.pantoNode hw, hwords.mapUsable, hwords.mapUsable]
  exact ⟨hb.apart (fun y hy => (h y hy).1) x hx, h2, h3, h4⟩

theorem Jobs.takeHead_safe (hw : j.tableWf) (hl : j.cs.list = f :: rest) (ht : ∀ c ∈ j.todo, c.harmless)
    (hs : j.lsi.confirmed.isSystem = true) (hk : j.collectorKept) : OpeningSafe (j.takeHead f rest) := by
  rw [Jobs.takeHead_eq, if_pos hs]
  have ho : OnlyChangeover j (j.headTaken f rest).enterOpening := OnlyChangeover.trans (k := j.headTaken f rest) (by rfl) (.enterOpening _)
  have hh := (Spares.headTaken f rest hl).trans (.enterOpening _)
  have hwords := hh.held.sameWords hw
  refine ⟨by rw [Jobs.enterOpening_cs], fun x hx => ?_, fun c hc => (Jobs.enterOpening_todo _ c hc).elim (ht c) id, fun x hx => ?_⟩
  · rw [ho.panto] at hx
    rw [ho.ice]
    exact (hk x hx).1
  · rw [ho.panto] at hx
    rw [hh.held.pantoNode hw, hwords.mapUsable, hwords.mapUsable]
    exact (hk x hx).2

/-- R41: the step in which the head is taken. -/
theorem Jobs.settle_due (hw : j.tableWf) (hr : j.dev = .run) (ht : j.todo = [.cs]) (hs : j.cs.state = .armed)
    (hl : j.cs.list = f :: rest) (hm : f.dueMark = true) (ho : j.oc.hold = false) (hb : j.fb.brk ≠ .open)
    (hn : j.brkNow ≠ .open) (hnow : now = j.lostEntries.lsi.confirmed) :
    HeadInHand f rest now j.settle ∧ (now.isSystem = true → j.collectorKept → j.settle.cs.state = .opening) := by
  have hby : Bystands (j.setTodo []) (j.setTodo []).ocReact.acted := (Bystands.ocReact _).trans (.acted _)
  have hlsi : (j.setTodo []).ocReact.acted.lsi.confirmed = now := by
    rw [hnow]
    unfold Jobs.acted
    rw [Jobs.ocReact_lsi, Jobs.suspendIfMust_lsi]
    refine congrArg Lsi.confirmed (Jobs.lostEntries_congr ?_ ?_ fun e => ?_)
    · rw [Jobs.ocReact_lsi]; rfl
    · exact (Held.ocReact _).tag
    · refine Jobs.lineStands_congr e fun n _ => ?_
      have htm : (j.setTodo []).ocReact.tm = j.tm := by
        rw [(Jobs.ocFollow_spec _ (j.setTodo []) (j.setTodo []).ocReact rfl).1]
        rfl
      unfold Jobs.cell
      rw [htm]
  have hwa := hby.held.tableWf hw
  have hhold : (j.setTodo []).ocReact.acted.oc.hold = false := Bool.eq_false_iff.mpr fun h => by
    rw [show j.oc.hold = true from hby.held.hold h] at ho
    exact nomatch ho
  have hpump : j.pump 64 = (((j.setTodo []).ocReact.react .cs).levels).pump 63 := by
    rw [Jobs.pump, ht]
    dsimp only
    unfold Jobs.answer
    rw [if_pos (show (j.setTodo []).dev = .run from hr)]
  have hrest := Bystands.react_rest .cs (j.setTodo []).ocReact
  have hact : (j.setTodo []).ocReact.acted.csReact .cs = (j.setTodo []).ocReact.acted.takeHead f rest := by
    refine (Jobs.csTest_armed_cons true ?_ ?_).trans (if_pos ⟨rfl, hm, hhold⟩)
    · rw [hby.cs]; exact hs
    · rw [hby.cs]; exact hl
  rw [hact] at hrest
  generalize (j.setTodo []).ocReact.acted = a at hby hlsi hwa hhold hrest
  have hin : HeadInHand f rest now (a.takeHead f rest) := hlsi ▸ Jobs.takeHead_inHand hwa (hby.held.dev.trans hr)
    ((congrArg Cs.list hby.cs).trans hl) (hby.fb ▸ hb) (hby.spares.brkNow (j := j.setTodo []) hw hn)
  have hre := hin.bystands hrest
  unfold Jobs.settle
  rw [hpump]
  refine ⟨((hre.levels).pump 63).bystands (.ocSync _), fun hsys hkept => ?_⟩
  have hsafe : OpeningSafe (a.takeHead f rest) := Jobs.takeHead_safe hwa ((congrArg Cs.list hby.cs).trans hl)
    (fun c hc => (hby.todo (fun y hy => (hkept y hy).1) c hc).elim (fun h => absurd h List.not_mem_nil) id)
    (by rw [hlsi]; exact hsys) (hby.collectorKept (j := j.setTodo []) hw hkept)
  exact ((((hsafe.bystands hin.wf hrest).levels hre.wf).pump hre.levels 63).bystands (hre.levels.pump 63).wf (.ocSync _)).state

end Sys2Proof.Machine
end

section
/-! PROOFS. The remaining steps of time (O55), and the delivery of a step's reports. -/

namespace Sys2Proof.Machine

open Sys2Proof

variable {s t u : State} {j k l : Jobs}

/-! ### Delivery of one report (R188, R189) -/

theorem State.offeredTo_eq (b : Capture × Bool) (s : State) :
    s.offeredTo b = { s with cb := b.1, jobs := (s.offeredTo b).jobs } := by
  obtain ⟨c, froze⟩ := b
  cases froze <;> rfl

theorem State.offeredTo_flagged (b : Capture × Bool) (s : State) (h : b.2 = true) :
    Flagged .captureFrozen 0 (s.offeredTo b).jobs.out := by
  obtain ⟨c, froze⟩ := b
  cases h
  exact ⟨_, _, List.mem_cons_self⟩

theorem State.offerEvent_eq (f : Flag) (n : Word) (dev : Device) (line : Line) (s : State) :
    s.offerEvent f n dev line = s.offeredTo (s.cb.offer false (s.cb.trigger.hitsEvent f) (eventEntry s.jobs.tag f n dev line)) :=
  rfl

theorem State.originate_eq (f : Frame) (s : State) : ∃ r d k,
    s.originate f = ((s.setFr r).offerFrame .train .up f d k).onJobs (fun j => j.touchRouteOf f) := ⟨_, _, _, rfl⟩

/-- R151: what the origination of a frame does besides queueing and offering it. -/
theorem State.originate_rest (f : Frame) (s : State) : (s.originate f).nu = s.nu ∧ Still s.jobs (s.originate f).jobs := by
  obtain ⟨r, d, k, e⟩ := s.originate_eq f
  rw [e]
  refine ⟨?_, (Still.offerFrame .train .up f d k (s.setFr r)).trans (.touchRouteOf f _)⟩
  rw [State.offerFrame_eq]
  rfl

theorem Flagged.originate {x : Flag} {n : Word} (h : Flagged x n s.jobs.out) (f : Frame) : Flagged x n (s.originate f).jobs.out := by
  obtain ⟨r, d, k, e⟩ := s.originate_eq f
  rw [e]
  exact Flagged.held (Flagged.offerFrame (s := s.setFr r) h .train .up f d k) (.touchRouteOf f _)

/-- R188: the mask bit of a flag, or every bit where the mask word is uncorrectable. -/
theorem Jobs.notified_eq (f : Flag) (j : Jobs) : j.notified f =
    if j.bad f.maskAddr then true else (j.word f.maskAddr).getLsbD (f.code % 16) := by
  unfold Jobs.notified Jobs.param
  split
  · have h : f.code % 16 < 16 := Nat.mod_lt _ (by decide)
    generalize f.code % 16 = n at h
    revert h
    revert n
    decide
  · rfl

/-- The state in which a flag's report has set its bit and has been offered to the capture buffer. -/
def State.flagNoted (f : Flag) (n : Word) (dev : Device) (line : Line) (s : State) : State :=
  ((s.setNu { s.nu with flags := setFlag f s.nu.flags }).offerEvent f n dev line).onJobs (fun j => j.touch f.maskAddr)

theorem State.flagNoted_spec (f : Flag) (n : Word) (dev : Device) (line : Line) (s : State) (b : Capture × Bool)
    (hb : b = s.cb.offer false (s.cb.trigger.hitsEvent f) (eventEntry s.jobs.tag f n dev line)) :
    s.flagNoted f n dev line = { s with nu := { s.nu with flags := setFlag f s.nu.flags }, cb := b.1,
                                        jobs := (s.flagNoted f n dev line).jobs } ∧
    Still s.jobs (s.flagNoted f n dev line).jobs ∧
    (b.2 = true → Flagged .captureFrozen 0 (s.flagNoted f n dev line).jobs.out) ∧
    ∃ l, (s.flagNoted f n dev line).jobs = (s.jobs.setOut l).touch f.maskAddr := by
  have he : (s.setNu { s.nu with flags := setFlag f s.nu.flags }).offerEvent f n dev line =
      (s.setNu { s.nu with flags := setFlag f s.nu.flags }).offeredTo b := by rw [State.offerEvent_eq, hb]; rfl
  have hout : ∃ l, ((s.setNu { s.nu with flags := setFlag f s.nu.flags }).offeredTo b).jobs = s.jobs.setOut l := by
    obtain ⟨c, froze⟩ := b
    cases froze
    · exact ⟨s.jobs.out, rfl⟩
    · exact ⟨_, rfl⟩
  have heq := State.offeredTo_eq b (s.setNu { s.nu with flags := setFlag f s.nu.flags })
  have hfl := State.offeredTo_flagged b (s.setNu { s.nu with flags := setFlag f s.nu.flags })
  unfold State.flagNoted
  rw [he]
  generalize (s.setNu { s.nu with flags := setFlag f s.nu.flags }).offeredTo b = t at hout heq hfl ⊢
  obtain ⟨l, hl⟩ := hout
  refine ⟨?_, ?_, fun h => (hfl h).held (.touch _ _), l, ?_⟩
  · rw [heq]; rfl
  · have h : Still s.jobs t.jobs := hl ▸ .setOut l s.jobs
    exact h.trans (.touch _ _)
  · show t.jobs.touch _ = _
    rw [hl]

theorem State.deliver_flag_eq (f : Flag) (n : Word) (dev : Device) (line : Line) (s : State) : s.deliver (.flag f n dev line) =
    if s.jobs.notified f then
      ((s.flagNoted f n dev line).originate ((s.flagNoted f n dev line).eventNotice f n)).stepSeq
    else s.flagNoted f n dev line := by
  have hn : ((s.setNu { s.nu with flags := setFlag f s.nu.flags }).offerEvent f n dev line).jobs.notified f = s.jobs.notified f := by
    obtain ⟨⟨c, froze⟩, hb⟩ : ∃ b, (s.setNu { s.nu with flags := setFlag f s.nu.flags }).offerEvent f n dev line =
        (s.setNu { s.nu with flags := setFlag f s.nu.flags }).offeredTo b := ⟨_, rfl⟩
    rw [hb]
    cases froze <;> rfl
  unfold State.deliver State.flagNoted
  dsimp only
  rw [hn]

/-- R174: a frame is offered as from `s` where its deciding entry, the buffer and the time tag are those of `s`. -/
theorem Offered.rebase {p : Port} {dir : Direction} {f : Frame} {d : Disposition} (h : Offered p dir f d t u)
    (hroute : t.jobs.routeOf f = s.jobs.routeOf f) (hcap : ∀ i, t.jobs.routeCapture i = s.jobs.routeCapture i)
    (htag : t.jobs.tag = s.jobs.tag) (hcb : t.cb = s.cb) : Offered p dir f d s u := by
  unfold Offered at h ⊢
  simp only [hroute, hcap, htag, hcb] at h
  exact h

/-- R188, R189: one report of a flag, delivered. -/
theorem State.deliver_flag_spec (f : Flag) (n : Word) (dev : Device) (line : Line) (on : Bool) (s : State) {w : Long}
    {e : CaptureEntry} {b : Capture × Bool} (hw : w = setFlag f s.nu.flags)
    (hon : on = s.jobs.notified f) (he : e = eventEntry s.jobs.tag f n dev line)
    (hb : b = s.cb.offer false (s.cb.trigger.hitsEvent f) e) {notice : Frame} (hn : notice = noticeFrame 0 s.nu.seq
      [0, lowHalf w, highHalf w, toWord f.code, n, lowHalf s.jobs.tag, highHalf s.jobs.tag])
    (hu : u = s.deliver (.flag f n dev line)) :
    u.nu.flags = w ∧ (b.2 = true → Flagged .captureFrozen 0 u.jobs.out) ∧
    (on = false → u.nu.seq = s.nu.seq ∧ u.fr = s.fr ∧ u.cb = b.1) ∧
    (on = true → u.nu.seq = s.nu.seq + 1 ∧ u.fr = (if s.fr.up.length < 16
        then { s.fr with train := { s.fr.train with originated := s.fr.train.originated + 1 },
                         up := s.fr.up ++ [{ forwarded := false, frame := notice }] }
        else { s.fr with train := { s.fr.train with originated := s.fr.train.originated + 1 },
                         lost := min 65535 (s.fr.lost + 1) }) ∧
      (StoresWf s → Offered .train .up notice (if s.fr.up.length < 16 then .originated else .dropped .queueFull)
        { s with cb := b.1 } u)) := by
  subst hw
  rw [he] at hb
  obtain ⟨hv, hstill, hfl, l, hl⟩ := State.flagNoted_spec f n dev line s b hb
  rw [State.deliver_flag_eq, ← hon] at hu
  generalize s.flagNoted f n dev line = v at hu hv hstill hfl hl
  have hnu : v.nu = { s.nu with flags := setFlag f s.nu.flags } := (congrArg State.nu hv :)
  have hfr : v.fr = s.fr := (congrArg State.fr hv :)
  have hcb : v.cb = b.1 := (congrArg State.cb hv :)
  have hnotice : v.eventNotice f n = notice := by
    rw [hn]
    unfold State.eventNotice
    rw [hnu, hstill.tag]
  rw [hnotice] at hu
  cases on with
  | false =>
    rw [if_neg Bool.false_ne_true] at hu
    subst hu
    exact ⟨by rw [hnu], hfl, fun _ => ⟨by rw [hnu], hfr, hcb⟩, fun h => (nomatch h)⟩
  | true =>
    rw [if_pos rfl] at hu
    obtain ⟨hofr, hoff⟩ := State.originate_spec notice v
    obtain ⟨honu, -⟩ := State.originate_rest notice v
    have hflag := fun h => (hfl h).originate notice
    generalize v.originate notice = o at hu hofr hoff honu hflag
    subst hu
    rw [hfr] at hofr hoff
    refine ⟨by rw [show o.stepSeq.nu.flags = o.nu.flags from rfl, honu, hnu], hflag, fun h => (nomatch h),
      fun _ => ⟨by rw [show o.stepSeq.nu.seq = o.nu.seq + 1 from rfl, honu, hnu], hofr, fun hwf => ?_⟩⟩
    have hcell : ∀ a, 0x10 ≤ a → v.jobs.cell a = s.jobs.cell a := by
      intro a ha
      rw [hl, Jobs.cell_touch_ne (j := s.jobs.setOut l) hwf.1]
      · rfl
      · unfold Flag.maskAddr
        split <;> omega
    refine Offered.later (Offered.rebase (s := { s with cb := b.1 }) hoff ?_ ?_ hstill.tag hcb) rfl List.prefix_rfl
    · exact Jobs.routeOf_congr (fun a ha _ => hcell a ha) notice
    · intro i
      unfold Jobs.routeCapture Jobs.word
      rw [hcell _ (by unfold routeAddr; omega)]

/-! ### The train transmit queue under delivery (R151) -/

/-- R151: while the queue is full, a report leaves it and counts at most its notice as lost. -/
theorem State.deliver_full (r : Report) (s : State) (h : 16 ≤ s.fr.up.length) :
    (s.deliver r).fr.up = s.fr.up ∧
      ((s.deliver r).fr.lost = s.fr.lost ∨ (s.deliver r).fr.lost = min 65535 (s.fr.lost + 1)) := by
  have horig : ∀ (f : Frame) (v : State), v.fr = s.fr → (v.originate f).fr.up = s.fr.up ∧
      (v.originate f).fr.lost = min 65535 (s.fr.lost + 1) := by
    intro f v hv
    obtain ⟨hfr, -⟩ := State.originate_spec f v
    rw [hv, if_neg (by omega)] at hfr
    rw [hfr]
    exact ⟨rfl, rfl⟩
  cases r with
  | flag f n dev line =>
    obtain ⟨hv, -⟩ := State.flagNoted_spec f n dev line s _ rfl
    have hfr : (s.flagNoted f n dev line).fr = s.fr := (congrArg State.fr hv :)
    rw [State.deliver_flag_eq]
    split
    · obtain ⟨h1, h2⟩ := horig ((s.flagNoted f n dev line).eventNotice f n) _ hfr
      exact ⟨h1, .inr h2⟩
    · rw [hfr]
      exact ⟨rfl, .inl rfl⟩
  | status =>
    obtain ⟨h1, h2⟩ := horig s.statusNotice s rfl
    exact ⟨h1, .inr h2⟩
  | frame f =>
    obtain ⟨h1, h2⟩ := horig f s rfl
    exact ⟨h1, .inr h2⟩

theorem State.drain_cons (n : Nat) {r : Report} {rest : List Report} (h : s.jobs.out = r :: rest) :
    s.drain (n + 1) = ((s.onJobs (fun j => j.setOut rest)).deliver r).drain n := by
  rw [State.drain, h]

/-- R151: once a notice has been lost, the count stands above where it stood, or at its bound. -/
theorem State.drain_full (a n : Nat) (s : State) (h : 16 ≤ s.fr.up.length) (hl : a < s.fr.lost ∨ s.fr.lost = 65535) :
    (s.drain n).fr.up = s.fr.up ∧ (a < (s.drain n).fr.lost ∨ (s.drain n).fr.lost = 65535) := by
  induction n generalizing s with
  | zero => exact ⟨rfl, hl⟩
  | succ n ih =>
    cases ho : s.jobs.out with
    | nil =>
      rw [State.drain, ho]
      exact ⟨rfl, hl⟩
    | cons r rest =>
      rw [State.drain_cons n ho]
      obtain ⟨hup, hlost⟩ := State.deliver_full r (s.onJobs fun j => j.setOut rest) h
      have hup' : ((s.onJobs fun j => j.setOut rest).deliver r).fr.up = s.fr.up := hup
      have hlost' : ((s.onJobs fun j => j.setOut rest).deliver r).fr.lost = s.fr.lost ∨
          ((s.onJobs fun j => j.setOut rest).deliver r).fr.lost = min 65535 (s.fr.lost + 1) := hlost
      rw [← hup']
      exact ih _ (by rw [hup']; exact h) (by omega)

/-! ### The status period (R190) -/

/-- R190: T13 expires in RUN. -/
theorem Jobs.statusExpiry_run (ho : (j.timer .t13).owed ≠ []) (hd : j.dev = .run) : j.statusExpiry =
    if (j.param 4 100).toNat = 0 then (((j.takeExpiry .t13).touch 4).report .status).stop .t13
    else (((j.takeExpiry .t13).touch 4).report .status).onTimer .t13 (Timer.setReload (j.param 4 100).toNat) := by
  unfold Jobs.statusExpiry
  rw [if_pos ((Jobs.expired_iff _ _).mpr ho)]
  dsimp only
  rw [if_pos (show (j.takeExpiry .t13).dev = .run from hd)]
  rfl

theorem Jobs.statusExpiry_config (ho : (j.timer .t13).owed ≠ []) (hd : j.dev = .config) :
    j.statusExpiry = j.takeExpiry .t13 := by
  unfold Jobs.statusExpiry
  rw [if_pos ((Jobs.expired_iff _ _).mpr ho)]
  exact if_neg (by rw [show (j.takeExpiry .t13).dev = j.dev from rfl, hd]; decide)

theorem Jobs.statusExpiry_not (ho : (j.timer .t13).owed = []) : j.statusExpiry = j := by
  unfold Jobs.statusExpiry
  rw [Jobs.expired_not ho, if_neg Bool.false_ne_true]

theorem Jobs.statusExpiry_spec (ho : (j.timer .t13).owed ≠ []) (hd : j.dev = .run) (hk : k = j.statusExpiry) :
    .status ∈ k.out ∧ OtherTimers [.t13] j k ∧ Timed j k ∧
    ((j.param 4 100).toNat = 0 → (k.timer .t13).stopped) ∧
    ((j.param 4 100).toNat ≠ 0 → (k.timer .t13).reload = (j.param 4 100).toNat) := by
  rw [Jobs.statusExpiry_run ho hd] at hk
  have hbase : Timed j (((j.takeExpiry .t13).touch 4).report .status) :=
    ((Timed.onTimer .t13 _ j).trans (.still (.touch 4 _))).trans (.still (.setOut _ _))
  have hmem : Report.status ∈ (((j.takeExpiry .t13).touch 4).report .status).out :=
    List.mem_append_right _ (List.mem_singleton_self _)
  have hother : OtherTimers [.t13] j (((j.takeExpiry .t13).touch 4).report .status) := fun i hi => by
    rw [Jobs.timer_report, Jobs.timer_touch, Jobs.timer_takeExpiry, if_neg (by simpa using hi)]
  generalize ((j.takeExpiry .t13).touch 4).report .status = m at hbase hmem hother hk
  subst hk
  by_cases hn : (j.param 4 100).toNat = 0
  · rw [if_pos hn]
    refine ⟨hmem, hother.trans (.onTimer (List.mem_singleton_self _) _ _), hbase.trans (.onTimer _ _ _), fun _ => ?_, fun h => absurd hn h⟩
    rw [Jobs.timer_stop, if_pos rfl]
    exact Timer.stopped_stop _
  · rw [if_neg hn]
    refine ⟨hmem, hother.trans (.onTimer (List.mem_singleton_self _) _ _), hbase.trans (.onTimer _ _ _), fun h => absurd h hn, fun _ => ?_⟩
    rw [Jobs.timer_onTimer, if_pos rfl]
    exact Nat.max_eq_left (Nat.pos_of_ne_zero hn)

/-- R190: T13 expires in RUN, with nothing else to report and its period word good. -/
theorem Jobs.statusExpiry_good (ho : (j.timer .t13).owed ≠ []) (hd : j.dev = .run) (hc : (j.cell 4).check = 0)
    (hm : (j.cell 4).mark = false) (hout : j.out = []) :
    j.statusExpiry = { j with tmr := j.statusExpiry.tmr, out := [.status] } := by
  have htouch : (j.takeExpiry .t13).touch 4 = j.takeExpiry .t13 := by
    have hbad : (j.cell 4).bad = false := by
      unfold TWord.bad
      rw [hc, hm]
      decide
    rcases Jobs.touch_spec 4 (j.takeExpiry .t13) with ⟨h, -⟩ | ⟨-, h, -⟩ | ⟨-, e⟩
    · have h : (j.cell 4).correctable = true := h
      unfold TWord.correctable at h
      rw [hc, hm] at h
      exact absurd h (by decide)
    · rw [show ((j.takeExpiry .t13).cell 4).bad = (j.cell 4).bad from rfl, hbad] at h
      exact nomatch h
    · exact e
  rw [Jobs.statusExpiry_run ho hd, htouch]
  have hrep : (j.takeExpiry .t13).report .status = { j.takeExpiry .t13 with out := [.status] } := by
    unfold Jobs.report
    rw [show (j.takeExpiry .t13).out = [] from hout]
    rfl
  rw [hrep]
  split <;> rfl

/-- R190, R151: the STATUS notice is the first report of its step. -/
theorem State.status_first (hd : s.jobs.dev = .run) (hr : Rested s) (ho : (s.jobs.timer .t13).owed ≠ [])
    (hc : (s.jobs.cell 4).check = 0) (hm : (s.jobs.cell 4).mark = false) : ∃ v : State,
    (s.setJobs s.jobs.statusExpiry).finish = ((v.originate v.statusNotice).stepSeq.drain 1023).onJobs (fun j => j.setTodo []) ∧
    v.fr = s.fr ∧ v.statusNotice = s.statusNotice := by
  obtain ⟨htodo, hout⟩ := hr
  have hj := Jobs.statusExpiry_good ho hd hc hm hout
  generalize s.jobs.statusExpiry = j at hj
  have hpump : j.pump 64 = j := Jobs.pump_nil 63 j (by rw [hj]; exact htodo)
  obtain ⟨ho, -⟩ := Jobs.ocFollow_spec j.earthNow j j.settle (by unfold Jobs.settle; rw [hpump]; rfl)
  have hpre : j.out <+: j.settle.out := (Held.settle j).out
  obtain ⟨rest, hrest⟩ := hpre
  rw [show j.out = [.status] from (congrArg Jobs.out hj :)] at hrest
  refine ⟨s.setJobs (j.settle.setOut rest), ?_, rfl, ?_⟩
  · show (((s.setJobs j).onJobs Jobs.settle).drain (1023 + 1)).onJobs _ = _
    rw [State.drain_cons 1023 (s := (s.setJobs j).onJobs Jobs.settle) hrest.symm]
    rfl
  · have hdev : j.settle.dev = s.jobs.dev := (congrArg Jobs.dev ho).trans (congrArg Jobs.dev hj :)
    have hlsi : j.settle.lsi = s.jobs.lsi := (congrArg Jobs.lsi ho).trans (congrArg Jobs.lsi hj :)
    have hcs : j.settle.cs = s.jobs.cs := (congrArg Jobs.cs ho).trans (congrArg Jobs.cs hj :)
    have hp1 : j.settle.p1 = s.jobs.p1 := (congrArg Jobs.p1 ho).trans (congrArg Jobs.p1 hj :)
    have hp2 : j.settle.p2 = s.jobs.p2 := (congrArg Jobs.p2 ho).trans (congrArg Jobs.p2 hj :)
    have hfb : j.settle.fb = s.jobs.fb := (congrArg Jobs.fb ho).trans (congrArg Jobs.fb hj :)
    have hice : j.settle.ice = s.jobs.ice := (congrArg Jobs.ice ho).trans (congrArg Jobs.ice hj :)
    simp only [State.statusNotice, Jobs.systemWord, State.setJobs_jobs, State.setJobs_nu, State.setJobs_fr, Jobs.setOut_dev,
      Jobs.setOut_lsi, Jobs.setOut_cs, Jobs.setOut_p1, Jobs.setOut_p2, Jobs.setOut_fb, Jobs.setOut_ice, hdev, hlsi, hcs, hp1, hp2,
      hfb, hice]

end Sys2Proof.Machine

open Sys2Proof Sys2Proof.Machine

/-- Settles O55. -/
theorem otherExpiries : Obligations.OtherExpiries := by
  unfold Obligations.OtherExpiries
  refine ⟨?status, ?notice, fun u n r rest h => State.drain_cons n h, fun _ => rfl, ?flag, ?refresh, ?latchNot, ?latch, ?due,
    ?taken, ?dueNot, ?speed⟩
  case status =>
    rintro s n hl rfl
    refine ⟨fun ho => EndsFrom.work_same hl.1 rfl (Jobs.statusExpiry_not ho),
      fun ho hd => EndsFrom.work hl.1 rfl (Jobs.statusExpiry_config ho hd), fun ho hd => ?_⟩
    obtain ⟨h1, h2, h3, h4, h5⟩ := Jobs.statusExpiry_spec ho hd rfl
    exact ⟨_, EndsFrom.work hl.1 rfl rfl, h1, h2, h3.rest, h4, h5⟩
  case notice =>
    intro s hrun hrest ho hc hm
    obtain ⟨v, hv, hfr, hn⟩ := State.status_first hrun.2 hrest ho hc hm
    have hex : exec .statusTimerExpiry s = .next (s.setJobs s.jobs.statusExpiry).finish :=
      EndsFrom.work hrun.1.1 rfl rfl (fun p f h => (nomatch h))
    obtain ⟨hofr, -⟩ := State.originate_spec v.statusNotice v
    have hd := Delivered.drain 1023 (v.originate v.statusNotice).stepSeq
    rw [hfr] at hofr
    have hofr' : (v.originate v.statusNotice).stepSeq.fr = _ := hofr
    refine ⟨_, hex, fun hfull => ?_, fun hroom p j hj hp => ?_⟩
    · rw [if_neg (by omega)] at hofr'
      rw [hv]
      have hlost : s.fr.lost < (v.originate v.statusNotice).stepSeq.fr.lost ∨
          (v.originate v.statusNotice).stepSeq.fr.lost = 65535 := by
        rw [hofr']
        show s.fr.lost < min 65535 (s.fr.lost + 1) ∨ min 65535 (s.fr.lost + 1) = 65535
        omega
      have hup : (v.originate v.statusNotice).stepSeq.fr.up = s.fr.up := by rw [hofr']
      obtain ⟨h1, h2⟩ := State.drain_full s.fr.lost 1023 (v.originate v.statusNotice).stepSeq (by rw [hup]; exact hfull) hlost
      exact ⟨h1.trans hup, h2⟩
    · rw [if_pos hroom] at hofr'
      have hup : (v.originate v.statusNotice).stepSeq.fr.up = s.fr.up ++ [{ forwarded := false, frame := v.statusNotice }] := by
        rw [hofr']
      obtain ⟨more, hmore⟩ := hd.up
      rw [hv]
      show ((v.originate v.statusNotice).stepSeq.drain 1023).fr.up[s.fr.up.length]? = _
      rw [← hmore, hup, hn, List.append_assoc, List.getElem?_append_right (Nat.le_refl _), Nat.sub_self]
      subst hj hp
      unfold State.statusNotice Jobs.systemWord systemWordOf
      dsimp only
      rw [hrun.2, if_pos rfl]
      rfl
  case flag =>
    rintro s u f n dev line w on rfl hw rfl
    rw [← s.jobs.notified_eq f] at *
    have hspec := fun e b he hb => State.deliver_flag_spec (e := e) (b := b) f n dev line _ s hw rfl he hb rfl rfl
    obtain ⟨hflags, -, hoff, hon⟩ := hspec _ _ rfl rfl
    refine ⟨hflags, fun h => ⟨(hoff h).1, (hoff h).2.1⟩, fun h => ?_, fun e b he hb => ?_⟩
    · obtain ⟨hseq, hfr, -⟩ := hon h
      by_cases hroom : s.fr.up.length < 16
      · rw [if_pos hroom] at hfr
        exact ⟨hseq, by rw [hfr], fun hfull => absurd hroom (by omega), fun _ => by rw [hfr]; exact ⟨rfl, rfl⟩⟩
      · rw [if_neg hroom] at hfr
        exact ⟨hseq, by rw [hfr], fun _ => by rw [hfr]; exact ⟨rfl, rfl⟩, fun h => absurd h hroom⟩
    · obtain ⟨-, hfrozen, hoff, hon⟩ := hspec e b he hb
      exact ⟨hfrozen, fun h => (hoff h).2.2, fun h => (hon h).2.2⟩
  case refresh =>
    intro s h
    refine ⟨fun ho => EndsFrom.work_same h rfl ?_, fun ho hd => EndsFrom.work h rfl ?_, fun ho hd => EndsFrom.work h rfl ?_⟩ <;>
      unfold Jobs.refreshExpiry
    · rw [Jobs.expired_not ho, if_neg Bool.false_ne_true]
    · rw [if_pos ((Jobs.expired_iff _ _).mpr ho)]
      exact if_neg (by rw [show (s.jobs.takeExpiry .t14).dev = s.jobs.dev from rfl, hd]; decide)
    · rw [if_pos ((Jobs.expired_iff _ _).mpr ho)]
      exact if_pos hd
  case latchNot =>
    intro s h
    have he : s.latchExpiry = s := by
      unfold State.latchExpiry
      refine if_neg fun hany => ?_
      obtain ⟨l, hl, ht⟩ := Option.any_eq_true .. |>.mp hany
      have := h l hl
      simp at ht
      omega
    show s.unlessReset _ = _
    unfold State.unlessReset
    rw [he]
    split <;> rfl
  case latch =>
    intro s l hr hl ht
    show s.unlessReset _ = _
    rw [State.unlessReset_of hr]
    unfold State.latchExpiry
    rw [if_pos (by rw [hl]; simpa using ht)]
  case due =>
    intro s f rest hrun hl
    refine ⟨fun hs hm ho => EndsFrom.work hrun.1.1 rfl ?_, fun hno => EndsFrom.work_same hrun.1.1 rfl ?_⟩
    · unfold Jobs.featureDue
      rw [hl, hrun.2, hs, ho]
      exact if_pos (by simp [hm])
    · unfold Jobs.featureDue
      rw [hl]
      refine if_neg ?_
      rcases hno with h | h | h <;> simp [h]
  case taken =>
    intro s f rest hrun hrest hl hs hm ho hb hn now hnow
    have hpush : s.jobs.featureDue = s.jobs.push .cs := by
      unfold Jobs.featureDue
      rw [hl, hrun.2, hs, ho]
      exact if_pos (by simp [hm])
    have hex : exec .featureDue s = .next (s.setJobs (s.jobs.push .cs)).finish :=
      EndsFrom.work hrun.1.1 rfl hpush (fun p f h => (nomatch h))
    obtain ⟨h, hopen⟩ := Jobs.settle_due (j := s.jobs.push .cs) (now := now) hrun.1.2.1 hrun.2
      (by rw [show (s.jobs.push .cs).todo = s.jobs.todo ++ [.cs] from rfl, hrest.1]; rfl) hs hl hm ho hb
      (by rw [Jobs.brkNow_congr (j := s.jobs) (k := s.jobs.push .cs) rfl rfl rfl]; exact hn)
      (by
        rw [hnow]
        exact (congrArg Lsi.confirmed (Jobs.lostEntries_congr (j := s.jobs) (k := s.jobs.push .cs) rfl rfl fun e => rfl)).symm)
    obtain ⟨-, -, -, hfin⟩ := State.finish_spec (s.setJobs (s.jobs.push .cs))
    have hcs : (s.setJobs (s.jobs.push .cs)).finish.jobs.cs = (s.jobs.push .cs).settle.cs := (congrArg Jobs.cs hfin :)
    refine ⟨_, hex, ?_⟩
    rw [hcs]
    refine ⟨h.list, h.current, h.expected, h.command, fun hn => ?_, fun hy hk => hopen hy hk⟩
    rcases h.state with ⟨hy, -⟩ | ⟨-, hh⟩
    · rw [hn] at hy
      exact nomatch hy
    · exact hh
  case dueNot =>
    intro s hr h
    refine EndsFrom.work_same hr rfl ?_
    unfold Jobs.featureDue
    refine if_neg ?_
    rcases h with h | h <;> simp [h]
  case speed =>
    intro s hr
    refine ⟨fun hk ha => EndsFrom.work hr rfl ?_, fun hno => EndsFrom.work_same hr rfl ?_⟩ <;> unfold Jobs.speedAged
    · rw [hk, ha]; rfl
    · refine if_neg ?_
      rcases hno with h | h <;> simp [h]

end

section
/-! PROOFS. The Line System Identifier (chapter 2, O58): verdict, lost entries, restart, debounce and confirmation. -/

namespace Sys2Proof.Machine

open Sys2Proof

variable {s t u : State} {j k l : Jobs} {r : Record}

/-! ### The verdict (R21) -/

/-- A search of an ascending list finds the lowest element that meets its test. -/
theorem find_lowest {α : Type} [LinearOrder α] {l : List α} {p : α → Bool} (hl : l.Pairwise (· < ·)) (x : α) :
    l.find? p = some x ↔ x ∈ l ∧ p x = true ∧ ∀ y ∈ l, y < x → p y = false := by
  induction l with
  | nil => exact ⟨fun h => (nomatch h), fun h => absurd h.1 List.not_mem_nil⟩
  | cons a l ih =>
    obtain ⟨ha, hl⟩ := List.pairwise_cons.mp hl
    cases hp : p a with
    | true =>
      rw [List.find?_cons_of_pos hp]
      constructor
      · rintro h
        obtain rfl := Option.some.inj h
        refine ⟨List.mem_cons_self, hp, fun y hy hlt => ?_⟩
        rcases List.mem_cons.mp hy with rfl | hy
        · exact absurd hlt (lt_irrefl _)
        · exact absurd hlt (lt_asymm (ha y hy))
      · rintro ⟨hx, -, hlow⟩
        rcases List.mem_cons.mp hx with rfl | hx
        · rfl
        · rw [hlow a List.mem_cons_self (ha x hx)] at hp
          exact nomatch hp
    | false =>
      rw [List.find?_cons_of_neg (by simp [hp]), ih hl]
      constructor
      · rintro ⟨hx, hpx, hlow⟩
        refine ⟨List.mem_cons_of_mem _ hx, hpx, fun y hy hlt => ?_⟩
        rcases List.mem_cons.mp hy with rfl | hy
        · exact hp
        · exact hlow y hy hlt
      · rintro ⟨hx, hpx, hlow⟩
        rcases List.mem_cons.mp hx with rfl | hx
        · rw [hp] at hpx
          exact nomatch hpx
        · exact ⟨hx, hpx, fun y hy => hlow y (List.mem_cons_of_mem _ hy)⟩

theorem Jobs.matching_some (j : Jobs) (e : Fin 8) : j.matching r = some e ↔
    (j.lineUsable e && j.lineMatches r e) = true ∧ ∀ i, i < e → (j.lineUsable i && j.lineMatches r i) = false := by
  unfold Jobs.matching
  rw [find_lowest (by decide)]
  exact ⟨fun ⟨_, hp, hlow⟩ => ⟨hp, fun i => hlow i (lineEntries_all i)⟩,
    fun ⟨hp, hlow⟩ => ⟨lineEntries_all e, hp, fun i _ => hlow i⟩⟩

theorem Jobs.matching_none (j : Jobs) : j.matching r = none ↔ ∀ e, (j.lineUsable e && j.lineMatches r e) = false := by
  unfold Jobs.matching
  rw [List.find?_eq_none]
  exact ⟨fun h e => by simpa using h e (lineEntries_all e), fun h e _ => by simp [h e]⟩

/-- R21: the verdict of a record that neither the settling flag nor its own marks decide. -/
theorem Jobs.verdict_table (hs : j.lsi.settling = false) (hb : r.broken = false) (h0 : r.saturated = 0)
    (hd : (j.param 0x141 600).toNat ≤ r.totalRms * 2) :
    (∀ e, j.verdict r = .system e ↔ j.matching r = some e) ∧ (j.verdict r = .unknown ↔ j.matching r = none) := by
  have he : j.verdict r = ((j.matching r).map Line.system).getD .unknown := by
    unfold Jobs.verdict
    rw [hs, hb, h0, if_neg (by decide), if_neg (by decide), if_neg (by omega)]
    cases j.matching r <;> rfl
  rw [he]
  cases j.matching r with
  | none => exact ⟨fun e => ⟨fun h => (nomatch h), fun h => (nomatch h)⟩, fun _ => rfl, fun _ => rfl⟩
  | some i =>
    exact ⟨fun e => ⟨fun h => congrArg some (Line.system.inj h), fun h => congrArg Line.system (Option.some.inj h)⟩,
      fun h => (nomatch h), fun h => (nomatch h)⟩

/-! #### What a verdict's reads find -/

theorem Jobs.marked_bad (j : Jobs) (a : Nat) (h : j.marked a = true) : j.bad a = true := by
  unfold Jobs.bad TWord.bad
  rw [show (j.cell a).mark = true from h]
  rfl

theorem Jobs.touchAll_marks (as : List Nat) (hw : j.tableWf) (a : Nat) (h : j.marked a = true) :
    (j.touchAll as).marked a = true := (Bystands.touchAll as j).marks hw a h

/-- R183: an address that has been read carries a mark where it is uncorrectable. -/
theorem Jobs.touchAll_marked (as : List Nat) (hw : j.tableWf) (a : Nat) (ha : a ∈ as) :
    (j.touchAll as).marked a = j.bad a := by
  refine Bool.eq_iff_iff.mpr ⟨fun h => ?_, fun h => ?_⟩
  · rw [← ((Still.touchAll as j).sameWords hw).bad]
    exact Jobs.marked_bad _ a h
  · induction as generalizing j with
    | nil => exact absurd ha List.not_mem_nil
    | cons b as ih =>
      have hwt := (Still.touch b j).tableWf hw
      have hbt : (j.touch b).bad a = true := by rw [((Still.touch b j).sameWords hw).bad]; exact h
      show ((j.touch b).touchAll as).marked a = true
      rcases List.mem_cons.mp ha with rfl | ha
      · refine Jobs.touchAll_marks as hwt a ?_
        obtain ⟨-, hbad, hsame⟩ := Jobs.touch_cell a hw
        unfold Jobs.marked
        cases hm : (j.cell a).mark with
        | true => rw [hsame (.inl hm), hm]
        | false =>
          have h2 : 2 ≤ inverted (j.cell a).check := by
            unfold Jobs.bad TWord.bad at h
            simpa [hm] using h
          rw [(hbad hm h2).1]
      · exact ih hwt ha hbt

/-- R18: an entry whose words have been read stands exactly where it is usable. -/
theorem Jobs.lineStands_touchAll (as : List Nat) (hw : j.tableWf) (e : Fin 8) (ha : ∀ a ∈ span (lineAddr e) 6, a ∈ as) :
    (j.touchAll as).lineStands e = j.lineUsable e := by
  have hwords := (Still.touchAll as j).sameWords hw
  have hmark : (j.touchAll as).anyMarked (span (lineAddr e) 6) = j.anyBad (span (lineAddr e) 6) := by
    unfold Jobs.anyMarked Jobs.anyBad
    rw [Bool.eq_iff_iff, List.any_eq_true, List.any_eq_true]
    exact ⟨fun ⟨a, h, hm⟩ => ⟨a, h, by rwa [Jobs.touchAll_marked as hw a (ha a h)] at hm⟩,
      fun ⟨a, h, hm⟩ => ⟨a, h, by rwa [Jobs.touchAll_marked as hw a (ha a h)]⟩⟩
  unfold Jobs.lineStands Jobs.lineUsable
  rw [hmark, hwords.lineNamed]

/-- The addresses a verdict reads. -/
def Jobs.verdictReads (r : Record) (j : Jobs) : List Nat :=
  if j.lsi.settling || r.broken || decide (0 < r.saturated) then []
  else if r.totalRms * 2 < (j.param 0x141 600).toNat then [0x141]
  else 0x141 :: linesReads (linesUpTo (j.matching r)) ++ [0x142]

theorem Jobs.touchVerdict_eq (r : Record) (j : Jobs) : j.touchVerdict r = j.touchAll (j.verdictReads r) := by
  unfold Jobs.touchVerdict Jobs.verdictReads
  split
  · rfl
  · split
    · rfl
    · rw [Jobs.touchLines_eq]
      show _ = (j.touch 0x141).touchAll (linesReads (linesUpTo (j.matching r)) ++ [0x142])
      rw [← Jobs.touchAll_append]
      rfl

theorem mem_linesUpTo {o : Option (Fin 8)} (e : Fin 8) (h : ∀ m, o = some m → e ≤ m) : e ∈ linesUpTo o := by
  cases o with
  | none => exact lineEntries_all e
  | some m => exact List.mem_filter.mpr ⟨lineEntries_all e, decide_eq_true (h m rfl)⟩

/-- R18, R21: an entry that the verdict's search comes to stands afterwards exactly where it is usable. -/
theorem Jobs.touchVerdict_stands (hs : j.lsi.settling = false) (hb : r.broken = false) (h0 : r.saturated = 0)
    (hd : (j.param 0x141 600).toNat ≤ r.totalRms * 2) (hw : j.tableWf) (e : Fin 8)
    (hlow : ∀ i, i < e → j.lineUsable i = true → j.lineMatches r i = false) :
    (j.touchVerdict r).lineStands e = j.lineUsable e := by
  rw [Jobs.touchVerdict_eq]
  refine Jobs.lineStands_touchAll _ hw e fun a ha => ?_
  unfold Jobs.verdictReads
  rw [hs, hb, h0, if_neg (by decide), if_neg (by omega)]
  refine List.mem_append_left _ (List.mem_cons_of_mem _ (List.mem_flatMap.mpr ⟨e, mem_linesUpTo e fun m hm => ?_, ha⟩))
  by_contra hlt
  obtain ⟨hmm, -⟩ := (j.matching_some m).mp hm
  rw [Bool.and_eq_true] at hmm
  rw [hlow m (lt_of_not_ge hlt) hmm.1] at hmm
  exact nomatch hmm.2

/-! ### Lost entries (R28) -/

theorem Jobs.candidateLost_iff (j : Jobs) :
    j.candidateLost = true ↔ ∃ i, j.lsi.candidate = some (.system i) ∧ j.lineStands i = false := by
  unfold Jobs.candidateLost
  cases j.lsi.candidate with
  | none => simp
  | some l => cases l <;> simp [Line.index]

theorem Jobs.confirmedLost_iff (j : Jobs) :
    j.confirmedLost = true ↔ ∃ i, j.lsi.confirmed = .system i ∧ j.lineStands i = false := by
  unfold Jobs.confirmedLost
  cases j.lsi.confirmed <;> simp [Line.index]

theorem Jobs.confirmedLost_not (h : ∀ i, j.lsi.confirmed = .system i → j.lineStands i = true) : j.confirmedLost = false :=
  Bool.eq_false_iff.mpr fun hc => by
    obtain ⟨i, hi, hs⟩ := j.confirmedLost_iff.mp hc
    rw [h i hi] at hs
    exact nomatch hs

theorem Jobs.candidateLost_not (h : ∀ i, j.lsi.candidate = some (.system i) → j.lineStands i = true) :
    j.candidateLost = false :=
  Bool.eq_false_iff.mpr fun hc => by
    obtain ⟨i, hi, hs⟩ := j.candidateLost_iff.mp hc
    rw [h i hi] at hs
    exact nomatch hs

/-- R28: what the loss of the confirmed system reports. -/
theorem Jobs.lostEntries_reports (j : Jobs) :
    (j.confirmedLost = true → j.lostEntries.todo = j.todo ++ [.confirmed] ∧
      j.lostEntries.out = j.out ++ [.flag .systemConfirmed (BitVec.ofNat 16 Line.unknown.code) j.dev .unknown]) ∧
    (j.confirmedLost = false → j.lostEntries.todo = j.todo ∧ j.lostEntries.out = j.out) := by
  obtain ⟨l, rfl, h⟩ := j.lostEntries_eq
  rw [h]
  cases j.confirmedLost with
  | true => exact ⟨fun _ => ⟨rfl, rfl⟩, fun h => (nomatch h)⟩
  | false => exact ⟨fun h => (nomatch h), fun _ => ⟨rfl, rfl⟩⟩

theorem Jobs.lostEntries_confirmed {i : Fin 8} (hc : j.lsi.confirmed = .system i) (hs : j.lineStands i = false) :
    j.lostEntries.lsi.confirmed = .unknown := by
  rw [j.lostEntries_spec.2, if_pos (j.confirmedLost_iff.mpr ⟨i, hc, hs⟩)]

/-- R26: what the identification restart does, the losses found before it apart. -/
theorem Jobs.lsiAfresh_spec (j : Jobs) :
    j.lsiAfresh = { j with lsi := j.lsiAfresh.lsi, todo := j.lsiAfresh.todo, out := j.lsiAfresh.out } ∧
    (j.lsi.confirmed ≠ .pending → .confirmed ∈ j.lsiAfresh.todo) ∧ j.lsiAfresh.out = j.out := by
  unfold Jobs.lsiAfresh
  dsimp only
  split
  · exact ⟨rfl, fun _ => List.mem_append_right _ (List.mem_singleton_self _), rfl⟩
  · rename_i hp
    exact ⟨rfl, fun h => absurd h hp, rfl⟩

theorem Jobs.lsiRestart_reidentifies (j : Jobs) : Reidentifies j j.lsiRestart := by
  obtain ⟨h1, -⟩ := j.lostEntries_spec
  have htag : j.lostEntries.tag = j.tag := (congrArg Jobs.tag h1 :)
  have hlmu : j.lostEntries.lmu = j.lmu := (congrArg Jobs.lmu h1 :)
  unfold Reidentifies
  rw [← htag, ← hlmu]
  unfold Jobs.lsiRestart Jobs.lsiAfresh
  dsimp only
  split <;> rfl

/-! ### A confirmed system that is UNKNOWN or PENDING (R26, R28) -/

/-- The confirmed system is UNKNOWN or PENDING. -/
def Jobs.unsure (j : Jobs) : Prop := j.lsi.confirmed = .unknown ∨ j.lsi.confirmed = .pending

/-- Work that leaves the identifier's record, or restarts the identification. -/
def Restarts (j k : Jobs) : Prop := k.lsi = j.lsi ∨ k.lsi.confirmed = .pending

theorem Restarts.refl (j : Jobs) : Restarts j j := .inl rfl

theorem Restarts.trans (h : Restarts j k) (h' : Restarts k l) : Restarts j l := by
  rcases h' with h' | h'
  · rcases h with h | h
    · exact .inl (h'.trans h)
    · exact .inr (h' ▸ h)
  · exact .inr h'

theorem Restarts.unsure (h : Restarts j k) (hj : j.unsure) : k.unsure := by
  rcases h with h | h
  · unfold Jobs.unsure
    rwa [h]
  · exact .inr h

theorem OnlyChangeover.restarts (h : OnlyChangeover j k) : Restarts j k := .inl h.lsi
theorem Still.restarts (h : Still j k) : Restarts j k := .inl h.lsi

theorem Restarts.lsiRestart (j : Jobs) : Restarts j j.lsiRestart := by
  refine .inr ?_
  unfold Jobs.lsiRestart Jobs.lsiAfresh
  dsimp only
  split <;> rfl

theorem Restarts.setCs (v : Cs) (j : Jobs) : Restarts j (j.setCs v) := .inl rfl
theorem Restarts.stop (i : TimerId) (j : Jobs) : Restarts j (j.stop i) := .inl rfl
theorem Restarts.flag (f : Flag) (n : Nat) (j : Jobs) : Restarts j (j.flag f n) := .inl rfl
theorem Restarts.touch (a : Nat) (j : Jobs) : Restarts j (j.touch a) := .inl (Jobs.touch_lsi a j)
theorem Restarts.load (i : TimerId) (n : Nat) (m : TimerMode) (j : Jobs) : Restarts j (j.load i n m) := .inl rfl
theorem Restarts.csTo (c : CsState) (j : Jobs) : Restarts j (j.csTo c) := .inl rfl
theorem Restarts.setOpen (j : Jobs) : Restarts j j.setOpen := (OnlyChangeover.setOpen j).restarts
theorem Restarts.enterHold (r : HoldReason) (step : CsState) (j : Jobs) : Restarts j (j.enterHold r step) :=
  (OnlyChangeover.enterHold r step j).restarts
theorem Restarts.failStep (r : HoldReason) (j : Jobs) : Restarts j (j.failStep r) := .enterHold r _ j
theorem Restarts.enterIdle (j : Jobs) : Restarts j j.enterIdle := .inl rfl
theorem Restarts.enterOpening (j : Jobs) : Restarts j j.enterOpening := (OnlyChangeover.enterOpening j).restarts
theorem Restarts.enterIdentifying (j : Jobs) : Restarts j j.enterIdentifying := (OnlyChangeover.enterIdentifying j).restarts
theorem Restarts.loadStep (i : Nat) (j : Jobs) : Restarts j (j.loadStep i) := (OnlyChangeover.loadStep i j).restarts
theorem Restarts.touchTarget (j : Jobs) : Restarts j j.touchTarget := (Still.touchTarget j).restarts
theorem Restarts.touchClosing (j : Jobs) : Restarts j j.touchClosing := (Still.touchClosing j).restarts
theorem Restarts.touchResolve (c : BitVec 4) (j : Jobs) : Restarts j (j.touchResolve c) := (Still.touchResolve j c).restarts
theorem Restarts.touchLine (e : Fin 8) (j : Jobs) : Restarts j (j.touchLine e) := (Still.touchLine j e).restarts
theorem Restarts.adoptTarget (e : Fin 8) (j : Jobs) : Restarts j (j.adoptTarget e) := .inl rfl
theorem Restarts.enterArmed (j : Jobs) : Restarts j j.enterArmed := (OnlyChangeover.dropStale j).restarts.trans (.csTo _ _)

theorem Restarts.enterLowering (j : Jobs) : Restarts j j.enterLowering := by
  refine .inl ?_
  have hto : ∀ (c : CsState) (k : Jobs), (k.csTo c).lsi = k.lsi := fun _ _ => rfl
  unfold Jobs.enterLowering
  dsimp only
  rw [hto, Jobs.load_lsi, Jobs.touchAll_lsi, Jobs.lower_lsi, Jobs.lower_lsi]

theorem Restarts.enterCoasting (j : Jobs) : Restarts j j.enterCoasting := by
  unfold Jobs.enterCoasting
  grind (ematch := 20) [Restarts.trans, Restarts.refl, Restarts.stop, Restarts.setCs, Restarts.loadStep, Restarts.load,
    Restarts.csTo]

theorem Restarts.enterSelecting (j : Jobs) : Restarts j j.enterSelecting := by
  unfold Jobs.enterSelecting
  grind (ematch := 20) [Restarts.trans, Restarts.refl, Restarts.enterHold, Restarts.touchTarget, Restarts.setCs,
    Restarts.loadStep, Restarts.csTo]

theorem Restarts.noteMade (y : Panto) (was : PState) (j : Jobs) : Restarts j (j.noteMade y was) := by
  unfold Jobs.noteMade
  split
  · exact .refl j
  · exact .inl rfl

theorem Restarts.enterRaising (j : Jobs) : Restarts j j.enterRaising := by
  have hr : ∀ (y : Panto) (r : Role) (b : Asker) (k : Jobs), Restarts k (k.raise y r b).2 := fun y r b k =>
    .inl (Jobs.raise_lsi y r b k)
  unfold Jobs.enterRaising
  grind (ematch := 20) [Restarts.trans, Restarts.refl, Restarts.touchTarget, Restarts.touch, Restarts.stop, Restarts.enterHold,
    Restarts.setCs, Restarts.noteMade, Restarts.csTo]

theorem Restarts.enterClosing (j : Jobs) : Restarts j j.enterClosing := by
  unfold Jobs.enterClosing
  grind (ematch := 20) [Restarts.trans, Restarts.refl, Restarts.touchClosing, Restarts.enterHold, Restarts.setCs,
    Restarts.touch, Restarts.load, Restarts.loadStep, Restarts.csTo]

theorem Restarts.dueCheck (j : Jobs) : Restarts j j.dueCheck := by
  unfold Jobs.dueCheck Jobs.takeHead
  grind (ematch := 20) [Restarts.trans, Restarts.refl, Restarts.setCs, Restarts.enterOpening, Restarts.enterHold]

theorem Restarts.coastToRoof (j : Jobs) : Restarts j j.coastToRoof := by
  unfold Jobs.coastToRoof
  grind (ematch := 20) [Restarts.trans, Restarts.refl, Restarts.touchTarget, Restarts.failStep, Restarts.stop,
    Restarts.enterLowering, Restarts.lsiRestart, Restarts.enterIdentifying]

theorem Restarts.coastingTest (j : Jobs) : Restarts j j.coastingTest := by
  unfold Jobs.coastingTest Jobs.coastOver
  grind (ematch := 20) [Restarts.trans, Restarts.refl, Restarts.setCs, Restarts.coastToRoof, Restarts.stop,
    Restarts.enterClosing, Restarts.failStep]

theorem Restarts.loweringTest (j : Jobs) : Restarts j j.loweringTest := by
  unfold Jobs.loweringTest
  grind (ematch := 20) [Restarts.trans, Restarts.refl, Restarts.touchTarget, Restarts.stop, Restarts.failStep,
    Restarts.enterRaising, Restarts.enterSelecting]

theorem Restarts.selectingTest (j : Jobs) : Restarts j j.selectingTest := by
  unfold Jobs.selectingTest
  grind (ematch := 20) [Restarts.trans, Restarts.refl, Restarts.failStep, Restarts.setCs, Restarts.stop, Restarts.enterRaising]

theorem Restarts.raisingTest (j : Jobs) : Restarts j j.raisingTest := by
  unfold Jobs.raisingTest
  grind (ematch := 20) [Restarts.trans, Restarts.refl, Restarts.lsiRestart, Restarts.enterIdentifying]

theorem Restarts.identifyingTest (j : Jobs) : Restarts j j.identifyingTest := by
  unfold Jobs.identifyingTest
  grind (ematch := 20) [Restarts.trans, Restarts.refl, Restarts.touchLine, Restarts.adoptTarget, Restarts.enterLowering,
    Restarts.enterClosing, Restarts.failStep, Restarts.touchResolve]

theorem Restarts.closingTest (j : Jobs) : Restarts j j.closingTest := by
  have hd : ∀ k : Jobs, Restarts k k.closingDone := fun k => by
    unfold Jobs.closingDone
    grind (ematch := 20) [Restarts.trans, Restarts.refl, Restarts.stop, Restarts.setCs, Restarts.flag, Restarts.enterIdle]
  unfold Jobs.closingTest
  grind (ematch := 20) [Restarts.trans, Restarts.refl, Restarts.touchClosing, Restarts.setOpen, Restarts.enterRaising,
    Restarts.failStep]

theorem Restarts.csTest (due : Bool) (j : Jobs) : Restarts j (j.csTest due) := by
  unfold Jobs.csTest
  grind (ematch := 20) [Restarts.refl, Restarts.enterArmed, Restarts.enterIdle, Restarts.dueCheck, Restarts.enterCoasting,
    Restarts.coastingTest, Restarts.loweringTest, Restarts.selectingTest, Restarts.raisingTest, Restarts.identifyingTest,
    Restarts.closingTest]

theorem Restarts.csConfirmed (j : Jobs) : Restarts j j.csConfirmed := by
  unfold Jobs.csConfirmed
  grind (ematch := 20) [Restarts.trans, Restarts.refl, Restarts.csTest, Restarts.flag, Restarts.setOpen, Restarts.setCs,
    Restarts.enterHold, Restarts.touch, Restarts.enterCoasting]

theorem Restarts.csReact (c : Change) (j : Jobs) : Restarts j (j.csReact c) := by
  cases c with
  | look => exact .csTest _ j
  | cs => exact .csTest _ j
  | selector => exact .csTest _ j
  | confirmed => exact .csConfirmed j
  | breaker old new =>
    show Restarts j (j.csBreaker old new)
    unfold Jobs.csBreaker
    grind (ematch := 20) [Restarts.trans, Restarts.flag, Restarts.setOpen, Restarts.setCs, Restarts.enterIdle, Restarts.csTest]
  | panto y old new role =>
    show Restarts j (j.csPanto y old new role)
    unfold Jobs.csPanto Jobs.csCollectorGone
    grind (ematch := 20) [Restarts.trans, Restarts.refl, Restarts.setOpen, Restarts.setCs, Restarts.enterRaising,
      Restarts.failStep, Restarts.csTest]
  | lowerAllOn =>
    show Restarts j j.csLowerAll
    unfold Jobs.csLowerAll
    grind (ematch := 20) [Restarts.refl, Restarts.setOpen, Restarts.failStep]

theorem Jobs.unsure_of_lsi (h : k.lsi = j.lsi) (hj : j.unsure) : k.unsure := by
  unfold Jobs.unsure
  rwa [h]

theorem Jobs.unsure.lostEntries (h : j.unsure) : j.lostEntries.unsure := by
  unfold Jobs.unsure
  rw [j.lostEntries_spec.2]
  dsimp only
  split
  · exact .inl rfl
  · exact h

/-- R28: where the confirmed system's entry has been found lost, the sequencer acts on UNKNOWN. -/
theorem Jobs.acted_confirmed (j : Jobs) : j.acted.lsi = j.lostEntries.lsi := by
  unfold Jobs.acted
  rw [Jobs.ocReact_lsi, Jobs.suspendIfMust_lsi]

theorem Jobs.react_cases (c : Change) (j : Jobs) :
    j.react c = (j.acted.csReact c).ocReact.suspension ∨
    j.react c = (j.acted.csReact c).ocReact.suspension.ocReact.chooseUnlessSuspended := by
  unfold Jobs.react Jobs.acted
  dsimp only
  generalize (Jobs.csReact c _).ocReact.suspension = m
  cases c with
  | confirmed => exact .inr rfl
  | _ => exact .inl rfl

theorem Jobs.react_lsi (c : Change) (j : Jobs) : (j.react c).lsi = (j.acted.csReact c).lsi := by
  rcases j.react_cases c with h | h
  · rw [h, Jobs.suspension_lsi, Jobs.ocReact_lsi]
  · rw [h, Jobs.chooseUnlessSuspended_lsi, Jobs.ocReact_lsi, Jobs.suspension_lsi, Jobs.ocReact_lsi]

theorem Jobs.unsure.levels (h : j.unsure) : j.levels.unsure := by
  rw [Jobs.levels_eq]
  refine Jobs.unsure_of_lsi ?_ h.lostEntries
  rw [Jobs.iceLevels_lsi, Jobs.lowerBlind_lsi, Jobs.lowerBlind_lsi]
  unfold Jobs.followed
  rw [Jobs.ocSync_lsi, Jobs.ocReact_lsi, Jobs.syncFeedback_lsi]

theorem Jobs.react_unsure (c : Change) (h : j.lostEntries.unsure) : (j.react c).unsure :=
  Jobs.unsure_of_lsi (Jobs.react_lsi c j) ((Restarts.csReact c _).unsure (Jobs.unsure_of_lsi j.acted_confirmed h))

theorem Jobs.unsure.answer (c : Change) (h : j.unsure) : (j.answer c).unsure := by
  have hfollow : j.ocReact.unsure := Jobs.unsure_of_lsi (Jobs.ocReact_lsi j) h
  unfold Jobs.answer
  split
  · exact (Jobs.react_unsure c hfollow.lostEntries).levels
  · exact h

theorem Jobs.unsure.pump (h : j.unsure) (n : Nat) : (j.pump n).unsure := by
  induction n generalizing j with
  | zero => exact h
  | succ n ih =>
    rw [Jobs.pump]
    split
    · exact h
    · rename_i c rest _
      have hset : (j.setTodo rest).unsure := Jobs.unsure_of_lsi (Jobs.setTodo_lsi rest j) h
      exact ih (hset.answer c)

/-- R28: within a step in which something changes a lost confirmed system becomes UNKNOWN, or PENDING by a restart. -/
theorem Jobs.settle_unsure (hr : j.dev = .run) (ht : j.todo ≠ []) {i : Fin 8} (hc : j.lsi.confirmed = .system i)
    (hs : j.lineStands i = false) : j.settle.unsure := by
  obtain ⟨c, rest, ht⟩ := List.exists_cons_of_ne_nil ht
  have hpump : j.pump 64 = (((j.setTodo rest).ocReact.react c).levels).pump 63 := by
    rw [Jobs.pump, ht]
    dsimp only
    unfold Jobs.answer
    rw [if_pos (show (j.setTodo rest).dev = .run from hr)]
  have htm : (j.setTodo rest).ocReact.tm = j.tm := by
    rw [(Jobs.ocFollow_spec _ (j.setTodo rest) (j.setTodo rest).ocReact rfl).1]
    rfl
  have hstands : (j.setTodo rest).ocReact.lineStands i = false := by
    rw [← hs]
    refine Jobs.lineStands_congr i fun n _ => ?_
    unfold Jobs.cell
    rw [htm]
  have hconf : (j.setTodo rest).ocReact.lsi.confirmed = .system i := by
    rw [Jobs.ocReact_lsi]
    exact hc
  unfold Jobs.settle
  rw [hpump]
  refine Jobs.unsure_of_lsi (Jobs.ocSync_lsi _) (Jobs.unsure.pump ?_ 63)
  exact (Jobs.react_unsure c (.inl (Jobs.lostEntries_confirmed hconf hstands))).levels

/-! ### Debounce and confirmation (R23, R24) -/

theorem SameWords.needed (h : SameWords j k) (v : Line) : k.needed v = j.needed v := by
  unfold Jobs.needed Jobs.confirmCount
  cases v <;> simp only [h.param, h.lineUsable, h.lineK]

theorem Still.touchNeeded (v : Line) (j : Jobs) : Still j (j.touchNeeded v) := by
  unfold Jobs.touchNeeded
  cases v with
  | dead => exact .touch _ j
  | unknown => exact .touch _ j
  | system e => exact .touchLine j e
  | _ => exact .refl j

/-- R23: the identifier's record with the verdict `v` debounced. -/
def Lsi.debounced (v : Line) (m : Lsi) : Lsi :=
  { m with candidate := some v, agreement := if m.candidate = some v then min 15 (m.agreement + 1) else 1 }

theorem Jobs.debounce_eq (v : Line) (hv : v ≠ .none) (j : Jobs) :
    j.debounce v = (j.setLsi (j.lsi.debounced v)).confirmCheck v := by
  unfold Jobs.debounce
  rw [if_neg hv]
  rfl

/-- R24: the confirmation check with a count `n`. -/
theorem Jobs.confirmCheck_spec {v : Line} {n : Nat} (hn : j.needed v = some n) (hk : k = j.confirmCheck v) :
    k.lsi.candidate = j.lsi.candidate ∧ k.lsi.agreement = j.lsi.agreement ∧ k.lsi.last = j.lsi.last ∧
    k.lsi.settling = j.lsi.settling ∧
    (n ≤ j.lsi.agreement → j.lsi.confirmed ≠ v → k.lsi.confirmed = v ∧ k.lsi.since = j.tag ∧ .confirmed ∈ k.todo ∧
      Flagged .systemConfirmed (BitVec.ofNat 16 v.code) k.out) ∧
    ((j.lsi.agreement < n ∨ j.lsi.confirmed = v) → k.lsi.confirmed = j.lsi.confirmed ∧ k.lsi.since = j.lsi.since) := by
  have hs := Still.touchNeeded v j
  unfold Jobs.confirmCheck at hk
  rw [hn] at hk
  generalize j.touchNeeded v = m at hs hk
  by_cases hc : n ≤ j.lsi.agreement ∧ j.lsi.confirmed ≠ v
  · have hk : k = m.confirm v := hk.trans (if_pos hc)
    have hlsi : k.lsi = { m.lsi with confirmed := v, since := m.tag } := by rw [hk]; rfl
    rw [hs.lsi, hs.tag] at hlsi
    rw [hlsi]
    refine ⟨rfl, rfl, rfl, rfl, fun _ _ => ⟨rfl, rfl, ?_, ?_⟩, fun h => ?_⟩
    · rw [hk]
      exact List.mem_append_right _ (List.mem_singleton_self _)
    · rw [hk]
      exact Flagged.flag _ _ _
    · rcases h with h | h
      · omega
      · exact absurd h hc.2
  · have hk : k = m := hk.trans (if_neg hc)
    rw [hk, hs.lsi]
    exact ⟨rfl, rfl, rfl, rfl, fun h1 h2 => absurd ⟨h1, h2⟩ hc, fun _ => ⟨rfl, rfl⟩⟩

theorem Jobs.confirmCheck_none {v : Line} (hn : j.needed v = none) : (j.confirmCheck v).lsi = j.lsi := by
  unfold Jobs.confirmCheck
  rw [hn]
  exact (Still.touchNeeded v j).lsi

/-- The roof jobs as a record's verdict finds them, the entries its reads have found poisoned lost. -/
def Jobs.judged (r : Record) (j : Jobs) : Jobs :=
  (j.touchVerdict r).lostEntries.setLsi { (j.touchVerdict r).lostEntries.lsi with last := some (j.verdict r), settling := false }

theorem Jobs.lsiRecord_eq (r : Record) (j : Jobs) : j.lsiRecord r = (j.judged r).debounce (j.verdict r) := rfl

theorem Jobs.judged_words (r : Record) (hw : j.tableWf) : SameWords j (j.judged r) := by
  have h1 : Still j (j.touchVerdict r) := by
    rw [Jobs.touchVerdict_eq]
    exact .touchAll _ j
  exact ((h1.sameWords hw).trans ((Held.lostEntries _).sameWords (h1.tableWf hw))).trans (.of_tm rfl)

end Sys2Proof.Machine

open Sys2Proof Sys2Proof.Machine

/-- Settles O58. -/
theorem lineIdentification : Obligations.LineIdentification := by
  unfold Obligations.LineIdentification
  refine ⟨?verdict, ?lost, ?settle, ?react, ?restart, ?record⟩
  case verdict =>
    intro j r
    refine ⟨fun h => if_pos (by simpa using h), fun hs hb => ?_⟩
    have hskip : (j.lsi.settling || r.broken) = false := by rw [hs, hb]; rfl
    refine ⟨fun h0 => ?_, fun h0 => ⟨fun hd => ?_, fun hd => ?_⟩⟩
    · unfold Jobs.verdict
      rw [hskip, if_neg Bool.false_ne_true, if_pos h0]
    · unfold Jobs.verdict
      rw [hskip, if_neg Bool.false_ne_true, if_neg (by omega), if_pos hd]
    · obtain ⟨hsys, hunk⟩ := Jobs.verdict_table hs hb h0 hd
      refine ⟨fun e => ?_, fun hno => hunk.mpr (j.matching_none.mpr fun e => ?_), fun hw e hlow =>
        Jobs.touchVerdict_stands hs hb h0 hd hw e hlow⟩
      · rw [hsys, Jobs.matching_some, Bool.and_eq_true, and_assoc]
        simp only [Bool.and_eq_false_imp]
      · cases hu : j.lineUsable e with
        | true => rw [hno e hu]; rfl
        | false => rfl
  case lost =>
    rintro j k rfl
    obtain ⟨h1, h2⟩ := j.lostEntries_spec
    obtain ⟨h3, h4⟩ := j.lostEntries_reports
    refine ⟨h1, by rw [h2], by rw [h2], fun h => ?_, fun h => ?_, fun h => ?_, fun h => ?_⟩
    · rw [h2, j.candidateLost_iff.mpr h]
      exact ⟨rfl, rfl⟩
    · rw [h2, Jobs.candidateLost_not h]
      exact ⟨rfl, rfl⟩
    · have hc := j.confirmedLost_iff.mpr h
      rw [h2, hc, (h3 hc).1, (h3 hc).2]
      exact ⟨rfl, rfl, List.mem_append_right _ (List.mem_singleton_self _), _, _, List.mem_append_right _ (List.mem_singleton_self _)⟩
    · have hc := Jobs.confirmedLost_not h
      rw [h2, hc, (h4 hc).1, (h4 hc).2]
      exact ⟨rfl, rfl, rfl, rfl⟩
  case settle =>
    intro u i _ hr ht hc hs
    obtain ⟨-, -, -, hfin⟩ := State.finish_spec u
    rw [show u.finish.jobs.lsi = u.jobs.settle.lsi from (congrArg Jobs.lsi hfin :)]
    exact Jobs.settle_unsure hr ht hc hs
  case react =>
    rintro c j k i rfl hc hs
    have hconf : j.acted.lsi.confirmed = .unknown := by
      rw [Jobs.acted_confirmed]
      exact Jobs.lostEntries_confirmed hc hs
    have hcs : (j.react c).cs = (j.acted.csReact c).cs := (Bystands.react_rest c j).cs
    have hacs : j.acted.cs = j.cs := (Bystands.acted j).cs
    refine ⟨Jobs.react_unsure c (.inl (Jobs.lostEntries_confirmed hc hs)), fun hi hch => ?_, fun ha hcc ho f rest hl hm => ?_⟩
    · have htest : ∀ due, j.acted.csTest due = j.acted := by
        intro due
        unfold Jobs.csTest
        rw [hacs, hi, hconf]
        exact if_neg (by simp [Line.isSystem, Line.index])
      have hact : j.acted.csReact c = j.acted := by
        rcases hch with rfl | rfl | rfl
        · exact htest false
        · exact htest true
        · show j.acted.csConfirmed = j.acted
          unfold Jobs.csConfirmed
          rw [hconf]
          split <;> exact htest false
      rw [hcs, hact, hacs]
    · subst hcc
      have hhold : j.acted.oc.hold = false := Bool.eq_false_iff.mpr fun h => by
        rw [(Bystands.acted j).held.hold h] at ho
        exact nomatch ho
      have hact : j.acted.csReact .cs = (j.acted.headTaken f rest).enterHold .identify .armed := by
        refine (Jobs.csTest_armed_cons true (by rw [hacs]; exact ha) (by rw [hacs]; exact hl)).trans ?_
        rw [if_pos ⟨rfl, hm, hhold⟩, Jobs.takeHead_eq, hconf]
        rfl
      rw [hcs, hact, Jobs.enterHold_cs]
      refine ⟨rfl, rfl, rfl, rfl, rfl, ?_⟩
      rw [← hconf]
      rfl
  case restart =>
    rintro j k rfl
    obtain ⟨h1, h2⟩ := j.lostEntries_spec
    obtain ⟨h3, h4⟩ := j.lostEntries_reports
    obtain ⟨hfix, hpush, hout⟩ := j.lostEntries.lsiAfresh_spec
    have hlost : j.lostEntries.tag = j.tag ∧ j.lostEntries.lmu = j.lmu := ⟨(congrArg Jobs.tag h1 :), (congrArg Jobs.lmu h1 :)⟩
    refine ⟨Jobs.lsiRestart_reidentifies j, ?_, fun hp => ?_, fun h => ?_, fun h => ?_⟩
    · unfold Jobs.lsiRestart
      rw [hfix]
      generalize j.lostEntries.lsiAfresh = m
      rw [h1]
    · refine hpush fun hpend => ?_
      rw [h2] at hpend
      dsimp only at hpend
      split at hpend
      · exact nomatch hpend
      · exact hp hpend
    · exact hout.trans (h3 (j.confirmedLost_iff.mpr h)).2
    · exact hout.trans (h4 (Jobs.confirmedLost_not h)).2
  case record =>
    rintro j m k r l hw rfl rfl rfl
    have htouch : Still j (j.touchVerdict r) := by
      rw [Jobs.touchVerdict_eq]
      exact .touchAll _ j
    have hlost : (j.touchVerdict r).lostEntries.tag = j.tag :=
      (congrArg Jobs.tag (j.touchVerdict r).lostEntries_spec.1 :).trans htouch.tag
    have hlsi : (j.judged r).lsi = { (j.touchVerdict r).lostEntries.lsi with last := some (j.verdict r), settling := false } :=
      rfl
    have htag : (j.judged r).tag = j.tag := hlost
    have hwords := Jobs.judged_words r hw
    rw [Jobs.lsiRecord_eq]
    generalize j.judged r = a at *
    generalize (j.touchVerdict r).lostEntries = m at *
    generalize j.verdict r = v at *
    by_cases hv : v = .none
    · have he : a.debounce v = a := if_pos hv
      rw [he, hlsi]
      exact ⟨rfl, rfl, fun _ => ⟨rfl, rfl, rfl, rfl⟩, fun h => absurd hv h⟩
    · rw [Jobs.debounce_eq v hv]
      have hd : (a.lsi.debounced v).agreement = if m.lsi.candidate = some v then min 15 (m.lsi.agreement + 1) else 1 := by
        rw [hlsi]
        rfl
      have hneed : (a.setLsi (a.lsi.debounced v)).needed v = j.needed v :=
        (hwords.trans (.of_tm (j := a) (k := a.setLsi (a.lsi.debounced v)) rfl)).needed v
      have hafter : (a.setLsi (a.lsi.debounced v)).lsi = a.lsi.debounced v := rfl
      have hnow : (a.setLsi (a.lsi.debounced v)).tag = j.tag := htag
      have hsame : (a.lsi.debounced v).last = some v ∧ (a.lsi.debounced v).settling = false ∧
          (a.lsi.debounced v).confirmed = m.lsi.confirmed ∧ (a.lsi.debounced v).since = m.lsi.since := by
        rw [hlsi]
        exact ⟨rfl, rfl, rfl, rfl⟩
      obtain ⟨hlast, hsett, hconf, hsince⟩ := hsame
      cases hn : j.needed v with
      | none =>
        rw [Jobs.confirmCheck_none (hneed.trans hn), hafter]
        exact ⟨hlast, hsett, fun h => absurd h hv, fun _ => ⟨rfl, hd, fun n h => (nomatch h)⟩⟩
      | some n =>
        obtain ⟨h1, h2, h3, h4, h5, h6⟩ := Jobs.confirmCheck_spec (hneed.trans hn) rfl
        rw [hafter] at h1 h2 h3 h4 h5 h6
        rw [hconf] at h5 h6
        refine ⟨h3.trans hlast, h4.trans hsett, fun h => absurd h hv, fun _ => ⟨h1, h2.trans hd, fun n' hn' => ?_⟩⟩
        obtain rfl := Option.some.inj hn'
        rw [h2]
        refine ⟨fun ha hc => ?_, fun h => ?_⟩
        · obtain ⟨hc1, hc2, hc3, hc4⟩ := h5 ha hc
          exact ⟨hc1, hc2.trans hnow, hc3, hc4⟩
        · obtain ⟨hc1, hc2⟩ := h6 h
          exact ⟨hc1, hc2.trans hsince⟩

end

section
/-! PROOFS. The Line Measurement Unit (chapter 1, O56): what a sample, a frame of samples, a gap and starvation make of its
record, as functions of that record. -/

namespace Sys2Proof.Machine

open Sys2Proof

variable {j k : Jobs} {l : Lmu} {r : Record} {h : Int} {w first : Word} {ws : List Word}

/-! ### One sample (R9 to R13) -/

theorem Lmu.take_eq (h : Int) (w : Word) (l : Lmu) : l.take h w = { l with
    window := (l.take h w).window,
    detector := (detect l.ref h (accumulated w) l.detector).1,
    distance := if (detect l.ref h (accumulated w) l.detector).2 then some 0
      else l.distance.map (fun d => min Config.distanceTop (d + 1)) } := rfl

/-- R9: the window with a sample taken into it. -/
def Lmu.nextWindow (h : Int) (w : Word) (l : Lmu) : Window := (l.take h w).window.getD {}

theorem Lmu.take_next (h : Int) (w : Word) (l : Lmu) : (l.take h w).window = some (l.nextWindow h w) := rfl

/-- R11: the period that a sample ends: the distance of its crossing from the one before, within 3..1,024. -/
def Lmu.period (h : Int) (w : Word) (l : Lmu) : Option Nat :=
  if (detect l.ref h (accumulated w) l.detector).2 then
    (l.distance.map (fun d => min Config.distanceTop (d + 1))).filter (fun d => decide (3 ≤ d ∧ d ≤ 1024))
  else none

theorem Lmu.nextWindow_eq (h : Int) (w : Word) (l : Lmu) : l.nextWindow h w =
    { sum := (l.window.getD {}).sum + accumulated w,
      sumSq := (l.window.getD {}).sumSq + (accumulated w).natAbs * (accumulated w).natAbs,
      taken := (l.window.getD {}).taken + 1,
      saturated := (l.window.getD {}).saturated + (if overRange w then 1 else 0),
      periods := (l.window.getD {}).periods + (if (l.period h w).isSome then 1 else 0),
      lengths := (l.window.getD {}).lengths + (l.period h w).getD 0 } := by
  unfold Lmu.nextWindow Lmu.take Lmu.period
  dsimp only
  cases hc : (detect l.ref h (accumulated w) l.detector).2 with
  | false => rfl
  | true =>
    cases hd : l.distance.map (fun d => min Config.distanceTop (d + 1)) with
    | none => rfl
    | some d => by_cases hr : 3 ≤ d ∧ d ≤ 1024 <;> simp [hr, Option.filter]

theorem Lmu.period_iff (h : Int) (w : Word) (l : Lmu) (d : Nat) : l.period h w = some d ↔
    (detect l.ref h (accumulated w) l.detector).2 = true ∧
    l.distance.map (fun d => min Config.distanceTop (d + 1)) = some d ∧ 3 ≤ d ∧ d ≤ 1024 := by
  unfold Lmu.period
  cases (detect l.ref h (accumulated w) l.detector).2 with
  | false => simp
  | true => simp only [if_true, Option.filter_eq_some_iff, decide_eq_true_iff, true_and]

/-- R13, R15: the record once a result has been handed over. -/
def Lmu.handed (r : Record) (l : Lmu) : Lmu :=
  { l with window := none, number := l.number + 1, last := some r, ref := if r.broken then l.ref else r.mean }

/-- R9, R13: the record after a sample, which closes the window at the 1,024th. -/
def Lmu.sample (h : Int) (w : Word) (l : Lmu) : Lmu :=
  if 1024 ≤ (l.nextWindow h w).taken then (l.take h w).handed ((l.nextWindow h w).complete l.number) else l.take h w

theorem Jobs.takeSample_open (hn : ¬ 1024 ≤ (j.lmu.nextWindow h w).taken) :
    j.takeSample h w = j.setLmu (j.lmu.take h w) := by
  unfold Jobs.takeSample
  simp only [Jobs.setLmu_lmu, Lmu.take_next]
  exact if_neg hn

theorem Jobs.takeSample_closes (hn : 1024 ≤ (j.lmu.nextWindow h w).taken) : j.takeSample h w =
    (j.setLmu (j.lmu.take h w)).handRecord ((j.lmu.nextWindow h w).complete j.lmu.number) :=
  Jobs.takeSample_closing (j.lmu.take_next h w) hn

theorem Jobs.takeSample_lmu (h : Int) (w : Word) (j : Jobs) : (j.takeSample h w).lmu = j.lmu.sample h w := by
  unfold Lmu.sample
  split
  · rename_i hn
    rw [Jobs.takeSample_closes hn, Jobs.handRecord_lmu]
    rfl
  · rename_i hn
    rw [Jobs.takeSample_open hn, Jobs.setLmu_lmu]

/-! ### The crossing detector (R10) -/

theorem detect_low {ref h v : Int} (hv : v ≤ ref - h) (d : Detector) : (detect ref h v d).1 = .armed := by
  cases d <;> simp [detect, hv]

theorem detect_high {ref h v : Int} (h1 : ref - h < v) (h2 : ref + h ≤ v) (d : Detector) :
    (detect ref h v d).1 = if d = .armed then .rising else .disarmed := by
  cases d <;> simp [detect, Int.not_le.mpr h1, h2]

theorem detect_between {ref h v : Int} (h1 : ref - h < v) (h2 : v < ref + h) (d : Detector) :
    (detect ref h v d).1 = if d = .disarmed then .disarmed else .armed := by
  cases d <;> simp [detect, Int.not_le.mpr h1, Int.not_le.mpr h2]

theorem detect_crossing (ref h v : Int) (d : Detector) :
    (detect ref h v d).2 = (d == .rising && decide (ref - h < v) && decide (ref + h ≤ v)) := by
  by_cases h1 : v ≤ ref - h
  · cases d <;> simp [detect, h1]
  · by_cases h2 : ref + h ≤ v <;> cases d <;> simp [detect, h1, h2, Int.lt_of_not_ge h1]

/-! ### The samples of a frame (R4, R9) -/

/-- The record with another state and another expected index. -/
def Lmu.expecting (s : LmuState) (e : Option Word) (l : Lmu) : Lmu := { l with state := s, expected := e }

theorem Lmu.sample_expecting (s : LmuState) (e : Option Word) (h : Int) (w : Word) (l : Lmu) :
    (l.expecting s e).sample h w = (l.sample h w).expecting s e := by
  have ht : (l.expecting s e).take h w = (l.take h w).expecting s e := rfl
  have hn : (l.expecting s e).nextWindow h w = l.nextWindow h w := rfl
  unfold Lmu.sample
  rw [hn, ht]
  split <;> rfl

/-- R9: the record after samples taken one after another. -/
def Lmu.folded (h : Int) (ws : List Word) (l : Lmu) : Lmu := ws.foldl (fun l w => l.sample h w) l

theorem Lmu.folded_expecting (s : LmuState) (e : Option Word) (h : Int) (ws : List Word) (l : Lmu) :
    (l.expecting s e).folded h ws = (l.folded h ws).expecting s e := by
  induction ws generalizing l with
  | nil => rfl
  | cons w ws ih =>
    show ((l.expecting s e).sample h w).folded h ws = ((l.sample h w).folded h ws).expecting s e
    rw [Lmu.sample_expecting, ih]

/-- R4, R9: the record after a frame's samples, taken from the index `first` on. -/
def Lmu.samples (h : Int) (first : Word) (ws : List Word) (l : Lmu) : Lmu :=
  (l.folded h ws).expecting .measuring (some (first + toWord ws.length))

theorem Lmu.samples_expecting (s : LmuState) (e : Option Word) (h : Int) (first : Word) (ws : List Word) (l : Lmu) :
    (l.expecting s e).samples h first ws = l.samples h first ws := by
  unfold Lmu.samples
  rw [Lmu.folded_expecting]
  rfl

theorem Lmu.samples_append (h : Int) (first : Word) (a b : List Word) (l : Lmu) :
    (l.samples h first a).samples h (first + toWord a.length) b = l.samples h first (a ++ b) := by
  have hi : first + toWord a.length + toWord b.length = first + toWord (a ++ b).length := by
    unfold toWord
    rw [List.length_append, BitVec.ofNat_add, BitVec.add_assoc]
  have hf : (l.folded h a).folded h b = l.folded h (a ++ b) := (List.foldl_append ..).symm
  rw [show l.samples h first a = (l.folded h a).expecting .measuring (some (first + toWord a.length)) from rfl,
    Lmu.samples_expecting]
  unfold Lmu.samples
  rw [hf, hi]

theorem Jobs.folded_lmu (h : Int) (ws : List Word) (j : Jobs) :
    (ws.foldl (fun j w => j.takeSample h w) j).lmu = j.lmu.folded h ws := by
  induction ws generalizing j with
  | nil => rfl
  | cons w ws ih =>
    show (ws.foldl (fun j w => j.takeSample h w) (j.takeSample h w)).lmu = (j.lmu.sample h w).folded h ws
    rw [ih, Jobs.takeSample_lmu]

theorem Jobs.takeSamples_lmu (first : Word) (ws : List Word) (j : Jobs) :
    (j.takeSamples first ws).lmu = j.lmu.samples j.hysteresis first ws := by
  have hl : ((j.touch 0x140).load .t15 Config.starvationTime .oneShot).lmu = j.lmu := Jobs.touch_lmu 0x140 j
  have hf := Jobs.folded_lmu j.hysteresis ws ((j.touch 0x140).load .t15 Config.starvationTime .oneShot)
  rw [hl] at hf
  unfold Jobs.takeSamples Lmu.samples
  dsimp only
  rw [Jobs.setLmu_lmu, hf]
  rfl

/-- R8, R9: samples that do not fill the window join its accumulators. -/
theorem Lmu.folded_open (hn : (l.window.getD {}).taken + ws.length < 1024) :
    (ws ≠ [] → (l.folded h ws).window = some ((l.folded h ws).window.getD {})) ∧
    ((l.folded h ws).window.getD {}).taken = (l.window.getD {}).taken + ws.length ∧
    ((l.folded h ws).window.getD {}).sum = (l.window.getD {}).sum + (ws.map accumulated).sum ∧
    ((l.folded h ws).window.getD {}).sumSq =
      (l.window.getD {}).sumSq + (ws.map (fun w => (accumulated w).natAbs ^ 2)).sum ∧
    ((l.folded h ws).window.getD {}).saturated = (l.window.getD {}).saturated + (ws.filter overRange).length ∧
    (l.folded h ws).number = l.number ∧ (l.folded h ws).last = l.last := by
  induction ws generalizing l with
  | nil => exact ⟨fun h => absurd rfl h, rfl, (Int.add_zero _).symm, rfl, rfl, rfl, rfl⟩
  | cons w ws ih =>
    have hnext := l.nextWindow_eq h w
    have htaken : (l.nextWindow h w).taken = (l.window.getD {}).taken + 1 := by rw [hnext]
    have hs : l.sample h w = l.take h w := if_neg (by rw [htaken, List.length_cons] at *; omega)
    have hw : (l.take h w).window.getD {} = l.nextWindow h w := rfl
    obtain ⟨h1, h2, h3, h4, h5, h6, h7⟩ := ih (l := l.take h w) (by rw [hw, htaken]; rw [List.length_cons] at hn; omega)
    rw [hw, hnext] at h2 h3 h4 h5
    rw [show l.folded h (w :: ws) = (l.take h w).folded h ws from congrArg (Lmu.folded h ws) hs]
    refine ⟨fun _ => ?_, ?_, ?_, ?_, ?_, h6, h7⟩
    · cases ws with
      | nil => rfl
      | cons a ws => exact h1 (by simp)
    · rw [h2, List.length_cons]
      dsimp only
      omega
    · rw [h3, List.map_cons, List.sum_cons]
      dsimp only
      omega
    · rw [h4, List.map_cons, List.sum_cons, Nat.pow_two]
      dsimp only
      omega
    · rw [h5]
      cases ho : overRange w with
      | true =>
        rw [List.filter_cons_of_pos ho, List.length_cons]
        show _ + 1 + _ = _ + (_ + 1)
        omega
      | false => rw [List.filter_cons_of_neg (by simp [ho])]
                 rfl

/-! ### What a record handed over leaves alone -/

theorem Jobs.lostEntries_tmr (j : Jobs) : j.lostEntries.tmr = j.tmr := (congrArg Jobs.tmr j.lostEntries_spec.1 :)

theorem Jobs.touchVerdict_still (r : Record) (j : Jobs) : Still j (j.touchVerdict r) := by
  rw [Jobs.touchVerdict_eq]
  exact .touchAll _ j

theorem Jobs.debounce_kept (v : Line) (j : Jobs) :
    (j.debounce v).tmr = j.tmr ∧ (j.debounce v).lsi.last = j.lsi.last ∧ (j.debounce v).lsi.settling = j.lsi.settling := by
  by_cases hv : v = .none
  · rw [show j.debounce v = j from if_pos hv]
    exact ⟨rfl, rfl, rfl⟩
  · rw [Jobs.debounce_eq v hv]
    have hset : (j.setLsi (j.lsi.debounced v)).tmr = j.tmr ∧ (j.setLsi (j.lsi.debounced v)).lsi.last = j.lsi.last ∧
        (j.setLsi (j.lsi.debounced v)).lsi.settling = j.lsi.settling := ⟨rfl, rfl, rfl⟩
    generalize j.setLsi (j.lsi.debounced v) = a at *
    have hs := Still.touchNeeded v a
    rw [← hset.1, ← hset.2.1, ← hset.2.2, ← hs.tmr, ← hs.lsi]
    unfold Jobs.confirmCheck
    rw [← hs.lsi]
    dsimp only
    generalize a.touchNeeded v = m
    cases a.needed v with
    | none => exact ⟨rfl, rfl, rfl⟩
    | some n =>
      dsimp only
      split <;> exact ⟨rfl, rfl, rfl⟩

theorem Jobs.lsiRecord_tmr (r : Record) (j : Jobs) : (j.lsiRecord r).tmr = j.tmr := by
  rw [Jobs.lsiRecord_eq, (Jobs.debounce_kept _ _).1]
  show (j.touchVerdict r).lostEntries.tmr = j.tmr
  rw [Jobs.lostEntries_tmr, (Jobs.touchVerdict_still r j).tmr]

theorem Jobs.lsiRecord_last (r : Record) (j : Jobs) : (j.lsiRecord r).lsi.last = some (j.verdict r) := by
  rw [Jobs.lsiRecord_eq, (Jobs.debounce_kept _ _).2.1]
  rfl

theorem Jobs.handRecord_tmr (r : Record) (j : Jobs) : (j.handRecord r).tmr = j.tmr := Jobs.lsiRecord_tmr r _

theorem Jobs.takeSample_tmr (h : Int) (w : Word) (j : Jobs) : (j.takeSample h w).tmr = j.tmr := by
  by_cases hn : 1024 ≤ (j.lmu.nextWindow h w).taken
  · rw [Jobs.takeSample_closes hn, Jobs.handRecord_tmr, Jobs.setLmu_tmr]
  · rw [Jobs.takeSample_open hn, Jobs.setLmu_tmr]

theorem Jobs.folded_tmr (h : Int) (ws : List Word) (j : Jobs) :
    (ws.foldl (fun j w => j.takeSample h w) j).tmr = j.tmr := by
  induction ws generalizing j with
  | nil => rfl
  | cons w ws ih =>
    rw [List.foldl_cons, ih, Jobs.takeSample_tmr]

/-- R7: a frame that is taken restarts the starvation timer. -/
theorem Jobs.takeSamples_timer (first : Word) (ws : List Word) (j : Jobs) :
    ((j.takeSamples first ws).timer .t15).loaded 200 .oneShot := by
  have hf := Jobs.folded_tmr j.hysteresis ws ((j.touch 0x140).load .t15 Config.starvationTime .oneShot)
  have ht : (j.takeSamples first ws).timer .t15 = ((j.touch 0x140).load .t15 Config.starvationTime .oneShot).timer .t15 := by
    refine Jobs.timer_of_tmr ?_ _
    unfold Jobs.takeSamples
    dsimp only
    rw [Jobs.setLmu_tmr, hf]
  rw [ht, Jobs.timer_load, if_pos rfl]
  exact Timer.loaded_load (by decide) _ _

/-! ### Which frames are taken (R5, R6) -/

/-- The unit takes a frame of first index `first` as the next one. -/
def Lmu.takesNext (first : Word) (l : Lmu) : Prop :=
  l.state = .waiting ∨ l.state = .starved ∨ (l.state = .measuring ∧ l.expected = some first)

theorem Jobs.sampleFrame_next (hn : j.lmu.takesNext first) (ws : List Word) : j.sampleFrame first ws = j.takeSamples first ws := by
  unfold Jobs.sampleFrame
  rcases hn with hs | hs | ⟨hs, he⟩
  · rw [hs]
  · rw [hs]
  · rw [hs, he]
    exact if_pos (by simp)

theorem Jobs.sampleFrame_idle (hs : j.lmu.state = .idle) (first : Word) (ws : List Word) : j.sampleFrame first ws = j := by
  unfold Jobs.sampleFrame
  rw [hs]

theorem Jobs.sampleFrame_repeat {e : Word} (hs : j.lmu.state = .measuring) (he : j.lmu.expected = some e)
    (hd : 32768 ≤ (first - e).toNat) (ws : List Word) : j.sampleFrame first ws = j := by
  unfold Jobs.sampleFrame
  rw [hs, he]
  dsimp only [Option.getD_some]
  rw [if_neg (by omega), if_neg (by omega)]

theorem Jobs.sampleFrame_gap {e : Word} (hs : j.lmu.state = .measuring) (he : j.lmu.expected = some e) (hne : first ≠ e)
    (hd : (first - e).toNat ≤ 32767) (ws : List Word) :
    j.sampleFrame first ws = ((j.flag .sampleGap 0).breakWindow.clearCrossing).takeSamples first ws := by
  have h0 : (first - e).toNat ≠ 0 := fun h0 => hne (by bv_omega)
  unfold Jobs.sampleFrame
  rw [hs, he]
  dsimp only [Option.getD_some]
  rw [if_neg h0, if_pos hd]

/-- R5, R7: the record with its window closed as BROKEN and the crossing state cleared. -/
def Lmu.broken (l : Lmu) : Lmu := { l with
  window := none, number := l.number + (if l.window.isSome then 1 else 0), detector := .disarmed, distance := none,
  last := (l.window.map fun win => win.brokenOff l.number).or l.last }

/-- R2 to R6: what a frame makes of the unit goes by the unit's record and by the hysteresis. -/
def Lmu.frame (h : Int) (first : Word) (ws : List Word) (l : Lmu) : Lmu :=
  if l.state = .idle then l
  else if l.state ≠ .measuring ∨ (first - l.expected.getD first).toNat = 0 then l.samples h first ws
  else if (first - l.expected.getD first).toNat ≤ 32767 then
    l.broken.samples h first ws
  else l

theorem Jobs.breakWindow_lmu (j : Jobs) : j.breakWindow.clearCrossing.lmu = j.lmu.broken := by
  unfold Jobs.breakWindow Jobs.clearCrossing Lmu.broken
  cases hw : j.lmu.window with
  | none =>
    simp only [Jobs.setLmu_lmu, hw]
    simp
  | some win =>
    simp only [Jobs.setLmu_lmu, Jobs.handRecord_lmu]
    simp [Window.brokenOff]

theorem Held.gap (j : Jobs) : Held (j.flag .sampleGap 0) (j.flag .sampleGap 0).breakWindow.clearCrossing :=
  (Held.breakWindow _).trans (.clearCrossing _)

theorem Jobs.gap_hysteresis (hw : j.tableWf) :
    (j.flag .sampleGap 0).breakWindow.clearCrossing.hysteresis = j.hysteresis :=
  (((Held.flag .sampleGap 0 j).trans (.gap j)).sameWords hw).hysteresis

theorem Jobs.sampleFrame_lmu (hw : j.tableWf) (first : Word) (ws : List Word) :
    (j.sampleFrame first ws).lmu = j.lmu.frame j.hysteresis first ws := by
  unfold Lmu.frame
  cases hs : j.lmu.state with
  | idle => rw [Jobs.sampleFrame_idle hs, if_pos rfl]
  | waiting => rw [Jobs.sampleFrame_next (.inl hs), Jobs.takeSamples_lmu, if_neg (by decide), if_pos (.inl (by decide))]
  | starved => rw [Jobs.sampleFrame_next (.inr (.inl hs)), Jobs.takeSamples_lmu, if_neg (by decide), if_pos (.inl (by decide))]
  | measuring =>
    rw [if_neg (by decide)]
    unfold Jobs.sampleFrame
    rw [hs]
    dsimp only
    by_cases h0 : (first - j.lmu.expected.getD first).toNat = 0
    · rw [if_pos h0, if_pos (.inr h0), Jobs.takeSamples_lmu]
    · have hn : ¬ (LmuState.measuring ≠ .measuring ∨ (first - j.lmu.expected.getD first).toNat = 0) := by
        rintro (h | h)
        · exact h rfl
        · exact h0 h
      rw [if_neg h0, if_neg hn]
      split
      · rw [Jobs.takeSamples_lmu, Jobs.gap_hysteresis hw, Jobs.breakWindow_lmu, (Reacts.flag .sampleGap 0 j).lmu]
      · rfl

theorem Jobs.sampleFrame_lmu_congr (hj : j.tableWf) (hw : SameWords j k) (hk : k.tableWf) (hl : k.lmu = j.lmu) :
    (k.sampleFrame first ws).lmu = (j.sampleFrame first ws).lmu := by
  rw [Jobs.sampleFrame_lmu hk, Jobs.sampleFrame_lmu hj, hw.hysteresis, hl]

/-! ### Records and the line system (R21) -/

theorem SameWords.lineMatches (h : SameWords j k) (r : Record) (e : Fin 8) : k.lineMatches r e = j.lineMatches r e := by
  unfold Jobs.lineMatches
  simp only [h.lineIsDc, h.lineVmin, h.lineVmax, h.lineFmin, h.lineFmax, h.lineRipple, h.param]

theorem SameWords.verdict (h : SameWords j k) (hs : k.lsi.settling = j.lsi.settling) (r : Record) :
    k.verdict r = j.verdict r := by
  unfold Jobs.verdict Jobs.matching
  simp only [hs, h.param, h.lineUsable, h.lineMatches]

/-- R13, R21: the sample that fills the window has its record judged. -/
theorem Jobs.sampleFrame_judged (hw : j.tableWf) (hn : j.lmu.takesNext first)
    (hc : 1024 ≤ (j.lmu.nextWindow j.hysteresis w).taken) : (j.sampleFrame first [w]).lsi.last =
      some (j.verdict ((j.lmu.nextWindow j.hysteresis w).complete j.lmu.number)) := by
  have hs := Still.touch 0x140 j
  have hl : ((j.touch 0x140).load .t15 Config.starvationTime .oneShot).lmu = j.lmu := hs.lmu
  have hsame : SameWords j ((j.touch 0x140).load .t15 Config.starvationTime .oneShot) := (hs.sameWords hw).trans (.of_tm rfl)
  have hset : ((j.touch 0x140).load .t15 Config.starvationTime .oneShot).lsi = j.lsi := hs.lsi
  rw [Jobs.sampleFrame_next hn]
  unfold Jobs.takeSamples
  dsimp only
  rw [List.foldl_cons, List.foldl_nil]
  generalize (j.touch 0x140).load .t15 Config.starvationTime .oneShot = m at *
  rw [Jobs.setLmu_lsi, Jobs.takeSample_closes (by rw [hl]; exact hc), hl]
  unfold Jobs.handRecord
  rw [Jobs.lsiRecord_last]
  refine congrArg some (SameWords.verdict (hsame.trans (.of_tm rfl)) ?_ _)
  exact congrArg Lsi.settling hset

/-! ### Starvation (R7, R27) -/

theorem Jobs.lsiRecord_broken (hb : r.broken = true) (j : Jobs) :
    j.lsiRecord r = j.lostEntries.setLsi { j.lostEntries.lsi with last := some .none, settling := false } := by
  have hv : j.verdict r = .none := if_pos (by rw [hb, Bool.or_true])
  have ht : j.touchVerdict r = j := if_pos (by rw [hb]; simp)
  unfold Jobs.lsiRecord
  rw [hv, ht]
  exact if_pos rfl

/-- R28: the confirmed system stands, or its loss has been reported. -/
def ConfirmedOrLost (j k : Jobs) : Prop := k.lsi.confirmed = j.lsi.confirmed ∨
  (k.lsi.confirmed = .unknown ∧ k.lsi.since = j.tag ∧ Flagged .systemConfirmed (BitVec.ofNat 16 Line.unknown.code) k.out)

theorem Jobs.breakWindow_confirmed (j : Jobs) : ConfirmedOrLost j j.breakWindow := by
  unfold Jobs.breakWindow
  cases hw : j.lmu.window with
  | none => exact .inl rfl
  | some win =>
    dsimp only
    unfold Jobs.handRecord
    rw [Jobs.lsiRecord_broken (show (win.brokenOff j.lmu.number).broken = true from rfl)]
    have hset : ∀ v : Lmu, (j.setLmu v).lsi = j.lsi ∧ (j.setLmu v).tag = j.tag := fun _ => ⟨rfl, rfl⟩
    generalize { j.lmu with window := none, number := j.lmu.number + 1, last := some (win.brokenOff j.lmu.number),
                            ref := if (win.brokenOff j.lmu.number).broken then j.lmu.ref
                              else (win.brokenOff j.lmu.number).mean } = v
    obtain ⟨hlsi, htag⟩ := hset v
    unfold ConfirmedOrLost
    rw [← hlsi, ← htag]
    generalize j.setLmu v = m
    obtain ⟨-, hl⟩ := m.lostEntries_spec
    show m.lostEntries.lsi.confirmed = _ ∨ m.lostEntries.lsi.confirmed = _ ∧ m.lostEntries.lsi.since = _ ∧
      Flagged _ _ m.lostEntries.out
    rw [hl]
    cases hc : m.confirmedLost with
    | false => exact .inl rfl
    | true =>
      refine .inr ⟨rfl, rfl, ?_⟩
      rw [(m.lostEntries_reports.1 hc).2]
      exact ⟨_, _, List.mem_append_right _ (List.mem_singleton_self _)⟩

theorem Jobs.lsiStarve_spec (hk : k = j.lsiStarve) :
    k.lmu = j.lmu ∧ k.lsi.confirmed = .unknown ∧ k.lsi.candidate = none ∧ k.lsi.agreement = 0 ∧ k.lsi.settling = false ∧
    j.out <+: k.out ∧
    (j.lsi.confirmed = .unknown → k.lsi.since = j.lsi.since) ∧
    (j.lsi.confirmed ≠ .unknown → k.lsi.since = j.tag ∧
      Flagged .systemConfirmed (BitVec.ofNat 16 Line.unknown.code) k.out) := by
  subst hk
  unfold Jobs.lsiStarve
  dsimp only
  split
  · rename_i hc
    exact ⟨rfl, hc, rfl, rfl, rfl, List.prefix_rfl, fun _ => rfl, fun h => absurd hc h⟩
  · rename_i hc
    exact ⟨rfl, rfl, rfl, rfl, rfl, List.prefix_append _ _, fun h => absurd h hc, fun _ => ⟨rfl, Flagged.flag _ _ _⟩⟩

end Sys2Proof.Machine

end

section
/-! PROOFS. The samples of a MEASURE frame (chapters 1, 4, 5, 9; O56, O59): one pantograph sample, the uses that take a
frame, and what the whole step of such a frame makes of them. -/

namespace Sys2Proof.Machine

open Sys2Proof

variable {s t u : State} {j k l : Jobs} {x y : Panto}

/-! ### The comparisons of a sample (R60) -/

def Jobs.sampleUp (x : Panto) (j : Jobs) : Bool :=
  optTest (j.panto x).height (fun v => decide ((j.pantoParam x 2).toNat ≤ v))

def Jobs.sampleDown (x : Panto) (j : Jobs) : Bool :=
  optTest (j.panto x).height (fun v => decide (v < (j.pantoParam x 2).toNat))

def Jobs.sampleLow (x : Panto) (j : Jobs) : Bool :=
  optTest (j.panto x).height (fun v => decide (v ≤ (j.pantoParam x 1).toNat))

def Jobs.sampleHard (x : Panto) (j : Jobs) : Bool :=
  optTest (j.panto x).press (fun v => decide ((j.pantoParam x 3).toNat ≤ v))

def Jobs.sampleWeak (x : Panto) (j : Jobs) : Bool :=
  optTest (j.panto x).press (fun v => decide (v < (j.pantoParam x 4).toNat))

/-- R60: contact pressure has been reached, by this sample or an earlier one. -/
def Jobs.sampleReached (x : Panto) (j : Jobs) : Bool := (j.panto x).reached || j.sampleHard x

theorem Jobs.sampleDown_of_up (h : j.sampleUp x = true) : j.sampleDown x = false := by
  unfold Jobs.sampleUp optTest at h
  unfold Jobs.sampleDown optTest
  cases hv : (j.panto x).height with
  | none => rfl
  | some v =>
    rw [hv] at h
    have := of_decide_eq_true h
    exact decide_eq_false (by omega)

/-- The roof jobs once a sample in RAISING or IN_CONTACT has made its reads, with the record `p`. -/
def Jobs.sampled (x : Panto) (p : PantoRec) (j : Jobs) : Jobs :=
  (j.touchAll [pantoAddr x 3, pantoAddr x 4, pantoAddr x 2]).setPanto x p

theorem Jobs.sampled_panto (x : Panto) (p : PantoRec) (j : Jobs) : (j.sampled x p).panto x = p := Jobs.panto_setPanto x p _

theorem Jobs.setPanto_setPanto (x : Panto) (p q : PantoRec) (j : Jobs) : (j.setPanto x p).setPanto x q = j.setPanto x q := by
  cases x <;> rfl

theorem Jobs.sampled_setPanto (x : Panto) (p q : PantoRec) (j : Jobs) : (j.sampled x p).setPanto x q = j.sampled x q :=
  Jobs.setPanto_setPanto x p q _

theorem Jobs.evaluate_raising (hs : (j.panto x).state = .raising) : j.evaluate x =
    if (j.sampleReached x && j.sampleWeak x) = true then
      (j.sampled x { j.panto x with reached := j.sampleReached x }).drop x
    else if (j.sampleUp x && j.sampleHard x) = true then
      if 3 ≤ (j.panto x).contact + 1 then
        (j.sampled x { j.panto x with reached := j.sampleReached x, contact := (j.panto x).contact + 1 }).contactMade x
      else j.sampled x { j.panto x with reached := j.sampleReached x, contact := (j.panto x).contact + 1 }
    else j.sampled x { j.panto x with reached := j.sampleReached x, contact := 0 } := by
  unfold Jobs.evaluate
  dsimp only
  rw [hs]
  dsimp only
  rw [Jobs.setPanto_setPanto, Jobs.setPanto_setPanto]
  rfl

theorem Jobs.evaluate_inContact (hs : (j.panto x).state = .inContact) : j.evaluate x =
    if (j.sampleReached x && j.sampleWeak x) = true then
      (j.sampled x { j.panto x with reached := j.sampleReached x }).drop x
    else if j.sampleDown x = true then
      if 3 ≤ (j.panto x).loss + 1 then
        (j.sampled x { j.panto x with reached := j.sampleReached x, loss := (j.panto x).loss + 1 }).contactGone x
      else j.sampled x { j.panto x with reached := j.sampleReached x, loss := (j.panto x).loss + 1 }
    else if j.sampleUp x = true then j.sampled x { j.panto x with reached := j.sampleReached x, loss := 0 }
    else j.sampled x { j.panto x with reached := j.sampleReached x } := by
  unfold Jobs.evaluate
  dsimp only
  rw [hs]
  dsimp only
  rw [Jobs.setPanto_setPanto, Jobs.setPanto_setPanto]
  rfl

theorem Jobs.evaluate_lowering (hs : (j.panto x).state = .lowering) : j.evaluate x =
    if j.sampleLow x = true then
      if 3 ≤ (j.panto x).low + 1 then
        ((j.touch (pantoAddr x 1)).setPanto x { j.panto x with low := (j.panto x).low + 1 }).loweredReached x
      else (j.touch (pantoAddr x 1)).setPanto x { j.panto x with low := (j.panto x).low + 1 }
    else (j.touch (pantoAddr x 1)).setPanto x { j.panto x with low := 0 } := by
  unfold Jobs.evaluate
  dsimp only
  rw [hs]
  rfl

theorem Jobs.evaluate_other (h1 : (j.panto x).state ≠ .raising) (h2 : (j.panto x).state ≠ .inContact)
    (h3 : (j.panto x).state ≠ .lowering) : j.evaluate x = j := by
  unfold Jobs.evaluate
  dsimp only
  cases hs : (j.panto x).state with
  | raising => exact absurd hs h1
  | inContact => exact absurd hs h2
  | lowering => exact absurd hs h3
  | _ => rfl

/-! ### What a sample ends or begins (R64, R66, R67, R69) -/

theorem Jobs.stop_panto (i : TimerId) (j : Jobs) (x : Panto) : (j.stop i).panto x = j.panto x := rfl
theorem Jobs.load_panto (i : TimerId) (n : Nat) (m : TimerMode) (j : Jobs) (x : Panto) : (j.load i n m).panto x = j.panto x := rfl
theorem Jobs.flag_panto (f : Flag) (n : Nat) (j : Jobs) (x : Panto) : (j.flag f n).panto x = j.panto x := rfl
theorem Jobs.setArcIn_panto (y : Panto) (v : ArcInput) (j : Jobs) (x : Panto) : (j.setArcIn y v).panto x = j.panto x := by
  cases y <;> rfl

theorem Jobs.moveP_panto_same (x : Panto) (r : PantoRec) (j : Jobs) : (j.moveP x r).panto x = r := by
  rw [Jobs.moveP_panto, if_pos rfl]

theorem Jobs.contactMade_panto (x : Panto) (j : Jobs) : (j.contactMade x).panto x =
    { j.panto x with state := .inContact, loss := 0, excess := 0, burst := false } := by
  unfold Jobs.contactMade
  dsimp only
  rw [Jobs.flag_panto, Jobs.load_panto, Jobs.setArcIn_panto, Jobs.moveP_panto_same, Jobs.stop_panto, Jobs.panto_touchAll]

theorem Jobs.contactGone_panto (x : Panto) (j : Jobs) :
    (j.contactGone x).panto x = { j.panto x with state := .raising, contact := 0 } := by
  unfold Jobs.contactGone
  dsimp only
  rw [Jobs.flag_panto, Jobs.load_panto, Jobs.moveP_panto_same, Jobs.stop_panto, Jobs.panto_touch]

theorem Jobs.drop_panto (x : Panto) (j : Jobs) :
    (j.drop x).panto x = { j.panto x with state := .dropped, cause := some .drop } := by
  unfold Jobs.drop
  dsimp only
  rw [Jobs.releaseHold_panto, Jobs.flag_panto, Jobs.moveP_panto_same, Jobs.stop_panto, Jobs.stop_panto]

theorem Jobs.loweredReached_panto (x : Panto) (j : Jobs) : (j.loweredReached x).panto x =
    { j.panto x with state := .lowered, role := .none, connected := false } := by
  unfold Jobs.loweredReached
  rw [Jobs.moveP_panto_same, Jobs.stop_panto]

/-- R67, R111: a drop ends output hold and sets its flag. -/
theorem Jobs.drop_spec (x : Panto) (j : Jobs) : (j.drop x).oc.hold = false ∧
    Flagged .pantoDropped (BitVec.ofNat 16 x.num) (j.drop x).out := by
  unfold Jobs.drop
  dsimp only
  refine ⟨by rw [Jobs.releaseHold_oc], Flagged.held (Flagged.flag _ _ _) (.releaseHold _)⟩

theorem stepTimer_ne_arcTimer (x : Panto) : x.stepTimer ≠ x.arcTimer := by cases x <;> decide

theorem Jobs.setArcIn_tmr (x : Panto) (v : ArcInput) (j : Jobs) : (j.setArcIn x v).tmr = j.tmr := by cases x <;> rfl
theorem Jobs.moveP_tmr (x : Panto) (r : PantoRec) (j : Jobs) : (j.moveP x r).tmr = j.tmr := by cases x <;> rfl
theorem Jobs.setPanto_tm (x : Panto) (r : PantoRec) (j : Jobs) : (j.setPanto x r).tm = j.tm := by cases x <;> rfl

/-- R64: contact loads the arc budget and stops the raise timeout. -/
theorem Jobs.contactMade_spec (x : Panto) (j : Jobs) :
    ((j.contactMade x).arcIn x).count = j.arcBudget x ∧ ((j.contactMade x).timer x.stepTimer).stopped ∧
    Flagged .pantoContact (BitVec.ofNat 16 x.num) (j.contactMade x).out := by
  unfold Jobs.contactMade
  dsimp only
  refine ⟨?_, ?_, Flagged.flag _ _ _⟩
  · exact congrArg ArcInput.count (Jobs.arcIn_setArcIn x _ _)
  · generalize hm : (j.touchAll [pantoAddr x 9, pantoAddr x 10]).stop x.stepTimer = m
    have hstop : (m.timer x.stepTimer).stopped := by
      rw [← hm, Jobs.timer_stop, if_pos rfl]
      exact Timer.stopped_stop _
    rwa [Jobs.timer_flag, Jobs.timer_load, if_neg (stepTimer_ne_arcTimer x),
      Jobs.timer_of_tmr ((Jobs.setArcIn_tmr x _ _).trans (Jobs.moveP_tmr x _ m)) x.stepTimer]

theorem Jobs.contactGone_flagged (x : Panto) (j : Jobs) :
    Flagged .contactLost (BitVec.ofNat 16 x.num) (j.contactGone x).out := Flagged.flag _ _ _

/-! ### The record after a sample -/

/-- R69: the record in LOWERING after a sample. -/
def Jobs.evaluatedLowering (x : Panto) (j : Jobs) : PantoRec :=
  if j.sampleLow x = true then
    if 3 ≤ (j.panto x).low + 1 then
      { j.panto x with low := (j.panto x).low + 1, state := .lowered, role := .none, connected := false }
    else { j.panto x with low := (j.panto x).low + 1 }
  else { j.panto x with low := 0 }

/-- R64, R67: the record in RAISING after a sample. -/
def Jobs.evaluatedRaising (x : Panto) (j : Jobs) : PantoRec :=
  if (j.sampleReached x && j.sampleWeak x) = true then
    { j.panto x with reached := j.sampleReached x, state := .dropped, cause := some .drop }
  else if (j.sampleUp x && j.sampleHard x) = true then
    if 3 ≤ (j.panto x).contact + 1 then
      { j.panto x with reached := j.sampleReached x, contact := (j.panto x).contact + 1, state := .inContact, loss := 0,
                       excess := 0, burst := false }
    else { j.panto x with reached := j.sampleReached x, contact := (j.panto x).contact + 1 }
  else { j.panto x with reached := j.sampleReached x, contact := 0 }

/-- R66, R67: the record in IN_CONTACT after a sample. -/
def Jobs.evaluatedContact (x : Panto) (j : Jobs) : PantoRec :=
  if (j.sampleReached x && j.sampleWeak x) = true then
    { j.panto x with reached := j.sampleReached x, state := .dropped, cause := some .drop }
  else if j.sampleDown x = true then
    if 3 ≤ (j.panto x).loss + 1 then
      { j.panto x with reached := j.sampleReached x, loss := (j.panto x).loss + 1, state := .raising, contact := 0 }
    else { j.panto x with reached := j.sampleReached x, loss := (j.panto x).loss + 1 }
  else if j.sampleUp x = true then { j.panto x with reached := j.sampleReached x, loss := 0 }
  else { j.panto x with reached := j.sampleReached x }

/-- R60 to R69: the pantograph's record after a sample whose values are stored. -/
def Jobs.evaluated (x : Panto) (j : Jobs) : PantoRec :=
  if (j.panto x).state = .lowering then j.evaluatedLowering x
  else if (j.panto x).state = .raising then j.evaluatedRaising x
  else if (j.panto x).state = .inContact then j.evaluatedContact x
  else j.panto x

theorem Jobs.evaluate_lowering_panto (hs : (j.panto x).state = .lowering) : (j.evaluate x).panto x = j.evaluatedLowering x := by
  rw [Jobs.evaluate_lowering hs]
  unfold Jobs.evaluatedLowering
  split
  · split
    · rw [Jobs.loweredReached_panto, Jobs.panto_setPanto]
    · rw [Jobs.panto_setPanto]
  · rw [Jobs.panto_setPanto]

theorem Jobs.evaluate_raising_panto (hs : (j.panto x).state = .raising) : (j.evaluate x).panto x = j.evaluatedRaising x := by
  rw [Jobs.evaluate_raising hs]
  unfold Jobs.evaluatedRaising
  split
  · rw [Jobs.drop_panto, Jobs.sampled_panto]
  · split
    · split
      · rw [Jobs.contactMade_panto, Jobs.sampled_panto]
      · rw [Jobs.sampled_panto]
    · rw [Jobs.sampled_panto]

theorem Jobs.evaluate_contact_panto (hs : (j.panto x).state = .inContact) : (j.evaluate x).panto x = j.evaluatedContact x := by
  rw [Jobs.evaluate_inContact hs]
  unfold Jobs.evaluatedContact
  split
  · rw [Jobs.drop_panto, Jobs.sampled_panto]
  · split
    · split
      · rw [Jobs.contactGone_panto, Jobs.sampled_panto]
      · rw [Jobs.sampled_panto]
    · split <;> rw [Jobs.sampled_panto]

theorem Jobs.evaluate_panto (x : Panto) (j : Jobs) : (j.evaluate x).panto x = j.evaluated x := by
  unfold Jobs.evaluated
  split
  · exact Jobs.evaluate_lowering_panto ‹_›
  · split
    · exact Jobs.evaluate_raising_panto ‹_›
    · split
      · exact Jobs.evaluate_contact_panto ‹_›
      · rw [Jobs.evaluate_other ‹_› ‹_› ‹_›]

theorem Jobs.evaluated_congr (h : SameWords j k) (hp : k.panto x = j.panto x) : k.evaluated x = j.evaluated x := by
  have hup : k.sampleUp x = j.sampleUp x := by unfold Jobs.sampleUp; rw [hp, h.pantoParam]
  have hdown : k.sampleDown x = j.sampleDown x := by unfold Jobs.sampleDown; rw [hp, h.pantoParam]
  have hlow : k.sampleLow x = j.sampleLow x := by unfold Jobs.sampleLow; rw [hp, h.pantoParam]
  have hhard : k.sampleHard x = j.sampleHard x := by unfold Jobs.sampleHard; rw [hp, h.pantoParam]
  have hweak : k.sampleWeak x = j.sampleWeak x := by unfold Jobs.sampleWeak; rw [hp, h.pantoParam]
  have hreached : k.sampleReached x = j.sampleReached x := by unfold Jobs.sampleReached; rw [hp, hhard]
  unfold Jobs.evaluated Jobs.evaluatedLowering Jobs.evaluatedRaising Jobs.evaluatedContact
  simp only [hp, hup, hdown, hlow, hhard, hweak, hreached]

/-! ### What a sample leaves alone -/

/-- `k` is `j` but for what a sample of pantograph `x` can change: that pantograph, its timers and arc input, output hold,
table memory's bookkeeping and the step's lists. -/
structure Evaluates (x : Panto) (j k : Jobs) : Prop where
  lmu : k.lmu = j.lmu
  ice : k.ice = j.ice
  fb : k.fb = j.fb
  earthRaw : k.oc.earthRaw = j.oc.earthRaw
  other : ∀ y, y ≠ x → k.panto y = j.panto y

theorem Evaluates.refl (x : Panto) (j : Jobs) : Evaluates x j j := ⟨rfl, rfl, rfl, rfl, fun _ _ => rfl⟩

theorem Evaluates.trans (h : Evaluates x j k) (h' : Evaluates x k l) : Evaluates x j l :=
  ⟨h'.lmu.trans h.lmu, h'.ice.trans h.ice, h'.fb.trans h.fb, h'.earthRaw.trans h.earthRaw,
    fun y hy => (h'.other y hy).trans (h.other y hy)⟩

theorem Still.evaluates (h : Still j k) (x : Panto) : Evaluates x j k :=
  ⟨h.lmu, h.ice, h.fb, by rw [h.oc], fun y _ => h.panto y⟩

theorem Evaluates.setPanto (x : Panto) (r : PantoRec) (j : Jobs) : Evaluates x j (j.setPanto x r) := by
  refine ⟨?_, ?_, ?_, ?_, fun y hy => Jobs.panto_setPanto_other hy r j⟩ <;> cases x <;> rfl

theorem Evaluates.moveP (x : Panto) (r : PantoRec) (j : Jobs) : Evaluates x j (j.moveP x r) :=
  (Evaluates.setPanto x r j).trans ⟨rfl, rfl, rfl, rfl, fun _ _ => rfl⟩

theorem Evaluates.stop (x : Panto) (i : TimerId) (j : Jobs) : Evaluates x j (j.stop i) := ⟨rfl, rfl, rfl, rfl, fun _ _ => rfl⟩
theorem Evaluates.load (x : Panto) (i : TimerId) (n : Nat) (m : TimerMode) (j : Jobs) : Evaluates x j (j.load i n m) :=
  ⟨rfl, rfl, rfl, rfl, fun _ _ => rfl⟩
theorem Evaluates.flag (x : Panto) (f : Flag) (n : Nat) (j : Jobs) : Evaluates x j (j.flag f n) :=
  ⟨rfl, rfl, rfl, rfl, fun _ _ => rfl⟩
theorem Evaluates.setArcIn (x y : Panto) (v : ArcInput) (j : Jobs) : Evaluates x j (j.setArcIn y v) := by
  cases y <;> exact ⟨rfl, rfl, rfl, rfl, fun _ _ => rfl⟩
theorem Evaluates.releaseHold (x : Panto) (j : Jobs) : Evaluates x j j.releaseHold := by
  unfold Jobs.releaseHold
  split
  · exact ⟨rfl, rfl, rfl, rfl, fun _ _ => rfl⟩
  · exact .refl x j

theorem Evaluates.sampled (x : Panto) (p : PantoRec) (j : Jobs) : Evaluates x j (j.sampled x p) :=
  ((Still.touchAll _ j).evaluates x).trans (.setPanto x p _)

theorem Evaluates.contactMade (x : Panto) (j : Jobs) : Evaluates x j (j.contactMade x) :=
  ((((((Still.touchAll _ j).evaluates x).trans (.stop x _ _)).trans (.moveP x _ _)).trans (.setArcIn x x _ _)).trans
    (.load x _ _ _ _)).trans (.flag x _ _ _)

theorem Evaluates.contactGone (x : Panto) (j : Jobs) : Evaluates x j (j.contactGone x) :=
  (((((Still.touch _ j).evaluates x).trans (.stop x _ _)).trans (.moveP x _ _)).trans (.load x _ _ _ _)).trans (.flag x _ _ _)

theorem Evaluates.drop (x : Panto) (j : Jobs) : Evaluates x j (j.drop x) :=
  ((((Evaluates.stop x _ j).trans (.stop x _ _)).trans (.moveP x _ _)).trans (.flag x _ _ _)).trans (.releaseHold x _)

theorem Evaluates.loweredReached (x : Panto) (j : Jobs) : Evaluates x j (j.loweredReached x) :=
  (Evaluates.stop x _ j).trans (.moveP x _ _)

theorem Evaluates.evaluate (x : Panto) (j : Jobs) : Evaluates x j (j.evaluate x) := by
  have hlow : ∀ p, Evaluates x j ((j.touch (pantoAddr x 1)).setPanto x p) := fun p =>
    ((Still.touch _ j).evaluates x).trans (.setPanto x p _)
  cases hs : (j.panto x).state with
  | lowering =>
    rw [Jobs.evaluate_lowering hs]
    split
    · split
      · exact (hlow _).trans (.loweredReached x _)
      · exact hlow _
    · exact hlow _
  | raising =>
    rw [Jobs.evaluate_raising hs]
    split
    · exact (Evaluates.sampled x _ j).trans (.drop x _)
    · split
      · split
        · exact (Evaluates.sampled x _ j).trans (.contactMade x _)
        · exact .sampled x _ j
      · exact .sampled x _ j
  | inContact =>
    rw [Jobs.evaluate_inContact hs]
    split
    · exact (Evaluates.sampled x _ j).trans (.drop x _)
    · split
      · split
        · exact (Evaluates.sampled x _ j).trans (.contactGone x _)
        · exact .sampled x _ j
      · split <;> exact .sampled x _ j
  | _ =>
    rw [Jobs.evaluate_other (by rw [hs]; decide) (by rw [hs]; decide) (by rw [hs]; decide)]
    exact .refl x j

end Sys2Proof.Machine

end

section
/-! PROOFS. The uses that take a MEASURE frame (R2, R39, R60, R81, R101, O59), and the sample stream (chapter 1, O56). -/

namespace Sys2Proof.Machine

open Sys2Proof

variable {s t u : State} {j k l : Jobs} {x y : Panto} {q : Word} {ws : List Word}

/-! ### What a use of a frame makes of the values kept -/

/-- R60: the record of a pantograph that a frame's height and pressure reach. -/
def Jobs.measured (x : Panto) (q : Word) (ws : List Word) (j : Jobs) : PantoRec :=
  if (j.carriedFor (.height x) q ws).isSome || (j.carriedFor (.press x) q ws).isSome then
    (j.setPanto x { j.panto x with height := (j.carriedFor (.height x) q ws).or (j.panto x).height,
                                   press := (j.carriedFor (.press x) q ws).or (j.panto x).press }).evaluated x
  else j.panto x

theorem SameWords.setPanto (h : SameWords j k) (x : Panto) (p q : PantoRec) : SameWords (j.setPanto x p) (k.setPanto x q) :=
  ((SameWords.of_tm (Jobs.setPanto_tm x p j)).symm.trans h).trans (.of_tm (Jobs.setPanto_tm x q k))

theorem Jobs.measured_congr (h : SameWords j k) (hp : k.panto x = j.panto x) (q : Word) (ws : List Word) :
    k.measured x q ws = j.measured x q ws := by
  unfold Jobs.measured
  rw [h.carriedFor, h.carriedFor, hp]
  split
  · exact Jobs.evaluated_congr (h.setPanto x _ _) (by rw [Jobs.panto_setPanto, Jobs.panto_setPanto])
  · rfl

theorem Jobs.pantoMeasure_panto (x : Panto) (q : Word) (ws : List Word) (hw : j.tableWf) :
    (j.pantoMeasure x q ws).panto x = j.measured x q ws := by
  have hs := Still.touchMaps j [.height x, .press x]
  unfold Jobs.pantoMeasure Jobs.measured
  dsimp only
  split
  · rw [Jobs.evaluate_panto, hs.panto]
    exact Jobs.evaluated_congr ((hs.sameWords hw).setPanto x _ _) (by rw [Jobs.panto_setPanto, Jobs.panto_setPanto])
  · exact hs.panto x

theorem Evaluates.pantoMeasure (x : Panto) (q : Word) (ws : List Word) (j : Jobs) : Evaluates x j (j.pantoMeasure x q ws) := by
  have hs := (Still.touchMaps j [.height x, .press x]).evaluates x
  unfold Jobs.pantoMeasure
  dsimp only
  split
  · exact (hs.trans (.setPanto x _ _)).trans (.evaluate x _)
  · exact hs

/-- `k` is `j` but for the measurement, the line system, the timers, table memory's bookkeeping and the step's lists. -/
def OnlyLine (j k : Jobs) : Prop :=
  k = { j with lmu := k.lmu, lsi := k.lsi, tmr := k.tmr, tm := k.tm, todo := k.todo, out := k.out }

theorem OnlyLine.refl (j : Jobs) : OnlyLine j j := rfl

theorem OnlyLine.trans (h : OnlyLine j k) (h' : OnlyLine k l) : OnlyLine j l := by
  unfold OnlyLine at *
  rw [h', h]

theorem Still.onlyLine (h : Still j k) : OnlyLine j k := by
  have e := h.rest
  unfold OnlyLine
  rw [e]

theorem OnlyLine.setLmu (v : Lmu) (j : Jobs) : OnlyLine j (j.setLmu v) := rfl
theorem OnlyLine.setLsi (v : Lsi) (j : Jobs) : OnlyLine j (j.setLsi v) := rfl
theorem OnlyLine.flag (f : Flag) (n : Nat) (j : Jobs) : OnlyLine j (j.flag f n) := rfl
theorem OnlyLine.load (i : TimerId) (n : Nat) (m : TimerMode) (j : Jobs) : OnlyLine j (j.load i n m) := rfl
theorem OnlyLine.confirm (v : Line) (j : Jobs) : OnlyLine j (j.confirm v) := rfl

theorem OnlyLine.lostEntries (j : Jobs) : OnlyLine j j.lostEntries := by
  have e := j.lostEntries_spec.1
  unfold OnlyLine
  rw [e]

theorem OnlyLine.debounce (v : Line) (j : Jobs) : OnlyLine j (j.debounce v) := by
  by_cases hv : v = .none
  · rw [show j.debounce v = j from if_pos hv]
    exact .refl j
  · rw [Jobs.debounce_eq v hv]
    have hset := OnlyLine.setLsi (j.lsi.debounced v) j
    generalize j.setLsi (j.lsi.debounced v) = m at *
    have hn := hset.trans (Still.touchNeeded v m).onlyLine
    unfold Jobs.confirmCheck
    dsimp only
    cases m.needed v with
    | none => exact hn
    | some n =>
      dsimp only
      split
      · exact hn.trans (.confirm v _)
      · exact hn

theorem OnlyLine.handRecord (r : Record) (j : Jobs) : OnlyLine j (j.handRecord r) := by
  unfold Jobs.handRecord Jobs.lsiRecord
  dsimp only
  exact ((((OnlyLine.setLmu _ j).trans (Jobs.touchVerdict_still r _).onlyLine).trans (.lostEntries _)).trans (.setLsi _ _)).trans
    (.debounce _ _)

theorem OnlyLine.takeSample (h : Int) (w : Word) (j : Jobs) : OnlyLine j (j.takeSample h w) := by
  by_cases hn : 1024 ≤ (j.lmu.nextWindow h w).taken
  · rw [Jobs.takeSample_closes hn]
    exact (OnlyLine.setLmu _ j).trans (.handRecord _ _)
  · rw [Jobs.takeSample_open hn]
    exact .setLmu _ j

theorem OnlyLine.folded (h : Int) (ws : List Word) (j : Jobs) : OnlyLine j (ws.foldl (fun j w => j.takeSample h w) j) := by
  induction ws generalizing j with
  | nil => exact .refl j
  | cons w ws ih => exact (OnlyLine.takeSample h w j).trans (ih _)

theorem OnlyLine.takeSamples (first : Word) (ws : List Word) (j : Jobs) : OnlyLine j (j.takeSamples first ws) :=
  (((Still.touch 0x140 j).onlyLine.trans (.load _ _ _ _)).trans (.folded _ ws _)).trans (.setLmu _ _)

theorem OnlyLine.breakWindow (j : Jobs) : OnlyLine j j.breakWindow := by
  unfold Jobs.breakWindow
  split
  · exact .handRecord _ j
  · exact .refl j

theorem OnlyLine.sampleFrame (first : Word) (ws : List Word) (j : Jobs) : OnlyLine j (j.sampleFrame first ws) := by
  unfold Jobs.sampleFrame
  split
  · exact .refl j
  · exact .takeSamples first ws j
  · exact .takeSamples first ws j
  · dsimp only
    split
    · exact .takeSamples first ws j
    · split
      · exact (((OnlyLine.flag _ _ j).trans (.breakWindow _)).trans (.setLmu _ _)).trans (.takeSamples first ws _)
      · exact .refl j

/-- R2: the frame is one of samples for the measurement unit. -/
def Jobs.takesSamples (q : Word) (j : Jobs) : Prop :=
  j.mapUsable .lineV = true ∧ bit (j.word 0x090) 5 = true ∧ j.mapPoint .lineV = q

theorem Jobs.lmuMeasure_frame {first w : Word} {rest : List Word} (h : j.takesSamples q) :
    j.lmuMeasure q (first :: w :: rest) = (j.touchMap .lineV).sampleFrame first (w :: rest) := by
  obtain ⟨h1, h2, h3⟩ := h
  have hb : (j.mapUsable .lineV && bit (j.word (MapRole.addr .lineV)) 5 && j.mapPoint .lineV == q) = true := by
    rw [show MapRole.addr .lineV = 0x090 from rfl, h1, h2, h3]
    simp
  unfold Jobs.lmuMeasure
  rw [hb]

theorem Jobs.lmuMeasure_not (h : j.mapUsable .lineV = false ∨ bit (j.word 0x090) 5 = false ∨ j.mapPoint .lineV ≠ q ∨
    ws.length < 2) : j.lmuMeasure q ws = j.touchMap .lineV := by
  unfold Jobs.lmuMeasure
  rw [show MapRole.addr .lineV = 0x090 from rfl]
  dsimp only
  split
  · rename_i first w rest htaken
    rw [Bool.and_eq_true, Bool.and_eq_true, beq_iff_eq] at htaken
    obtain ⟨⟨h1, h2⟩, h3⟩ := htaken
    rcases h with h | h | h | h
    · rw [h1] at h; exact nomatch h
    · rw [h2] at h; exact nomatch h
    · exact absurd h3 h
    · simp at h
  · rfl

theorem OnlyLine.lmuMeasure (q : Word) (ws : List Word) (j : Jobs) : OnlyLine j (j.lmuMeasure q ws) := by
  unfold Jobs.lmuMeasure
  dsimp only
  split
  · exact (Still.touchAll _ j).onlyLine.trans (.sampleFrame _ _ _)
  · exact (Still.touchAll _ j).onlyLine

/-! ### The ice inputs and the feedbacks (R81, R39, R101) -/

/-- `k` is `j` but for the stored inputs of the ice controller, table memory's bookkeeping and the step's lists. -/
def OnlyIce (j k : Jobs) : Prop := k = { j with ice := k.ice, tm := k.tm, todo := k.todo, out := k.out }

theorem OnlyIce.trans (h : OnlyIce j k) (h' : OnlyIce k l) : OnlyIce j l := by
  unfold OnlyIce at *
  rw [h', h]

theorem Still.onlyIce (h : Still j k) : OnlyIce j k := by
  have e := h.rest
  unfold OnlyIce
  rw [e]

theorem OnlyIce.setIce (v : Ice) (j : Jobs) : OnlyIce j (j.setIce v) := rfl

theorem Jobs.takeTemp_spec (hw : j.tableWf) (q : Word) (ws : List Word) (hk : k = j.takeTemp q ws) :
    OnlyIce j k ∧ k.ice.probe = j.ice.probe ∧
    (j.carriedFor .roofTemp q ws = none → k.ice.temp = j.ice.temp) ∧
    (∀ w, j.carriedFor .roofTemp q ws = some w → k.ice.temp = if j.tempUsable w then some w else none) := by
  have hs : Still j (j.touchMap .roofTemp) := .touchAll _ j
  have hok : ∀ w, (j.touchMap .roofTemp).tempUsable w = j.tempUsable w := fun w => by
    unfold Jobs.tempUsable
    rw [(hs.sameWords hw).iceParam, (hs.sameWords hw).iceParam]
  subst hk
  unfold Jobs.takeTemp
  dsimp only
  cases hc : j.carriedFor .roofTemp q ws with
  | none => exact ⟨hs.onlyIce, by rw [hs.ice], fun _ => by rw [hs.ice], fun w h => (nomatch h)⟩
  | some w =>
    have hr := hs.trans (Still.touchIce _ [3, 4])
    dsimp only
    refine ⟨hr.onlyIce.trans (.setIce _ _), ?_, fun h => (nomatch h), fun w' h => ?_⟩
    · rw [Jobs.setIce_ice]
      dsimp only
      rw [hr.ice]
    · obtain rfl := Option.some.inj h
      rw [Jobs.setIce_ice]
      dsimp only
      rw [hok]

theorem Jobs.takeProbe_spec (hw : j.tableWf) (q : Word) (ws : List Word) (hk : k = j.takeProbe q ws) :
    OnlyIce j k ∧ k.ice.temp = j.ice.temp ∧
    (j.carriedFor .iceProbe q ws = none → k.ice.probe = j.ice.probe) ∧
    (∀ w, j.carriedFor .iceProbe q ws = some w → k.ice.probe = if j.probeUsable w then some w else none) := by
  have hs : Still j (j.touchMap .iceProbe) := .touchAll _ j
  have hok : ∀ w, (j.touchMap .iceProbe).probeUsable w = j.probeUsable w := fun w => by
    unfold Jobs.probeUsable
    rw [(hs.sameWords hw).iceParam, (hs.sameWords hw).iceParam]
  subst hk
  unfold Jobs.takeProbe
  dsimp only
  cases hc : j.carriedFor .iceProbe q ws with
  | none => exact ⟨hs.onlyIce, by rw [hs.ice], fun _ => by rw [hs.ice], fun w h => (nomatch h)⟩
  | some w =>
    have hr := hs.trans (Still.touchIce _ [6, 7])
    dsimp only
    refine ⟨hr.onlyIce.trans (.setIce _ _), ?_, fun h => (nomatch h), fun w' h => ?_⟩
    · rw [Jobs.setIce_ice]
      dsimp only
      rw [hr.ice]
    · obtain rfl := Option.some.inj h
      rw [Jobs.setIce_ice]
      dsimp only
      rw [hok]

theorem Jobs.feedbackMeasure_spec (q : Word) (ws : List Word) (j : Jobs) (hk : k = j.feedbackMeasure q ws) :
    k.lmu = j.lmu ∧ (∀ x, k.panto x = j.panto x) ∧ k.ice = j.ice ∧
    k.fb.brkRaw = ((j.carriedFor .brkPos q ws).map (fun w => (j.mapBit .brkPos).reads w)).or j.fb.brkRaw ∧
    k.fb.selRaw = (j.carriedFor .selPos q ws).or j.fb.selRaw ∧
    k.oc.earthRaw = ((j.carriedFor .earthPos q ws).map (fun w => (j.mapBit .earthPos).reads w)).or j.oc.earthRaw := by
  have hs := Still.touchMaps j [.brkPos, .selPos, .earthPos]
  subst hk
  unfold Jobs.feedbackMeasure
  dsimp only
  have hp := hs.panto
  have hf := hs.fb
  have ho := hs.oc
  have hl := hs.lmu
  have hi := hs.ice
  generalize j.touchMaps [.brkPos, .selPos, .earthPos] = m at *
  rw [← hf, ← ho, ← hl, ← hi]
  exact ⟨rfl, fun x => (by cases x <;> rfl : _ = m.panto x).trans (hp x), rfl, rfl, rfl, rfl⟩

/-! ### All uses of one frame (log entry 11) -/

/-- R149: what the uses of the point map make of a MEASURE frame that reaches the roof jobs `j`. -/
structure Measures (q : Word) (ws : List Word) (j k : Jobs) : Prop where
  spared : (j.mapUsable .lineV = false ∨ bit (j.word 0x090) 5 = false ∨ j.mapPoint .lineV ≠ q ∨ ws.length < 2) →
    k.lmu = j.lmu
  sampled : ∀ first w rest, ws = first :: w :: rest → j.takesSamples q → k.lmu = (j.sampleFrame first (w :: rest)).lmu
  panto : ∀ x, k.panto x = j.measured x q ws
  temp : (j.carriedFor .roofTemp q ws = none → k.ice.temp = j.ice.temp) ∧
    (∀ w, j.carriedFor .roofTemp q ws = some w → k.ice.temp = if j.tempUsable w then some w else none)
  probe : (j.carriedFor .iceProbe q ws = none → k.ice.probe = j.ice.probe) ∧
    (∀ w, j.carriedFor .iceProbe q ws = some w → k.ice.probe = if j.probeUsable w then some w else none)
  brkRaw : k.fb.brkRaw = ((j.carriedFor .brkPos q ws).map (fun w => (j.mapBit .brkPos).reads w)).or j.fb.brkRaw
  selRaw : k.fb.selRaw = (j.carriedFor .selPos q ws).or j.fb.selRaw
  earthRaw : k.oc.earthRaw = ((j.carriedFor .earthPos q ws).map (fun w => (j.mapBit .earthPos).reads w)).or j.oc.earthRaw

/-- The values of `j` that the uses of a frame go by are those of `i`. -/
structure SameKept (i j : Jobs) : Prop where
  wf : i.tableWf
  words : SameWords i j
  lmu : j.lmu = i.lmu
  panto : ∀ x, j.panto x = i.panto x
  ice : j.ice = i.ice
  fb : j.fb = i.fb
  earthRaw : j.oc.earthRaw = i.oc.earthRaw

theorem SameWords.takesSamples (h : SameWords j k) : k.takesSamples q ↔ j.takesSamples q := by
  unfold Jobs.takesSamples
  rw [h.mapUsable, h.word, h.mapPoint]

theorem Measures.of_kept {i : Jobs} (h : Measures q ws j k) (hi : SameKept i j) (hj : j.tableWf) : Measures q ws i k where
  spared hn := (h.spared (by rwa [hi.words.mapUsable, hi.words.word, hi.words.mapPoint])).trans hi.lmu
  sampled first w rest hp ht := (h.sampled first w rest hp (hi.words.takesSamples.mpr ht)).trans
    (Jobs.sampleFrame_lmu_congr hi.wf hi.words hj hi.lmu)
  panto x := (h.panto x).trans (Jobs.measured_congr hi.words (hi.panto x) q ws)
  temp := by
    have h1 := h.temp
    unfold Jobs.tempUsable at h1 ⊢
    rwa [hi.words.carriedFor, hi.ice, hi.words.iceParam, hi.words.iceParam] at h1
  probe := by
    have h1 := h.probe
    unfold Jobs.probeUsable at h1 ⊢
    rwa [hi.words.carriedFor, hi.ice, hi.words.iceParam, hi.words.iceParam] at h1
  brkRaw := by rw [h.brkRaw, hi.words.carriedFor, hi.words.mapBit, hi.fb]
  selRaw := by rw [h.selRaw, hi.words.carriedFor, hi.fb]
  earthRaw := by rw [h.earthRaw, hi.words.carriedFor, hi.words.mapBit, hi.earthRaw]

theorem Measures.still (h : Measures q ws j k) (hl : Still k l) : Measures q ws j l := by
  refine ⟨?_, ?_, ?_, ?_, ?_, ?_, ?_, ?_⟩
  · rw [hl.lmu]; exact h.spared
  · rw [hl.lmu]; exact h.sampled
  · exact fun x => (hl.panto x).trans (h.panto x)
  · rw [hl.ice]; exact h.temp
  · rw [hl.ice]; exact h.probe
  · rw [hl.fb]; exact h.brkRaw
  · rw [hl.fb]; exact h.selRaw
  · rw [hl.oc]; exact h.earthRaw

theorem OnlyLine.kept (h : OnlyLine j k) : (∀ x, k.panto x = j.panto x) ∧ k.ice = j.ice ∧ k.fb = j.fb ∧ k.oc = j.oc := by
  unfold OnlyLine at h
  rw [h]
  exact ⟨fun x => by cases x <;> rfl, rfl, rfl, rfl⟩

theorem OnlyIce.kept (h : OnlyIce j k) : (∀ x, k.panto x = j.panto x) ∧ k.lmu = j.lmu ∧ k.fb = j.fb ∧ k.oc = j.oc := by
  unfold OnlyIce at h
  rw [h]
  exact ⟨fun x => by cases x <;> rfl, rfl, rfl, rfl⟩

theorem Jobs.bindings_run (hr : j.dev = .run) {f : Frame} (hf : f.kind = .measure) : j.bindings f =
    ((((j.lmuMeasure f.point f.payload).pantoMeasure .p1 f.point f.payload).pantoMeasure .p2 f.point f.payload).iceMeasure
      f.point f.payload).feedbackMeasure f.point f.payload := if_pos ⟨hf, hr⟩

/-- R149, log entry 11: all uses of a MEASURE frame take it. -/
theorem Jobs.bindings_measures (hw : j.tableWf) (hr : j.dev = .run) {f : Frame} (hf : f.kind = .measure) :
    Measures f.point f.payload j (j.bindings f) := by
  rw [Jobs.bindings_run hr hf]
  generalize f.point = q
  generalize f.payload = ws
  have hline := OnlyLine.lmuMeasure q ws j
  have hmap : Still j (j.touchMap .lineV) := .touchAll _ j
  have w1 := (Held.lmuMeasure q ws j).sameWords hw
  have t1 := (Held.lmuMeasure q ws j).tableWf hw
  have hspared : (j.mapUsable .lineV = false ∨ bit (j.word 0x090) 5 = false ∨ j.mapPoint .lineV ≠ q ∨ ws.length < 2) →
      (j.lmuMeasure q ws).lmu = j.lmu := fun h => by rw [Jobs.lmuMeasure_not h, hmap.lmu]
  have hsampled : ∀ first w rest, ws = first :: w :: rest → j.takesSamples q →
      (j.lmuMeasure q ws).lmu = (j.sampleFrame first (w :: rest)).lmu := by
    rintro first w rest rfl ht
    rw [Jobs.lmuMeasure_frame ht]
    exact Jobs.sampleFrame_lmu_congr hw (hmap.sameWords hw) (hmap.tableWf hw) hmap.lmu
  generalize j.lmuMeasure q ws = m1 at *
  have e2 := Evaluates.pantoMeasure .p1 q ws m1
  have p2 := Jobs.pantoMeasure_panto .p1 q ws t1
  have w2 := w1.trans ((Held.pantoMeasure .p1 q ws m1).sameWords t1)
  have t2 := (Held.pantoMeasure .p1 q ws m1).tableWf t1
  generalize m1.pantoMeasure .p1 q ws = m2 at *
  have e3 := Evaluates.pantoMeasure .p2 q ws m2
  have p3 := Jobs.pantoMeasure_panto .p2 q ws t2
  have w3 := w2.trans ((Held.pantoMeasure .p2 q ws m2).sameWords t2)
  have t3 := (Held.pantoMeasure .p2 q ws m2).tableWf t2
  generalize m2.pantoMeasure .p2 q ws = m3 at *
  obtain ⟨o4, hprobe, htemp, htemp'⟩ := Jobs.takeTemp_spec t3 q ws rfl
  have w4 := w3.trans ((Held.takeTemp q ws m3).sameWords t3)
  have t4 := (Held.takeTemp q ws m3).tableWf t3
  unfold Jobs.iceMeasure
  generalize m3.takeTemp q ws = m4 at *
  obtain ⟨o5, htemp5, hprobe5, hprobe5'⟩ := Jobs.takeProbe_spec t4 q ws rfl
  have w5 := w4.trans ((Held.takeProbe q ws m4).sameWords t4)
  generalize m4.takeProbe q ws = m5 at *
  obtain ⟨hlmu, hpanto, hice, hbrk, hsel, hearth⟩ := Jobs.feedbackMeasure_spec q ws m5 rfl
  generalize m5.feedbackMeasure q ws = m6 at *
  obtain ⟨lp, li, lf, lo⟩ := hline.kept
  obtain ⟨ip4, il4, if4, io4⟩ := o4.kept
  obtain ⟨ip5, il5, if5, io5⟩ := o5.kept
  have hl : m6.lmu = m1.lmu := by rw [hlmu, il5, il4, e3.lmu, e2.lmu]
  have hi3 : m3.ice = j.ice := by rw [e3.ice, e2.ice, li]
  have hf5 : m5.fb = j.fb := by rw [if5, if4, e3.fb, e2.fb, lf]
  have ho5 : m5.oc.earthRaw = j.oc.earthRaw := by rw [io5, io4, e3.earthRaw, e2.earthRaw, lo]
  have tempSame : ∀ w, m3.tempUsable w = j.tempUsable w := fun w => by
    unfold Jobs.tempUsable
    rw [w3.iceParam, w3.iceParam]
  have probeSame : ∀ w, m4.probeUsable w = j.probeUsable w := fun w => by
    unfold Jobs.probeUsable
    rw [w4.iceParam, w4.iceParam]
  refine ⟨fun h => hl.trans (hspared h), fun first w rest hp ht => hl.trans (hsampled first w rest hp ht), fun x => ?_, ?_, ?_,
    ?_, ?_, ?_⟩
  · rw [hpanto, ip5, ip4]
    cases x with
    | p1 =>
      rw [e3.other .p1 (by decide), p2]
      exact Jobs.measured_congr w1 (lp .p1) q ws
    | p2 =>
      rw [p3]
      exact Jobs.measured_congr w2 ((e2.other .p2 (by decide)).trans (lp .p2)) q ws
  · rw [hice, htemp5]
    rw [w3.carriedFor] at htemp htemp'
    exact ⟨fun h => (htemp h).trans (by rw [hi3]), fun w h => by rw [htemp' w h, tempSame]⟩
  · rw [hice]
    rw [w4.carriedFor] at hprobe5 hprobe5'
    exact ⟨fun h => (hprobe5 h).trans (by rw [hprobe, hi3]), fun w h => by rw [hprobe5' w h, probeSame]⟩
  · rw [hbrk, w5.carriedFor, w5.mapBit, hf5]
  · rw [hsel, w5.carriedFor, hf5]
  · rw [hearth, w5.carriedFor, w5.mapBit, ho5]

/-! ### The step of a MEASURE frame -/

theorem Still.judge (p : Port) (f : Frame) (d : Disposition) (r : Option Nat) (s : State) : Still s.jobs (s.judge p f d r).jobs :=
  Still.offerFrame p (Port.inward p) f d r (s.setFr (s.fr.count p (Counters.outcome d)))

theorem Still.flag (f : Flag) (n : Nat) (j : Jobs) : Still j (j.flag f n) := .setOut _ j

theorem Still.routeUpward (f : Frame) (r : Option Nat) (up : Bool) (s : State) : Still s.jobs (s.routeUpward f r up).jobs := by
  unfold State.routeUpward State.forwardUp
  split
  · split
    · exact Still.judge .roof f .forwarded r (s.setFr (s.fr.pushUp f true))
    · exact (Still.judge .roof f (.dropped .queueFull) r s).trans (.flag .queueDrop 0 _)
  · exact .judge .roof f .consumed r s

theorem Jobs.nodeAnswered_kept (hw : j.tableWf) (n : Nat) : SameKept j (j.nodeAnswered n) ∧ (j.nodeAnswered n).dev = j.dev ∧
    (j.nodeAnswered n).tm = j.tm := by
  unfold Jobs.nodeAnswered
  dsimp only
  split
  · split
    · exact ⟨⟨hw, .of_tm rfl, rfl, fun x => by cases x <;> rfl, rfl, rfl, rfl⟩, rfl, rfl⟩
    · exact ⟨⟨hw, .of_tm rfl, rfl, fun x => by cases x <;> rfl, rfl, rfl, rfl⟩, rfl, rfl⟩
  · exact ⟨⟨hw, .refl j, rfl, fun _ => rfl, rfl, rfl, rfl⟩, rfl, rfl⟩

theorem Jobs.tookAnswer_measures (hw : j.tableWf) (hr : j.dev = .run) {f : Frame} (hf : f.kind = .measure) (n : Nat) :
    Measures f.point f.payload j (j.tookAnswer f n) := by
  have hs := Still.touchRouteOf f j
  have ht := hs.tableWf hw
  obtain ⟨hn, hdev, htm⟩ := Jobs.nodeAnswered_kept ht n
  have hwf : ((j.touchRouteOf f).nodeAnswered n).tableWf := by
    unfold Jobs.tableWf
    rw [htm]
    exact ht
  refine (Jobs.bindings_measures hwf (hdev.trans (hs.dev.trans hr)) hf).of_kept ?_ hwf
  exact ⟨hw, (hs.sameWords hw).trans hn.words, hn.lmu.trans hs.lmu, fun x => (hn.panto x).trans (hs.panto x), hn.ice.trans hs.ice,
    hn.fb.trans hs.fb, hn.earthRaw.trans (by rw [hs.oc])⟩

/-- R149: the state that the step of an answering MEASURE frame ends from. -/
theorem State.measure_ends {h : Header} {ws : List Word} {f : Frame} {e : Exchange} (hr : Running s) (hf : f = h.frame .measure ws)
    (ha : s.isAnswer f = true) (he : s.rb.exchange = some e) (hacc : e.accepts f = true) :
    ∃ u, EndsFrom (.roofMeasureFrame h ws) s u ∧ Measures h.point ws s.jobs u.jobs := by
  subst hf
  obtain ⟨⟨hreset, hstores⟩, hrun⟩ := hr
  refine ⟨_, EndsFrom.of_taking (k := fun f s => s.roofFrame f) hreset rfl rfl (State.roofFrame_answer ha he hacc), ?_⟩
  have hm : Measures (h.frame .measure ws).point (h.frame .measure ws).payload s.jobs
      (s.tookAnswer (h.frame .measure ws) e).jobs := Jobs.tookAnswer_measures hstores.1 hrun rfl e.node
  exact hm.still (.routeUpward _ _ _ _)

theorem State.atHand_of_answer {f : Frame} (ha : s.isAnswer f = true) : (s.port .roof).holds f = true := by
  unfold State.isAnswer at ha
  rw [Bool.and_eq_true] at ha
  show s.roof.buffers.head?.any (fun r => r.frame == f) = true
  cases hb : s.roof.buffers.head? with
  | none => simp [hb] at ha
  | some r =>
    have h2 := ha.2
    rw [hb, Option.any_some, Bool.and_eq_true] at h2
    exact h2.1

end Sys2Proof.Machine

end

section
/-! PROOFS. Contact samples (O59) and the sample stream (O56). -/

namespace Sys2Proof.Machine

open Sys2Proof

variable {s t u : State} {j k l : Jobs} {x y : Panto} {q : Word} {ws : List Word}

/-! ### The values a frame carries, and the feedbacks (R60, R39, R101) -/

theorem Jobs.carriedFor_none {r : MapRole} (h : j.mapUsable r = false ∨ j.mapNode r ≠ nodeOf q ∨
    (j.mapPoint r).toNat < q.toNat ∨ q.toNat + ws.length ≤ (j.mapPoint r).toNat) : j.carriedFor r q ws = none := by
  unfold Jobs.carriedFor carried
  split
  · rename_i hu
    refine if_neg ?_
    rintro ⟨hn, hlo, hhi⟩
    rcases h with h | h | h | h
    · rw [hu] at h; exact nomatch h
    · exact h hn
    · omega
    · omega
  · rfl

theorem Jobs.carriedFor_some {r : MapRole} {i : Nat} (hu : j.mapUsable r = true) (hn : j.mapNode r = nodeOf q)
    (hp : (j.mapPoint r).toNat = q.toNat + i) (hi : i < ws.length) : j.carriedFor r q ws = ws[i]? := by
  unfold Jobs.carriedFor carried
  rw [if_pos hu, if_pos ⟨hn, by omega, by omega⟩, hp, Nat.add_sub_cancel_left]

theorem Jobs.present_iff (j : Jobs) (r : MapRole) : (j.mapStands r && (j.node (j.mapNode r)).state == .active) = true ↔
    j.mapStands r = true ∧ (j.node (j.mapNode r)).state = .active := by
  rw [Bool.and_eq_true, beq_iff_eq]

theorem Jobs.present_not {r : MapRole} (h : j.mapStands r = false ∨ (j.node (j.mapNode r)).state ≠ .active) :
    ¬ (j.mapStands r && (j.node (j.mapNode r)).state == .active) = true := by
  rw [Jobs.present_iff]
  rintro ⟨h1, h2⟩
  rcases h with h | h
  · rw [h1] at h; exact nomatch h
  · exact h h2

/-! ### One pantograph sample (R60 to R69) -/

theorem Jobs.sampled_oc (x : Panto) (p : PantoRec) (j : Jobs) : (j.sampled x p).oc = j.oc := by
  unfold Jobs.sampled
  rw [Jobs.setPanto_oc, Jobs.touchAll_oc]

/-- R67: a pressure below the drop pressure, once contact pressure has been reached. -/
theorem Jobs.evaluate_drop (hs : (j.panto x).state = .raising ∨ (j.panto x).state = .inContact) (hweak : j.sampleWeak x = true)
    (hr : j.sampleReached x = true) :
    (j.evaluate x).panto x = { j.panto x with state := .dropped, cause := some .drop, reached := true } ∧
    (j.evaluate x).oc.hold = false ∧ Flagged .pantoDropped (BitVec.ofNat 16 x.num) (j.evaluate x).out := by
  have hd : (j.sampleReached x && j.sampleWeak x) = true := by rw [hr, hweak]; rfl
  have he : j.evaluate x = (j.sampled x { j.panto x with reached := true }).drop x := by
    rcases hs with hs | hs
    · rw [Jobs.evaluate_raising hs, if_pos hd, hr]
    · rw [Jobs.evaluate_inContact hs, if_pos hd, hr]
  rw [he]
  refine ⟨?_, Jobs.drop_spec x _⟩
  rw [Jobs.drop_panto, Jobs.sampled_panto]

/-- R64: the third sample of contact. -/
theorem Jobs.evaluate_contact (hw : j.tableWf) (hs : (j.panto x).state = .raising)
    (hd : ¬ (j.sampleReached x && j.sampleWeak x) = true) (hup : j.sampleUp x = true) (hhard : j.sampleHard x = true)
    (hn : 2 ≤ (j.panto x).contact) :
    ((j.evaluate x).arcIn x).count = min 255 (j.pantoParam x 9).toNat ∧ ((j.evaluate x).timer x.stepTimer).stopped ∧
    Flagged .pantoContact (BitVec.ofNat 16 x.num) (j.evaluate x).out := by
  have hwords : ∀ p, SameWords j (j.sampled x p) := fun p =>
    ((Still.touchAll _ j).sameWords hw).trans (.of_tm (Jobs.setPanto_tm x p _))
  rw [Jobs.evaluate_raising hs, if_neg hd, if_pos (by rw [hup, hhard]; rfl), if_pos (by omega)]
  obtain ⟨h1, h2, h3⟩ := Jobs.contactMade_spec x
    (j.sampled x { j.panto x with reached := j.sampleReached x, contact := (j.panto x).contact + 1 })
  refine ⟨h1.trans ?_, h2, h3⟩
  unfold Jobs.arcBudget
  rw [(hwords _).pantoParam]

/-- R66: the third sample below contact height. -/
theorem Jobs.evaluate_gone (hs : (j.panto x).state = .inContact) (hd : ¬ (j.sampleReached x && j.sampleWeak x) = true)
    (hdown : j.sampleDown x = true) (hn : 2 ≤ (j.panto x).loss) :
    Flagged .contactLost (BitVec.ofNat 16 x.num) (j.evaluate x).out := by
  rw [Jobs.evaluate_inContact hs, if_neg hd, if_pos hdown, if_pos (by omega)]
  exact Jobs.contactGone_flagged x _

/-! ### Starvation (R7, R27) -/

/-- R7: what the starvation indication makes of the measurement and of the line system. -/
theorem Jobs.starve_spec (hk : k = j.starve) :
    k.lmu = { j.lmu.broken with expected := none, state := .starved } ∧
    k.lsi.confirmed = .unknown ∧ k.lsi.candidate = none ∧ k.lsi.agreement = 0 ∧ k.lsi.settling = false ∧
    (j.lsi.confirmed ≠ .unknown → k.lsi.since = j.tag ∧
      Flagged .systemConfirmed (BitVec.ofNat 16 Line.unknown.code) k.out) ∧
    Flagged .measureStarved 0 k.out := by
  have hlmu := Jobs.breakWindow_lmu j
  have hconf := Jobs.breakWindow_confirmed j
  have htag : j.breakWindow.tag = j.tag := (Held.breakWindow j).tag
  unfold Jobs.clearCrossing at hlmu
  unfold Jobs.starve Jobs.clearCrossing at hk
  unfold ConfirmedOrLost at hconf
  generalize j.breakWindow = b at *
  rw [Jobs.setLmu_lmu] at hlmu
  dsimp only at hk
  rw [Jobs.setLmu_lmu, hlmu] at hk
  have hm : ∀ v w : Lmu, (((b.setLmu v).setLmu w).flag .measureStarved 0).lmu = w ∧
      (((b.setLmu v).setLmu w).flag .measureStarved 0).lsi = b.lsi ∧
      (((b.setLmu v).setLmu w).flag .measureStarved 0).tag = b.tag ∧
      b.out <+: (((b.setLmu v).setLmu w).flag .measureStarved 0).out ∧
      Flagged .measureStarved 0 (((b.setLmu v).setLmu w).flag .measureStarved 0).out := fun v w =>
    ⟨rfl, rfl, rfl, List.prefix_append _ _, Flagged.flag .measureStarved 0 _⟩
  obtain ⟨h1, h2, h3, h4, h5⟩ := hm j.lmu.broken { j.lmu.broken with expected := none, state := .starved }
  generalize ((b.setLmu j.lmu.broken).setLmu { j.lmu.broken with expected := none, state := .starved }).flag .measureStarved 0 = m
    at *
  obtain ⟨e1, e2, e3, e4, e5, e6, e7, e8⟩ := Jobs.lsiStarve_spec hk
  refine ⟨e1.trans h1, e2, e3, e4, e5, fun hne => ?_, h5.of_prefix e6⟩
  rw [h2] at e7 e8
  by_cases hu : b.lsi.confirmed = .unknown
  · rcases hconf with hc | ⟨-, hsince, hflag⟩
    · exact absurd (hc.symm.trans hu) hne
    · exact ⟨(e7 hu).trans hsince, hflag.of_prefix (h4.trans e6)⟩
  · obtain ⟨hsince, hflag⟩ := e8 hu
    exact ⟨hsince.trans (h3.trans htag), hflag⟩

theorem Jobs.starvationExpiry_of (h : (j.timer .t15).owed ≠ []) : j.starvationExpiry =
    if j.lmu.state = .waiting ∨ j.lmu.state = .measuring then (j.takeExpiry .t15).starve else j.takeExpiry .t15 := by
  have hl : (j.takeExpiry .t15).lmu = j.lmu := rfl
  unfold Jobs.starvationExpiry
  rw [if_pos ((Jobs.expired_iff _ j).mpr h)]
  dsimp only
  rw [hl]
  cases hs : j.lmu.state with
  | waiting => exact (if_pos (.inl rfl)).symm
  | measuring => exact (if_pos (.inr rfl)).symm
  | idle => exact (if_neg (by decide)).symm
  | starved => exact (if_neg (by decide)).symm

/-! ### One sample of a frame (R9 to R13) -/

theorem Jobs.hysteresis_eq (j : Jobs) :
    j.hysteresis = ((min 32767 (if j.bad 0x140 then 250 else (j.word 0x140).toNat) : Nat) : Int) := by
  unfold Jobs.hysteresis Jobs.param
  split
  · rfl
  · exact_mod_cast rfl

theorem Lmu.sample_open {h : Int} {w : Word} {l : Lmu} (hn : ¬ 1024 ≤ (l.nextWindow h w).taken) : l.sample h w = l.take h w :=
  if_neg hn

theorem Lmu.sample_closes {h : Int} {w : Word} {l : Lmu} (hn : 1024 ≤ (l.nextWindow h w).taken) :
    l.sample h w = (l.take h w).handed ((l.nextWindow h w).complete l.number) := if_pos hn

/-- R10: the detector and the distance after a sample do not depend on whether it closes the window. -/
theorem Lmu.sample_detector (h : Int) (w : Word) (l : Lmu) :
    (l.sample h w).detector = (detect l.ref h (accumulated w) l.detector).1 ∧
    (l.sample h w).distance = if (detect l.ref h (accumulated w) l.detector).2 then some 0
      else l.distance.map (fun d => min Config.distanceTop (d + 1)) := by
  unfold Lmu.sample
  split <;> exact ⟨rfl, rfl⟩

end Sys2Proof.Machine

open Sys2Proof Sys2Proof.Machine

/-- Settles O59. -/
theorem contactSamples : Obligations.ContactSamples := by
  unfold Obligations.ContactSamples
  refine ⟨?carried, ?measure, ?feedback, ?sample⟩
  case carried =>
    intro j r q payload i
    exact ⟨Jobs.carriedFor_none, Jobs.carriedFor_some⟩
  case measure =>
    intro s h payload f e v hr hf ha he hacc hv
    obtain ⟨u, hends, hm⟩ := State.measure_ends hr hf ha he hacc
    refine ⟨u.jobs, ⟨u, hends, rfl⟩, hm.spared, fun first w rest hp hu hb hq => hm.sampled first w rest hp ⟨hu, hb, hq⟩,
      fun x => ?_, ?_, ?_, ?_, ?_, ?_⟩
    · rw [hm.panto, hv, hv, Jobs.evaluate_panto]
      unfold Jobs.measured
      refine ⟨fun h1 h2 => ?_, fun h => if_pos ?_⟩
      · rw [h1, h2]
        rfl
      · rw [Bool.or_eq_true, Option.isSome_iff_ne_none, Option.isSome_iff_ne_none]
        exact h
    · obtain ⟨h1, h2⟩ := hm.temp
      rw [hv]
      cases hc : s.jobs.carriedFor .roofTemp h.point payload with
      | none => exact h1 hc
      | some w =>
        rw [h2 w hc]
        simp [Jobs.tempUsable]
    · obtain ⟨h1, h2⟩ := hm.probe
      rw [hv]
      cases hc : s.jobs.carriedFor .iceProbe h.point payload with
      | none => exact h1 hc
      | some w =>
        rw [h2 w hc]
        simp [Jobs.probeUsable]
    · rw [hv]
      exact hm.brkRaw
    · rw [hv]
      exact hm.selRaw
    · rw [hv]
      exact hm.earthRaw
  case feedback =>
    intro j
    refine ⟨fun r h => ⟨?_, ?_, ?_⟩, fun h1 h2 => ?_, fun h1 h2 => ?_, fun h1 h2 => ?_⟩
    · rintro rfl
      exact if_neg (Jobs.present_not h)
    · rintro rfl
      exact if_neg (Jobs.present_not h)
    · rintro rfl
      exact if_neg (Jobs.present_not h)
    · exact if_pos ((j.present_iff .brkPos).mpr ⟨h1, h2⟩)
    · unfold Jobs.selNow
      rw [if_pos ((j.present_iff .selPos).mpr ⟨h1, h2⟩)]
      cases j.fb.selRaw with
      | none => rfl
      | some w =>
        show selReading w = _
        unfold selReading
        rw [Option.map_some]
        rcases w.toNat with _ | _ | _ | n <;> rfl
    · exact if_pos ((j.present_iff .earthPos).mpr ⟨h1, h2⟩)
  case sample =>
    intro j x p up down low hard weak hw hp hup hdown hlow hhard hweak
    subst hp
    obtain rfl : up = j.sampleUp x := hup
    obtain rfl : down = j.sampleDown x := hdown
    obtain rfl : low = j.sampleLow x := hlow
    obtain rfl : hard = j.sampleHard x := hhard
    obtain rfl : weak = j.sampleWeak x := hweak
    refine ⟨fun hs => ?_, fun hs hweak hr => Jobs.evaluate_drop hs hweak ?_, fun hs => ?_, fun reached hr hd => ?_⟩
    · refine Jobs.evaluate_other ?_ ?_ ?_ <;> (rcases hs with hs | hs | hs | hs <;> rw [hs] <;> decide)
    · unfold Jobs.sampleReached
      rcases hr with hr | hr <;> simp [hr]
    · rw [Jobs.evaluate_lowering_panto hs]
      unfold Jobs.evaluatedLowering
      refine ⟨fun hlow => ?_, fun hlow => ⟨fun hn => ?_, fun hn => ?_⟩⟩
      · rw [if_neg (by simp [hlow])]
      · rw [if_pos hlow, if_neg (by omega)]
      · rw [if_pos hlow, if_pos (by omega)]
    · obtain rfl : reached = j.sampleReached x := hr
      have hd : ¬ (j.sampleReached x && j.sampleWeak x) = true := by
        rcases hd with hd | hd <;> simp [hd]
      refine ⟨fun hs => ?_, fun hs => ?_⟩
      · rw [Jobs.evaluate_raising_panto hs]
        unfold Jobs.evaluatedRaising
        rw [if_neg hd]
        refine ⟨fun h => ?_, fun hup hhard => ⟨fun hn => ?_, fun hn => ⟨?_, Jobs.evaluate_contact hw hs hd hup hhard hn⟩⟩⟩
        · rw [if_neg (by rcases h with h | h <;> simp [h])]
        · rw [if_pos (by rw [hup, hhard]; rfl), if_neg (by omega)]
        · rw [if_pos (by rw [hup, hhard]; rfl), if_pos (by omega)]
      · rw [Jobs.evaluate_contact_panto hs]
        unfold Jobs.evaluatedContact
        rw [if_neg hd]
        refine ⟨fun hup => ?_, fun hdown => ⟨fun hn => ?_, fun hn => ⟨?_, Jobs.evaluate_gone hs hd hdown hn⟩⟩, fun hup hdown => ?_⟩
        · rw [if_neg (by simp [Jobs.sampleDown_of_up hup]), if_pos hup]
        · rw [if_pos hdown, if_neg (by omega)]
        · rw [if_pos hdown, if_pos (by omega)]
        · rw [if_neg (by simp [hdown]), if_neg (by simp [hup])]

/-- Settles O56. -/
theorem samples : Obligations.Samples := by
  unfold Obligations.Samples
  refine ⟨?measure, ?idle, ?again, ?next, ?gap, ?parts, ?one, ?complete, ?starved⟩
  case measure =>
    intro s h first w rest f e hr hf ha he hacc hu hb hq
    obtain ⟨u, hends, hm⟩ := State.measure_ends hr hf ha he hacc
    refine ⟨u.finish, hends fun p g hg => ?_, ?_⟩
    · obtain ⟨rfl, rfl⟩ := Prod.mk.inj (Option.some.inj hg)
      exact State.atHand_of_answer (hf ▸ ha)
    · obtain ⟨-, hlmu, -⟩ := u.finish_reacts
      exact hlmu.trans (hm.sampled first w rest rfl ⟨hu, hb, hq⟩)
  case idle => exact fun j first ws hs => Jobs.sampleFrame_idle hs first ws
  case again => exact fun j first e ws hs he hd => Jobs.sampleFrame_repeat hs he hd ws
  case next =>
    rintro j first ws win rfl hn
    rw [Jobs.sampleFrame_next hn]
    refine ⟨by rw [Jobs.takeSamples_lmu]; rfl, by rw [Jobs.takeSamples_lmu]; rfl, Jobs.takeSamples_timer first ws j,
      fun hne ht => ?_⟩
    rw [Jobs.takeSamples_lmu]
    obtain ⟨h1, h2, h3, h4, h5, h6, h7⟩ := Lmu.folded_open (h := j.hysteresis) ht
    exact ⟨_, h1 hne, h2, h3, h4, h5, h6, h7⟩
  case gap =>
    intro j first e ws l hw hs he hne hd hnone hsome hl
    have hb : l = j.lmu.broken.expecting .waiting none := by
      have hr : l.number = j.lmu.broken.number ∧ l.last = j.lmu.broken.last := by
        cases hc : j.lmu.window with
        | none =>
          obtain ⟨h1, h2⟩ := hnone hc
          rw [h1, h2]
          unfold Lmu.broken
          rw [hc]
          exact ⟨(BitVec.add_zero _).symm, rfl⟩
        | some win =>
          obtain ⟨h1, h2⟩ := hsome win hc
          rw [h1, h2]
          unfold Lmu.broken
          rw [hc]
          exact ⟨rfl, rfl⟩
      rw [hl, hr.1, hr.2]
      rfl
    rw [Jobs.sampleFrame_gap hs he hne hd]
    refine ⟨?_, ?_, Jobs.takeSamples_timer first ws _⟩
    · exact (Flagged.flag .sampleGap 0 j).held ((Held.gap j).trans (.takeSamples first ws _))
    · have hset : (j.setLmu l).lmu = l ∧ (j.setLmu l).hysteresis = j.hysteresis := ⟨rfl, rfl⟩
      rw [Jobs.takeSamples_lmu, Jobs.gap_hysteresis hw, Jobs.breakWindow_lmu, (Reacts.flag .sampleGap 0 j).lmu,
        Jobs.sampleFrame_next (.inl (by rw [hset.1, hl])), Jobs.takeSamples_lmu, hset.1, hset.2, hb, Lmu.samples_expecting]
  case parts =>
    intro j first a b hw hn
    rw [Jobs.sampleFrame_next hn, Jobs.sampleFrame_next hn]
    have hafter := Jobs.takeSamples_lmu first a j
    have hwords := (Held.takeSamples first a j).sameWords hw
    rw [Jobs.sampleFrame_next (by rw [hafter]; exact .inr (.inr ⟨rfl, rfl⟩)), Jobs.takeSamples_lmu, Jobs.takeSamples_lmu, hafter,
      hwords.hysteresis, Lmu.samples_append]
  case one =>
    intro j first w l win next dist v h crossing hw hn hl hwin hv hh hdist hc
    obtain rfl : v = accumulated w := hv
    obtain rfl : h = j.hysteresis := hh.trans j.hysteresis_eq.symm
    obtain rfl : dist = j.lmu.distance.map (fun d => min Config.distanceTop (d + 1)) := hdist
    rw [← detect_crossing] at hc
    have hlmu : l = (j.lmu.sample j.hysteresis w).expecting .measuring (some (first + toWord 1)) := by
      rw [hl, Jobs.sampleFrame_next hn, Jobs.takeSamples_lmu]
      rfl
    obtain ⟨hdet, hdistance⟩ := j.lmu.sample_detector j.hysteresis w
    have h1 : l.detector = (detect j.lmu.ref j.hysteresis (accumulated w) j.lmu.detector).1 := by rw [hlmu]; exact hdet
    have h2 : l.distance = _ := (congrArg Lmu.distance hlmu).trans hdistance
    refine ⟨fun hv => h1.trans (detect_low hv _), fun ha hb => h1.trans (detect_high ha hb _),
      fun ha hb => h1.trans (detect_between ha hb _), by rw [hc]; exact h2, fun period hp hnext => ?_⟩
    have hperiod : period = j.lmu.period j.hysteresis w := by
      refine Option.ext fun d => ?_
      rw [hp d, Lmu.period_iff, hc]
    have hwindow : next = j.lmu.nextWindow j.hysteresis w := by
      rw [Lmu.nextWindow_eq, hnext, hperiod, hwin]
      congr 1
      unfold overRange
      simp only [Bool.or_eq_true, beq_iff_eq]
    refine ⟨fun ht => ?_, fun ht => ?_⟩
    · rw [hwindow] at ht ⊢
      rw [hlmu, Lmu.sample_open (by omega)]
      exact ⟨rfl, rfl, rfl, rfl⟩
    · rw [hwindow] at ht ⊢
      rw [hlmu, Lmu.sample_closes ht]
      exact ⟨rfl, rfl, rfl, rfl, Jobs.sampleFrame_judged hw hn ht⟩
  case complete =>
    rintro w n r rfl
    exact ⟨rfl, rfl, rfl, rfl⟩
  case starved =>
    intro s hr
    refine ⟨fun h => EndsFrom.work_same hr rfl (if_neg (by rw [Jobs.expired_not h]; decide)), fun h hs => ?_, fun h hs => ?_⟩
    · refine EndsFrom.work hr rfl ?_
      rw [Jobs.starvationExpiry_of h, if_neg (by rcases hs with hs | hs <;> rw [hs] <;> decide)]
    · have hjobs : s.jobs.starvationExpiry = (s.jobs.takeExpiry .t15).starve := by
        rw [Jobs.starvationExpiry_of h, if_pos hs]
      have htake : (s.jobs.takeExpiry .t15).lmu = s.jobs.lmu ∧ (s.jobs.takeExpiry .t15).lsi = s.jobs.lsi ∧
        (s.jobs.takeExpiry .t15).tag = s.jobs.tag := ⟨rfl, rfl, rfl⟩
      obtain ⟨h1, h2, h3, h4, h5, h6, h7⟩ := Jobs.starve_spec (j := s.jobs.takeExpiry .t15) rfl
      rw [htake.1] at h1
      rw [htake.2.1, htake.2.2] at h6
      refine ⟨_, EndsFrom.work hr rfl hjobs, by rw [h1], by rw [h1], by rw [h1]; rfl, by rw [h1]; rfl, by rw [h1]; rfl,
        by rw [h1]; rfl, fun hn => ?_, fun hn => ?_, h2, h3, h4, h5, h6, h7⟩
      · rw [h1]
        unfold Lmu.broken
        rw [hn]
        exact ⟨rfl, BitVec.add_zero _⟩
      · obtain ⟨win, hwin⟩ := Option.ne_none_iff_exists'.mp hn
        rw [h1]
        unfold Lmu.broken
        rw [hwin]
        exact ⟨rfl, _, rfl, rfl, rfl, rfl, rfl⟩

end

section
/-! PROOFS. The heater cycles (R91 to R93): what a phase, a cycle's start and its end make of the cycle, and what they leave
alone. -/

namespace Sys2Proof.Machine

open Sys2Proof

variable {s t u : State} {j k l : Jobs} {x y : Panto} {p : HeatPhase} {n : Nat}

/-! ### The parts of the ice record -/

@[simp] theorem Ice.phase_setPhase (x : Panto) (p : HeatPhase) (c : Ice) : (c.setPhase x p).phase x = p := by cases x <;> rfl

theorem Ice.phase_setPhase_other (h : y ≠ x) (p : HeatPhase) (c : Ice) : (c.setPhase x p).phase y = c.phase y := by
  cases x <;> cases y <;> trivial

theorem Ice.setPhase_setPhase (x : Panto) (p q : HeatPhase) (c : Ice) : (c.setPhase x p).setPhase x q = c.setPhase x q := by
  cases x <;> rfl

theorem Ice.setPhase_phase (x : Panto) (c : Ice) : c.setPhase x (c.phase x) = c := by cases x <;> rfl

/-! ### What a cycle can change -/

/-- `k` is `j` but for the cycle of pantograph `x`, the timers, table memory's bookkeeping and the step's lists. -/
def OnlyCycle (x : Panto) (j k : Jobs) : Prop :=
  k = { j with ice := j.ice.setPhase x (k.ice.phase x), tmr := k.tmr, tm := k.tm, todo := k.todo, out := k.out }

theorem OnlyCycle.refl (x : Panto) (j : Jobs) : OnlyCycle x j j := by
  unfold OnlyCycle
  rw [Ice.setPhase_phase]

theorem OnlyCycle.ice (h : OnlyCycle x j k) : k.ice = j.ice.setPhase x (k.ice.phase x) := congrArg Jobs.ice h

theorem OnlyCycle.trans (h : OnlyCycle x j k) (h' : OnlyCycle x k l) : OnlyCycle x j l := by
  have hi : l.ice = j.ice.setPhase x (l.ice.phase x) := by
    rw [h'.ice, h.ice, Ice.phase_setPhase, Ice.setPhase_setPhase]
  unfold OnlyCycle at *
  rw [← hi]
  rw [h] at h'
  rw [h']

theorem Still.onlyCycle (h : Still j k) (x : Panto) : OnlyCycle x j k := by
  have e := h.rest
  have hi := h.ice
  unfold OnlyCycle
  rw [hi, Ice.setPhase_phase]
  exact e.trans (by rw [← h.tmr])

theorem OnlyCycle.onTimer (x : Panto) (i : TimerId) (f : Timer → Timer) (j : Jobs) : OnlyCycle x j (j.onTimer i f) := by
  unfold OnlyCycle
  rw [show (j.onTimer i f).ice = j.ice from rfl, Ice.setPhase_phase]
  rfl

theorem OnlyCycle.setPhase (x : Panto) (p : HeatPhase) (j : Jobs) : OnlyCycle x j (j.setIce (j.ice.setPhase x p)) := by
  unfold OnlyCycle
  rw [Jobs.setIce_ice, Ice.phase_setPhase]
  rfl

theorem OnlyCycle.supplied (h : OnlyCycle x j k) (y : Panto) : k.supplied y = j.supplied y := by
  unfold OnlyCycle at h
  rw [h]
  cases y <;> rfl

/-! ### A phase (R92, R93) -/

theorem Jobs.loadPhase_only (x : Panto) (p : HeatPhase) (n : Nat) (j : Jobs) : OnlyCycle x j (j.loadPhase x p n) := by
  unfold Jobs.loadPhase
  dsimp only
  split
  · exact (OnlyCycle.setPhase x p j).trans (.onTimer x _ _ _)
  · exact ((OnlyCycle.setPhase x p j).trans (.onTimer x _ _ _)).trans (.onTimer x _ _ _)

theorem Jobs.loadPhase_timers (x : Panto) (p : HeatPhase) (n : Nat) (j : Jobs) : OtherTimers [x.pair] j (j.loadPhase x p n) := by
  unfold Jobs.loadPhase
  dsimp only
  have hset : OtherTimers [x.pair] j (j.setIce (j.ice.setPhase x p)) := .of_tmr rfl
  split
  · exact hset.trans (.onTimer (List.mem_singleton_self _) _ _)
  · exact (hset.trans (.onTimer (List.mem_singleton_self _) _ _)).trans (.onTimer (List.mem_singleton_self _) _ _)

theorem Jobs.loadPhase_spec (hn : 0 < n) (hk : k = j.loadPhase x p n) : k.ice.phase x = p ∧
    (k.timer x.pair).count = n * 1000 ∧ (k.timer x.pair).running = k.supplied x := by
  have honly := Jobs.loadPhase_only x p n j
  rw [← hk] at honly
  rw [honly.supplied]
  have hc : max (n * 1000) 1 = n * 1000 := Nat.max_eq_left (by omega)
  have hs : ((j.setIce (j.ice.setPhase x p)).load x.pair (n * 1000) .oneShot).supplied x = j.supplied x :=
    ((OnlyCycle.setPhase x p j).trans (.onTimer x _ _ _)).supplied x
  subst hk
  unfold Jobs.loadPhase
  dsimp only
  rw [hs]
  cases hsup : j.supplied x with
  | true =>
    rw [if_pos rfl, Jobs.timer_load, if_pos rfl]
    exact ⟨Ice.phase_setPhase x p _, hc, rfl⟩
  | false =>
    rw [if_neg Bool.false_ne_true, Jobs.timer_stop, if_pos rfl, Jobs.timer_load, if_pos rfl]
    exact ⟨Ice.phase_setPhase x p _, hc, rfl⟩

theorem Jobs.restPhase_spec (hk : k = j.restPhase x) : OnlyCycle x j k ∧ OtherTimers [x.pair] j k ∧ k.ice.phase x = .off ∧
    (k.timer x.pair).stopped ∧ (k.timer x.pair).count = 0 := by
  subst hk
  unfold Jobs.restPhase
  refine ⟨(OnlyCycle.setPhase x .off j).trans (.onTimer x _ _ _), ?_, Ice.phase_setPhase x .off _, ?_⟩
  · exact (OtherTimers.of_tmr (j := j) (k := j.setIce (j.ice.setPhase x .off)) rfl).trans
      (.onTimer (List.mem_singleton_self _) _ _)
  · rw [Jobs.timer_onTimer, if_pos rfl]
    exact Timer.stopped_clear _

theorem Jobs.endCycle_spec (hk : k = j.endCycle x) : OnlyCycle x j k ∧ k.ice.phase x = .idle ∧
    (k.timer x.pair).stopped ∧ (k.timer x.pair).count = 0 := by
  subst hk
  unfold Jobs.endCycle
  refine ⟨(OnlyCycle.setPhase x .idle j).trans (.onTimer x _ _ _), Ice.phase_setPhase x .idle _, ?_⟩
  rw [Jobs.timer_onTimer, if_pos rfl]
  exact Timer.stopped_clear _

/-- R92: the on-time of the heating level in seconds. -/
def Jobs.onTime (j : Jobs) : Nat := (j.iceParam (heatWords j.ice.level).1).toNat

/-- R92: the off-time of the heating level in seconds. -/
def Jobs.offTime (j : Jobs) : Nat := (j.iceParam (heatWords j.ice.level).2).toNat

/-- The roof jobs once the two times of the heating level have been read. -/
def Jobs.timesRead (j : Jobs) : Jobs := j.touchIce [(heatWords j.ice.level).1, (heatWords j.ice.level).2]

theorem Jobs.timesRead_still (j : Jobs) : Still j j.timesRead := .touchIce j _

theorem Jobs.nextPhase_true (x : Panto) (j : Jobs) : j.nextPhase x true =
    if 0 < j.onTime then j.timesRead.loadPhase x .on j.onTime
    else if 0 < j.offTime then j.timesRead.loadPhase x .off j.offTime else j.timesRead.restPhase x := rfl

theorem Jobs.nextPhase_false (x : Panto) (j : Jobs) : j.nextPhase x false =
    if 0 < j.offTime then j.timesRead.loadPhase x .off j.offTime
    else if 0 < j.onTime then j.timesRead.loadPhase x .on j.onTime else j.timesRead.restPhase x := rfl

theorem Jobs.nextPhase_cases (x : Panto) (b : Bool) (j : Jobs) :
    (0 < j.onTime ∧ j.nextPhase x b = j.timesRead.loadPhase x .on j.onTime) ∨
    (0 < j.offTime ∧ j.nextPhase x b = j.timesRead.loadPhase x .off j.offTime) ∨
    (j.onTime = 0 ∧ j.offTime = 0 ∧ j.nextPhase x b = j.timesRead.restPhase x) := by
  cases b with
  | true =>
    rw [Jobs.nextPhase_true]
    by_cases hon : 0 < j.onTime
    · exact .inl ⟨hon, if_pos hon⟩
    · by_cases hoff : 0 < j.offTime
      · exact .inr (.inl ⟨hoff, by rw [if_neg hon, if_pos hoff]⟩)
      · exact .inr (.inr ⟨by omega, by omega, by rw [if_neg hon, if_neg hoff]⟩)
  | false =>
    rw [Jobs.nextPhase_false]
    by_cases hoff : 0 < j.offTime
    · exact .inr (.inl ⟨hoff, if_pos hoff⟩)
    · by_cases hon : 0 < j.onTime
      · exact .inl ⟨hon, by rw [if_neg hoff, if_pos hon]⟩
      · exact .inr (.inr ⟨by omega, by omega, by rw [if_neg hoff, if_neg hon]⟩)

theorem Jobs.nextPhase_only (x : Panto) (b : Bool) (j : Jobs) :
    OnlyCycle x j (j.nextPhase x b) ∧ OtherTimers [x.pair] j (j.nextPhase x b) ∧ (j.nextPhase x b).ice.phase x ≠ .idle := by
  have hs := j.timesRead_still
  rcases j.nextPhase_cases x b with ⟨hn, h⟩ | ⟨hn, h⟩ | ⟨-, -, h⟩
  · rw [h, (Jobs.loadPhase_spec hn rfl).1]
    exact ⟨(hs.onlyCycle x).trans (Jobs.loadPhase_only x _ _ _), .still hs (Jobs.loadPhase_timers x _ _ _), by decide⟩
  · rw [h, (Jobs.loadPhase_spec hn rfl).1]
    exact ⟨(hs.onlyCycle x).trans (Jobs.loadPhase_only x _ _ _), .still hs (Jobs.loadPhase_timers x _ _ _), by decide⟩
  · obtain ⟨h1, h2, h3, -⟩ := Jobs.restPhase_spec (j := j.timesRead) (x := x) rfl
    rw [h, h3]
    exact ⟨(hs.onlyCycle x).trans h1, .still hs h2, by decide⟩

/-- R92: a cycle starts. -/
theorem Jobs.startCycle_started (x : Panto) (j : Jobs) : Started x j.onTime j.offTime (j.startCycle x) := by
  unfold Jobs.startCycle
  rw [Jobs.nextPhase_true]
  refine ⟨fun hon => ?_, fun hon hoff => ?_, fun hon hoff => ?_⟩
  · rw [if_pos hon]
    exact Jobs.loadPhase_spec hon rfl
  · rw [if_neg (by omega), if_pos hoff]
    exact Jobs.loadPhase_spec hoff rfl
  · rw [if_neg (by omega), if_neg (by omega)]
    exact (Jobs.restPhase_spec rfl).2.2

/-! ### A cycle follows the heated set and the supply (R91, R93) -/

theorem Jobs.supplyCycle_only (x : Panto) (j : Jobs) : OnlyCycle x j (j.supplyCycle x) := by
  unfold Jobs.supplyCycle
  split
  · exact .refl x j
  · split
    · split
      · exact .refl x j
      · exact .onTimer x _ _ j
    · split
      · exact .onTimer x _ _ j
      · exact .refl x j

theorem Jobs.supplyCycle_ice (x : Panto) (j : Jobs) : (j.supplyCycle x).ice = j.ice := by
  unfold Jobs.supplyCycle
  split
  · rfl
  · split
    · split <;> rfl
    · split <;> rfl

/-- R93: without supply the pair stands. -/
theorem Jobs.supplyCycle_without (hp : j.ice.phase x ≠ .idle) (hs : j.supplied x = false) (hk : k = j.supplyCycle x) :
    (k.timer x.pair).running = false ∧
    ((j.timer x.pair).owed = [] → (k.timer x.pair).count = (j.timer x.pair).count) := by
  subst hk
  unfold Jobs.supplyCycle
  rw [if_neg hp, hs, if_neg Bool.false_ne_true]
  split
  · rw [Jobs.timer_stop, if_pos rfl]
    exact ⟨rfl, fun h => if_pos h⟩
  · rename_i hrun
    rw [Bool.or_eq_true, not_or, Bool.not_eq_true] at hrun
    exact ⟨hrun.1, fun _ => rfl⟩

/-- R93: with supply the pair runs. -/
theorem Jobs.supplyCycle_with (hp : j.ice.phase x ≠ .idle) (hs : j.supplied x = true) (hk : k = j.supplyCycle x) :
    (k.timer x.pair).count = (j.timer x.pair).count ∧ (0 < (j.timer x.pair).count → (k.timer x.pair).running = true) := by
  subst hk
  unfold Jobs.supplyCycle
  rw [if_neg hp, hs, if_pos rfl]
  split
  · rename_i hrun
    exact ⟨rfl, fun _ => hrun⟩
  · rw [Jobs.timer_onTimer, if_pos rfl]
    unfold Timer.run
    split
    · rename_i hc
      exact ⟨rfl, fun h => by omega⟩
    · exact ⟨rfl, fun _ => rfl⟩

theorem Jobs.followCycle_away (hh : j.heated x = false) (hp : j.ice.phase x = .idle) : j.followCycle x = j := by
  unfold Jobs.followCycle
  rw [if_neg (by simp [hh]), if_pos hp]

theorem Jobs.followCycle_ends (hh : j.heated x = false) (hp : j.ice.phase x ≠ .idle) : j.followCycle x = j.endCycle x := by
  unfold Jobs.followCycle
  rw [if_neg (by simp [hh]), if_neg hp]

theorem Jobs.followCycle_starts (hh : j.heated x = true) (hp : j.ice.phase x = .idle) : j.followCycle x = j.startCycle x := by
  unfold Jobs.followCycle
  rw [if_pos hh, if_pos hp]

theorem Jobs.followCycle_goes (hh : j.heated x = true) (hp : j.ice.phase x ≠ .idle) : j.followCycle x = j.supplyCycle x := by
  unfold Jobs.followCycle
  rw [if_pos hh, if_neg hp]

theorem OnlyCycle.followCycle (x : Panto) (j : Jobs) : OnlyCycle x j (j.followCycle x) := by
  unfold Jobs.followCycle
  split
  · split
    · exact (Jobs.nextPhase_only x true j).1
    · exact Jobs.supplyCycle_only x j
  · split
    · exact .refl x j
    · exact (Jobs.endCycle_spec rfl).1

theorem OnlyCycle.restartCycle (x : Panto) (j : Jobs) : OnlyCycle x j (j.restartCycle x) := by
  unfold Jobs.restartCycle
  split
  · exact .refl x j
  · exact (Jobs.nextPhase_only x true j).1

/-! ### The heated set, the supply and the heaters -/

theorem Jobs.heated_iff (x : Panto) (j : Jobs) : j.heated x = true ↔
    (j.ice.mode = .heat ∨ j.ice.mode = .scrape) ∧ (j.panto x).role = .collector ∨
      j.ice.mode = .scrape ∧ j.ice.scraper = some x := by
  unfold Jobs.heated
  cases j.ice.mode <;> simp

theorem Jobs.supplied_iff (x : Panto) (j : Jobs) : j.supplied x = true ↔
    j.fb.brk = .closed ∧ ((j.panto x).state = .raising ∨ (j.panto x).state = .inContact) := by
  simp [Jobs.supplied]

theorem Jobs.heaterOn_iff (x : Panto) (j : Jobs) : j.heaterOn x = true ↔
    j.heated x = true ∧ j.ice.phase x = .on ∧ j.supplied x = true := by
  simp [Jobs.heaterOn, and_assoc]

/-! ### Both cycles -/

/-- `k` is `j` but for the heater cycles, the timers, table memory's bookkeeping and the step's lists. -/
def OnlyCycles (j k : Jobs) : Prop :=
  k = { j with ice := (j.ice.setPhase .p1 (k.ice.phase .p1)).setPhase .p2 (k.ice.phase .p2), tmr := k.tmr, tm := k.tm,
               todo := k.todo, out := k.out }

theorem OnlyCycles.ice (h : OnlyCycles j k) : k.ice = (j.ice.setPhase .p1 (k.ice.phase .p1)).setPhase .p2 (k.ice.phase .p2) :=
  congrArg Jobs.ice h

theorem OnlyCycles.trans (h : OnlyCycles j k) (h' : OnlyCycles k l) : OnlyCycles j l := by
  have hi : l.ice = (j.ice.setPhase .p1 (l.ice.phase .p1)).setPhase .p2 (l.ice.phase .p2) := by
    rw [h'.ice, h.ice]
    rfl
  unfold OnlyCycles at *
  rw [← hi]
  rw [h] at h'
  rw [h']

theorem OnlyCycle.cycles (h : OnlyCycle x j k) : OnlyCycles j k := by
  have hi : k.ice = (j.ice.setPhase .p1 (k.ice.phase .p1)).setPhase .p2 (k.ice.phase .p2) := by
    rw [h.ice]
    cases x <;> rfl
  have hx := h.ice
  unfold OnlyCycles
  rw [← hi]
  unfold OnlyCycle at h
  rwa [← hx] at h

theorem Still.onlyCycles (h : Still j k) : OnlyCycles j k := (h.onlyCycle .p1).cycles

theorem OnlyCycles.panto (h : OnlyCycles j k) (x : Panto) : k.panto x = j.panto x := by
  unfold OnlyCycles at h
  rw [h]
  cases x <;> rfl

theorem OnlyCycles.heated (h : OnlyCycles j k) (x : Panto) : k.heated x = j.heated x := by
  refine Bool.eq_iff_iff.mpr ?_
  rw [Jobs.heated_iff, Jobs.heated_iff, h.panto, h.ice]
  exact Iff.rfl

end Sys2Proof.Machine

end

section
/-! PROOFS. The mode of the Ice Clearing Controller (R86 to R90, R94, R95, R97): the choice, its request (O39), the watch
and the suspension. -/

namespace Sys2Proof.Machine

open Sys2Proof

variable {s t u : State} {i j k l : Jobs} {x y : Panto} {m back : IceMode}

/-! ### The permissions (R86) -/

theorem Jobs.confirmedEntry_any (j : Jobs) (p : Fin 8 → Bool) : j.confirmedEntry.any p = true ↔
    ∃ e, j.lsi.confirmed = .system e ∧ j.lineUsable e = true ∧ p e = true := by
  unfold Jobs.confirmedEntry
  cases j.lsi.confirmed with
  | system e => cases hu : j.lineUsable e <;> simp [Line.index, Option.filter, hu]
  | _ => simp [Line.index]

theorem Jobs.heatPermitted_iff (j : Jobs) : j.heatPermitted = true ↔ bit (j.param 0x180 0) 15 = true ∧
    ∃ e, j.lsi.confirmed = .system e ∧ j.lineUsable e = true ∧ j.lineHeat e = true := by
  unfold Jobs.heatPermitted Jobs.iceValid
  rw [Bool.and_eq_true, Jobs.confirmedEntry_any]

theorem Jobs.leading_any (j : Jobs) (p : Panto → Bool) : j.leading.any p = true ↔ ∃ x, j.leading = some x ∧ p x = true := by
  cases j.leading <;> simp

theorem Jobs.scrapeConditions_iff (j : Jobs) : j.scrapeConditions = true ↔
    bit (j.param 0x180 0) 15 = true ∧ bit (j.param 0x180 0) 0 = true ∧
    (∃ e, j.lsi.confirmed = .system e ∧ j.lineUsable e = true ∧ j.lineScrape e = true) ∧
    j.speed.known = true ∧ j.speed.aged = false ∧ j.speed.kmh ≤ (j.iceParam 13).toNat ∧
    (j.cs.state = .idle ∨ j.cs.state = .armed) ∧ j.oc.lowerAll = false ∧
    ∃ x, j.leading = some x ∧ (j.panto x).role ≠ .collector ∧ (j.pantoNode x).state = .active := by
  unfold Jobs.scrapeConditions Jobs.scrapePermitted Jobs.scrapeSpeed Jobs.scrapeEnabled Jobs.iceValid SpeedRec.isKnown
  simp only [Bool.and_eq_true, Bool.not_eq_true', decide_eq_true_iff, CsState.resting_iff, Jobs.confirmedEntry_any,
    Jobs.leading_any, bne_iff_ne, beq_iff_eq, and_assoc]

theorem Jobs.mustSuspend_iff (j : Jobs) : j.mustSuspend = true ↔
    (j.cs.state ≠ .idle ∧ j.cs.state ≠ .armed) ∨ j.oc.lowerAll = true := by
  unfold Jobs.mustSuspend
  rw [Bool.or_eq_true, Bool.not_eq_true', ← Bool.not_eq_true, CsState.resting_iff, not_or]

/-! ### What the choice goes by -/

/-- The mode choice on `j` goes by what it would go by on `i`. -/
structure SameChoice (i j : Jobs) : Prop where
  words : SameWords i j
  confirmed : j.lsi.confirmed = i.lsi.confirmed
  speed : j.speed = i.speed
  cs : j.cs.state = i.cs.state
  lowerAll : j.oc.lowerAll = i.oc.lowerAll
  nodes : j.nodes = i.nodes
  panto : ∀ x, j.panto x = i.panto x
  mode : j.ice.mode = i.ice.mode
  scraper : j.ice.scraper = i.ice.scraper

theorem Still.sameChoice (h : Still j k) (hw : j.tableWf) : SameChoice j k :=
  ⟨h.sameWords hw, by rw [h.lsi], h.speed, by rw [h.cs], by rw [h.oc], h.nodes, h.panto, by rw [h.ice], by rw [h.ice]⟩

theorem SameChoice.trans (h : SameChoice i j) (h' : SameChoice j k) : SameChoice i k :=
  ⟨h.words.trans h'.words, h'.confirmed.trans h.confirmed, h'.speed.trans h.speed, h'.cs.trans h.cs,
    h'.lowerAll.trans h.lowerAll, h'.nodes.trans h.nodes, fun x => (h'.panto x).trans (h.panto x), h'.mode.trans h.mode,
    h'.scraper.trans h.scraper⟩

section
variable (h : SameChoice i j)
include h

theorem SameChoice.pantoNode (x : Panto) : j.pantoNode x = i.pantoNode x := by
  unfold Jobs.pantoNode Jobs.node
  rw [h.words.mapNode, h.nodes]

theorem SameChoice.iceValid : j.iceValid = i.iceValid := h.words.iceValid

theorem SameChoice.confirmedEntry : j.confirmedEntry = i.confirmedEntry := by
  unfold Jobs.confirmedEntry
  simp only [h.confirmed, h.words.lineUsable]

theorem SameChoice.heatPermitted : j.heatPermitted = i.heatPermitted := by
  unfold Jobs.heatPermitted
  simp only [h.iceValid, h.confirmedEntry, h.words.lineHeat]

theorem SameChoice.fallback : j.fallback = i.fallback := by
  unfold Jobs.fallback
  rw [h.heatPermitted]

theorem SameChoice.leading : j.leading = i.leading := by
  unfold Jobs.leading
  rw [h.speed]

theorem SameChoice.scrapeSpeed : j.scrapeSpeed = i.scrapeSpeed := by
  unfold Jobs.scrapeSpeed
  rw [h.speed, h.words.iceParam]

theorem SameChoice.scrapePermitted : j.scrapePermitted = i.scrapePermitted := by
  unfold Jobs.scrapePermitted Jobs.scrapeEnabled
  simp only [h.iceValid, h.confirmedEntry, h.words.lineScrape, h.words.param]

theorem SameChoice.scrapeConditions : j.scrapeConditions = i.scrapeConditions := by
  unfold Jobs.scrapeConditions
  simp only [h.scrapePermitted, h.scrapeSpeed, h.cs, h.lowerAll, h.leading, h.panto, h.pantoNode]

theorem SameChoice.raiseAnswer (x : Panto) (r : Role) (b : Asker) : j.raiseAnswer x r b = i.raiseAnswer x r b := by
  unfold Jobs.raiseAnswer
  simp only [h.panto, h.lowerAll, h.words.raisable, h.pantoNode, h.cs]

theorem SameChoice.chosen {p : Policy} {v : IceLevel} {b : Bool} (hc : Chosen p v b j k) : Chosen p v b i k := by
  unfold Chosen at *
  simp only [h.heatPermitted, h.scrapeConditions, h.mode, h.leading, h.raiseAnswer, h.scraper, h.panto] at hc
  exact hc

end

/-! ### Cycles that follow (R91, R93) -/

/-- R91, R93: the cycle of pantograph `x` has followed the heated set and the supply. -/
def Follows (x : Panto) (k : Jobs) : Prop :=
  (k.heated x = false → k.ice.phase x = .idle) ∧ (k.heated x = true → k.ice.phase x ≠ .idle) ∧
  (k.ice.phase x ≠ .idle → k.supplied x = false → (k.timer x.pair).running = false)

theorem Started.running {on off : Nat} (h : Started x on off k) (hs : k.supplied x = false) :
    (k.timer x.pair).running = false := by
  obtain ⟨h1, h2, h3⟩ := h
  by_cases hon : 0 < on
  · rw [(h1 hon).2.2, hs]
  · by_cases hoff : 0 < off
    · rw [(h2 (by omega) hoff).2.2, hs]
    · exact (h3 (by omega) (by omega)).2.1.1

theorem Follows.followCycle (x : Panto) (j : Jobs) : Follows x (j.followCycle x) := by
  have honly := OnlyCycle.followCycle x j
  have hheated := honly.cycles.heated x
  have hsup := honly.supplied x
  by_cases hp : j.ice.phase x = .idle
  · cases hh : j.heated x with
    | false =>
      rw [Jobs.followCycle_away hh hp]
      exact ⟨fun _ => hp, fun h => (by rw [hh] at h; exact nomatch h), fun h => absurd hp h⟩
    | true =>
      have hn := (Jobs.nextPhase_only x true j).2.2
      rw [Jobs.followCycle_starts hh hp] at *
      exact ⟨fun h => (by rw [hheated, hh] at h; exact nomatch h), fun _ => hn,
        fun _ hs => (Jobs.startCycle_started x j).running hs⟩
  · cases hh : j.heated x with
    | false =>
      obtain ⟨-, h1, -⟩ := Jobs.endCycle_spec (j := j) (x := x) rfl
      rw [Jobs.followCycle_ends hh hp] at *
      exact ⟨fun _ => h1, fun h => (by rw [hheated, hh] at h; exact nomatch h), fun h => absurd h1 h⟩
    | true =>
      have hi := Jobs.supplyCycle_ice x j
      rw [Jobs.followCycle_goes hh hp] at *
      refine ⟨fun h => (by rw [hheated, hh] at h; exact nomatch h), fun _ => by rw [hi]; exact hp, fun _ hs => ?_⟩
      exact (Jobs.supplyCycle_without hp (hsup.symm.trans hs) rfl).1

theorem Jobs.followCycle_timers (x : Panto) (j : Jobs) : OtherTimers [x.pair] j (j.followCycle x) := by
  unfold Jobs.followCycle
  split
  · split
    · exact (Jobs.nextPhase_only x true j).2.1
    · unfold Jobs.supplyCycle
      split
      · exact .refl _ _
      · split
        · split
          · exact .refl _ _
          · exact .onTimer (List.mem_singleton_self _) _ j
        · split
          · exact .onTimer (List.mem_singleton_self _) _ j
          · exact .refl _ _
  · split
    · exact .refl _ _
    · exact (OtherTimers.of_tmr (j := j) (k := j.setIce (j.ice.setPhase x .idle)) rfl).trans
        (.onTimer (List.mem_singleton_self _) _ _)

theorem pair_ne (h : x ≠ y) : x.pair ∉ [y.pair] := by
  cases x <;> cases y <;> first | exact absurd rfl h | decide

theorem OnlyCycle.phase_other (h : OnlyCycle y j k) (hn : x ≠ y) : k.ice.phase x = j.ice.phase x := by
  rw [h.ice, Ice.phase_setPhase_other hn]

theorem Follows.other (h : Follows x j) (hn : x ≠ y) (honly : OnlyCycle y j k) (ht : OtherTimers [y.pair] j k) : Follows x k := by
  unfold Follows at *
  rwa [honly.cycles.heated, honly.supplied, honly.phase_other hn, ht _ (pair_ne hn)]

theorem Jobs.heated_still (h : Still j k) (x : Panto) : k.heated x = j.heated x := h.onlyCycles.heated x

theorem Follows.still (h : Follows x j) (hs : Still j k) : Follows x k := by
  unfold Follows at *
  rwa [Jobs.heated_still hs, (hs.onlyCycle x).supplied, hs.ice, hs.timer]

/-- Both cycles, one after the other. -/
theorem Follows.both (j : Jobs) (x : Panto) : Follows x ((j.followCycle .p1).followCycle .p2) := by
  cases x with
  | p1 => exact (Follows.followCycle .p1 j).other (by decide) (.followCycle .p2 _) (Jobs.followCycle_timers .p2 _)
  | p2 => exact .followCycle .p2 _

/-! ### What work on the mode leaves alone -/

/-- The timers that a change of the mode can reach: those of the pantographs and of their cycles. -/
def modeTimers : List TimerId := [.t2, .t3, .t4, .t5, .t67, .t89, .t11, .t12]

/-- Work on the mode: of the ice record it can change the mode, the scraper, scrape barred and the cycles; the clock's
other timers stand. -/
structure ModeWork (j k : Jobs) : Prop where
  ice : k.ice = { j.ice with mode := k.ice.mode, scraper := k.ice.scraper, barred := k.ice.barred,
                             phase1 := k.ice.phase1, phase2 := k.ice.phase2 }
  timers : OtherTimers modeTimers j k

theorem ModeWork.refl (j : Jobs) : ModeWork j j := ⟨rfl, .refl _ _⟩

theorem ModeWork.trans (h : ModeWork j k) (h' : ModeWork k l) : ModeWork j l :=
  ⟨by rw [h'.ice, h.ice], h.timers.trans h'.timers⟩

theorem Still.modeWork (h : Still j k) : ModeWork j k := ⟨by rw [h.ice], .of_tmr h.tmr⟩

theorem ModeWork.setIce (m : IceMode) (o : Option Panto) (b : Bool) (j : Jobs) :
    ModeWork j (j.setIce { j.ice with mode := m, scraper := o, barred := b }) := ⟨rfl, .of_tmr rfl⟩

theorem ModeWork.followCycle (x : Panto) (j : Jobs) : ModeWork j (j.followCycle x) := by
  refine ⟨?_, fun i hi => Jobs.followCycle_timers x j i fun hm => hi ?_⟩
  · rw [(OnlyCycle.followCycle x j).ice]
    cases x <;> rfl
  · rw [List.mem_singleton.mp hm]
    cases x <;> decide

theorem lowerTimers_mem (x : Panto) : x.stepTimer ∈ modeTimers ∧ x.arcTimer ∈ modeTimers ∧ x.settleTimer ∈ modeTimers := by
  cases x <;> decide

theorem ModeWork.lower (x : Panto) (j : Jobs) : ModeWork j (j.lower x) := by
  refine ⟨by rw [Jobs.lower_ice], fun i hi => ?_⟩
  obtain ⟨h1, h2, h3⟩ := lowerTimers_mem x
  by_cases hr : (j.panto x).state.raised = true
  · rw [Jobs.lower_timer x j i hr, if_neg (fun h : i = _ => hi (h ▸ h1)), if_neg (fun h : i = _ => hi (h ▸ h2)),
      if_neg (fun h : i = _ => hi (h ▸ h3))]
  · rw [Jobs.lower_of_not (by simpa using hr)]

/-! ### Leaving a mode (R88) -/

theorem Jobs.dropScraper_ice (j : Jobs) : j.dropScraper.ice = { j.ice with scraper := none } := by
  unfold Jobs.dropScraper
  cases hs : j.ice.scraper with
  | none =>
    dsimp only
    rw [← hs]
  | some x =>
    dsimp only
    rw [Jobs.setIce_ice, Jobs.lower_ice]

theorem Jobs.dropScraper_panto (j : Jobs) (y : Panto) : j.dropScraper.panto y =
    if j.ice.scraper = some y ∧ (j.panto y).state.raised = true then { j.panto y with state := .lowering, low := 0 }
    else j.panto y := by
  unfold Jobs.dropScraper
  cases hs : j.ice.scraper with
  | none =>
    dsimp only
    rw [if_neg (by simp)]
  | some x =>
    show (j.lower x).panto y = _
    rw [Jobs.lower_panto]
    by_cases hy : y = x
    · subst hy
      simp
    · rw [if_neg fun h => hy h.1, if_neg fun h => hy (Option.some.inj h.1).symm]

theorem ModeWork.dropScraper (j : Jobs) : ModeWork j j.dropScraper := by
  unfold Jobs.dropScraper
  split
  · exact (ModeWork.lower _ j).trans (.setIce (j.lower _).ice.mode none (j.lower _).ice.barred _)
  · exact .refl j

/-- R88: the cycles have followed the new mode. -/
theorem Jobs.setMode_cycles (m : IceMode) (j : Jobs) : OnlyCycles (j.setIce { j.ice with mode := m }) (j.setMode m) := by
  unfold Jobs.setMode
  exact (((OnlyCycle.followCycle .p1 _).cycles.trans (OnlyCycle.followCycle .p2 _).cycles).trans
    (Still.flag _ _ _).onlyCycles).trans (Still.setTodo _ _).onlyCycles

theorem Jobs.setMode_follows (m : IceMode) (j : Jobs) (x : Panto) : Follows x (j.setMode m) := by
  unfold Jobs.setMode
  exact ((Follows.both _ x).still (.flag _ _ _)).still (.setTodo _ _)

theorem ModeWork.setMode (m : IceMode) (j : Jobs) : ModeWork j (j.setMode m) := by
  unfold Jobs.setMode
  exact ((((ModeWork.setIce m j.ice.scraper j.ice.barred j).trans (.followCycle .p1 _)).trans (.followCycle .p2 _)).trans
    (Still.flag _ _ _).modeWork).trans (Still.setTodo _ _).modeWork

theorem Jobs.setMode_spec (hk : k = j.setMode m) : k.ice.mode = m ∧ k.ice.scraper = j.ice.scraper ∧ k.ice.barred = j.ice.barred ∧
    (∀ x, k.panto x = j.panto x) ∧ Flagged .iceMode (BitVec.ofNat 16 m.code) k.out := by
  have hc := Jobs.setMode_cycles m j
  rw [← hk] at hc
  have hi := hc.ice
  refine ⟨by rw [hi]; rfl, by rw [hi]; rfl, by rw [hi]; rfl, fun x => ?_, ?_⟩
  · rw [hc.panto]
    cases x <;> rfl
  · rw [hk]
    unfold Jobs.setMode
    exact Flagged.flag _ _ _

theorem Jobs.leaveTo_same (h : j.ice.mode = m) : j.leaveTo m = j := if_pos h
theorem Jobs.leaveTo_other (h : j.ice.mode ≠ m) : j.leaveTo m = j.dropScraper.setMode m := if_neg h

theorem ModeWork.leaveTo (m : IceMode) (j : Jobs) : ModeWork j (j.leaveTo m) := by
  unfold Jobs.leaveTo
  split
  · exact .refl j
  · exact (ModeWork.dropScraper j).trans (.setMode m _)

/-- R88: the mode after a change to another mode than SCRAPE, and the scraper then. -/
theorem Jobs.leaveTo_spec (hk : k = j.leaveTo m) : k.ice.mode = m ∧ k.ice.barred = j.ice.barred ∧
    (j.ice.mode = m → k = j) ∧
    (j.ice.mode ≠ m → k.ice.scraper = none ∧ Flagged .iceMode (BitVec.ofNat 16 m.code) k.out ∧ (∀ x, Follows x k) ∧
      ∀ x, j.ice.scraper = some x → (j.panto x).state.raised = true → (k.panto x).state = .lowering) := by
  by_cases hm : j.ice.mode = m
  · rw [Jobs.leaveTo_same hm] at hk
    subst hk
    exact ⟨hm, rfl, fun _ => rfl, fun h => absurd hm h⟩
  · rw [Jobs.leaveTo_other hm] at hk
    have hf : ∀ x, Follows x k := fun x => hk ▸ Jobs.setMode_follows m _ x
    obtain ⟨h1, h2, h3, h4, h5⟩ := Jobs.setMode_spec hk
    rw [Jobs.dropScraper_ice] at h2 h3
    refine ⟨h1, h3, fun h => absurd h hm, fun _ => ⟨h2, h5, hf, fun x hx hr => ?_⟩⟩
    rw [h4, Jobs.dropScraper_panto, if_pos ⟨hx, hr⟩]

/-! ### The choice (R87 to R89) -/

theorem Jobs.fallback_ne (j : Jobs) : j.fallback ≠ .scrape ∧ j.fallback ≠ .suspended := by
  unfold Jobs.fallback
  split <;> decide

theorem Jobs.scrapeAdmissible_iff (j : Jobs) : j.scrapeAdmissible = true ↔ j.scrapeConditions = true ∧ j.ice.barred = false := by
  unfold Jobs.scrapeAdmissible
  rw [Bool.and_eq_true, Bool.not_eq_true']

theorem Jobs.modeChosen_scrape (j : Jobs) : j.modeChosen = .scrape ↔
    (j.ice.policy = .scrape ∨ j.ice.policy = .auto ∧ j.ice.level = .heavy) ∧ j.scrapeConditions = true ∧ j.ice.barred = false := by
  rw [← Jobs.scrapeAdmissible_iff]
  unfold Jobs.modeChosen
  have hf := j.fallback_ne.1
  cases j.ice.policy with
  | scrape => cases j.scrapeAdmissible <;> simp [hf]
  | auto => cases j.ice.level <;> cases j.scrapeAdmissible <;> simp [hf]
  | off => simp
  | heat => simp [hf]

theorem Jobs.modeChosen_else (h : j.modeChosen ≠ .scrape) : j.modeChosen =
    if j.ice.policy = .off ∨ j.ice.policy = .auto ∧ j.ice.level = .none then .off else j.fallback := by
  unfold Jobs.modeChosen at *
  cases hp : j.ice.policy with
  | scrape => cases ha : j.scrapeAdmissible <;> simp_all
  | auto => cases hl : j.ice.level <;> cases ha : j.scrapeAdmissible <;> simp_all
  | off => simp
  | heat => simp

theorem Jobs.touchPermits_still (j : Jobs) : Still j j.touchPermits := by
  have hc := (Still.touchIce j [13]).trans (Still.touchConfirmed (j.touchIce [13]))
  unfold Jobs.touchPermits
  dsimp only
  split
  · exact hc.trans (.touchAll _ _)
  · exact hc

/-- R88, R89: a choice of SCRAPE whose raise is accepted. -/
theorem Jobs.enterScrape_accepted (hm : j.ice.mode ≠ .scrape) (hl : j.leading = some x)
    (ha : j.raiseAnswer x .scraper .ic = .accepted) : j.enterScrape =
      ((j.raise x .scraper .ic).2.setIce { j.ice with scraper := some x }).setMode .scrape := by
  have hfst : j.raise x .scraper .ic = (.accepted, (j.raise x .scraper .ic).2) := Prod.ext ha rfl
  unfold Jobs.enterScrape
  rw [if_neg hm]
  dsimp only
  rw [hl]
  dsimp only
  rw [hfst]
  dsimp only
  rw [Jobs.raise_ice]

/-- R89: a choice of SCRAPE whose raise is refused. -/
theorem Jobs.enterScrape_refused (hm : j.ice.mode ≠ .scrape) (hl : j.leading = some x)
    (ha : j.raiseAnswer x .scraper .ic ≠ .accepted) : j.enterScrape = (j.touchRaise x).scraperRefused j.fallback := by
  unfold Jobs.enterScrape
  rw [if_neg hm]
  dsimp only
  rw [hl]
  dsimp only
  rw [Jobs.raise_refused ha]
  generalize j.raiseAnswer x .scraper .ic = a at ha
  cases a with
  | accepted => exact absurd rfl ha
  | _ => rfl

theorem Jobs.choose_scrape (h : j.modeChosen = .scrape) : j.choose = j.touchPermits.enterScrape := if_pos h
theorem Jobs.choose_else (h : j.modeChosen ≠ .scrape) : j.choose = j.touchPermits.leaveTo j.modeChosen := if_neg h

theorem Jobs.scraperRefused_spec (hk : k = j.scraperRefused m) : k.ice.mode = m ∧ k.ice.barred = true ∧
    (j.ice.mode = m → k = j.setIce { j.ice with barred := true }) ∧
    (j.ice.mode ≠ m → k.ice.scraper = none ∧ Flagged .iceMode (BitVec.ofNat 16 m.code) k.out ∧
      ∀ x, j.ice.scraper = some x → (j.panto x).state.raised = true → (k.panto x).state = .lowering) := by
  have hp : ∀ y, (j.setIce { j.ice with barred := true }).panto y = j.panto y := fun y => by cases y <;> rfl
  obtain ⟨h1, h2, h3, h4⟩ := Jobs.leaveTo_spec (j := j.setIce { j.ice with barred := true }) (m := m) hk
  refine ⟨h1, h2, h3, fun hm => ?_⟩
  obtain ⟨e1, e2, -, e3⟩ := h4 hm
  refine ⟨e1, e2, fun x hx hr => e3 x hx ?_⟩
  rwa [hp]

/-- R87 to R89: the mode choice. -/
theorem Jobs.choose_chosen (hw : j.tableWf) : Chosen j.ice.policy j.ice.level j.ice.barred j j.choose := by
  have hs := j.touchPermits_still
  have hsame := hs.sameChoice hw
  intro scrapes back hback hscr
  obtain rfl : back = j.fallback := hback
  rw [← Jobs.modeChosen_scrape] at hscr
  by_cases hc : j.modeChosen = .scrape
  · have ht := hscr.mpr hc
    have hb : j.ice.barred = false := (j.modeChosen_scrape.mp hc).2.2
    rw [Jobs.choose_scrape hc]
    by_cases hm : j.ice.mode = .scrape
    · have he : j.touchPermits.enterScrape = j.touchPermits := if_pos (by rw [hs.ice]; exact hm)
      rw [he, hs.ice]
      exact ⟨fun h => (by rw [ht] at h; exact nomatch h), fun _ _ => ⟨hm, hb⟩, fun _ h => absurd hm h, fun _ => rfl,
        fun h => absurd rfl h⟩
    · obtain ⟨-, -, -, -, -, -, -, -, x, hx, -⟩ := j.scrapeConditions_iff.mp (j.modeChosen_scrape.mp hc).2.1
      have hm' : j.touchPermits.ice.mode ≠ .scrape := by rw [hs.ice]; exact hm
      have hx' : j.touchPermits.leading = some x := hsame.leading.trans hx
      have hans := hsame.raiseAnswer x .scraper .ic
      by_cases ha : j.raiseAnswer x .scraper .ic = .accepted
      · rw [Jobs.enterScrape_accepted hm' hx' (hans.trans ha)]
        obtain ⟨h1, h2, h3, h4, h5⟩ := Jobs.setMode_spec
          (j := (j.touchPermits.raise x .scraper .ic).2.setIce { j.touchPermits.ice with scraper := some x }) (m := .scrape) rfl
        have hr := (Jobs.raise_accepted (hans.trans ha) (by decide)).1
        refine ⟨fun h => (by rw [ht] at h; exact nomatch h), fun _ h => absurd h hm, fun _ _ y hy => ⟨fun _ => ?_, fun h => ?_⟩,
          fun h => absurd (h.symm.trans h1) hm, fun _ => ⟨by rw [h1]; exact h5, fun h => absurd h1 h⟩⟩
        · obtain rfl := Option.some.inj (hy.symm.trans hx)
          refine ⟨h1, h2, ?_, ?_⟩
          · rw [h3]
            show j.touchPermits.ice.barred = false
            rw [hs.ice]
            exact hb
          · rw [h4]
            have hset : ∀ (a : Jobs) (v : Ice), (a.setIce v).panto y = a.panto y := fun a v => by cases y <;> rfl
            rw [hset]
            exact hr
        · obtain rfl := Option.some.inj (hy.symm.trans hx)
          exact absurd ha h
      · rw [Jobs.enterScrape_refused hm' hx' (by rwa [hans]), hsame.fallback]
        have hraise := Jobs.touchRaise_still x j.touchPermits
        obtain ⟨h1, h2, h3, h4⟩ := Jobs.scraperRefused_spec (j := j.touchPermits.touchRaise x) (m := j.fallback) rfl
        rw [hraise.ice, hs.ice] at h3 h4
        refine ⟨fun h => (by rw [ht] at h; exact nomatch h), fun _ h => absurd h hm, fun _ _ y hy => ⟨fun h => ?_, fun _ => ⟨h1, h2⟩⟩,
          fun h => ?_, fun h => ?_⟩
        · obtain rfl := Option.some.inj (hy.symm.trans hx)
          exact absurd h ha
        · rw [h3 (h.symm.trans h1)]
          rfl
        · obtain ⟨e1, e2, e3⟩ := h4 fun hc => h (h1.trans hc.symm)
          refine ⟨by rw [h1]; exact e2, fun _ => ⟨e1, fun y hy hr => e3 y hy ?_⟩⟩
          rwa [hraise.panto, hs.panto]
  · have ht : scrapes = false := Bool.eq_false_iff.mpr fun h => hc (hscr.mp h)
    have hm := Jobs.modeChosen_else hc
    rw [Jobs.choose_else hc]
    obtain ⟨h1, h2, h3, h4⟩ := Jobs.leaveTo_spec (j := j.touchPermits) (m := j.modeChosen) rfl
    rw [hs.ice] at h2 h3 h4
    refine ⟨fun _ => ⟨h2, h1.trans hm⟩, fun h => (by rw [ht] at h; exact nomatch h), fun h => (by rw [ht] at h; exact nomatch h),
      fun h => ?_, fun h => ?_⟩
    · rw [h3 (h.symm.trans h1), hs.ice]
    · obtain ⟨e1, e2, -, e3⟩ := h4 fun hc => h (h1.trans hc.symm)
      refine ⟨by rw [h1]; exact e2, fun _ => ⟨e1, fun y hy hr => e3 y hy ?_⟩⟩
      rwa [hs.panto]

/-- A choice comes to OFF, HEAT or SCRAPE. -/
theorem Jobs.choose_mode (j : Jobs) : j.choose.ice.mode ≠ .suspended := by
  by_cases hc : j.modeChosen = .scrape
  · rw [Jobs.choose_scrape hc]
    by_cases hm : j.touchPermits.ice.mode = .scrape
    · rw [show j.touchPermits.enterScrape = j.touchPermits from if_pos hm, hm]
      decide
    · unfold Jobs.enterScrape
      rw [if_neg hm]
      dsimp only
      split
      · rw [(Jobs.leaveTo_spec rfl).1]
        exact (Jobs.fallback_ne _).2
      · split
        · rw [(Jobs.setMode_spec rfl).1]
          decide
        · rw [(Jobs.scraperRefused_spec rfl).1]
          exact (Jobs.fallback_ne _).2
  · rw [Jobs.choose_else hc, (Jobs.leaveTo_spec rfl).1, Jobs.modeChosen_else hc]
    split
    · decide
    · exact j.fallback_ne.2

theorem ModeWork.scraperRefused (m : IceMode) (j : Jobs) : ModeWork j (j.scraperRefused m) := by
  unfold Jobs.scraperRefused
  exact (ModeWork.setIce j.ice.mode j.ice.scraper true j).trans (.leaveTo m _)

theorem ModeWork.raise (x : Panto) (r : Role) (b : Asker) (j : Jobs) : ModeWork j (j.raise x r b).2 :=
  ⟨by rw [Jobs.raise_ice], fun i hi => Jobs.raise_timer x r b j i fun h => hi (h ▸ (lowerTimers_mem x).2.2)⟩

theorem ModeWork.enterScrape (j : Jobs) : ModeWork j j.enterScrape := by
  unfold Jobs.enterScrape
  split
  · exact .refl j
  · dsimp only
    split
    · exact .leaveTo _ j
    · rename_i x _
      have hr := ModeWork.raise x .scraper .ic j
      split
      · rename_i m hm
        rw [hm] at hr
        exact (hr.trans (.setIce m.ice.mode (some x) m.ice.barred m)).trans (.setMode _ _)
      · rename_i m _ hm
        rw [hm] at hr
        exact hr.trans (.scraperRefused _ _)

theorem ModeWork.choose (j : Jobs) : ModeWork j j.choose := by
  have hs := j.touchPermits_still.modeWork
  unfold Jobs.choose
  dsimp only
  split
  · exact hs.trans (.enterScrape _)
  · exact hs.trans (.leaveTo _ _)

end Sys2Proof.Machine

end

section
/-! PROOFS. REQUEST ICE_MODE (O39). -/

namespace Sys2Proof.Machine

open Sys2Proof

variable {s t u : State} {i j k l : Jobs}

theorem policyOf_none {n : Nat} (h : 3 < n) : policyOf n = none := by
  obtain ⟨m, rfl⟩ := Nat.exists_eq_add_of_lt h
  rw [show 3 + m + 1 = m + 4 by omega]
  rfl

/-- The roof jobs with the policy `p` taken, SCRAPE lifting the bar (R97). -/
def Jobs.withPolicy (p : Policy) (j : Jobs) : Jobs :=
  j.setIce { j.ice with policy := p, barred := if p = .scrape then false else j.ice.barred }

theorem Jobs.requestIceMode_suspended {arg : Byte} {p : Policy} (hp : policyOf arg.toNat = some p)
    (hs : j.ice.mode = .suspended) : j.requestIceMode arg =
      if p = .auto ∨ p = .off then (.accepted, j.setIce { j.ice with policy := p }) else (.busy, j) := by
  unfold Jobs.requestIceMode
  rw [hp]
  exact if_pos hs

theorem Jobs.requestIceMode_chooses {arg : Byte} {p : Policy} (hp : policyOf arg.toNat = some p)
    (hs : j.ice.mode ≠ .suspended) : j.requestIceMode arg =
      (if p = .heat ∧ (j.withPolicy p).choose.ice.mode ≠ .heat ∨ p = .scrape ∧ (j.withPolicy p).choose.ice.mode ≠ .scrape then
        .state else .accepted, (j.withPolicy p).choose) := by
  unfold Jobs.requestIceMode
  rw [hp]
  dsimp only
  rw [if_neg hs]
  unfold Jobs.withPolicy
  dsimp only
  generalize (Jobs.setIce _ j).choose = k
  cases p with
  | heat => cases hm : k.ice.mode <;> simp
  | scrape => cases hm : k.ice.mode <;> simp
  | _ => rfl

theorem Jobs.withPolicy_same (p : Policy) (j : Jobs) : SameChoice j (j.withPolicy p) :=
  ⟨.of_tm rfl, rfl, rfl, rfl, rfl, rfl, fun x => by cases x <;> rfl, rfl, rfl⟩

/-- R97: the choice under a policy just taken. -/
theorem Jobs.withPolicy_chosen (p : Policy) (hw : j.tableWf) :
    (j.withPolicy p).choose.ice.policy = p ∧ (j.withPolicy p).choose.ice.level = j.ice.level ∧
    Chosen p j.ice.level (if p = .scrape then false else j.ice.barred) j (j.withPolicy p).choose := by
  have hi := (ModeWork.choose (j.withPolicy p)).ice
  refine ⟨by rw [hi]; rfl, by rw [hi]; rfl, (Jobs.withPolicy_same p j).chosen ?_⟩
  exact Jobs.choose_chosen (j := j.withPolicy p) hw

end Sys2Proof.Machine

open Sys2Proof Sys2Proof.Machine

/-- Settles O39. -/
theorem iceModeRequests : Obligations.IceModeRequests := by
  unfold Obligations.IceModeRequests
  refine ⟨fun j => ⟨j.heatPermitted_iff, j.scrapeConditions_iff⟩, ?_⟩
  intro s h arg extra f ht hf
  subst hf
  have hrun := ht.1
  have hstill : Still s.jobs (s.after (requestFrame h 10 arg extra)) := State.after_spec _ s
  have hwf := State.after_wf (requestFrame h 10 arg extra) s hrun.1.2
  have hans {a : Answer} {j : Jobs} (e : (s.after (requestFrame h 10 arg extra)).requestIceMode arg = (a, j)) :
      Answers (.iceMode h arg extra) (requestFrame h 10 arg extra) 10 a j s := Answers.request ht rfl rfl e
  refine ⟨fun ha => hans ?_, fun p hp => ?_⟩
  · unfold Jobs.requestIceMode
    rw [policyOf_none ha]
  · have hpol : policyOf arg.toNat = some p := by
      rcases hp with ⟨rfl, rfl⟩ | ⟨rfl, rfl⟩ | ⟨rfl, rfl⟩ | ⟨rfl, rfl⟩ <;> rfl
    refine ⟨fun hs => ⟨fun h => hans ?_, fun h => hans ?_⟩, fun hs => ?_⟩
    · rw [Jobs.requestIceMode_suspended hpol (by rw [hstill.ice]; exact hs), if_pos h, hstill.ice]
    · rw [Jobs.requestIceMode_suspended hpol (by rw [hstill.ice]; exact hs), if_neg (by rcases h with rfl | rfl <;> decide)]
    · obtain ⟨h1, h2, h3⟩ := Jobs.withPolicy_chosen p hwf
      refine ⟨_, h1, h2.trans (by rw [hstill.ice]), ?_,
        hans (Jobs.requestIceMode_chooses hpol (by rw [hstill.ice]; exact hs))⟩
      rw [hstill.ice] at h3
      exact (hstill.sameChoice hrun.1.2.1).chosen h3

end

section
/-! PROOFS. Heater expiry, suspension, the watch of SCRAPE, and how a step leaves the Ice Clearing Controller (R90 to R95,
O54). -/

namespace Sys2Proof.Machine

open Sys2Proof

variable {s t u : State} {i j k l : Jobs} {x y : Panto}

/-! ### The pair expires (R92) -/

theorem Jobs.takeExpiry_cycle (x : Panto) (j : Jobs) : OnlyCycle x j (j.takeExpiry x.pair) ∧
    OtherTimers [x.pair] j (j.takeExpiry x.pair) :=
  ⟨.onTimer x _ _ j, .onTimer (List.mem_singleton_self _) _ j⟩

theorem Jobs.heaterExpiry_of (h : (j.timer x.pair).owed ≠ []) :
    (j.ice.phase x = .idle → j.heaterExpiry x = j.takeExpiry x.pair) ∧
    (j.ice.phase x = .on → j.heaterExpiry x = (j.takeExpiry x.pair).nextPhase x false) ∧
    (j.ice.phase x = .off → j.heaterExpiry x = (j.takeExpiry x.pair).nextPhase x true) := by
  have hi : (j.takeExpiry x.pair).ice = j.ice := rfl
  unfold Jobs.heaterExpiry
  rw [if_pos ((Jobs.expired_iff _ j).mpr h)]
  dsimp only
  rw [hi]
  refine ⟨fun hp => ?_, fun hp => ?_, fun hp => ?_⟩ <;> rw [hp]

theorem Jobs.takeExpiry_times (i : TimerId) (j : Jobs) :
    (j.takeExpiry i).onTime = j.onTime ∧ (j.takeExpiry i).offTime = j.offTime := ⟨rfl, rfl⟩

/-! ### Suspension (R94, R95) -/

theorem Jobs.suspendIfMust_of (h : j.mustSuspend = true) : j.suspendIfMust = j.leaveTo .suspended := if_pos h

theorem Jobs.suspension_must (h : j.mustSuspend = true) : j.suspension = j.leaveTo .suspended :=
  (if_pos h).trans (Jobs.suspendIfMust_of h)

theorem Jobs.suspension_none (h : j.mustSuspend = false) (hm : j.ice.mode ≠ .suspended) : j.suspension = j := by
  unfold Jobs.suspension
  rw [if_neg (by simp [h]), if_neg hm]

theorem Jobs.suspension_ends (h : j.mustSuspend = false) (hm : j.ice.mode = .suspended) : j.suspension = j.endSuspension := by
  unfold Jobs.suspension
  rw [if_neg (by simp [h]), if_pos hm]

/-- R91, R94: a suspended mode heats nothing. -/
theorem Jobs.heated_suspended (h : j.ice.mode = .suspended) (x : Panto) : j.heated x = false := by
  unfold Jobs.heated
  rw [h]

/-- The roof jobs as the choice at the end of a suspension finds them (R95). -/
def Jobs.ended (j : Jobs) : Jobs :=
  j.setIce { j.ice with barred := j.ice.barred || (j.ice.callsForScrape && j.leadingMadeCollector), made := none }

theorem Jobs.endSuspension_eq (j : Jobs) : j.endSuspension = j.ended.choose := rfl

theorem Jobs.ended_same (j : Jobs) : SameChoice j j.ended :=
  ⟨.of_tm rfl, rfl, rfl, rfl, rfl, rfl, fun x => by cases x <;> rfl, rfl, rfl⟩

theorem Jobs.madeCollector_iff (j : Jobs) : (j.ice.callsForScrape && j.leadingMadeCollector) = true ↔
    (j.ice.policy = .scrape ∨ j.ice.policy = .auto ∧ j.ice.level = .heavy) ∧
    ∃ x, j.leading = some x ∧ j.ice.made = some x ∧ (j.panto x).role = .collector := by
  unfold Ice.callsForScrape Jobs.leadingMadeCollector
  simp only [Bool.and_eq_true, Bool.or_eq_true, beq_iff_eq, Jobs.leading_any]

/-- R95: the end of a suspension. -/
theorem Jobs.endSuspension_chosen (hw : j.tableWf) {made : Bool} (hm : made = true ↔
    (j.ice.policy = .scrape ∨ j.ice.policy = .auto ∧ j.ice.level = .heavy) ∧
      ∃ x, j.leading = some x ∧ j.ice.made = some x ∧ (j.panto x).role = .collector) :
    Chosen j.ice.policy j.ice.level (j.ice.barred || made) j j.endSuspension ∧ j.endSuspension.ice.made = none := by
  have hmade : made = (j.ice.callsForScrape && j.leadingMadeCollector) := by
    rw [Bool.eq_iff_iff, hm, Jobs.madeCollector_iff]
  rw [Jobs.endSuspension_eq]
  refine ⟨j.ended_same.chosen ?_, ?_⟩
  · rw [hmade]
    exact Jobs.choose_chosen (j := j.ended) hw
  · rw [(ModeWork.choose j.ended).ice]
    rfl

/-- R94, R95: after its rules of suspension the mode is SUSPENDED exactly where a cause of it holds. -/
theorem Jobs.suspension_iff (j : Jobs) : j.suspension.ice.mode = .suspended ↔ j.mustSuspend = true := by
  cases hm : j.mustSuspend with
  | true =>
    rw [Jobs.suspension_must hm, (Jobs.leaveTo_spec rfl).1]
    exact ⟨fun _ => rfl, fun _ => rfl⟩
  | false =>
    by_cases hs : j.ice.mode = .suspended
    · rw [Jobs.suspension_ends hm hs, Jobs.endSuspension_eq]
      exact ⟨fun h => absurd h (Jobs.choose_mode _), fun h => (nomatch h)⟩
    · rw [Jobs.suspension_none hm hs]
      exact ⟨fun h => absurd h hs, fun h => (nomatch h)⟩

/-! ### The watch (R90) -/

theorem Jobs.scraperLost_iff (j : Jobs) : j.scraperLost = true ↔
    ∃ x, j.ice.scraper = some x ∧ (j.panto x).state.raised = false := by
  unfold Jobs.scraperLost
  cases j.ice.scraper <;> simp

theorem Jobs.watchFails_iff (j : Jobs) : j.watchFails = true ↔
    j.speed.known = false ∨ j.speed.aged = true ∨ (j.iceParam 13).toNat < j.speed.kmh ∨ j.scrapePermitted = false ∨
      j.leading ≠ j.ice.scraper ∨ ∃ x, j.ice.scraper = some x ∧ (j.pantoNode x).state ≠ .active := by
  have hspeed : j.scrapeSpeed = false ↔
      j.speed.known = false ∨ j.speed.aged = true ∨ (j.iceParam 13).toNat < j.speed.kmh := by
    unfold Jobs.scrapeSpeed SpeedRec.isKnown
    rw [Bool.and_eq_false_iff, Bool.and_eq_false_iff, Bool.not_eq_false', decide_eq_false_iff_not, Nat.not_le, or_assoc]
  have hnode : j.ice.scraper.any (fun x => (j.pantoNode x).state != .active) = true ↔
      ∃ x, j.ice.scraper = some x ∧ (j.pantoNode x).state ≠ .active := by
    cases j.ice.scraper <;> simp
  unfold Jobs.watchFails
  rw [Bool.or_eq_true, Bool.or_eq_true, Bool.or_eq_true, hnode, Bool.not_eq_true', hspeed, Bool.not_eq_true', bne_iff_ne]
  simp only [or_assoc]

theorem Jobs.watch_other (h : j.ice.mode ≠ .scrape) : j.watch = j := if_neg h

theorem Jobs.watch_of (h : j.ice.mode = .scrape) : j.watch = if j.scraperLost then j.touchPermits.scraperRefused j.fallback
    else if j.watchFails then j.touchPermits.leaveTo j.fallback else j.touchPermits := if_pos h

/-- R90: the conditions that SCRAPE is watched for. -/
def Jobs.scrapesRightly (j : Jobs) : Prop := j.scrapePermitted = true ∧ j.scrapeSpeed = true ∧ j.leading = j.ice.scraper ∧
  ∀ x, j.ice.scraper = some x → (j.panto x).state.raised = true ∧ (j.pantoNode x).state = .active

theorem Jobs.scrapesRightly_of (hl : j.scraperLost = false) (hf : j.watchFails = false) : j.scrapesRightly := by
  unfold Jobs.watchFails at hf
  simp only [Bool.or_eq_false_iff, Bool.not_eq_false', bne_eq_false_iff_eq] at hf
  obtain ⟨⟨⟨hspeed, hperm⟩, hlead⟩, hnode⟩ := hf
  unfold Jobs.scraperLost at hl
  refine ⟨hperm, hspeed, hlead, fun x hx => ?_⟩
  rw [hx] at hl hnode
  simpa using And.intro hl hnode

theorem SameChoice.scrapesRightly (h : SameChoice i j) : j.scrapesRightly ↔ i.scrapesRightly := by
  unfold Jobs.scrapesRightly
  simp only [h.scrapePermitted, h.scrapeSpeed, h.leading, h.scraper, h.panto, h.pantoNode]

/-- R90: what the watch comes to. -/
theorem Jobs.watch_mode (hw : j.tableWf) : (j.watch.ice.mode = .suspended ↔ j.ice.mode = .suspended) ∧
    (j.watch.ice.mode = .scrape → j.watch.scrapesRightly) := by
  have hs := j.touchPermits_still
  by_cases hm : j.ice.mode = .scrape
  · rw [Jobs.watch_of hm]
    have hne : ¬ j.ice.mode = .suspended := by rw [hm]; decide
    obtain ⟨hb1, hb2⟩ := j.fallback_ne
    cases hl : j.scraperLost with
    | true =>
      rw [if_pos rfl, (Jobs.scraperRefused_spec rfl).1]
      exact ⟨iff_of_false hb2 hne, fun h => absurd h hb1⟩
    | false =>
      rw [if_neg Bool.false_ne_true]
      cases hf : j.watchFails with
      | true =>
        rw [if_pos rfl, (Jobs.leaveTo_spec rfl).1]
        exact ⟨iff_of_false hb2 hne, fun h => absurd h hb1⟩
      | false =>
        rw [if_neg Bool.false_ne_true, hs.ice]
        exact ⟨Iff.rfl, fun _ => (hs.sameChoice hw).scrapesRightly.mpr (Jobs.scrapesRightly_of hl hf)⟩
  · rw [Jobs.watch_other hm]
    exact ⟨Iff.rfl, fun h => absurd h hm⟩

/-! ### How a step leaves the controller -/

/-- R90 to R94: the mode follows the causes of suspension and the watch, and the cycles the heated set and the supply. -/
structure IceFollows (j : Jobs) : Prop where
  suspended : j.ice.mode = .suspended ↔ j.mustSuspend = true
  scrapes : j.ice.mode = .scrape → j.scrapesRightly
  cycles : ∀ x, Follows x j

/-- `j` has all that the ice controller's mode and cycles are judged by as `i` has it. -/
structure SameIce (i j : Jobs) : Prop where
  choice : SameChoice i j
  ice : j.ice = i.ice
  fb : j.fb = i.fb
  tmr : j.tmr = i.tmr

theorem SameChoice.mustSuspend (h : SameChoice i j) : j.mustSuspend = i.mustSuspend := by
  unfold Jobs.mustSuspend
  rw [h.cs, h.lowerAll]

theorem SameIce.follows (h : SameIce i j) (hf : Follows x i) : Follows x j := by
  have hh : j.heated x = i.heated x := by
    rw [Bool.eq_iff_iff, Jobs.heated_iff, Jobs.heated_iff, h.ice, h.choice.panto]
  have hs : j.supplied x = i.supplied x := by
    rw [Bool.eq_iff_iff, Jobs.supplied_iff, Jobs.supplied_iff, h.fb, h.choice.panto]
  unfold Follows at *
  rwa [hh, hs, h.ice, Jobs.timer_of_tmr h.tmr]

theorem IceFollows.same (hf : IceFollows i) (h : SameIce i j) : IceFollows j where
  suspended := by rw [h.ice, h.choice.mustSuspend]; exact hf.suspended
  scrapes hm := h.choice.scrapesRightly.mpr (hf.scrapes (by rwa [h.ice] at hm))
  cycles x := h.follows (hf.cycles x)

theorem OnlyCycles.sameChoice (h : OnlyCycles j k) (hw : SameWords j k) : SameChoice j k := by
  have hp := h.panto
  have hi := h.ice
  unfold OnlyCycles at h
  exact ⟨hw, by rw [h], by rw [h], by rw [h], by rw [h], by rw [h], hp, by rw [hi]; rfl, by rw [hi]; rfl⟩

theorem Jobs.ocFollow_sameIce (earth : EarthFb) (j : Jobs) : SameIce j (j.ocFollow earth) := by
  obtain ⟨he, -, -, -, -, hlower, -⟩ := Jobs.ocFollow_spec earth j _ rfl
  have htm : (j.ocFollow earth).tm = j.tm := (congrArg Jobs.tm he :)
  refine ⟨⟨.of_tm htm, ?_, ?_, ?_, hlower, ?_, fun x => ?_, ?_, ?_⟩, ?_, ?_, ?_⟩
  · exact (congrArg (fun m => m.lsi.confirmed) he :)
  · exact (congrArg Jobs.speed he :)
  · exact (congrArg (fun m => m.cs.state) he :)
  · exact (congrArg Jobs.nodes he :)
  · rw [he]
    cases x <;> rfl
  · exact (congrArg (fun m => m.ice.mode) he :)
  · exact (congrArg (fun m => m.ice.scraper) he :)
  · exact (congrArg Jobs.ice he :)
  · exact (congrArg Jobs.fb he :)
  · exact (congrArg Jobs.tmr he :)

theorem Jobs.ocReact_sameIce (j : Jobs) : SameIce j j.ocReact := Jobs.ocFollow_sameIce _ j
theorem Jobs.ocSync_sameIce (j : Jobs) : SameIce j j.ocSync := Jobs.ocFollow_sameIce _ j

/-- The ice controller never touches what a suspension goes by. -/
theorem Jobs.suspension_mustSuspend (j : Jobs) : j.suspension.mustSuspend = j.mustSuspend := by
  have h := Bystands.suspension j
  unfold Jobs.mustSuspend
  rw [h.cs, h.held.lowerAll]

theorem Jobs.watch_mustSuspend (j : Jobs) : j.watch.mustSuspend = j.mustSuspend := by
  have h := Bystands.watch j
  unfold Jobs.mustSuspend
  rw [h.cs, h.held.lowerAll]

/-- R90 to R94: the level rules end with the mode and the cycles as their rules have them. -/
theorem Jobs.iceLevels_follows (hw : j.tableWf) : IceFollows j.iceLevels := by
  unfold Jobs.iceLevels
  have w0 : j.iceInputs.ocReact.tableWf := ((Held.iceInputs j).trans (.ocReact _)).tableWf hw
  generalize j.iceInputs.ocReact = a at *
  have h1 := a.suspension_iff
  rw [← a.suspension_mustSuspend] at h1
  have w1 : a.suspension.tableWf := (Held.suspension a).tableWf w0
  generalize a.suspension = b at *
  have hb := b.ocReact_sameIce
  have w2 : b.ocReact.tableWf := (Held.ocReact b).tableWf w1
  have h2 : b.ocReact.ice.mode = .suspended ↔ b.ocReact.mustSuspend = true := by rw [hb.ice, hb.choice.mustSuspend]; exact h1
  generalize b.ocReact = c at *
  obtain ⟨h3, h4⟩ := Jobs.watch_mode w2
  rw [h2, ← c.watch_mustSuspend] at h3
  have w3 : c.watch.tableWf := (Held.watch c).tableWf w2
  generalize c.watch = d at *
  have hd := d.ocReact_sameIce
  have w4 : d.ocReact.tableWf := (Held.ocReact d).tableWf w3
  have h5 : d.ocReact.ice.mode = .suspended ↔ d.ocReact.mustSuspend = true := by rw [hd.ice, hd.choice.mustSuspend]; exact h3
  have h6 : d.ocReact.ice.mode = .scrape → d.ocReact.scrapesRightly := fun hm =>
    hd.choice.scrapesRightly.mpr (h4 (by rwa [hd.ice] at hm))
  generalize d.ocReact = e at *
  have hcycles := (OnlyCycle.followCycle .p1 e).cycles.trans (OnlyCycle.followCycle .p2 (e.followCycle .p1)).cycles
  have hwords := ((Held.followCycle .p1 e).trans (.followCycle .p2 _)).sameWords w4
  have hsame := hcycles.sameChoice hwords
  refine ⟨?_, fun hm => hsame.scrapesRightly.mpr (h6 (by rwa [hsame.mode] at hm)), Follows.both e⟩
  rw [hsame.mode, hsame.mustSuspend]
  exact h5

theorem Jobs.levels_follows (hw : j.tableWf) : IceFollows j.levels := by
  have hf : Held j ((j.followed.lowerBlind .p1).lowerBlind .p2) := by
    unfold Jobs.followed
    exact ((((Held.lostEntries j).trans (.syncFeedback _)).trans (.ocReact _)).trans (.ocSync _)).trans
      ((Held.lowerBlind .p1 _).trans (.lowerBlind .p2 _))
  rw [Jobs.levels_eq]
  exact Jobs.iceLevels_follows (hf.tableWf hw)

theorem IceFollows.pump (h : IceFollows j) (hw : j.tableWf) (hr : j.dev = .run) (n : Nat) : IceFollows (j.pump n) := by
  induction n generalizing j with
  | zero => exact h.same ⟨(Still.setTodo [] j).sameChoice hw, rfl, rfl, rfl⟩
  | succ n ih =>
    rw [Jobs.pump]
    split
    · exact h
    · rename_i c rest _
      have ha := Held.answer c (j.setTodo rest)
      refine ih ?_ (ha.tableWf hw) (ha.dev.trans hr)
      unfold Jobs.answer
      rw [if_pos (show (j.setTodo rest).dev = .run from hr)]
      exact Jobs.levels_follows (((Held.ocReact _).trans (.react c _)).tableWf (j := j.setTodo rest) hw)

/-- R90 to R95: after a step in which something changed in RUN, the ice controller's rules hold. -/
theorem Jobs.settle_follows (hw : j.tableWf) (hr : j.dev = .run) (ht : j.todo ≠ []) : IceFollows j.settle := by
  obtain ⟨c, rest, ht⟩ := List.exists_cons_of_ne_nil ht
  have ha := Held.answer c (j.setTodo rest)
  have hf : IceFollows ((j.setTodo rest).answer c) := by
    unfold Jobs.answer
    rw [if_pos (show (j.setTodo rest).dev = .run from hr)]
    exact Jobs.levels_follows (((Held.ocReact _).trans (.react c _)).tableWf (j := j.setTodo rest) hw)
  have hpump : j.pump 64 = ((j.setTodo rest).answer c).pump 63 := by
    rw [Jobs.pump, ht]
  unfold Jobs.settle
  rw [hpump]
  exact (hf.pump (ha.tableWf hw) (ha.dev.trans hr) 63).same (Jobs.ocSync_sameIce _)

/-- R90 to R95: what the end of a step leaves the ice controller with. -/
theorem State.finish_follows (hs : StoresWf u) (hr : u.jobs.dev = .run) (ht : u.jobs.todo ≠ []) : IceFollows u.finish.jobs := by
  obtain ⟨hd, -, -, hj⟩ := State.finish_spec u
  have hw : u.jobs.settle.tableWf := (Held.settle u.jobs).tableWf hs.1
  have hwords : SameWords u.jobs.settle u.finish.jobs := hd.jobs.sameWords hw
  refine (Jobs.settle_follows hs.1 hr ht).same ?_
  refine ⟨⟨hwords, ?_, ?_, ?_, ?_, ?_, fun x => ?_, ?_, ?_⟩, ?_, ?_, ?_⟩
  · exact (congrArg (fun m => m.lsi.confirmed) hj :)
  · exact (congrArg Jobs.speed hj :)
  · exact (congrArg (fun m => m.cs.state) hj :)
  · exact (congrArg (fun m => m.oc.lowerAll) hj :)
  · exact (congrArg Jobs.nodes hj :)
  · exact congrArg (Jobs.panto x) hj |>.trans (by cases x <;> rfl)
  · exact (congrArg (fun m => m.ice.mode) hj :)
  · exact (congrArg (fun m => m.ice.scraper) hj :)
  · exact (congrArg Jobs.ice hj :)
  · exact (congrArg Jobs.fb hj :)
  · exact (congrArg Jobs.tmr hj :)

end Sys2Proof.Machine

end

section
/-! PROOFS. The ice assessment (R83 to R85, R92, R105), and the Ice Clearing Controller's timers (O54). -/

namespace Sys2Proof.Machine

open Sys2Proof

variable {s t u : State} {i j k l : Jobs} {x y : Panto} {on off : Nat}

/-! ### A cycle as at its start, its supply apart (R92) -/

/-- R92: the cycle of pantograph `x` is as at its start, but that its pair need not yet follow the supply. -/
def Primed (x : Panto) (on off : Nat) (k : Jobs) : Prop :=
  (0 < on → k.ice.phase x = .on ∧ (k.timer x.pair).count = on * 1000) ∧
  (on = 0 → 0 < off → k.ice.phase x = .off ∧ (k.timer x.pair).count = off * 1000) ∧
  (on = 0 → off = 0 → k.ice.phase x = .off ∧ (k.timer x.pair).stopped ∧ (k.timer x.pair).count = 0) ∧
  (k.timer x.pair).owed = []

theorem Started.primed (h : Started x on off k) (ho : (k.timer x.pair).owed = []) : Primed x on off k := by
  obtain ⟨h1, h2, h3⟩ := h
  exact ⟨fun hn => ⟨(h1 hn).1, (h1 hn).2.1⟩, fun ha hb => ⟨(h2 ha hb).1, (h2 ha hb).2.1⟩, h3, ho⟩

/-- R93: a cycle just started, once it has followed the supply. -/
theorem Primed.supplyCycle (h : Primed x on off j) (hp : j.ice.phase x ≠ .idle) : Started x on off (j.supplyCycle x) := by
  obtain ⟨h1, h2, h3, ho⟩ := h
  have hsup := (Jobs.supplyCycle_only x j).supplied x
  have hgo : 0 < (j.timer x.pair).count → ((j.supplyCycle x).timer x.pair).count = (j.timer x.pair).count ∧
      ((j.supplyCycle x).timer x.pair).running = (j.supplyCycle x).supplied x := fun hc => by
    rw [hsup]
    cases hs : j.supplied x with
    | true =>
      obtain ⟨e1, e2⟩ := Jobs.supplyCycle_with hp hs rfl
      exact ⟨e1, e2 hc⟩
    | false =>
      obtain ⟨e1, e2⟩ := Jobs.supplyCycle_without hp hs rfl
      exact ⟨e2 ho, e1⟩
  unfold Started
  rw [Jobs.supplyCycle_ice]
  refine ⟨fun hn => ?_, fun ha hb => ?_, fun ha hb => ?_⟩
  · obtain ⟨e1, e2⟩ := h1 hn
    obtain ⟨e3, e4⟩ := hgo (by omega)
    exact ⟨e1, e3.trans e2, e4⟩
  · obtain ⟨e1, e2⟩ := h2 ha hb
    obtain ⟨e3, e4⟩ := hgo (by omega)
    exact ⟨e1, e3.trans e2, e4⟩
  · obtain ⟨e1, ⟨e2, -⟩, e3⟩ := h3 ha hb
    have hsame : (j.supplyCycle x).timer x.pair = j.timer x.pair := by
      have hx : j.expired x.pair = false := Jobs.expired_not ho
      unfold Jobs.supplyCycle
      rw [if_neg hp]
      split
      · rw [if_neg (by simp [e2]), Jobs.timer_onTimer, if_pos rfl]
        exact if_pos e3
      · rw [if_neg (by simp [e2, hx])]
    rw [hsame]
    exact ⟨e1, ⟨e2, ho⟩, e3⟩

theorem Primed.of_eq (h : Primed x on off j) (hp : k.ice.phase x = j.ice.phase x) (ht : k.timer x.pair = j.timer x.pair) :
    Primed x on off k := by
  unfold Primed at *
  rwa [hp, ht]

theorem Started.of_eq (h : Started x on off j) (hp : k.ice.phase x = j.ice.phase x) (ht : k.timer x.pair = j.timer x.pair)
    (hs : k.supplied x = j.supplied x) : Started x on off k := by
  unfold Started at *
  rwa [hp, ht, hs]

/-! ### A start of the cycles, and a change of the mode -/

theorem Jobs.nextPhase_owed (x : Panto) (b : Bool) (j : Jobs) : ((j.nextPhase x b).timer x.pair).owed = [] := by
  have hload : ∀ (p : HeatPhase) (n : Nat) (m : Jobs), ((m.loadPhase x p n).timer x.pair).owed = [] := fun p n m => by
    unfold Jobs.loadPhase
    dsimp only
    split
    · rw [Jobs.timer_load, if_pos rfl]
      rfl
    · rw [Jobs.timer_stop, if_pos rfl]
      rfl
  rcases j.nextPhase_cases x b with ⟨-, h⟩ | ⟨-, h⟩ | ⟨-, -, h⟩
  · rw [h]
    exact hload _ _ _
  · rw [h]
    exact hload _ _ _
  · rw [h]
    exact (Jobs.restPhase_spec rfl).2.2.2.1.2

/-- R91, R93: a cycle under way whose heater stays in the heated set goes on. -/
theorem Jobs.followBoth_goes (hh : j.heated x = true) (hp : j.ice.phase x ≠ .idle)
    (hk : k = (j.followCycle .p1).followCycle .p2) :
    k.ice.phase x = j.ice.phase x ∧ (Primed x on off j → Started x on off k) := by
  subst hk
  cases x with
  | p1 =>
    have h2 := OnlyCycle.followCycle .p2 (j.followCycle .p1)
    have hphase := h2.phase_other (x := .p1) (by decide)
    have htimer := Jobs.followCycle_timers .p2 (j.followCycle .p1) _ (pair_ne (x := .p1) (by decide))
    rw [Jobs.followCycle_goes hh hp] at *
    refine ⟨hphase.trans (by rw [Jobs.supplyCycle_ice]), fun h => ?_⟩
    exact (h.supplyCycle hp).of_eq hphase htimer (h2.supplied .p1)
  | p2 =>
    have h1 := OnlyCycle.followCycle .p1 j
    have hphase := h1.phase_other (x := .p2) (by decide)
    have htimer := Jobs.followCycle_timers .p1 j _ (pair_ne (x := .p2) (by decide))
    have hh1 : (j.followCycle .p1).heated .p2 = true := (h1.cycles.heated .p2).trans hh
    have hp1 : (j.followCycle .p1).ice.phase .p2 ≠ .idle := by rw [hphase]; exact hp
    rw [Jobs.followCycle_goes hh1 hp1]
    exact ⟨by rw [Jobs.supplyCycle_ice, hphase], fun h => (h.of_eq hphase htimer).supplyCycle hp1⟩

theorem Jobs.setMode_goes {m : IceMode} (hk : k = j.setMode m) (hh : k.heated x = true) (hp : j.ice.phase x ≠ .idle) :
    k.ice.phase x = j.ice.phase x ∧ (Primed x on off j → Started x on off k) := by
  have hheated := (Jobs.setMode_cycles m j).heated x
  rw [← hk, hh] at hheated
  have hset : (j.setIce { j.ice with mode := m }).ice.phase x = j.ice.phase x := by cases x <;> rfl
  obtain ⟨h1, h2⟩ := Jobs.followBoth_goes (on := on) (off := off) hheated.symm (by rw [hset]; exact hp) rfl
  have hphase : k.ice.phase x = (((j.setIce { j.ice with mode := m }).followCycle .p1).followCycle .p2).ice.phase x := by
    rw [hk]
    rfl
  refine ⟨hphase.trans (h1.trans hset), fun h => ?_⟩
  refine (h2 (h.of_eq hset rfl)).of_eq hphase ?_ ?_
  · rw [hk]
    rfl
  · rw [hk]
    rfl

/-! ### The choice and the cycles -/

/-- The cycles' phases and pairs are as they were. -/
def CyclesKept (j k : Jobs) : Prop := ∀ x : Panto, k.ice.phase x = j.ice.phase x ∧ k.timer x.pair = j.timer x.pair

theorem CyclesKept.trans (h : CyclesKept j k) (h' : CyclesKept k l) : CyclesKept j l :=
  fun x => ⟨(h' x).1.trans (h x).1, (h' x).2.trans (h x).2⟩

theorem Still.cyclesKept (h : Still j k) : CyclesKept j k := fun x => ⟨by rw [h.ice], h.timer x.pair⟩

theorem pair_other (x y : Panto) : x.pair ≠ y.stepTimer ∧ x.pair ≠ y.arcTimer ∧ x.pair ≠ y.settleTimer := by
  cases x <;> cases y <;> decide

theorem CyclesKept.lower (y : Panto) (j : Jobs) : CyclesKept j (j.lower y) := fun x => by
  refine ⟨by rw [Jobs.lower_ice], ?_⟩
  obtain ⟨h1, h2, h3⟩ := pair_other x y
  by_cases hr : (j.panto y).state.raised = true
  · rw [Jobs.lower_timer y j _ hr, if_neg h1, if_neg h2, if_neg h3]
  · rw [Jobs.lower_of_not (by simpa using hr)]

theorem CyclesKept.dropScraper (j : Jobs) : CyclesKept j j.dropScraper := fun x => by
  refine ⟨by rw [Jobs.dropScraper_ice]; cases x <;> rfl, ?_⟩
  unfold Jobs.dropScraper
  split
  · exact (CyclesKept.lower _ j x).2
  · rfl

theorem CyclesKept.raise (y : Panto) (r : Role) (b : Asker) (j : Jobs) : CyclesKept j (j.raise y r b).2 := fun x =>
  ⟨by rw [Jobs.raise_ice], Jobs.raise_timer y r b j _ (pair_other x y).2.2⟩

/-- What a choice comes to: the mode and the supply stand, or a change of the mode follows work that leaves the cycles. -/
def Settles (j k : Jobs) : Prop :=
  (CyclesKept j k ∧ k.ice.mode = j.ice.mode ∧ ∀ x, k.supplied x = j.supplied x) ∨
  ∃ (l : Jobs) (m : IceMode), CyclesKept j l ∧ m ≠ j.ice.mode ∧ k = l.setMode m

theorem Settles.still (h : Still i j) (hs : Settles j k) : Settles i k := by
  rcases hs with ⟨h1, h2, h3⟩ | ⟨l, m, h1, h2, h3⟩
  · exact .inl ⟨h.cyclesKept.trans h1, h2.trans (by rw [h.ice]), fun x => (h3 x).trans ((h.onlyCycle x).supplied x)⟩
  · exact .inr ⟨l, m, h.cyclesKept.trans h1, by rwa [h.ice] at h2, h3⟩

theorem Settles.leaveTo (m : IceMode) (j : Jobs) : Settles j (j.leaveTo m) := by
  by_cases hm : j.ice.mode = m
  · rw [Jobs.leaveTo_same hm]
    exact .inl ⟨fun _ => ⟨rfl, rfl⟩, rfl, fun _ => rfl⟩
  · rw [Jobs.leaveTo_other hm]
    exact .inr ⟨_, m, .dropScraper j, fun h => hm h.symm, rfl⟩

theorem Settles.scraperRefused (m : IceMode) (j : Jobs) : Settles j (j.scraperRefused m) := by
  have hset : CyclesKept j (j.setIce { j.ice with barred := true }) := fun x => ⟨by cases x <;> rfl, rfl⟩
  have hsup : ∀ x, (j.setIce { j.ice with barred := true }).supplied x = j.supplied x := fun x => by cases x <;> rfl
  rcases Settles.leaveTo m (j.setIce { j.ice with barred := true }) with ⟨h1, h2, h3⟩ | ⟨l, m', h1, h2, h3⟩
  · exact .inl ⟨hset.trans h1, h2, fun x => (h3 x).trans (hsup x)⟩
  · exact .inr ⟨l, m', hset.trans h1, h2, h3⟩

theorem Settles.enterScrape (j : Jobs) : Settles j j.enterScrape := by
  by_cases hm : j.ice.mode = .scrape
  · rw [show j.enterScrape = j from if_pos hm]
    exact .inl ⟨fun _ => ⟨rfl, rfl⟩, rfl, fun _ => rfl⟩
  · cases hl : j.leading with
    | none =>
      have he : j.enterScrape = j.leaveTo j.fallback := by
        unfold Jobs.enterScrape
        rw [if_neg hm]
        dsimp only
        rw [hl]
      rw [he]
      exact .leaveTo _ j
    | some x =>
      by_cases ha : j.raiseAnswer x .scraper .ic = .accepted
      · rw [Jobs.enterScrape_accepted hm hl ha]
        refine .inr ⟨_, .scrape, fun y => ?_, fun h => hm h.symm, rfl⟩
        exact ⟨by cases y <;> rfl, (CyclesKept.raise x .scraper .ic j y).2⟩
      · rw [Jobs.enterScrape_refused hm hl ha]
        exact .still (Jobs.touchRaise_still x j) (.scraperRefused _ _)

theorem Settles.choose (j : Jobs) : Settles j j.choose := by
  unfold Jobs.choose
  dsimp only
  split
  · exact .still j.touchPermits_still (.enterScrape _)
  · exact .still j.touchPermits_still (.leaveTo _ _)

theorem Settles.chooseUnlessSuspended (j : Jobs) : Settles j j.chooseUnlessSuspended := by
  unfold Jobs.chooseUnlessSuspended
  split
  · exact .inl ⟨fun _ => ⟨rfl, rfl⟩, rfl, fun _ => rfl⟩
  · exact .choose j

/-- R91: a cycle under way goes on through a choice that leaves its heater heated. -/
theorem Settles.goes (h : Settles j k) (hh : k.heated x = true) (hp : j.ice.phase x ≠ .idle) :
    k.ice.phase x = j.ice.phase x ∧ (Started x on off j → (j.timer x.pair).owed = [] → Started x on off k) := by
  rcases h with ⟨h1, -, h3⟩ | ⟨l, m, h1, -, hk⟩
  · exact ⟨(h1 x).1, fun hs _ => hs.of_eq (h1 x).1 (h1 x).2 (h3 x)⟩
  · obtain ⟨e1, e2⟩ := Jobs.setMode_goes (on := on) (off := off) hk hh (by rw [(h1 x).1]; exact hp)
    exact ⟨e1.trans (h1 x).1, fun hs ho => e2 ((hs.primed ho).of_eq (h1 x).1 (h1 x).2)⟩

/-- A choice that leaves the mode leaves the cycles. -/
theorem Settles.stands (h : Settles j k) (hm : k.ice.mode = j.ice.mode) : CyclesKept j k := by
  rcases h with ⟨h1, -, -⟩ | ⟨l, m, -, hne, hk⟩
  · exact h1
  · exact absurd ((Jobs.setMode_spec hk).1.symm.trans hm) hne

/-! ### The level (R84, R85) -/

theorem moveLevel_up {raw level : IceLevel} {d : Nat} (h : level.code ≤ raw.code) : moveLevel raw level d = (raw, 0) := if_pos h

theorem moveLevel_waits {raw level : IceLevel} {d : Nat} (h : raw.code < level.code) (hd : d < 2) :
    moveLevel raw level d = (level, d + 1) := by
  unfold moveLevel
  rw [if_neg (by omega), if_pos (by omega)]

theorem moveLevel_down {raw level : IceLevel} {d : Nat} (h : raw.code < level.code) (hd : 2 ≤ d) :
    moveLevel raw level d = (level.below, 0) ∧ level.below.code + 1 = level.code := by
  unfold moveLevel
  rw [if_neg (by omega), if_neg (by omega)]
  refine ⟨rfl, ?_⟩
  cases level with
  | none => exact absurd h (Nat.not_lt_zero _)
  | _ => rfl

theorem Jobs.coldAs_iff (n : Nat) (j : Jobs) : j.coldAs n = true ↔ ∃ t, j.ice.temp = some t ∧ t.toInt ≤ (j.iceParam n).toInt := by
  unfold Jobs.coldAs
  cases j.ice.temp <;> simp

/-! ### One assessment (R85, R92) -/

/-- R85: the roof jobs once an assessment has moved the level and recorded what it used. -/
def Jobs.reassessed (tag : Long) (j : Jobs) : Jobs :=
  (j.touchIce [1, 2, 5, 8, 9, 10, 11]).setIce { j.ice with
    level := (moveLevel j.rawLevel j.ice.level j.ice.decay).1, decay := (moveLevel j.rawLevel j.ice.level j.ice.decay).2,
    tally := 0, barred := false,
    last := some { temp := j.ice.temp, probe := j.ice.probe, drop := j.probeDrop, tally := j.ice.tally, raw := j.rawLevel,
                   level := (moveLevel j.rawLevel j.ice.level j.ice.decay).1, tag := tag } }

/-- R92, R105: the roof jobs once a change of the level has started the cycles afresh and the OC has followed. -/
def Jobs.restarted (j : Jobs) : Jobs :=
  (((j.flag .iceLevel j.ice.level.code).restartCycle .p1).restartCycle .p2).ocReact

theorem Jobs.assess_eq (tag : Long) (j : Jobs) : j.assess tag =
    (if (j.reassessed tag).ice.level ≠ j.ice.level then (j.reassessed tag).restarted else j.reassessed tag).chooseUnlessSuspended := by
  have hi : (j.touchIce [1, 2, 5, 8, 9, 10, 11]).ice = j.ice := (Still.touchIce j _).ice
  have hl : (j.reassessed tag).ice.level = (moveLevel j.rawLevel j.ice.level j.ice.decay).1 := rfl
  unfold Jobs.assess
  dsimp only
  rw [hi, hl]
  by_cases hc : (moveLevel j.rawLevel j.ice.level j.ice.decay).1 ≠ j.ice.level
  · rw [if_pos hc, if_pos (decide_eq_true hc)]
    rfl
  · rw [if_neg hc, if_neg (by simpa using hc)]
    rfl

theorem Still.sameChoice_setIce (hs : Still j k) (hw : j.tableWf) {v : Ice} (hm : v.mode = j.ice.mode)
    (hc : v.scraper = j.ice.scraper) : SameChoice j (k.setIce v) := by
  have h := hs.sameChoice hw
  exact ⟨h.words.trans (.of_tm rfl), h.confirmed, h.speed, h.cs, h.lowerAll, h.nodes,
    fun x => (show (k.setIce v).panto x = k.panto x by cases x <;> rfl).trans (h.panto x), hm, hc⟩

theorem Still.cyclesKept_setIce (hs : Still j k) {v : Ice} (hp : ∀ x, v.phase x = j.ice.phase x) : CyclesKept j (k.setIce v) :=
  fun x => ⟨hp x, hs.timer x.pair⟩

theorem Jobs.reassessed_same (tag : Long) (hw : j.tableWf) : SameChoice j (j.reassessed tag) :=
  Still.sameChoice_setIce (Still.touchIce j [1, 2, 5, 8, 9, 10, 11]) hw rfl rfl

theorem Jobs.reassessed_kept (tag : Long) (j : Jobs) : CyclesKept j (j.reassessed tag) :=
  Still.cyclesKept_setIce (Still.touchIce j [1, 2, 5, 8, 9, 10, 11]) fun x => by cases x <;> rfl

theorem Jobs.restartCycle_idle (h : j.ice.phase x = .idle) : j.restartCycle x = j := if_pos h
theorem Jobs.restartCycle_on (h : j.ice.phase x ≠ .idle) : j.restartCycle x = j.startCycle x := if_neg h

theorem Jobs.restartCycle_timers (x : Panto) (j : Jobs) : OtherTimers [x.pair] j (j.restartCycle x) := by
  unfold Jobs.restartCycle
  split
  · exact .refl _ _
  · exact (Jobs.nextPhase_only x true j).2.1

@[simp] theorem Jobs.restartCycle_oc (x : Panto) (j : Jobs) : (j.restartCycle x).oc = j.oc := by
  unfold Jobs.restartCycle Jobs.startCycle
  split
  · rfl
  · exact Jobs.nextPhase_oc _ _ _

theorem OnlyCycle.times (h : OnlyCycle y j k) (hw : SameWords j k) : k.onTime = j.onTime ∧ k.offTime = j.offTime := by
  have hl : k.ice.level = j.ice.level := by
    rw [h.ice]
    cases y <;> rfl
  unfold Jobs.onTime Jobs.offTime
  rw [hl, hw.iceParam, hw.iceParam]
  exact ⟨rfl, rfl⟩

/-- The cycles started afresh, the OC's following apart (R92). -/
def Jobs.cyclesRestarted (j : Jobs) : Jobs := (j.restartCycle .p1).restartCycle .p2

theorem Jobs.cyclesRestarted_only (j : Jobs) : OnlyCycles j j.cyclesRestarted :=
  (OnlyCycle.restartCycle .p1 j).cycles.trans (OnlyCycle.restartCycle .p2 _).cycles

theorem Held.cyclesRestarted (j : Jobs) : Held j j.cyclesRestarted := (Held.restartCycle .p1 j).trans (.restartCycle .p2 _)

/-- R92: each cycle that is not idle starts afresh, and an idle one stands. -/
theorem Jobs.cyclesRestarted_spec (hw : j.tableWf) (x : Panto) :
    (j.ice.phase x = .idle → j.cyclesRestarted.ice.phase x = .idle ∧ j.cyclesRestarted.timer x.pair = j.timer x.pair) ∧
    (j.ice.phase x ≠ .idle → Started x j.onTime j.offTime j.cyclesRestarted ∧ (j.cyclesRestarted.timer x.pair).owed = [] ∧
      j.cyclesRestarted.ice.phase x ≠ .idle) := by
  unfold Jobs.cyclesRestarted
  cases x with
  | p1 =>
    have h2 := OnlyCycle.restartCycle .p2 (j.restartCycle .p1)
    have hphase := h2.phase_other (x := .p1) (by decide)
    have htimer := Jobs.restartCycle_timers .p2 (j.restartCycle .p1) _ (pair_ne (x := .p1) (by decide))
    refine ⟨fun h => ?_, fun h => ?_⟩
    · rw [Jobs.restartCycle_idle h] at *
      exact ⟨hphase.trans h, htimer⟩
    · rw [Jobs.restartCycle_on h] at *
      refine ⟨(Jobs.startCycle_started .p1 j).of_eq hphase htimer (h2.supplied .p1), ?_, ?_⟩
      · rw [htimer]
        exact Jobs.nextPhase_owed .p1 true j
      · rw [hphase]
        exact (Jobs.nextPhase_only .p1 true j).2.2
  | p2 =>
    have h1 := OnlyCycle.restartCycle .p1 j
    have hphase := h1.phase_other (x := .p2) (by decide)
    have htimer := Jobs.restartCycle_timers .p1 j _ (pair_ne (x := .p2) (by decide))
    obtain ⟨hon, hoff⟩ := h1.times ((Held.restartCycle .p1 j).sameWords hw)
    refine ⟨fun h => ?_, fun h => ?_⟩
    · rw [Jobs.restartCycle_idle (hphase.trans h)]
      exact ⟨hphase.trans h, htimer⟩
    · rw [Jobs.restartCycle_on (by rw [hphase]; exact h), ← hon, ← hoff]
      exact ⟨Jobs.startCycle_started .p2 _, Jobs.nextPhase_owed .p2 true _, (Jobs.nextPhase_only .p2 true _).2.2⟩

/-! #### A heater that a restart puts on (R105, log entry 6) -/

theorem Jobs.nextPhase_cell (x : Panto) (b : Bool) (hw : j.tableWf) {n : Nat} (hn : n < 0x180) :
    (j.nextPhase x b).cell n = j.cell n := by
  have hload : ∀ (p : HeatPhase) (c : Nat) (m : Jobs), (m.loadPhase x p c).tm = m.tm := fun p c m => by
    unfold Jobs.loadPhase
    dsimp only
    split <;> rfl
  have htm : (j.nextPhase x b).tm = j.timesRead.tm := by
    rcases j.nextPhase_cases x b with ⟨-, h⟩ | ⟨-, h⟩ | ⟨-, -, h⟩
    · rw [h, hload]
    · rw [h, hload]
    · rw [h]
      rfl
  have hread : j.timesRead.cell n = j.cell n := by
    refine Jobs.cell_touchAll_ne _ hw fun hm => ?_
    rcases List.mem_cons.mp hm with h | h
    · omega
    · obtain ⟨a, -, ha⟩ := List.mem_map.mp h
      omega
  unfold Jobs.cell at *
  rw [htm, hread]

theorem Jobs.restartCycle_cell (x : Panto) (hw : j.tableWf) {n : Nat} (hn : n < 0x180) : (j.restartCycle x).cell n = j.cell n := by
  unfold Jobs.restartCycle Jobs.startCycle
  split
  · rfl
  · exact Jobs.nextPhase_cell x true hw hn

/-- The owned role of a pantograph's heater. -/
def heatRole (x : Panto) : OwnedRole := if x = .p1 then .heat1 else .heat2

theorem Jobs.wanted_heat (x : Panto) (j : Jobs) : j.wanted.get (heatRole x) = j.heaterOn x := by cases x <;> rfl

theorem heatRole_addr (x : Panto) {n : Nat} (hn : n < 2) : (heatRole x).mapRole.addr + n < 0x180 := by
  cases x <;> simp [heatRole, OwnedRole.mapRole, MapRole.addr, MapRole.index] <;> omega

/-- R105: a heater that comes on has its point marked. -/
theorem Jobs.ocReact_heats {n : Nat} {e : PointEntry} {b : BitRef} (hr : j.dev = .run) (hl : j.oc.lowerAll = false)
    (hh : j.oc.hold = false) (hf : j.oc.frozen = none) (hoff : j.oc.sending.get (heatRole x) = false)
    (he : j.oc.table[n]? = some e) (hb : (heatRole x, b) ∈ e.owned) (hs : j.mapStands (heatRole x).mapRole = true)
    (hon : j.heaterOn x = true) : ∃ e' : PointEntry, j.ocReact.oc.table[n]? = some e' ∧ e'.pending = true := by
  refine Jobs.ocFollow_marks _ j hr ((Outputs.released_none _).mpr (.inr hf)) n e he _ b hb hs ?_
  obtain ⟨-, -, hq, -⟩ := Jobs.ocFollow_spec (if j.earthNow = .unknown then .unknown else j.oc.earth) j _ rfl
  rw [hq, hoff]
  unfold Outputs.sendingOf
  rw [if_neg (by simp [hl]), if_neg (by simp [hh]), Jobs.wanted_heat, hon]
  decide

end Sys2Proof.Machine

end

section
/-! PROOFS. The Ice Clearing Controller's timers (O54): the whole assessment, step by step. -/

namespace Sys2Proof.Machine

open Sys2Proof

variable {s t u : State} {i j k l : Jobs} {x y : Panto} {on off : Nat}

/-! ### The assessment of T10's expiry (R83) -/

/-- R85, R92: the roof jobs as the mode choice of an assessment finds them. -/
def Jobs.levelled (tag : Long) (j : Jobs) : Jobs :=
  if (j.reassessed tag).ice.level ≠ j.ice.level then (j.reassessed tag).restarted else j.reassessed tag

/-- R83: the present period has become T10's reload value. -/
def Jobs.periodTaken (j : Jobs) : Jobs := (j.touchIce [12]).onTimer .t10 (Timer.setReload j.assessPeriod)

theorem Jobs.iceAssessment_of {tag : Long} {rest : List Long} (h : (j.timer .t10).owed = tag :: rest) :
    j.iceAssessment = ((j.takeExpiry .t10).levelled tag).chooseUnlessSuspended.periodTaken := by
  have ht : j.expiryTag .t10 = tag := by
    unfold Jobs.expiryTag
    rw [show j.tmr.get .t10 = j.timer .t10 from rfl, h]
    rfl
  unfold Jobs.iceAssessment
  rw [if_pos ((Jobs.expired_iff _ j).mpr (by rw [h]; simp)), ht]
  dsimp only
  rw [Jobs.assess_eq]
  rfl

theorem OnlyCycles.supplied (h : OnlyCycles j k) (x : Panto) : k.supplied x = j.supplied x := by
  unfold OnlyCycles at h
  rw [h]
  cases x <;> rfl

theorem SameIce.supplied (h : SameIce j k) (x : Panto) : k.supplied x = j.supplied x := by
  rw [Bool.eq_iff_iff, Jobs.supplied_iff, Jobs.supplied_iff, h.fb, h.choice.panto]

/-- R92, R105: what a change of the level makes of the roof jobs before the mode choice. -/
theorem Jobs.restarted_spec (hw : j.tableWf) (hk : k = j.restarted) : SameChoice j k ∧ k.tableWf ∧
    k.ice = { j.ice with phase1 := k.ice.phase1, phase2 := k.ice.phase2 } ∧ OtherTimers [.t67, .t89] j k ∧
    Flagged .iceLevel (BitVec.ofNat 16 j.ice.level.code) k.out ∧
    ∀ x, (j.ice.phase x = .idle → k.ice.phase x = .idle ∧ k.timer x.pair = j.timer x.pair) ∧
      (j.ice.phase x ≠ .idle → Started x j.onTime j.offTime k ∧ (k.timer x.pair).owed = [] ∧ k.ice.phase x ≠ .idle) := by
  have hflag := Still.flag .iceLevel j.ice.level.code j
  have hfl : Flagged .iceLevel (BitVec.ofNat 16 j.ice.level.code) (j.flag .iceLevel j.ice.level.code).out := Flagged.flag _ _ _
  have htimes : (j.flag .iceLevel j.ice.level.code).onTime = j.onTime ∧ (j.flag .iceLevel j.ice.level.code).offTime = j.offTime :=
    ⟨rfl, rfl⟩
  have hk : k = (j.flag .iceLevel j.ice.level.code).cyclesRestarted.ocReact := hk
  have w1 := hflag.tableWf hw
  have c1 := hflag.sameChoice hw
  have hice := hflag.ice
  have htmr := hflag.timer
  generalize j.flag .iceLevel j.ice.level.code = a at *
  have honly := a.cyclesRestarted_only
  have hheld := Held.cyclesRestarted a
  have w2 := hheld.tableWf w1
  have c2 := honly.sameChoice (hheld.sameWords w1)
  have hcyc := fun x => Jobs.cyclesRestarted_spec w1 x (j := a)
  have hother : OtherTimers [.t67, .t89] a a.cyclesRestarted := fun i hi => by
    unfold Jobs.cyclesRestarted
    rw [Jobs.restartCycle_timers .p2 _ i fun h => hi (List.mem_cons_of_mem _ h),
      Jobs.restartCycle_timers .p1 _ i fun h => hi (by rw [List.mem_singleton.mp h]; exact List.mem_cons_self)]
  have hi2 := honly.ice
  have hsup2 := honly.supplied
  generalize a.cyclesRestarted = b at *
  have hsame := b.ocReact_sameIce
  have hout := Held.ocReact b
  rw [← hk] at hsame hout
  refine ⟨(c1.trans c2).trans hsame.choice, hout.tableWf w2, ?_, fun i hi => ?_, (hfl.held hheld).held hout, fun x => ?_⟩
  · rw [hsame.ice, ← hice, hi2]
    rfl
  · rw [Jobs.timer_of_tmr hsame.tmr, hother i hi, htmr]
  · obtain ⟨h1, h2⟩ := hcyc x
    rw [htimes.1, htimes.2, hice, htmr] at *
    rw [hsame.ice, Jobs.timer_of_tmr hsame.tmr]
    exact ⟨h1, fun hp => ⟨(h2 hp).1.of_eq (by rw [hsame.ice]) (Jobs.timer_of_tmr hsame.tmr _) (hsame.supplied x), (h2 hp).2⟩⟩

theorem Still.setIce_kept (hs : Still j k) (hw : j.tableWf) (v : Ice) : (k.setIce v).tableWf ∧
    (∀ i, (k.setIce v).timer i = j.timer i) ∧ (k.setIce v).oc = j.oc ∧ (k.setIce v).dev = j.dev ∧ (k.setIce v).fb = j.fb ∧
    ∀ n, (k.setIce v).cell n = k.cell n :=
  ⟨hs.tableWf hw, hs.timer, hs.oc, hs.dev, hs.fb, fun _ => rfl⟩

theorem touchIce_cell (is : List Nat) (hw : j.tableWf) {n : Nat} (hn : n < 0x180) : (j.touchIce is).cell n = j.cell n :=
  Jobs.cell_touchAll_ne _ hw fun h => by
    rcases List.mem_cons.mp h with h | h
    · omega
    · obtain ⟨a, -, ha⟩ := List.mem_map.mp h
      omega

/-- What an assessment's record leaves of the roof jobs. -/
theorem Jobs.reassessed_spec (tag : Long) (hw : j.tableWf) : (j.reassessed tag).tableWf ∧
    (∀ i, (j.reassessed tag).timer i = j.timer i) ∧ (j.reassessed tag).oc = j.oc ∧ (j.reassessed tag).dev = j.dev ∧
    (j.reassessed tag).fb = j.fb ∧ ∀ n, n < 0x180 → (j.reassessed tag).cell n = j.cell n := by
  have hc := fun n (hn : n < 0x180) => touchIce_cell [1, 2, 5, 8, 9, 10, 11] hw hn
  have hs := Still.touchIce j [1, 2, 5, 8, 9, 10, 11]
  unfold Jobs.reassessed
  generalize j.touchIce [1, 2, 5, 8, 9, 10, 11] = m at *
  obtain ⟨h1, h2, h3, h4, h5, h6⟩ := hs.setIce_kept hw { j.ice with
    level := (moveLevel j.rawLevel j.ice.level j.ice.decay).1, decay := (moveLevel j.rawLevel j.ice.level j.ice.decay).2,
    tally := 0, barred := false,
    last := some { temp := j.ice.temp, probe := j.ice.probe, drop := j.probeDrop, tally := j.ice.tally, raw := j.rawLevel,
                   level := (moveLevel j.rawLevel j.ice.level j.ice.decay).1, tag := tag } }
  exact ⟨h1, h2, h3, h4, h5, fun n hn => (h6 n).trans (hc n hn)⟩

/-- R85, R92: what an assessment makes of the roof jobs before its mode choice. -/
theorem Jobs.levelled_spec (tag : Long) (hw : j.tableWf) (hk : k = j.levelled tag) : SameChoice j k ∧ k.tableWf ∧
    k.ice = { (j.reassessed tag).ice with phase1 := k.ice.phase1, phase2 := k.ice.phase2 } ∧
    OtherTimers [.t67, .t89] j k ∧
    (k.ice.level ≠ j.ice.level → Flagged .iceLevel (BitVec.ofNat 16 k.ice.level.code) k.out) ∧
    ∀ x, (j.ice.phase x = .idle ∨ k.ice.level = j.ice.level →
        k.ice.phase x = j.ice.phase x ∧ k.timer x.pair = j.timer x.pair) ∧
      (j.ice.phase x ≠ .idle → k.ice.level ≠ j.ice.level →
        Started x (j.iceParam (heatWords k.ice.level).1).toNat (j.iceParam (heatWords k.ice.level).2).toNat k ∧
        (k.timer x.pair).owed = [] ∧ k.ice.phase x ≠ .idle) := by
  have hsame := Jobs.reassessed_same tag hw
  have hkept := Jobs.reassessed_kept tag j
  obtain ⟨hwf, htmr, -⟩ := Jobs.reassessed_spec tag hw
  unfold Jobs.levelled at hk
  generalize j.reassessed tag = a at *
  by_cases hc : a.ice.level ≠ j.ice.level
  · rw [if_pos hc] at hk
    obtain ⟨h1, h2, h3, h4, h5, h6⟩ := Jobs.restarted_spec hwf hk
    have hl : k.ice.level = a.ice.level := by rw [h3]
    refine ⟨hsame.trans h1, h2, h3, fun i hi => (h4 i hi).trans (htmr i), fun _ => by rw [hl]; exact h5, fun x => ?_⟩
    obtain ⟨e1, e2⟩ := h6 x
    obtain ⟨g1, g2⟩ := hkept x
    rw [hl]
    refine ⟨fun h => ?_, fun hp _ => ?_⟩
    · rcases h with h | h
      · obtain ⟨e3, e4⟩ := e1 (g1.trans h)
        exact ⟨e3.trans h.symm, e4.trans g2⟩
      · exact absurd h hc
    · have h7 := e2 (by rwa [g1])
      unfold Jobs.onTime Jobs.offTime at h7
      rwa [hsame.words.iceParam, hsame.words.iceParam] at h7
  · rw [if_neg hc] at hk
    subst hk
    exact ⟨hsame, hwf, rfl, fun i _ => htmr i, fun h => absurd h hc, fun x => ⟨fun _ => hkept x, fun _ h => absurd h hc⟩⟩

/-- The choice of an assessment leaves what the assessment has recorded. -/
theorem ModeWork.chooseUnlessSuspended (j : Jobs) : ModeWork j j.chooseUnlessSuspended := by
  unfold Jobs.chooseUnlessSuspended
  split
  · exact .refl j
  · exact .choose j

theorem Jobs.periodTaken_spec (hw : j.tableWf) (hk : k = j.periodTaken) : k.ice = j.ice ∧ k.oc = j.oc ∧ (∀ x, k.panto x = j.panto x) ∧
    j.out <+: k.out ∧ (∀ x, k.supplied x = j.supplied x) ∧ (∀ x, k.heated x = j.heated x) ∧ SameWords j k ∧
    (∀ i, i ≠ .t10 → k.timer i = j.timer i) ∧ k.timer .t10 = (j.timer .t10).setReload j.assessPeriod := by
  have hs := Still.touchIce j [12]
  have hout := (Held.touchIce [12] j).out
  unfold Jobs.periodTaken at hk
  generalize j.assessPeriod = n at *
  generalize j.touchIce [12] = m at *
  have hm : k.ice = m.ice ∧ k.oc = m.oc ∧ (∀ x, k.panto x = m.panto x) ∧ k.out = m.out ∧ (∀ x, k.supplied x = m.supplied x) ∧
      (∀ x, k.heated x = m.heated x) ∧ k.tm = m.tm := by
    subst hk
    exact ⟨rfl, rfl, fun x => by cases x <;> rfl, rfl, fun x => by cases x <;> rfl, fun x => by cases x <;> rfl, rfl⟩
  obtain ⟨h1, h2, h3, h4, h5, h6, h7⟩ := hm
  refine ⟨h1.trans hs.ice, h2.trans hs.oc, fun x => (h3 x).trans (hs.panto x), h4 ▸ hout, fun x => ?_, fun x => ?_,
    (hs.sameWords hw).trans (.of_tm h7), fun i hi => ?_, ?_⟩
  · exact (h5 x).trans ((hs.onlyCycle x).supplied x)
  · exact (h6 x).trans (Jobs.heated_still hs x)
  · rw [hk, Jobs.timer_onTimer, if_neg hi, hs.timer]
  · rw [hk, Jobs.timer_onTimer, if_pos rfl, hs.timer]

theorem Chosen.later {p : Policy} {v : IceLevel} {b : Bool} (h : Chosen p v b j k) (hi : l.ice = k.ice)
    (hp : ∀ x, l.panto x = k.panto x) (ho : k.out <+: l.out) : Chosen p v b j l := by
  intro scrapes back hb hs
  obtain ⟨h1, h2, h3, h4, h5⟩ := h scrapes back hb hs
  rw [hi]
  refine ⟨h1, h2, fun a c x hx => ⟨fun hacc => ?_, fun hacc => (h3 a c x hx).2 hacc⟩, h4, fun hm => ⟨(h5 hm).1.of_prefix ho, fun hs => ?_⟩⟩
  · rw [hp]
    exact (h3 a c x hx).1 hacc
  · obtain ⟨e1, e2⟩ := (h5 hm).2 hs
    exact ⟨e1, fun x hx hr => by rw [hp]; exact e2 x hx hr⟩

/-! ### What the assessment comes to -/

/-- R83 to R88, R92: the roof jobs `k` that an assessment makes of `j`, its mode choice made. -/
structure Assessed (tag : Long) (j k : Jobs) : Prop where
  recorded : k.ice = { (j.reassessed tag).ice with mode := k.ice.mode, scraper := k.ice.scraper, barred := k.ice.barred,
                                                   phase1 := k.ice.phase1, phase2 := k.ice.phase2 }
  timer : k.timer .t10 = (j.timer .t10).setReload j.assessPeriod
  flagged : k.ice.level ≠ j.ice.level → Flagged .iceLevel (BitVec.ofNat 16 k.ice.level.code) k.out
  started : ∀ x, k.ice.level ≠ j.ice.level → j.ice.phase x ≠ .idle → k.heated x = true →
    Started x (j.iceParam (heatWords k.ice.level).1).toNat (j.iceParam (heatWords k.ice.level).2).toNat k
  goes : ∀ x, k.ice.level = j.ice.level → j.ice.phase x ≠ .idle → k.heated x = true → k.ice.phase x = j.ice.phase x
  stands : ∀ x, j.ice.phase x = .idle → k.ice.mode = j.ice.mode → k.ice.phase x = .idle ∧ k.timer x.pair = j.timer x.pair
  suspended : j.ice.mode = .suspended → k.ice.mode = .suspended ∧ k.ice.barred = false ∧ k.ice.scraper = j.ice.scraper
  chosen : j.ice.mode ≠ .suspended → Chosen j.ice.policy k.ice.level false j k

theorem Jobs.assessed (tag : Long) (hw : j.tableWf) :
    Assessed tag j (j.levelled tag).chooseUnlessSuspended.periodTaken := by
  obtain ⟨h1, h2, h3, h4, h5, h6⟩ := Jobs.levelled_spec tag hw rfl
  have hrec : (j.reassessed tag).ice.barred = false ∧ (j.reassessed tag).ice.policy = j.ice.policy := ⟨rfl, rfl⟩
  generalize j.levelled tag = a at *
  have hchoose : a.ice.mode ≠ .suspended → Chosen a.ice.policy a.ice.level a.ice.barred a a.chooseUnlessSuspended := fun hm => by
    unfold Jobs.chooseUnlessSuspended
    rw [if_neg hm]
    exact Jobs.choose_chosen h2
  have hskip : a.ice.mode = .suspended → a.chooseUnlessSuspended = a := fun hm => if_pos hm
  have hheld := Held.chooseUnlessSuspended a
  have hwork := ModeWork.chooseUnlessSuspended a
  have hset := Settles.chooseUnlessSuspended a
  generalize a.chooseUnlessSuspended = b at *
  have hwords : SameWords j b := h1.words.trans (hheld.sameWords h2)
  obtain ⟨e1, -, e3, e4, e5, e6, e7, e8, e9⟩ := Jobs.periodTaken_spec (hheld.tableWf h2) rfl
  generalize b.periodTaken = k at *
  have hlevel : k.ice.level = a.ice.level := by rw [e1, hwork.ice]
  have htimer : ∀ x : Panto, k.timer x.pair = b.timer x.pair := fun x => e8 _ (by cases x <;> decide)
  have hmode : a.ice.mode = j.ice.mode := h1.mode
  refine ⟨?_, ?_, fun hc => ?_, fun x hc hp hh => ?_, fun x hc hp hh => ?_, fun x hp hm => ?_, fun hm => ?_, fun hm => ?_⟩
  · rw [e1]
    exact hwork.ice.trans (congrArg (fun v : Ice => { v with
      mode := b.ice.mode, scraper := b.ice.scraper, barred := b.ice.barred, phase1 := b.ice.phase1, phase2 := b.ice.phase2 }) h3)
  · rw [e9, hwork.timers .t10 (by decide), h4 .t10 (by decide), hwords.assessPeriod]
  · rw [hlevel] at hc ⊢
    exact (h5 hc).held hheld |>.of_prefix e4
  · rw [hlevel] at hc ⊢
    obtain ⟨g1, g2, g3⟩ := (h6 x).2 hp hc
    obtain ⟨-, g5⟩ := hset.goes (by rw [← e6]; exact hh) g3
    exact (g5 g1 g2).of_eq (by rw [e1]) (htimer x) (e5 x)
  · rw [hlevel] at hc
    obtain ⟨g1, g2⟩ := (h6 x).1 (.inr hc)
    obtain ⟨g4, -⟩ := hset.goes (on := 0) (off := 0) (x := x) (by rw [← e6]; exact hh) (by rw [g1]; exact hp)
    rw [e1, g4, g1]
  · obtain ⟨g1, g2⟩ := (h6 x).1 (.inl hp)
    obtain ⟨g3, g4⟩ := hset.stands ((congrArg Ice.mode e1).symm.trans (hm.trans hmode.symm)) x
    rw [htimer, e1]
    exact ⟨g3.trans (g1.trans hp), g4.trans g2⟩
  · rw [e1, hskip (hmode.trans hm)]
    refine ⟨hmode.trans hm, ?_, h1.scraper⟩
    rw [h3]
    exact hrec.1
  · have hch := hchoose (by rwa [hmode])
    have hb : a.ice.barred = false ∧ a.ice.policy = j.ice.policy := by
      rw [h3]
      exact hrec
    rw [hb.1, hb.2] at hch
    rw [hlevel]
    exact (h1.chosen hch).later e1 e3 e4

theorem Jobs.enterScrape_oc (j : Jobs) : j.enterScrape.oc = j.oc := by
  unfold Jobs.enterScrape Jobs.scraperRefused
  split
  · rfl
  · dsimp only
    split
    · exact Jobs.leaveTo_oc _ _
    · rename_i x _
      have hr := Jobs.raise_oc j x .scraper .ic
      split
      · rename_i m hm
        rw [hm] at hr
        rw [Jobs.setMode_oc]
        exact hr
      · rename_i m _ hm
        rw [hm] at hr
        rw [Jobs.leaveTo_oc]
        exact hr

theorem Jobs.chooseUnlessSuspended_oc (j : Jobs) : j.chooseUnlessSuspended.oc = j.oc := by
  have hs := j.touchPermits_still.oc
  unfold Jobs.chooseUnlessSuspended Jobs.choose
  split
  · rfl
  · dsimp only
    split
    · rw [Jobs.enterScrape_oc, hs]
    · rw [Jobs.leaveTo_oc, hs]

/-- R105, log entry 6: a heater that the restart at a change of the level puts on has its point marked. -/
theorem Jobs.assessed_marks (tag : Long) (hw : j.tableWf) {n : Nat} {e : PointEntry} {b : BitRef}
    (hk : k = (j.levelled tag).chooseUnlessSuspended.periodTaken) (hr : j.dev = .run) (hl : j.oc.lowerAll = false)
    (hh : j.oc.hold = false) (hf : j.oc.frozen = none) (hoff : j.oc.sending.get (heatRole x) = false)
    (he : j.oc.table[n]? = some e) (hb : (heatRole x, b) ∈ e.owned) (hs : j.mapStands (heatRole x).mapRole = true)
    (hheat : j.heated x = true) (hsup : j.supplied x = true) (hp : j.ice.phase x = .off)
    (hon : 0 < (j.iceParam (heatWords k.ice.level).1).toNat) (hc : k.ice.level ≠ j.ice.level) :
    ∃ e' : PointEntry, k.oc.table[n]? = some e' ∧ e'.pending = true := by
  have hsame := Jobs.reassessed_same tag hw
  have hphase := (Jobs.reassessed_kept tag j x).1
  obtain ⟨hwf, -, hoc, hdev, hfb, hcell⟩ := Jobs.reassessed_spec tag hw
  have hklevel : k.ice.level = (j.reassessed tag).ice.level := by
    rw [hk, (Jobs.assessed tag hw).recorded]
  have hkoc : k.oc = (j.levelled tag).oc := by
    have hwl := (Jobs.levelled_spec tag hw rfl).2.1
    rw [hk, (Jobs.periodTaken_spec ((Held.chooseUnlessSuspended _).tableWf hwl) rfl).2.1]
    exact Jobs.chooseUnlessSuspended_oc _
  rw [hklevel] at hon hc
  rw [hkoc]
  unfold Jobs.levelled
  rw [if_pos hc]
  generalize j.reassessed tag = a at *
  have hflag := Still.flag .iceLevel a.ice.level.code a
  show ∃ e', (a.flag .iceLevel a.ice.level.code).cyclesRestarted.ocReact.oc.table[n]? = some e' ∧ _
  have hfoc : (a.flag .iceLevel a.ice.level.code).oc = a.oc := rfl
  have hfcell : ∀ m, (a.flag .iceLevel a.ice.level.code).cell m = a.cell m := fun _ => rfl
  have htime : (a.flag .iceLevel a.ice.level.code).onTime = a.onTime := rfl
  have hfw := hflag.tableWf hwf
  have hfheat := Jobs.heated_still hflag x
  have hfsup := (hflag.onlyCycle x).supplied x
  have hfphase := (hflag.cyclesKept x).1
  have hfdev := hflag.dev
  generalize a.flag .iceLevel a.ice.level.code = f at *
  have honly := f.cyclesRestarted_only
  have hroc : f.cyclesRestarted.oc = f.oc := by
    unfold Jobs.cyclesRestarted
    rw [Jobs.restartCycle_oc, Jobs.restartCycle_oc]
  have hrcell : ∀ m, m < 0x180 → f.cyclesRestarted.cell m = f.cell m := fun m hm => by
    unfold Jobs.cyclesRestarted
    rw [Jobs.restartCycle_cell .p2 ((Held.restartCycle .p1 f).tableWf hfw) hm, Jobs.restartCycle_cell .p1 hfw hm]
  have hne : f.ice.phase x ≠ .idle := by
    rw [hfphase, hphase, hp]
    decide
  obtain ⟨hstart, -, -⟩ := (Jobs.cyclesRestarted_spec hfw x).2 hne
  have hontime : 0 < f.onTime := by
    rw [htime]
    unfold Jobs.onTime
    rw [hsame.words.iceParam]
    exact hon
  have heated : a.heated x = j.heated x := by
    rw [Bool.eq_iff_iff, Jobs.heated_iff, Jobs.heated_iff, hsame.mode, hsame.scraper, hsame.panto]
  have supplied : a.supplied x = j.supplied x := by
    rw [Bool.eq_iff_iff, Jobs.supplied_iff, Jobs.supplied_iff, hfb, hsame.panto]
  refine Jobs.ocReact_heats (x := x) (e := e) (b := b) ?_ ?_ ?_ ?_ ?_ ?_ hb ?_ ?_
  · rw [(Held.cyclesRestarted f).dev, hfdev, hdev, hr]
  · rw [hroc, hfoc, hoc, hl]
  · rw [hroc, hfoc, hoc, hh]
  · rw [hroc, hfoc, hoc, hf]
  · rw [hroc, hfoc, hoc, hoff]
  · rw [hroc, hfoc, hoc, he]
  · rw [← hs]
    refine Jobs.mapStands_congr _ fun m hm => ?_
    rw [hrcell _ (heatRole_addr x hm), hfcell, hcell _ (heatRole_addr x hm)]
  · rw [Jobs.heaterOn_iff, honly.heated, hfheat, heated, honly.supplied, hfsup, supplied]
    exact ⟨hheat, (hstart.1 hontime).1, hsup⟩

end Sys2Proof.Machine

end

section
/-! PROOFS. The Ice Clearing Controller's timers (O54). -/

namespace Sys2Proof.Machine

open Sys2Proof

variable {s t u : State} {i j k l : Jobs} {x y : Panto} {on off : Nat}

/-- R92, R93: the phase that follows the expiry of a pair. -/
theorem Jobs.heaterExpiry_spec (h : (j.timer x.pair).owed ≠ []) (hp : j.ice.phase x ≠ .idle) (hk : k = j.heaterExpiry x) :
    OnlyCycle x j k ∧ OtherTimers [x.pair] j k ∧
    ((j.ice.phase x = .on ∧ 0 < j.offTime ∨ j.ice.phase x = .off ∧ j.onTime = 0 ∧ 0 < j.offTime) → k.ice.phase x = .off ∧
      (k.timer x.pair).count = j.offTime * 1000 ∧ (k.timer x.pair).running = j.supplied x) ∧
    ((j.ice.phase x = .off ∧ 0 < j.onTime ∨ j.ice.phase x = .on ∧ j.offTime = 0 ∧ 0 < j.onTime) → k.ice.phase x = .on ∧
      (k.timer x.pair).count = j.onTime * 1000 ∧ (k.timer x.pair).running = j.supplied x) ∧
    (j.onTime = 0 → j.offTime = 0 → k.ice.phase x = .off ∧ (k.timer x.pair).stopped ∧ (k.timer x.pair).count = 0) := by
  obtain ⟨-, hon, hoff⟩ := Jobs.heaterExpiry_of h
  obtain ⟨c1, c2⟩ := Jobs.takeExpiry_cycle x j
  obtain ⟨t1, t2⟩ := Jobs.takeExpiry_times x.pair j
  generalize j.takeExpiry x.pair = a at *
  have hload : ∀ (p : HeatPhase) (n : Nat), 0 < n → k = a.timesRead.loadPhase x p n → k.ice.phase x = p ∧
      (k.timer x.pair).count = n * 1000 ∧ (k.timer x.pair).running = j.supplied x := fun p n hn he => by
    have honly : OnlyCycle x j k := (c1.trans (a.timesRead_still.onlyCycle x)).trans (he ▸ Jobs.loadPhase_only x p n _)
    obtain ⟨e1, e2, e3⟩ := Jobs.loadPhase_spec hn he
    exact ⟨e1, e2, e3.trans (honly.supplied x)⟩
  have hrest : k = a.timesRead.restPhase x → k.ice.phase x = .off ∧ (k.timer x.pair).stopped ∧ (k.timer x.pair).count = 0 :=
    fun he => (Jobs.restPhase_spec he).2.2
  cases hph : j.ice.phase x with
  | idle => exact absurd hph hp
  | on =>
    have he : k = a.nextPhase x false := hk.trans (hon hph)
    obtain ⟨n1, n2, -⟩ := Jobs.nextPhase_only x false a
    refine ⟨he ▸ c1.trans n1, he ▸ c2.trans n2, fun hc => ?_, fun hc => ?_, fun ha hb => hrest ?_⟩
    · rcases hc with ⟨-, hc⟩ | ⟨hc, -⟩
      · exact hload .off _ hc (by rw [he, Jobs.nextPhase_false, t2, if_pos hc])
      · exact nomatch hc
    · rcases hc with ⟨hc, -⟩ | ⟨-, ha, hc⟩
      · exact nomatch hc
      · exact hload .on _ hc (by rw [he, Jobs.nextPhase_false, t1, t2, if_neg (by omega), if_pos hc])
    · rw [he, Jobs.nextPhase_false, t1, t2, if_neg (by omega), if_neg (by omega)]
  | off =>
    have he : k = a.nextPhase x true := hk.trans (hoff hph)
    obtain ⟨n1, n2, -⟩ := Jobs.nextPhase_only x true a
    refine ⟨he ▸ c1.trans n1, he ▸ c2.trans n2, fun hc => ?_, fun hc => ?_, fun ha hb => hrest ?_⟩
    · rcases hc with ⟨hc, -⟩ | ⟨-, ha, hc⟩
      · exact nomatch hc
      · exact hload .off _ hc (by rw [he, Jobs.nextPhase_true, t1, t2, if_neg (by omega), if_pos hc])
    · rcases hc with ⟨-, hc⟩ | ⟨hc, -⟩
      · exact hload .on _ hc (by rw [he, Jobs.nextPhase_true, t1, if_pos hc])
      · exact nomatch hc
    · rw [he, Jobs.nextPhase_true, t1, t2, if_neg (by omega), if_neg (by omega)]

/-- R84: the raw level, by its rows. -/
theorem Jobs.rawLevel_rows {heavy light cold cool : Prop} (hcold : cold ↔ j.coldAs 2 = true) (hcool : cool ↔ j.coldAs 1 = true)
    (hheavy : heavy ↔ cold ∧ ((j.iceParam 9).toNat ≤ j.probeDrop ∨ (j.iceParam 11).toNat ≤ j.ice.tally))
    (hlight : light ↔ cold ∧ ((j.iceParam 8).toNat ≤ j.probeDrop ∨ (j.iceParam 10).toNat ≤ j.ice.tally)) :
    (heavy → j.rawLevel = .heavy) ∧ (¬ heavy → light → j.rawLevel = .light) ∧
    (¬ heavy → ¬ light → (cool ∨ j.ice.zone = true) → j.rawLevel = .risk) ∧
    (¬ heavy → ¬ light → ¬ cool → j.ice.zone = false → j.rawLevel = .none) := by
  have h1 : (j.coldAs 2 && (decide ((j.iceParam 9).toNat ≤ j.probeDrop) || decide ((j.iceParam 11).toNat ≤ j.ice.tally))) = true ↔
      heavy := by
    rw [hheavy, hcold, Bool.and_eq_true, Bool.or_eq_true, decide_eq_true_iff, decide_eq_true_iff]
  have h2 : (j.coldAs 2 && (decide ((j.iceParam 8).toNat ≤ j.probeDrop) || decide ((j.iceParam 10).toNat ≤ j.ice.tally))) = true ↔
      light := by
    rw [hlight, hcold, Bool.and_eq_true, Bool.or_eq_true, decide_eq_true_iff, decide_eq_true_iff]
  have h3 : (j.coldAs 1 || j.ice.zone) = true ↔ cool ∨ j.ice.zone = true := by rw [hcool, Bool.or_eq_true]
  unfold Jobs.rawLevel
  dsimp only
  refine ⟨fun h => ?_, fun hn h => ?_, fun hn hl h => ?_, fun hn hl hc hz => ?_⟩
  · rw [if_pos (h1.mpr h)]
  · rw [if_neg (mt h1.mp hn), if_pos (h2.mpr h)]
  · rw [if_neg (mt h1.mp hn), if_neg (mt h2.mp hl), if_pos (h3.mpr h)]
  · rw [if_neg (mt h1.mp hn), if_neg (mt h2.mp hl), if_neg (mt h3.mp (by simp [hc, hz]))]

theorem SameChoice.of_timers (h : k = { j with tmr := k.tmr }) : SameChoice j k := by
  rw [h]
  exact ⟨.of_tm rfl, rfl, rfl, rfl, rfl, rfl, fun x => by cases x <;> rfl, rfl, rfl⟩

/-- R85: the level and the decay count after an assessment. -/
theorem moveLevel_spec {raw level : IceLevel} {d : Nat} {p : IceLevel × Nat} (hp : p = moveLevel raw level d) :
    (level.code ≤ raw.code → p.1 = raw ∧ p.2 = 0) ∧
    (raw.code < level.code → (d < 2 → p.1 = level ∧ p.2 = d + 1) ∧ (2 ≤ d → p.1.code + 1 = level.code ∧ p.2 = 0)) := by
  subst hp
  refine ⟨fun h => ?_, fun h => ⟨fun hd => ?_, fun hd => ?_⟩⟩
  · rw [moveLevel_up h]
    exact ⟨rfl, rfl⟩
  · rw [moveLevel_waits h hd]
    exact ⟨rfl, rfl⟩
  · obtain ⟨h1, h2⟩ := moveLevel_down h hd
    rw [h1]
    exact ⟨h2, rfl⟩

/-- R90: what a mode other than the present one, or the present one, is fallen back to. -/
theorem Jobs.watch_spec (hm : j.ice.mode = .scrape) (hk : k = j.watch) :
    (j.scraperLost = true → k.ice.mode = j.fallback ∧ k.ice.barred = true) ∧
    (j.scraperLost = false → j.watchFails = true → k.ice.mode = j.fallback ∧ k.ice.barred = j.ice.barred) ∧
    (j.scraperLost = false → j.watchFails = false → OnlyReads j k) := by
  have hs := j.touchPermits_still
  rw [Jobs.watch_of hm] at hk
  refine ⟨fun hl => ?_, fun hl hf => ?_, fun hl hf => ?_⟩
  · rw [if_pos hl] at hk
    obtain ⟨h1, h2, -⟩ := Jobs.scraperRefused_spec hk
    exact ⟨h1, h2⟩
  · rw [if_neg (by simp [hl]), if_pos hf] at hk
    obtain ⟨h1, h2, -⟩ := Jobs.leaveTo_spec hk
    exact ⟨h1, h2.trans (by rw [hs.ice])⟩
  · rw [if_neg (by simp [hl]), if_neg (by simp [hf])] at hk
    rw [hk]
    exact hs.rest

end Sys2Proof.Machine

open Sys2Proof Sys2Proof.Machine

/-- Settles O54. -/
theorem iceTimers : Obligations.IceTimers := by
  unfold Obligations.IceTimers
  refine ⟨?idle, ?assess, ?raw, ?heater, ?cycle, ?suspension, ?watch, ?finish⟩
  case idle =>
    intro s x hr
    exact ⟨fun h => EndsFrom.work_same hr rfl (if_neg (by rw [Jobs.expired_not h]; decide)),
      fun h => EndsFrom.work_same hr rfl (if_neg (by rw [Jobs.expired_not h]; decide))⟩
  case assess =>
    rintro s raw tag rest ⟨hr, hst⟩ ho rfl
    have hwf : (s.jobs.takeExpiry .t10).tableWf := hst.1
    have hsame : SameChoice s.jobs (s.jobs.takeExpiry .t10) := .of_timers rfl
    have hraw : (s.jobs.takeExpiry .t10).rawLevel = s.jobs.rawLevel ∧ (s.jobs.takeExpiry .t10).probeDrop = s.jobs.probeDrop ∧
      (s.jobs.takeExpiry .t10).ice = s.jobs.ice ∧ (s.jobs.takeExpiry .t10).oc = s.jobs.oc ∧
      (s.jobs.takeExpiry .t10).dev = s.jobs.dev := ⟨rfl, rfl, rfl, rfl, rfl⟩
    have hpar : ∀ n, (s.jobs.takeExpiry .t10).iceParam n = s.jobs.iceParam n := fun _ => rfl
    have htake : (s.jobs.takeExpiry .t10).timer .t10 = (s.jobs.timer .t10).taken := by
      unfold Jobs.takeExpiry
      rw [Jobs.timer_onTimer, if_pos rfl]
    have hpair : ∀ x : Panto, (s.jobs.takeExpiry .t10).timer x.pair = s.jobs.timer x.pair := fun x => by
      unfold Jobs.takeExpiry
      rw [Jobs.timer_onTimer, if_neg (by cases x <;> decide)]
    have hmark := fun (x : Panto) (n : Nat) (e : PointEntry) (b : BitRef) =>
      Jobs.assessed_marks (x := x) (n := n) (e := e) (b := b) tag hwf rfl
    have hmaps : ∀ r, (s.jobs.takeExpiry .t10).mapStands r = s.jobs.mapStands r := fun _ => rfl
    have hheats : ∀ x, (s.jobs.takeExpiry .t10).heated x = s.jobs.heated x ∧
      (s.jobs.takeExpiry .t10).supplied x = s.jobs.supplied x := fun x => by cases x <;> exact ⟨rfl, rfl⟩
    have hperiod : (s.jobs.takeExpiry .t10).assessPeriod = s.jobs.assessPeriod := rfl
    have ha := Jobs.assessed tag hwf
    have hrec : (Jobs.reassessed tag (s.jobs.takeExpiry .t10)).ice = { s.jobs.ice with
        level := (moveLevel s.jobs.rawLevel s.jobs.ice.level s.jobs.ice.decay).1,
        decay := (moveLevel s.jobs.rawLevel s.jobs.ice.level s.jobs.ice.decay).2, tally := 0, barred := false,
        last := some { temp := s.jobs.ice.temp, probe := s.jobs.ice.probe, drop := s.jobs.probeDrop, tally := s.jobs.ice.tally,
                       raw := s.jobs.rawLevel, level := (moveLevel s.jobs.rawLevel s.jobs.ice.level s.jobs.ice.decay).1,
                       tag := tag } } := rfl
    refine ⟨_, EndsFrom.work hr rfl (Jobs.iceAssessment_of ho), ?_⟩
    generalize (Jobs.levelled tag (s.jobs.takeExpiry .t10)).chooseUnlessSuspended.periodTaken = k at *
    generalize s.jobs.takeExpiry .t10 = a at *
    obtain ⟨h1, h2, h3, h4, h5, h6, h7, h8⟩ := ha
    rw [hraw.2.2.1] at h3 h4 h5 h6 h7 h8
    rw [htake, hperiod] at h2
    simp only [hpar] at h4
    simp only [hpair] at h6
    simp only [hraw, hmaps, hheats, hpar] at hmark
    rw [hrec] at h1
    have hlevel : k.ice.level = (moveLevel s.jobs.rawLevel s.jobs.ice.level s.jobs.ice.decay).1 := by rw [h1]
    have hdecay : k.ice.decay = (moveLevel s.jobs.rawLevel s.jobs.ice.level s.jobs.ice.decay).2 := by rw [h1]
    obtain ⟨m1, m2⟩ := moveLevel_spec (p := moveLevel s.jobs.rawLevel s.jobs.ice.level s.jobs.ice.decay) rfl
    rw [← hlevel, ← hdecay] at m1 m2
    refine ⟨by rw [h1], by rw [h1], by rw [h1], ?_, ?_, ?_, m1, m2, h3, ?_, h7, fun hm => hsame.chosen (h8 hm)⟩
    · rw [h2]
      exact Nat.max_eq_left (le_trans (by decide) (Nat.le_max_left _ _))
    · rw [hlevel, h1]
    · rw [h2]
      show (s.jobs.timer .t10).owed.tail = rest
      rw [ho]
      rfl
    · rintro x on off rfl rfl
      refine ⟨h4 x, h5 x, h6 x, ?_⟩
      rintro r n e b rfl hrun hl hh hf hoff he hb hs hheat hsup hp hon hc
      exact hmark x n e b hrun hl hh hf hoff he hb hs hheat hsup hp hon hc
  case raw =>
    rintro j drop cold cool heavy light rfl hcold hcool hheavy hlight
    obtain ⟨h1, h2, h3, h4⟩ := Jobs.rawLevel_rows (hcold.trans (j.coldAs_iff 2).symm) (hcool.trans (j.coldAs_iff 1).symm) hheavy hlight
    refine ⟨h1, h2, h3, h4, fun hp => ?_, fun p hp => ?_⟩
    · unfold Jobs.probeDrop
      rw [hp]
    · unfold Jobs.probeDrop
      rw [hp]
  case heater =>
    rintro s x on off p ⟨hr, -⟩ ho rfl rfl rfl
    refine ⟨fun hp => EndsFrom.work hr rfl ((Jobs.heaterExpiry_of ho).1 hp), fun hp => ⟨_, EndsFrom.work hr rfl rfl, ?_⟩⟩
    obtain ⟨h1, h2, h3, h4, h5⟩ := Jobs.heaterExpiry_spec ho hp rfl
    refine ⟨h2, h1.ice, ?_, h3, h4, h5⟩
    rw [h1.ice]
    cases x <;> rfl
  case cycle =>
    rintro j k x on off - rfl rfl rfl
    have honly := OnlyCycle.followCycle x j
    refine ⟨j.heated_iff x, j.supplied_iff x, j.heaterOn_iff x, Jobs.followCycle_away, fun hh hp => ?_, fun hh hp => ⟨honly.ice, ?_⟩,
      fun hh hp => ?_⟩
    · obtain ⟨-, h2, h3⟩ := Jobs.endCycle_spec (j := j) (x := x) rfl
      have hi := honly.ice
      rw [Jobs.followCycle_ends hh hp] at *
      rw [h2] at hi
      exact ⟨hi, h3⟩
    · rw [Jobs.followCycle_starts hh hp]
      exact Jobs.startCycle_started x j
    · rw [Jobs.followCycle_goes hh hp]
      exact ⟨Jobs.supplyCycle_ice x j, fun hs => Jobs.supplyCycle_without hp hs rfl, fun hs => Jobs.supplyCycle_with hp hs rfl⟩
  case suspension =>
    rintro j k hw rfl
    refine ⟨j.mustSuspend_iff, fun hm hs => ?_, fun hm hs => ?_, fun hm hs => Jobs.suspension_none hm hs, fun hm hs made hmade => ?_⟩
    · rw [Jobs.suspension_must hm, Jobs.leaveTo_same hs]
    · rw [Jobs.suspension_must hm]
      obtain ⟨h1, h2, -, h3⟩ := Jobs.leaveTo_spec (j := j) (m := .suspended) rfl
      obtain ⟨e1, e2, e3, e4⟩ := h3 hs
      exact ⟨h1, e1, (e3 .p1).1 (Jobs.heated_suspended h1 _), (e3 .p2).1 (Jobs.heated_suspended h1 _), h2, e2, e4⟩
    · rw [Jobs.suspension_ends hm hs]
      exact Jobs.endSuspension_chosen hw hmade
  case watch =>
    rintro j k back lost fails - rfl rfl hlost hfails
    rw [← Jobs.scraperLost_iff] at hlost
    rw [← Jobs.watchFails_iff] at hfails
    refine ⟨Jobs.watch_other, fun hm => ?_⟩
    obtain ⟨h1, h2, h3⟩ := Jobs.watch_spec hm rfl
    rw [hlost, hfails, Bool.not_eq_true, Bool.not_eq_true]
    exact ⟨h1, h2, h3⟩
  case finish =>
    rintro u t hst hr ht rfl
    have hf := State.finish_follows hst hr ht
    exact ⟨hf.suspended.trans (Jobs.mustSuspend_iff _), hf.scrapes, hf.cycles⟩

end

section
/-! PROOFS. Admitted and composed words (O32): the owned bits, the earthing bit, and every other bit as the interlock rows
make it. -/

namespace Sys2Proof.Machine

open Sys2Proof

variable {j : Jobs} {e : PointEntry} {p w : Word} {i : Nat}

/-! ### One bit set -/

theorem setBit_same (w : Word) (hi : i < 16) (v : Bool) : bit (setBit w i v) i = v := by
  unfold setBit bit
  cases v <;> simp [hi]

theorem setBit_other (w : Word) {k : Nat} (hk : k ≠ i) (v : Bool) : bit (setBit w i v) k = bit w k := by
  unfold setBit bit
  have h1 : (1#16 <<< i).getLsbD k = false := by
    rcases Nat.lt_or_gt_of_ne hk with h | h
    · simp [h]
    · simp [show k - i ≠ 0 by omega]
  cases v
  · by_cases h16 : k < 16
    · simp only [Bool.false_eq_true, if_false, BitVec.getLsbD_and, BitVec.getLsbD_not, h1, h16, decide_true, Bool.not_false,
        Bool.and_true]
    · simp [BitVec.getLsbD_of_ge _ _ (Nat.le_of_not_lt h16)]
  · simp only [if_true, BitVec.getLsbD_or, h1, Bool.or_false]

theorem BitRef.reads_eq (b : BitRef) (w : Word) : b.reads w = (Machine.bit w b.bit.val != b.low) := rfl

/-- R100: a role's value is read back from the bit that it was written to. -/
theorem BitRef.reads_write (b : BitRef) (on : Bool) (w : Word) : b.reads (b.write on w) = on := by
  rw [BitRef.reads_eq, BitRef.write, setBit_same w b.bit.isLt]
  cases on <;> cases b.low <;> rfl

theorem BitRef.bit_write_other (b : BitRef) (on : Bool) (w : Word) (h : b.bit.val ≠ i) :
    Machine.bit (b.write on w) i = Machine.bit w i := setBit_other w (Ne.symm h) _

/-! ### The owned overlay and the earthing interlock (R155) -/

/-- The writing of owned roles, the earlier in the list last. -/
theorem writes_unowned (on : OwnedRole → Bool) (w : Word) (l : List (OwnedRole × BitRef))
    (h : l.any (fun o => o.2.bit.val == i) = false) :
    bit (l.foldr (fun o w => o.2.write (on o.1) w) w) i = bit w i := by
  induction l with
  | nil => rfl
  | cons o l ih =>
    obtain ⟨ho, hl⟩ := Bool.or_eq_false_iff.mp (List.any_cons ▸ h)
    rw [List.foldr_cons, BitRef.bit_write_other _ _ _ (by simpa using ho)]
    exact ih hl

theorem writes_owned (on : OwnedRole → Bool) (w : Word) (l : List (OwnedRole × BitRef)) (r : OwnedRole × BitRef)
    (h : l.find? (fun o => o.2.bit.val == i) = some r) :
    r.2.reads (l.foldr (fun o w => o.2.write (on o.1) w) w) = on r.1 := by
  induction l with
  | nil => nomatch h
  | cons o l ih =>
    have hr : r.2.bit.val = i := by simpa using List.find?_some h
    rw [List.find?_cons] at h
    rw [List.foldr_cons]
    by_cases ho : o.2.bit.val = i
    · rw [beq_iff_eq.mpr ho] at h
      obtain rfl := Option.some.inj h
      exact BitRef.reads_write _ _ _
    · rw [beq_eq_false_iff_ne.mpr ho] at h
      rw [BitRef.reads_eq, BitRef.bit_write_other _ _ _ (by rw [hr]; exact ho)]
      exact ih h

theorem Jobs.overlay_unowned (h : e.owns i = false) : bit (j.overlay e w) i = bit w i :=
  writes_unowned j.sent w e.owned h

theorem Jobs.overlay_owned {r : OwnedRole × BitRef} (h : e.owned.find? (fun o => o.2.bit.val == i) = some r) :
    r.2.reads (j.overlay e w) = j.sent r.1 := writes_owned j.sent w e.owned r h

/-- The earthing interlock leaves a bit that is not the earthing bit, and every bit where it lets an earthing bit by. -/
theorem Jobs.earthGate_bit (h : ∀ b, e.earth = some b → b.bit.val = i → j.oc.safe = true ∧ j.mapUsable .earth = true) :
    bit (j.earthGate e w) i = bit w i := by
  unfold Jobs.earthGate
  split
  case h_1 b he =>
    split
    · rfl
    · rename_i hno
      exact b.bit_write_other false w fun hb => hno (Bool.and_eq_true_iff.mpr (h b he hb))
  case h_2 => rfl

/-- R155: the earthing bit is sent active only while SAFE is asserted and the EARTH entry is usable. -/
theorem Jobs.earthGate_active {b : BitRef} (he : e.earth = some b) (h : b.reads (j.earthGate e w) = true) :
    j.oc.safe = true ∧ j.mapUsable .earth = true := by
  unfold Jobs.earthGate at h
  rw [he] at h
  dsimp only at h
  split at h
  case isTrue hg => exact Bool.and_eq_true_iff.mp hg
  case isFalse => rw [b.reads_write] at h; nomatch h

/-! ### The rows on every bit (R156) -/

/-- Each bit below `n` set in turn, but for those kept. -/
theorem setBits_bit (keep val : Nat → Bool) (w : Word) (n : Nat) (hn : n ≤ 16) (i : Nat) :
    bit ((List.range n).foldl (fun acc i => if keep i then acc else setBit acc i (val i)) w) i =
      if i < n ∧ keep i = false then val i else bit w i := by
  induction n with
  | zero => simp
  | succ n ih =>
    rw [List.range_succ, List.foldl_append, List.foldl_cons, List.foldl_nil]
    cases hk : keep n with
    | true =>
      have hlt : i < n + 1 ∧ keep i = false ↔ i < n ∧ keep i = false :=
        ⟨fun ⟨h, hf⟩ => ⟨(Nat.lt_succ_iff_lt_or_eq.mp h).resolve_right fun he => (by rw [he, hk] at hf; nomatch hf), hf⟩,
         fun ⟨h, hf⟩ => ⟨Nat.lt_succ_of_lt h, hf⟩⟩
      rw [if_pos rfl, ih (by omega)]
      simp only [hlt]
    | false =>
      rw [if_neg Bool.false_ne_true]
      by_cases hi : i = n
      · subst hi
        rw [setBit_same _ (by omega), if_pos ⟨Nat.lt_succ_self _, hk⟩]
      · rw [setBit_other _ hi, ih (by omega)]
        simp only [show i < n + 1 ↔ i < n by omega]

theorem Jobs.applyRows_bit (o : Option PointEntry) (hi : i < 16) :
    bit (j.applyRows p o w) i = if o.any (fun e => e.owns i) = false then j.rowBit p o i (bit w i) else bit w i := by
  refine (setBits_bit (fun i => o.any (fun e => e.owns i)) (fun i => j.rowBit p o i (bit w i)) w 16 le_rfl i).trans ?_
  simp only [hi, true_and]

/-! ### The deciding row (R156 to R158) -/

theorem Jobs.decidingRow_some {r : Nat} (hr : r < 16) (hc : j.rowCovers r p i = true)
    (hlow : ∀ k, k < r → j.rowCovers k p i = false) : j.decidingRow p i = some r := by
  unfold Jobs.decidingRow
  exact (find_lowest List.pairwise_lt_range r).mpr ⟨List.mem_range.mpr hr, hc, fun k _ hk => hlow k hk⟩

theorem Jobs.decidingRow_none (h : ∀ r, r < 16 → j.rowCovers r p i = false) : j.decidingRow p i = none := by
  unfold Jobs.decidingRow
  rw [List.find?_eq_none]
  exact fun r hr => by simp [h r (List.mem_range.mp hr)]

theorem Jobs.rowPoisoned_iff (r : Nat) : j.rowPoisoned r = true ↔ ∃ n, n < 4 ∧ j.bad (rowAddr r + n) = true := by
  simp [Jobs.rowPoisoned, Jobs.anyBad, span]

theorem Jobs.rowCovers_iff (r : Nat) : j.rowCovers r p i = true ↔
    (j.rowPoisoned r = true ∧ (j.bad (rowAddr r + 2) = true ∨ j.bad (rowAddr r + 3) = true)) ∨
      ((j.rowPoisoned r = true ∨ bit (j.word (rowAddr r)) 15 = true) ∧
        j.word (rowAddr r + 2) = p ∧ bit (j.word (rowAddr r + 3)) i = true) := by
  unfold Jobs.rowCovers
  cases j.rowPoisoned r <;> simp [or_assoc]

/-- R156: a row passes where every condition in its set holds. -/
theorem Jobs.rowPasses_iff (r : Nat) : j.rowPasses r = true ↔
    ∀ n, n < 8 → bit (j.word (rowAddr r + 1)) n = true → j.condition n = true := by
  simp only [Jobs.rowPasses, List.all_eq_true, List.mem_range, Bool.or_eq_true, Bool.not_eq_true']
  exact forall_congr' fun n => imp_congr_right fun _ => by cases bit (j.word (rowAddr r + 1)) n <;> simp

theorem Jobs.condition_iff {holds : Nat → Prop} (h0 : holds 0 ↔ j.fb.brk = .open)
    (h1 : holds 1 ↔ j.p1.state = .lowered ∧ j.p2.state = .lowered)
    (h2 : holds 2 ↔ j.speed.known = true ∧ j.speed.aged = false ∧ j.speed.kmh = 0) (h3 : holds 3 ↔ j.fb.sel = .ac)
    (h4 : holds 4 ↔ j.fb.sel = .dc) (h5 : holds 5 ↔ ∃ k, j.lsi.confirmed = .system k) (h6 : holds 6 ↔ j.cs.state = .idle)
    (h7 : holds 7 ↔ j.ice.mode = .off ∨ j.ice.mode = .suspended) (n : Nat) (hn : n < 8) :
    j.condition n = true ↔ holds n := by
  match n, hn with
  | 0, _ => rw [h0]; exact beq_iff_eq
  | 1, _ => rw [h1]; simp [Jobs.condition, Jobs.bothLowered]
  | 2, _ => rw [h2]; simp [Jobs.condition, SpeedRec.isKnown, and_assoc]
  | 3, _ => rw [h3]; exact beq_iff_eq
  | 4, _ => rw [h4]; exact beq_iff_eq
  | 5, _ =>
    rw [h5]
    show j.lsi.confirmed.isSystem = true ↔ _
    cases j.lsi.confirmed <;> simp [Line.isSystem, Line.index]
  | 6, _ => rw [h6]; exact beq_iff_eq
  | 7, _ => rw [h7]; simp [Jobs.condition]

/-- R157: FORCE_OFF sends the inactive value. -/
theorem offValue_iff (o : Option PointEntry) (i : Nat) :
    offValue o i = true ↔ ∃ f b, o = some f ∧ f.earth = some b ∧ b.bit.val = i ∧ b.low = true := by
  rcases o with _ | f
  · simp [offValue]
  · cases hf : f.earth <;> simp [offValue, hf]

section
variable {o : Option PointEntry} {v : Bool} {r : Nat} (hd : j.decidingRow p i = some r)
include hd

theorem Jobs.rowBit_poisoned (hp : j.rowPoisoned r = true) : j.rowBit p o i v = offValue o i := by
  unfold Jobs.rowBit
  rw [hd]
  exact if_pos hp

theorem Jobs.rowBit_good (hp : j.rowPoisoned r = false) : j.rowBit p o i v =
    if j.rowPasses r then v
    else if bits (j.word (rowAddr r)) 0 2 = 0 then (o.map (fun e => bit e.lastSent i)).getD false else offValue o i := by
  unfold Jobs.rowBit
  rw [hd]
  exact if_neg (by simp [hp])

end

theorem Jobs.rowBit_uncovered (o : Option PointEntry) (v : Bool) (hd : j.decidingRow p i = none) : j.rowBit p o i v = v := by
  unfold Jobs.rowBit
  rw [hd]

/-! ### The words sent (R106, R154, R155) -/

/-- What R155 to R158 make of the word `w` for the point `p` of the entry `e`. -/
structure Sends (j : Jobs) (e : PointEntry) (p w v : Word) : Prop where
  gated : ∀ b, e.earth = some b → b.reads v = true → j.oc.safe = true ∧ j.mapUsable .earth = true
  owned : ∀ i r, i < 16 → e.owned.find? (fun o => o.2.bit.val == i) = some r → (∀ b, e.earth = some b → b.bit.val ≠ i) →
    r.2.reads v = j.sent r.1
  other : ∀ i, i < 16 → e.owns i = false →
    (∀ b, e.earth = some b → b.bit.val = i → j.oc.safe = true ∧ j.mapUsable .earth = true) →
    bit v i = j.rowBit p (some e) i (bit w i)

/-- A bit that an entry owns is the same in two words: a role reads it alike. -/
theorem BitRef.reads_congr {b : BitRef} {v w : Word} (h : Machine.bit v b.bit.val = Machine.bit w b.bit.val) : b.reads v = b.reads w :=
  congrArg (· != b.low) h

theorem Jobs.admitted_sends (he : j.oc.entry p = some e) : Sends j e p w (j.admitted p w) := by
  have hv : j.admitted p w = j.earthGate e (j.applyRows p (some e) (j.earthGate e (j.overlay e w))) := by
    unfold Jobs.admitted
    rw [he]
  rw [hv]
  refine ⟨fun b hb hr => Jobs.earthGate_active hb hr, fun i r hi hr hno => ?_, fun i hi hu hg => ?_⟩
  · have hri : r.2.bit.val = i := by simpa using List.find?_some hr
    have howns : e.owns i = true := List.any_eq_true.mpr ⟨r, List.mem_of_find?_eq_some hr, beq_iff_eq.mpr hri⟩
    have hg : ∀ b, e.earth = some b → b.bit.val = i → j.oc.safe = true ∧ j.mapUsable .earth = true :=
      fun b hb hbi => absurd hbi (hno b hb)
    rw [← Jobs.overlay_owned (j := j) (w := w) hr]
    refine BitRef.reads_congr ?_
    rw [hri, Jobs.earthGate_bit hg, Jobs.applyRows_bit _ hi, if_neg (by simp [howns]), Jobs.earthGate_bit hg]
  · rw [Jobs.earthGate_bit hg, Jobs.applyRows_bit _ hi, if_pos (by simpa using hu), Jobs.earthGate_bit hg,
      Jobs.overlay_unowned hu]

theorem Jobs.composed_sends (he : j.oc.entry p = some e) : Sends j e p w (j.composed { e with lastWord := w }) := by
  have hp : e.point = p := by simpa using List.find?_some he
  have hv : j.composed { e with lastWord := w } =
      j.earthGate e (j.overlay e (j.earthGate e (j.applyRows p (some { e with lastWord := w }) (j.earthGate e w)))) := by
    rw [← hp]
    rfl
  have hrow : ∀ i v, j.rowBit p (some { e with lastWord := w }) i v = j.rowBit p (some e) i v := fun _ _ => rfl
  rw [hv]
  refine ⟨fun b hb hr => Jobs.earthGate_active hb hr, fun i r hi hr hno => ?_, fun i hi hu hg => ?_⟩
  · have hri : r.2.bit.val = i := by simpa using List.find?_some hr
    rw [← Jobs.overlay_owned hr]
    refine BitRef.reads_congr ?_
    rw [Jobs.earthGate_bit fun b hb hbi => absurd (hri ▸ hbi) (hno b hb)]
  · have hu' : (some { e with lastWord := w }).any (fun e => e.owns i) = false := hu
    rw [Jobs.earthGate_bit hg, Jobs.overlay_unowned hu, Jobs.earthGate_bit hg, Jobs.applyRows_bit _ hi, if_pos hu', hrow,
      Jobs.earthGate_bit hg]

end Sys2Proof.Machine

open Sys2Proof Sys2Proof.Machine

/-- Settles O32: the overlay, the earthing interlock and the rows each say what they make of one bit, and both words go
through all three; the deciding row is the first of the sixteen that covers the bit. -/
theorem admittedBits : Obligations.AdmittedBits := by
  unfold Obligations.AdmittedBits
  refine ⟨fun j p w e he v hv => ?_, fun j p w he i hi => ?_, fun j p e i v last off row poisoned covers holds hi hrow hpois
    hcov h0 h1 h2 h3 h4 h5 h6 h7 hlast hlast0 hoff => ?_⟩
  · have hs : Sends j e p w v := by
      rcases hv with rfl | rfl
      · exact Jobs.admitted_sends he
      · exact Jobs.composed_sends he
    exact ⟨hs.gated, fun b hb hsafe hu hown => hs.other _ b.bit.isLt hown fun _ _ _ => ⟨hsafe, hu⟩,
      hs.owned, fun i hi hown hno => hs.other i hi hown fun b hb hbi => absurd hbi (hno b hb)⟩
  · unfold Jobs.admitted
    rw [he]
    exact Jobs.applyRows_bit none hi
  · have hrowA : ∀ r n, row r n = j.word (rowAddr r + n) := hrow
    have hcond := Jobs.condition_iff h0 h1 h2 h3 h4 h5 h6 h7
    have hpois' : ∀ r, poisoned r ↔ j.rowPoisoned r = true := fun r => (hpois r).trans (j.rowPoisoned_iff r).symm
    have hcov' : ∀ r, covers r ↔ j.rowCovers r p i = true := fun r => by
      rw [hcov r, Jobs.rowCovers_iff, hpois', hrowA, hrowA, hrowA]
      rfl
    have hoffv : offValue e i = off := Bool.eq_iff_iff.mpr ((offValue_iff e i).trans hoff.symm)
    have hlastv : (e.map (fun e => bit e.lastSent i)).getD false = last := by
      cases e with
      | none => exact (hlast0 rfl).symm
      | some f => exact (hlast f rfl).symm
    refine ⟨fun hno => Jobs.rowBit_uncovered _ _ (Jobs.decidingRow_none fun r hr =>
      Bool.eq_false_iff.mpr fun hc => hno r hr ((hcov' r).mpr hc)), fun r hr hc hlow => ?_⟩
    have hd := Jobs.decidingRow_some hr ((hcov' r).mp hc)
      fun k hk => Bool.eq_false_iff.mpr fun hck => hlow k hk ((hcov' k).mpr hck)
    refine ⟨fun hp => (Jobs.rowBit_poisoned hd ((hpois' r).mp hp)).trans hoffv, fun hp => ?_⟩
    have hgood := Jobs.rowBit_good (o := e) (v := v) hd (Bool.eq_false_iff.mpr fun h => hp ((hpois' r).mpr h))
    rw [hlastv, hoffv] at hgood
    have hpass : j.rowPasses r = true ↔ ∀ n, n < 8 → bit (row r 1) n = true → holds n := by
      rw [Jobs.rowPasses_iff, hrowA]
      exact forall_congr' fun n => forall_congr' fun hn => imp_congr_right fun _ => hcond n hn
    have hrow0 : row r 0 = j.word (rowAddr r) := hrowA r 0
    rw [hgood, ← hrow0]
    refine ⟨fun hall => if_pos (hpass.mpr hall), fun n hn hb hfail => ?_⟩
    rw [if_neg fun h => hfail (hpass.mp h n hn hb)]
    exact ⟨fun hz => if_pos hz, fun hz => if_neg hz⟩
end

section
/-! PROOFS. WRITE and CHECK_WRITE (O46): the words stored, what a WRITE does beyond storing, and the roof settings word. -/

namespace Sys2Proof.Machine

open Sys2Proof

variable {s t u : State} {j k l : Jobs} {f : Frame}

/-! ### Words stored (R182, R185) -/

theorem Jobs.storeWord_eq (a : Nat) (w : Word) (c : BitVec 6) (j : Jobs) :
    j.storeWord a w c = { j with tm := (j.storeWord a w c).tm } := by
  unfold Jobs.storeWord
  split <;> rfl

theorem Jobs.storeWord_wf (hw : j.tableWf) (a : Nat) (w : Word) (c : BitVec 6) : (j.storeWord a w c).tableWf := by
  unfold Jobs.storeWord
  split
  · exact Store.wf_write hw a _
  · exact hw

/-- R182: what an address reads as after a word is stored. -/
theorem Jobs.storeWord_cell (hw : j.tableWf) (a b : Nat) (w : Word) (c : BitVec 6) :
    (j.storeWord a w c).cell b = if b = a ∧ writable a = true then { data := w, check := c } else j.cell b := by
  unfold Jobs.storeWord
  by_cases h : writable a = true
  · rw [if_pos h]
    refine (Store.read_write hw a b _).trans ?_
    simp only [h, and_true]
    rfl
  · rw [if_neg h, if_neg fun h' => h h'.2]

theorem Jobs.storeWords_eq (a : Nat) (ws : List Word) (j : Jobs) :
    j.storeWords a ws = { j with tm := (j.storeWords a ws).tm } := by
  induction ws generalizing a j with
  | nil => rfl
  | cons w ws ih =>
    show (j.storeWord a w 0).storeWords (a + 1) ws = { j with tm := ((j.storeWord a w 0).storeWords (a + 1) ws).tm }
    have h1 := ih (a + 1) (j.storeWord a w 0)
    generalize (j.storeWord a w 0).storeWords (a + 1) ws = k at h1 ⊢
    rw [h1, j.storeWord_eq a w 0]

/-- R182: what the addresses read as after a WRITE's words are stored. -/
theorem Jobs.storeWords_cell (a : Nat) (ws : List Word) (j : Jobs) (hw : j.tableWf) : (j.storeWords a ws).tableWf ∧
    ∀ b, (j.storeWords a ws).cell b =
      if a ≤ b ∧ b < a + ws.length ∧ writable b = true then { data := ws.getD (b - a) 0 } else j.cell b := by
  induction ws generalizing a j with
  | nil => exact ⟨hw, fun b => (if_neg fun h => absurd h.2.1 (by simpa using h.1)).symm⟩
  | cons w ws ih =>
    obtain ⟨hwf, hcell⟩ := ih (a + 1) _ (j.storeWord_wf hw a w 0)
    refine ⟨hwf, fun b => (hcell b).trans ?_⟩
    rw [Jobs.storeWord_cell hw, List.length_cons]
    by_cases hb : b = a
    · subst hb
      rw [if_neg (by omega)]
      by_cases hwr : writable b = true
      · simp [hwr]
      · rw [if_neg (by simp [hwr]), if_neg (by simp [hwr])]
    · by_cases hin : a + 1 ≤ b ∧ b < a + 1 + ws.length ∧ writable b = true
      · rw [if_pos hin, if_pos ⟨by omega, by omega, hin.2.2⟩, show b - a = (b - (a + 1)) + 1 by omega, List.getD_cons_succ]
      · rw [if_neg hin, if_neg (by omega), if_neg fun h => hin ⟨by omega, by omega, h.2.2⟩]

/-! ### The effects of a WRITE beyond storing (R16, R103, R190) -/

/-- `k` differs from `j` at most in what a WRITE reaches: the LMU, the point image table, the timers, table memory and the
step's lists. -/
def OnlyWritten (j k : Jobs) : Prop :=
  k = { j with lmu := k.lmu, oc := { j.oc with table := k.oc.table }, tmr := k.tmr, tm := k.tm, todo := k.todo, out := k.out }

theorem OnlyWritten.trans (h : OnlyWritten j k) (h' : OnlyWritten k l) : OnlyWritten j l := by
  unfold OnlyWritten at *
  rw [h'] at *
  rw [h]

theorem Still.onlyWritten (h : Still j k) : OnlyWritten j k := by
  have hr := h.rest
  unfold OnlyWritten
  rw [h.lmu, h.oc, h.tmr]
  exact hr

/-- R16: measurement starts anew where a WRITE has stored a word of the LINE_V entry, in RUN. -/
def Jobs.measuredAnew (as : List Nat) (j : Jobs) : Jobs :=
  if j.dev = .run ∧ (0x090 ∈ as ∨ 0x091 ∈ as) then j.restartMeasurement else j

/-- R103: the point image table is rebuilt where a WRITE has stored a word of the point map. -/
def Jobs.mappedAnew (as : List Nat) (j : Jobs) : Jobs :=
  if as.any (fun a => decide (0x090 ≤ a ∧ a ≤ 0x0B9)) then j.rebuild true else j

/-- R190: T13 follows where a WRITE has stored the status period word, in RUN. -/
def Jobs.timedAnew (as : List Nat) (j : Jobs) : Jobs := if j.dev = .run ∧ 4 ∈ as then j.newPeriod else j

theorem Jobs.afterWrite_eq (as : List Nat) (j : Jobs) :
    j.afterWrite as = (((j.measuredAnew as).mappedAnew as).timedAnew as).push .look := rfl

theorem Jobs.measuredAnew_rest (as : List Nat) (j : Jobs) :
    j.measuredAnew as = { j with lmu := (j.measuredAnew as).lmu, tmr := (j.measuredAnew as).tmr } := by
  unfold Jobs.measuredAnew
  split <;> rfl

theorem Jobs.measuredAnew_of {as : List Nat} (hr : j.dev = .run) (h : 0x090 ∈ as ∨ 0x091 ∈ as) :
    (j.measuredAnew as).lmu = { state := .waiting } ∧ ((j.measuredAnew as).timer .t15).loaded 200 .oneShot := by
  unfold Jobs.measuredAnew
  rw [if_pos ⟨hr, h⟩]
  refine ⟨rfl, ?_⟩
  unfold Jobs.restartMeasurement
  rw [Jobs.timer_load, if_pos rfl]
  exact Timer.loaded_load (by decide) _ _

theorem Jobs.measuredAnew_not {as : List Nat} (h : j.dev = .config ∨ (0x090 ∉ as ∧ 0x091 ∉ as)) : j.measuredAnew as = j := by
  unfold Jobs.measuredAnew
  rw [if_neg]
  rintro ⟨hr, hm⟩
  rcases h with h | h
  · exact absurd (h.symm.trans hr) (by decide)
  · exact hm.elim h.1 h.2

theorem Jobs.measuredAnew_timers (as : List Nat) (j : Jobs) : OtherTimers [.t15] j (j.measuredAnew as) := by
  unfold Jobs.measuredAnew
  split
  · exact OtherTimers.onTimer (List.mem_singleton_self _) _ (j.setLmu { state := .waiting })
  · exact .refl _ _

theorem Jobs.mappedAnew_still (as : List Nat) (j : Jobs) :
    Still (j.setOc { j.oc with table := (j.mappedAnew as).oc.table }) (j.mappedAnew as) := by
  unfold Jobs.mappedAnew
  split
  · exact j.rebuild_still true
  · exact .refl _

theorem Jobs.mappedAnew_of {as : List Nat} (hw : j.tableWf) (h : ∃ a ∈ as, 0x090 ≤ a ∧ a ≤ 0x0B9) :
    Rebuilt j.oc (j.dev == .run) (j.mappedAnew as) := by
  unfold Jobs.mappedAnew
  rw [if_pos (by simpa using h)]
  exact Jobs.rebuild_rebuilt true j.oc hw fun p => rfl

theorem Jobs.mappedAnew_not {as : List Nat} (h : ∀ a ∈ as, ¬ (0x090 ≤ a ∧ a ≤ 0x0B9)) : j.mappedAnew as = j := by
  unfold Jobs.mappedAnew
  rw [if_neg (by simpa using h)]

theorem Jobs.timedAnew_rest (as : List Nat) (j : Jobs) : j.timedAnew as = { j with tmr := (j.timedAnew as).tmr } := by
  unfold Jobs.timedAnew Jobs.newPeriod
  split
  · dsimp only
    split
    · rfl
    · split <;> rfl
  · rfl

theorem Jobs.timedAnew_timers (as : List Nat) (j : Jobs) : OtherTimers [.t13] j (j.timedAnew as) := by
  unfold Jobs.timedAnew Jobs.newPeriod
  split
  · dsimp only
    split
    · exact OtherTimers.onTimer (List.mem_singleton_self _) _ j
    · split
      · exact OtherTimers.onTimer (List.mem_singleton_self _) _ j
      · exact OtherTimers.onTimer (List.mem_singleton_self _) _ j
  · exact .refl _ _

theorem Jobs.timedAnew_not {as : List Nat} (h : j.dev = .config ∨ 4 ∉ as) : j.timedAnew as = j := by
  unfold Jobs.timedAnew
  rw [if_neg]
  rintro ⟨hr, hm⟩
  rcases h with h | h
  · exact absurd (h.symm.trans hr) (by decide)
  · exact h hm

/-- R190: what a new status period does to T13. -/
theorem Jobs.timedAnew_of {as : List Nat} (hr : j.dev = .run) (h : 4 ∈ as) {m : Nat} (hm : m = j.statusPeriod) :
    (m = 0 → ((j.timedAnew as).timer .t13).stopped) ∧
    (0 < m → (j.timer .t13).running = true → (j.timedAnew as).timer .t13 = { j.timer .t13 with reload := m }) ∧
    (0 < m → (j.timer .t13).running = false → ((j.timedAnew as).timer .t13).loaded m .periodic) := by
  unfold Jobs.timedAnew Jobs.newPeriod
  rw [if_pos ⟨hr, h⟩, ← hm]
  dsimp only
  refine ⟨fun h0 => ?_, fun h0 hrun => ?_, fun h0 hrun => ?_⟩
  · rw [if_pos h0, Jobs.timer_stop, if_pos rfl]
    exact Timer.stopped_stop _
  · rw [if_neg (by omega), if_pos hrun, Jobs.timer_onTimer, if_pos rfl]
    show Timer.setReload m (j.timer .t13) = _
    unfold Timer.setReload
    rw [Nat.max_eq_left h0]
  · rw [if_neg (by omega), if_neg (by simp [hrun]), Jobs.timer_load, if_pos rfl]
    exact Timer.loaded_load h0 _ _

/-- R16, R103, R190: what a WRITE does beyond storing, where it has stored the words at the addresses `as`. -/
theorem Jobs.afterWrite_spec (hw : j.tableWf) (as : List Nat) (hk : k = j.afterWrite as) :
    OnlyWritten j k ∧ SameWords j k ∧ k.tableWf ∧ .look ∈ k.todo ∧ OtherTimers [.t13, .t15] j k := by
  subst hk
  rw [Jobs.afterWrite_eq]
  have h1 := j.measuredAnew_rest as
  have ht1 := j.measuredAnew_timers as
  generalize j.measuredAnew as = a at h1 ht1 ⊢
  have h2 := a.mappedAnew_still as
  generalize a.mappedAnew as = b at h2 ⊢
  have h3 := b.timedAnew_rest as
  have ht3 := b.timedAnew_timers as
  generalize b.timedAnew as = c at h3 ht3 ⊢
  have hwa : a.tableWf := by rw [h1]; exact hw
  have hset : (a.setOc { a.oc with table := b.oc.table }).tableWf := hwa
  have hwb : b.tableWf := h2.tableWf hset
  have hja : OnlyWritten j a := by unfold OnlyWritten; rw [h1]
  have hab : OnlyWritten a b := by
    have hr := h2.rest
    have hl : b.lmu = a.lmu := h2.lmu
    have ht : b.tmr = a.tmr := h2.tmr
    unfold OnlyWritten
    rw [hl, ht]
    exact hr
  have hbc : OnlyWritten b (c.push .look) := by unfold OnlyWritten; rw [h3]; rfl
  refine ⟨(hja.trans hab).trans hbc, ?_, ?_, List.mem_append_right _ (List.mem_singleton_self _), fun i hi => ?_⟩
  · have hsa : SameWords j a := .of_tm (by rw [h1])
    have hsb : SameWords a b := (SameWords.setOc _ a).trans (h2.sameWords hset)
    have hsc : SameWords b (c.push .look) := .of_tm (by rw [h3]; rfl)
    exact (hsa.trans hsb).trans hsc
  · show c.tableWf
    rw [h3]
    exact hwb
  · have hi13 : i ∉ [TimerId.t13] := fun h => hi (List.mem_cons.mpr (.inl (List.mem_singleton.mp h)))
    have hi15 : i ∉ [TimerId.t15] := fun h => hi (List.mem_cons_of_mem _ h)
    rw [Jobs.timer_push, ht3 i hi13, h2.timer i]
    exact ht1 i hi15

theorem Jobs.afterWrite_measures (as : List Nat) (hk : k = j.afterWrite as) :
    (j.dev = .run → (0x090 ∈ as ∨ 0x091 ∈ as) → k.lmu = { state := .waiting } ∧ (k.timer .t15).loaded 200 .oneShot) ∧
    ((j.dev = .config ∨ (0x090 ∉ as ∧ 0x091 ∉ as)) → k.lmu = j.lmu ∧ k.timer .t15 = j.timer .t15) := by
  subst hk
  have hlast : ∀ a : Jobs, (((a.mappedAnew as).timedAnew as).push .look).lmu = a.lmu ∧
      (((a.mappedAnew as).timedAnew as).push .look).timer .t15 = a.timer .t15 := by
    intro a
    have h2 := a.mappedAnew_still as
    generalize a.mappedAnew as = b at h2 ⊢
    have h3 := b.timedAnew_rest as
    have ht3 := b.timedAnew_timers as .t15 (by decide)
    generalize b.timedAnew as = c at h3 ht3 ⊢
    refine ⟨?_, ?_⟩
    · show c.lmu = a.lmu
      rw [h3]
      exact h2.lmu
    · rw [Jobs.timer_push, ht3]
      exact h2.timer .t15
  rw [Jobs.afterWrite_eq, (hlast _).1, (hlast _).2]
  exact ⟨fun hr h => Jobs.measuredAnew_of hr h, fun h => by rw [Jobs.measuredAnew_not h]; exact ⟨rfl, rfl⟩⟩

theorem Jobs.afterWrite_maps (hw : j.tableWf) (as : List Nat) (hk : k = j.afterWrite as) :
    ((∃ a ∈ as, 0x090 ≤ a ∧ a ≤ 0x0B9) → Rebuilt j.oc (j.dev == .run) k) ∧
    ((∀ a ∈ as, ¬ (0x090 ≤ a ∧ a ≤ 0x0B9)) → k.oc = j.oc) := by
  subst hk
  rw [Jobs.afterWrite_eq]
  have h1 := j.measuredAnew_rest as
  generalize j.measuredAnew as = a at h1 ⊢
  have hwa : a.tableWf := by rw [h1]; exact hw
  have hoc : a.oc = j.oc := by rw [h1]
  have hdev : a.dev = j.dev := by rw [h1]
  rw [← hoc, ← hdev]
  have hlast : ∀ b : Jobs, ((b.timedAnew as).push .look).oc = b.oc ∧ ((b.timedAnew as).push .look).tm = b.tm := by
    intro b
    have h3 := b.timedAnew_rest as
    generalize b.timedAnew as = c at h3 ⊢
    rw [h3]
    exact ⟨rfl, rfl⟩
  refine ⟨fun h => (Jobs.mappedAnew_of hwa h).of_words (.of_tm (hlast _).2) (by rw [(hlast _).1]), fun h => ?_⟩
  rw [(hlast _).1, Jobs.mappedAnew_not h]

theorem Jobs.afterWrite_times (hw : j.tableWf) (as : List Nat) (hk : k = j.afterWrite as) {m : Nat} (hm : m = j.statusPeriod) :
    (j.dev = .run → 4 ∈ as →
      (m = 0 → (k.timer .t13).stopped) ∧
      (0 < m → (j.timer .t13).running = true → k.timer .t13 = { j.timer .t13 with reload := m }) ∧
      (0 < m → (j.timer .t13).running = false → (k.timer .t13).loaded m .periodic)) ∧
    ((j.dev = .config ∨ 4 ∉ as) → k.timer .t13 = j.timer .t13) := by
  subst hk
  rw [Jobs.afterWrite_eq, Jobs.timer_push]
  have h1 := j.measuredAnew_rest as
  have ht1 := j.measuredAnew_timers as .t13 (by decide)
  generalize j.measuredAnew as = a at h1 ht1 ⊢
  have h2 := a.mappedAnew_still as
  generalize a.mappedAnew as = b at h2 ⊢
  have hset : (a.setOc { a.oc with table := b.oc.table }).tableWf := by rw [h1]; exact hw
  have hsame : SameWords j b := (SameWords.of_tm (by rw [h1])).trans ((SameWords.setOc _ a).trans (h2.sameWords hset))
  have ht : b.timer .t13 = j.timer .t13 := (h2.timer .t13).trans ht1
  have hdev : b.dev = j.dev := by
    rw [h2.dev, h1]
    rfl
  rw [← ht, ← hdev]
  refine ⟨fun hr h => Jobs.timedAnew_of hr h (hm.trans hsame.statusPeriod.symm), fun h => ?_⟩
  rw [Jobs.timedAnew_not h]

end Sys2Proof.Machine
end

section
/-! PROOFS. The roof settings word under WRITE and CHECK_WRITE, and the two operations (O46). -/

namespace Sys2Proof.Machine

open Sys2Proof

variable {s t u : State} {j k l : Jobs} {f : Frame} {w : Word}

/-! ### The roof settings word (R140) -/

/-- `t` is `s` but for the roof port, and reads and reports that the roof jobs make. -/
structure RoofOnly (s t : State) : Prop where
  rest : t = { s with jobs := t.jobs, roof := t.roof }
  jobs : Still s.jobs t.jobs
  todo : s.jobs.todo <+: t.jobs.todo
  out : s.jobs.out <+: t.jobs.out

theorem RoofOnly.refl (s : State) : RoofOnly s s := ⟨rfl, .refl _, List.prefix_rfl, List.prefix_rfl⟩

theorem RoofOnly.setRoof (v : PortState) (h : RoofOnly s t) : RoofOnly s (t.setRoof v) where
  rest := by
    have hr := h.rest
    unfold State.setRoof
    rw [hr]
  jobs := h.jobs
  todo := h.todo
  out := h.out

theorem RoofOnly.trans (h : RoofOnly s t) (h' : RoofOnly t u) : RoofOnly s u where
  rest := by
    rw [h'.rest, h.rest]
  jobs := h.jobs.trans h'.jobs
  todo := h.todo.trans h'.todo
  out := h.out.trans h'.out

theorem RoofOnly.onJobs {g : Jobs → Jobs} (hs : Still s.jobs (g s.jobs)) (ht : s.jobs.todo <+: (g s.jobs).todo)
    (ho : s.jobs.out <+: (g s.jobs).out) : RoofOnly s (s.onJobs g) := ⟨rfl, hs, ht, ho⟩

theorem RoofOnly.touch (a : Nat) (s : State) : RoofOnly s (s.onJobs fun j => j.touch a) :=
  .onJobs (.touch a _) (Jobs.todo_touch a _) (Held.touch a _).out

theorem RoofOnly.flag (x : Flag) (n : Nat) (s : State) : RoofOnly s (s.onJobs fun j => j.flag x n) :=
  .onJobs (.flag x n _) List.prefix_rfl (List.prefix_append _ _)

theorem RoofOnly.free (h : RoofOnly s t) (hs : t.roof.sending = s.roof.sending) (hm : t.roof.mode = s.roof.mode) :
    RoofFree t ↔ RoofFree s := by
  have hrb : t.rb = s.rb := by rw [h.rest]
  unfold RoofFree
  rw [hrb, hs, hm]

/-- R140: a word of divisor 0 gives no settings. -/
theorem Jobs.roofSettings_zero (h : j.roofWord.divisor = 0) : j.roofSettings = none := by
  have hb : j.bad 1 = false := by
    cases hb : j.bad 1 with
    | false => rfl
    | true =>
      unfold Jobs.roofWord at h
      rw [hb, if_pos rfl] at h
      exact absurd h (by decide)
  refine j.roofSettings_eq.2 hb ?_
  unfold Jobs.roofWord at h
  rwa [hb] at h

/-- R140: an application that has no cause leaves everything; one that has gives the port the word's settings, or finds
divisor 0. -/
theorem State.roofApply_spec (s : State) : RoofOnly s s.roofApply ∧
    ((s.roof.applyWord = false ∨ ¬ RoofFree s) → s.roofApply.roof = s.roof) ∧
    (s.roof.applyWord = true → RoofFree s →
      (s.jobs.roofWord.divisor ≠ 0 → s.roofApply.roof = s.roof.applied s.jobs.roofWord) ∧
      (s.jobs.roofWord.divisor = 0 → s.roofApply.roof = { s.roof with applyWord := false } ∧
        Flagged .roofLinkError 4 s.roofApply.jobs.out)) := by
  by_cases h : s.roof.applyWord = true ∧ RoofFree s
  · refine ⟨?_, fun hno => (hno.elim (fun ha => by rw [ha] at h; nomatch h.1) fun hf => absurd h.2 hf), fun _ _ => ⟨fun hd => ?_,
      fun hd => ?_⟩⟩
    · rw [State.roofApply_of h.1 h.2]
      cases s.jobs.roofSettings with
      | some n => exact (RoofOnly.touch 1 s).setRoof _
      | none => exact ((RoofOnly.touch 1 s).setRoof _).trans (.flag _ _ _)
    · rw [State.roofApply_of h.1 h.2, s.jobs.roofSettings_eq.1 _ rfl hd]
      rfl
    · rw [State.roofApply_of h.1 h.2, Jobs.roofSettings_zero hd]
      exact ⟨rfl, Flagged.flag .roofLinkError 4 _⟩
  · have hno : s.roof.applyWord = false ∨ ¬ RoofFree s := by
      by_cases ha : s.roof.applyWord = true
      · exact .inr fun hf => h ⟨ha, hf⟩
      · exact .inl (Bool.eq_false_iff.mpr ha)
    have he : s.roofApply = s := by
      refine State.roofApply_not (hno.imp_right fun hf => ?_)
      by_contra hall
      simp only [not_or, not_not] at hall
      exact hf hall
    rw [he]
    exact ⟨.refl s, fun _ => rfl, fun ha hf => absurd ⟨ha, hf⟩ h⟩

theorem State.roofWordDue_not {as : List Nat} (h : 1 ∉ as) : s.roofWordDue as = s := if_neg h
theorem State.roofWordDue_of {as : List Nat} (h : 1 ∈ as) : s.roofWordDue as = s.roofApply := if_pos h

/-- What a due application keeps of the port, whether or not it is made. -/
theorem State.roofApply_port (s : State) : s.roofApply.roof.sending = s.roof.sending ∧ s.roofApply.roof.mode = s.roof.mode ∧
    ∀ n, s.roofApply.roof.applied n = s.roof.applied n := by
  obtain ⟨-, hno, hyes⟩ := s.roofApply_spec
  have hidem : ∀ m n, (s.roof.applied m).applied n = s.roof.applied n := fun m n => by
    unfold PortState.applied
    simp only [Option.map_map]
    congr 1
  by_cases h : s.roof.applyWord = true ∧ RoofFree s
  · obtain ⟨hgood, hzero⟩ := hyes h.1 h.2
    by_cases hd : s.jobs.roofWord.divisor = 0
    · rw [(hzero hd).1]
      exact ⟨rfl, rfl, fun _ => rfl⟩
    · rw [hgood hd]
      exact ⟨rfl, rfl, fun n => hidem _ n⟩
  · rw [hno (by by_cases ha : s.roof.applyWord = true
                · exact .inr fun hf => h ⟨ha, hf⟩
                · exact .inl (Bool.eq_false_iff.mpr ha))]
    exact ⟨rfl, rfl, fun _ => rfl⟩

/-- R140: a stored word of a divisor is applied where the port is free and the slot IDLE, and waits where not; one of
divisor 0 is a SETTING error and ends the waiting. -/
theorem State.roofWordWritten_spec (hword : s.jobs.word 1 = w) (hbad : s.jobs.bad 1 = false) :
    RoofOnly s s.roofWordWritten ∧
    (bits w 8 8 ≠ 0 → (RoofFree s → s.roofWordWritten.roof = s.roof.applied (settingsOf w)) ∧
      (¬ RoofFree s → s.roofWordWritten.roof = { s.roof with applyWord := true })) ∧
    (bits w 8 8 = 0 → s.roofWordWritten.roof = { s.roof with applyWord := false } ∧
      Flagged .roofLinkError 4 s.roofWordWritten.jobs.out) := by
  have hdiv : (settingsOf (s.jobs.word 1)).divisor = bits w 8 8 := by rw [hword]; rfl
  unfold State.roofWordWritten
  rw [hdiv]
  by_cases h : bits w 8 8 = 0
  · rw [if_pos h]
    exact ⟨((RoofOnly.refl s).setRoof _).trans (.flag _ _ _), fun hn => absurd h hn, fun _ => ⟨rfl, Flagged.flag .roofLinkError 4 _⟩⟩
  · rw [if_neg h]
    obtain ⟨honly, hno, hyes⟩ := (s.setRoof { s.roof with applyWord := true }).roofApply_spec
    have hroof : s.jobs.roofWord = settingsOf w := by
      unfold Jobs.roofWord
      rw [hbad, hword]
      rfl
    refine ⟨((RoofOnly.refl s).setRoof _).trans honly, fun _ => ⟨fun hf => ?_, fun hf => hno (.inr hf)⟩, fun h0 => absurd h0 h⟩
    have hd : s.jobs.roofWord.divisor ≠ 0 := by rw [hroof]; exact h
    refine ((hyes rfl hf).1 hd).trans ?_
    show PortState.applied s.jobs.roofWord { s.roof with applyWord := true } = _
    rw [hroof]
    rfl

/-! ### The consumed frame -/

theorem State.consume_roof_rb (f : Frame) (s : State) : (s.consume f).roof = s.roof ∧ (s.consume f).rb = s.rb ∧
    (s.consume f).latch = s.latch ∧ (s.consume f).fr.up = s.fr.up ∧ (s.consume f).fr.down = s.fr.down := by
  have h := (s.consume_took f).2
  rw [h]
  exact ⟨rfl, rfl, rfl, rfl, rfl⟩

theorem SameWords.roofWord (h : SameWords j k) : k.roofWord = j.roofWord := by
  unfold Jobs.roofWord
  rw [h.bad, h.word]

/-- R182: a WRITE or CHECK_WRITE is LOCKED, or names an address that may not be written, or is OK. -/
theorem State.writeStatus_spec (as : List Nat) (s : State) :
    ((∃ a ∈ as, regionOf a = .roof) ∧ s.jobs.dev = .run ∧ s.jobs.oc.safe = false → s.writeStatus as = .locked) ∧
    (¬ ((∃ a ∈ as, regionOf a = .roof) ∧ s.jobs.dev = .run ∧ s.jobs.oc.safe = false) →
      ((∀ a ∈ as, writable a = true) → s.writeStatus as = .ok) ∧
      ((∃ a ∈ as, writable a = false) → s.writeStatus as = .address)) := by
  have hlock : (as.any (fun a => regionOf a == .roof) && !s.unlocked) = true ↔
      (∃ a ∈ as, regionOf a = .roof) ∧ s.jobs.dev = .run ∧ s.jobs.oc.safe = false := by
    unfold State.unlocked
    cases s.jobs.dev <;> simp
  unfold State.writeStatus
  refine ⟨fun h => if_pos (hlock.mpr h), fun h => ?_⟩
  rw [if_neg fun h' => h (hlock.mp h')]
  refine ⟨fun hall => if_pos (by simpa using hall), fun ⟨a, ha, hn⟩ => if_neg fun hall => ?_⟩
  rw [List.all_eq_true] at hall
  rw [hall a ha] at hn
  nomatch hn

end Sys2Proof.Machine
end

section
/-! PROOFS. WRITE and CHECK_WRITE as steps (O46). -/

namespace Sys2Proof.Machine

open Sys2Proof

variable {s t u : State} {i j k l : Jobs} {f : Frame} {w : Word} {a n : Nat} {ws : List Word}

theorem mem_span (b : Nat) : b ∈ span a n ↔ a ≤ b ∧ b < a + n := by
  simp only [span, List.mem_map, List.mem_range]
  exact ⟨fun ⟨x, hx, he⟩ => by omega, fun ⟨h1, h2⟩ => ⟨b - a, by omega, by omega⟩⟩

/-- R182: a WRITE of `n` words from the address `a` on stores a word at the address `b`. -/
def Wrote (a n b : Nat) : Prop := a ≤ b ∧ b < a + n ∧ writable b = true

theorem mem_written (b : Nat) : b ∈ (span a n).filter writable ↔ Wrote a n b := by
  rw [List.mem_filter, mem_span, and_assoc]
  exact Iff.rfl

/-- What a WRITE of the words `ws` from the address `a` on makes of the roof jobs `j`. -/
structure Stored (a : Nat) (ws : List Word) (j k : Jobs) : Prop where
  only : OnlyWritten j k
  wf : k.tableWf
  new : ∀ b, Wrote a ws.length b → k.word b = ws.getD (b - a) 0 ∧ k.bad b = false
  old : ∀ b, ¬ Wrote a ws.length b → k.word b = j.word b ∧ k.bad b = j.bad b
  look : .look ∈ k.todo
  others : OtherTimers [.t13, .t15] j k
  mapped : (∃ b, 0x090 ≤ b ∧ b ≤ 0x0B9 ∧ Wrote a ws.length b) → Rebuilt j.oc (j.dev == .run) k
  unmapped : (∀ b, 0x090 ≤ b → b ≤ 0x0B9 → ¬ Wrote a ws.length b) → k.oc = j.oc
  measured : j.dev = .run → (Wrote a ws.length 0x090 ∨ Wrote a ws.length 0x091) →
    k.lmu = { state := .waiting } ∧ (k.timer .t15).loaded 200 .oneShot
  unmeasured : (j.dev = .config ∨ (¬ Wrote a ws.length 0x090 ∧ ¬ Wrote a ws.length 0x091)) →
    k.lmu = j.lmu ∧ k.timer .t15 = j.timer .t15
  timed : j.dev = .run → Wrote a ws.length 4 →
    ((k.word 4).toNat = 0 → (k.timer .t13).stopped) ∧
    (0 < (k.word 4).toNat → (j.timer .t13).running = true →
      k.timer .t13 = { j.timer .t13 with reload := (k.word 4).toNat }) ∧
    (0 < (k.word 4).toNat → (j.timer .t13).running = false → (k.timer .t13).loaded (k.word 4).toNat .periodic)
  untimed : (j.dev = .config ∨ ¬ Wrote a ws.length 4) → k.timer .t13 = j.timer .t13

theorem OnlyWritten.of_tm (h : j = { i with tm := j.tm }) : OnlyWritten i j := by
  unfold OnlyWritten
  rw [h]

theorem Jobs.stored (hw : j.tableWf) (a : Nat) (ws : List Word) :
    Stored a ws j ((j.storeWords a ws).afterWrite ((span a ws.length).filter writable)) := by
  have heq := j.storeWords_eq a ws
  obtain ⟨hwf, hcell⟩ := j.storeWords_cell a ws hw
  generalize j.storeWords a ws = i at heq hwf hcell ⊢
  generalize hk : i.afterWrite ((span a ws.length).filter writable) = k
  obtain ⟨honly, hsame, hkwf, hlook, hothers⟩ := Jobs.afterWrite_spec hwf _ hk.symm
  obtain ⟨hm, hnm⟩ := Jobs.afterWrite_measures _ hk.symm
  obtain ⟨hp, hnp⟩ := Jobs.afterWrite_maps hwf _ hk.symm
  obtain ⟨ht, hnt⟩ := Jobs.afterWrite_times hwf _ hk.symm rfl
  have hdev : i.dev = j.dev := by rw [heq]
  have hoc : i.oc = j.oc := by rw [heq]
  have hlmu : i.lmu = j.lmu := by rw [heq]
  have htmr : ∀ x, i.timer x = j.timer x := Jobs.timer_of_tmr (by rw [heq])
  simp only [mem_written, hdev, hoc, hlmu, htmr] at hm hnm hp hnp ht hnt
  have hnew : ∀ b, Wrote a ws.length b → k.word b = ws.getD (b - a) 0 ∧ k.bad b = false := by
    intro b hb
    have hc := (hcell b).trans (if_pos hb)
    rw [hsame.word, hsame.bad]
    unfold Jobs.word Jobs.bad
    rw [hc]
    exact ⟨rfl, decide_eq_false (show ¬ 2 ≤ inverted 0 by decide)⟩
  have hperiod : Wrote a ws.length 4 → i.statusPeriod = (k.word 4).toNat := by
    intro h4
    unfold Jobs.statusPeriod
    rw [Jobs.param_good (by rw [← hsame.bad]; exact (hnew 4 h4).2), hsame.word]
  refine ⟨(OnlyWritten.of_tm heq).trans honly, hkwf, hnew, fun b hb => ?_, hlook, fun x hx => (hothers x hx).trans (htmr x),
    fun ⟨b, h1, h2, h3⟩ => hp ⟨b, h3, h1, h2⟩, fun h => hnp fun b hb hr => h b hr.1 hr.2 hb, hm, hnm, fun hr h4 => ?_, hnt⟩
  · have hc := (hcell b).trans (if_neg hb)
    rw [hsame.word, hsame.bad]
    unfold Jobs.word Jobs.bad
    rw [hc]
    exact ⟨rfl, rfl⟩
  · rw [← hperiod h4]
    exact ht hr h4

/-- Reads made before a WRITE's words are stored. -/
theorem Stored.of_still (h : Still i j) (hw : i.tableWf) (hs : Stored a ws j k) : Stored a ws i k where
  only := h.onlyWritten.trans hs.only
  wf := hs.wf
  new := hs.new
  old b hb := ⟨(hs.old b hb).1.trans ((h.sameWords hw).word b), (hs.old b hb).2.trans ((h.sameWords hw).bad b)⟩
  look := hs.look
  others x hx := (hs.others x hx).trans (h.timer x)
  mapped hb := by rw [← h.oc, ← h.dev]; exact hs.mapped hb
  unmapped hb := (hs.unmapped hb).trans h.oc
  measured hr := hs.measured (h.dev.trans hr)
  unmeasured hr := by rw [← h.lmu, ← h.timer]; exact hs.unmeasured (by rw [h.dev]; exact hr)
  timed hr := by rw [← h.timer]; exact hs.timed (h.dev.trans hr)
  untimed hr := by rw [← h.timer]; exact hs.untimed (by rw [h.dev]; exact hr)

/-- Reads and reports made after a WRITE's words are stored. -/
theorem Stored.then (hs : Stored a ws j k) (h : Still k l) (ht : k.todo <+: l.todo) : Stored a ws j l where
  only := hs.only.trans h.onlyWritten
  wf := h.tableWf hs.wf
  new b hb := ⟨((h.sameWords hs.wf).word b).trans (hs.new b hb).1, ((h.sameWords hs.wf).bad b).trans (hs.new b hb).2⟩
  old b hb := ⟨((h.sameWords hs.wf).word b).trans (hs.old b hb).1, ((h.sameWords hs.wf).bad b).trans (hs.old b hb).2⟩
  look := ht.subset hs.look
  others x hx := (h.timer x).trans (hs.others x hx)
  mapped hb := (hs.mapped hb).of_words (h.sameWords hs.wf) (by rw [h.oc])
  unmapped hb := h.oc.trans (hs.unmapped hb)
  measured hr hb := by rw [h.lmu, h.timer]; exact hs.measured hr hb
  unmeasured hb := by rw [h.lmu, h.timer]; exact hs.unmeasured hb
  timed hr hb := by rw [h.timer, (h.sameWords hs.wf).word]; exact hs.timed hr hb
  untimed hb := (h.timer _).trans (hs.untimed hb)

/-! ### A WRITE that is not LOCKED -/

/-- R182, R140: the part once the words of a WRITE are stored and have had their effects. -/
def State.storing (a : Nat) (ws : List Word) (s : State) : State :=
  let s := (s.roofWordDue (span a ws.length)).onJobs
    (fun j => (j.storeWords a ws).afterWrite ((span a ws.length).filter writable))
  if 1 ∈ span a ws.length then s.roofWordWritten else s

theorem State.roofWordDue_only (as : List Nat) (s : State) : RoofOnly s (s.roofWordDue as) := by
  unfold State.roofWordDue
  split
  · exact s.roofApply_spec.1
  · exact .refl s

theorem State.storing_jobs (hw : s.jobs.tableWf) (a : Nat) (ws : List Word) : Stored a ws s.jobs (s.storing a ws).jobs ∧
    s.storing a ws = { s with jobs := (s.storing a ws).jobs, roof := (s.storing a ws).roof } := by
  have hd := s.roofWordDue_only (span a ws.length)
  have hs := (Jobs.stored (hd.jobs.tableWf hw) a ws).of_still hd.jobs hw
  have hrest := hd.rest
  unfold State.storing
  dsimp only
  generalize s.roofWordDue (span a ws.length) = d at hd hs hrest ⊢
  split
  case isTrue h1 =>
    have h1' : Wrote a ws.length 1 := mem_written 1 |>.mp (List.mem_filter.mpr ⟨h1, by decide⟩)
    obtain ⟨ho, -⟩ := (d.onJobs fun j => (j.storeWords a ws).afterWrite
      ((span a ws.length).filter writable)).roofWordWritten_spec rfl (hs.new 1 h1').2
    refine ⟨hs.then ho.jobs ho.todo, ?_⟩
    have hr := ho.rest
    generalize (d.onJobs fun j => (j.storeWords a ws).afterWrite ((span a ws.length).filter writable)).roofWordWritten = e at hr ⊢
    rw [hr, hrest]
    rfl
  case isFalse =>
    refine ⟨hs, ?_⟩
    rw [hrest]
    rfl

theorem State.storing_roof_not (h : 1 ∉ span a ws.length) : (s.storing a ws).roof = s.roof := by
  unfold State.storing
  dsimp only
  rw [if_neg h, State.roofWordDue_not h]
  rfl

/-- R140: what becomes of a stored roof settings word. -/
theorem State.storing_roof (hw : s.jobs.tableWf) (h : 1 ∈ span a ws.length) (hword : ws.getD (1 - a) 0 = w) :
    (bits w 8 8 ≠ 0 → (RoofFree s → (s.storing a ws).roof = s.roof.applied (settingsOf w)) ∧
      (¬ RoofFree s → (s.storing a ws).roof = { s.roof with applyWord := true })) ∧
    (bits w 8 8 = 0 → Flagged .roofLinkError 4 (s.storing a ws).jobs.out ∧
      (s.roof.applyWord = true → RoofFree s → s.jobs.roofWord.divisor ≠ 0 →
        (s.storing a ws).roof = s.roof.applied s.jobs.roofWord) ∧
      ((s.roof.applyWord = false ∨ ¬ RoofFree s ∨ s.jobs.roofWord.divisor = 0) →
        (s.storing a ws).roof = { s.roof with applyWord := false })) := by
  obtain ⟨hd, hno, hyes⟩ := s.roofApply_spec
  obtain ⟨hsend, hmode, happ⟩ := s.roofApply_port
  have h1 : Wrote a ws.length 1 := mem_written 1 |>.mp (List.mem_filter.mpr ⟨h, by decide⟩)
  have hs := Jobs.stored (hd.jobs.tableWf hw) a ws
  have heq : s.storing a ws = (s.roofApply.onJobs fun j => (j.storeWords a ws).afterWrite
      ((span a ws.length).filter writable)).roofWordWritten := by
    unfold State.storing
    dsimp only
    rw [if_pos h, State.roofWordDue_of h]
  rw [heq]
  have hfree := hd.free hsend hmode
  generalize s.roofApply = d at *
  obtain ⟨-, hgood, hzero⟩ := (d.onJobs fun j => (j.storeWords a ws).afterWrite
    ((span a ws.length).filter writable)).roofWordWritten_spec ((hs.new 1 h1).1.trans hword) (hs.new 1 h1).2
  have hfree' : RoofFree (d.onJobs fun j => (j.storeWords a ws).afterWrite ((span a ws.length).filter writable)) ↔
      RoofFree s := hfree
  have hroof : (d.onJobs fun j => (j.storeWords a ws).afterWrite ((span a ws.length).filter writable)).roof = d.roof := rfl
  rw [hfree', hroof] at hgood
  rw [hroof] at hzero
  refine ⟨fun hb => ⟨fun hf => ((hgood hb).1 hf).trans (happ _), fun hf => ?_⟩, fun hb => ⟨(hzero hb).2, fun ha hf hdv => ?_,
    fun hor => ?_⟩⟩
  · rw [(hgood hb).2 hf, hno (.inr hf)]
  · rw [(hzero hb).1, (hyes ha hf).1 hdv]
    rfl
  · rw [(hzero hb).1]
    by_cases hall : s.roof.applyWord = true ∧ RoofFree s
    · obtain ⟨ha, hf⟩ := hall
      have hdv : s.jobs.roofWord.divisor = 0 := by
        rcases hor with h | h | h
        · exact absurd (h.symm.trans ha) (by decide)
        · exact absurd hf h
        · exact h
      rw [((hyes ha hf).2 hdv).1]
    · rw [hno]
      by_cases ha : s.roof.applyWord = true
      · exact .inr fun hf => hall ⟨ha, hf⟩
      · exact .inl (Bool.eq_false_iff.mpr ha)

end Sys2Proof.Machine
end

section
/-! PROOFS. WRITE and CHECK_WRITE answered (O46). -/

namespace Sys2Proof.Machine

open Sys2Proof

variable {s t u : State} {i j k l : Jobs} {f : Frame} {a n : Nat} {ws : List Word}

theorem State.reply_cell (f : Frame) (c : SvcControl) (op : Nat) (st : Status) (s : State) :
    (s.reply f c op st).jobs.tm = s.jobs.tm ∧ s.jobs.todo = (s.reply f c op st).jobs.todo ∧
    s.jobs.out <+: (s.reply f c op st).jobs.out := by
  unfold State.reply
  split
  · exact ⟨rfl, rfl, List.prefix_append _ _⟩
  · exact ⟨rfl, rfl, List.prefix_rfl⟩

theorem OnlyWritten.fields (h : OnlyWritten j k) : k.dev = j.dev ∧ k.tag = j.tag ∧ k.nodes = j.nodes ∧ k.cs = j.cs ∧
    k.p1 = j.p1 ∧ k.p2 = j.p2 ∧ k.lsi = j.lsi ∧ k.oc = { j.oc with table := k.oc.table } := by
  unfold OnlyWritten at h
  rw [h]
  exact ⟨rfl, rfl, rfl, rfl, rfl, rfl, rfl, rfl⟩

theorem State.consume_free (f : Frame) (s : State) : RoofFree (s.consume f) ↔ RoofFree s := by
  obtain ⟨h1, h2, -⟩ := s.consume_roof_rb f
  unfold RoofFree
  rw [h1, h2]

/-- R182: a WRITE is LOCKED, or its words are stored and the rest follows. -/
theorem State.serviceWrite_eq (f : Frame) (c : SvcControl) (addr : Word) (data : List Word) (s : State)
    (hn : c.cnt.toNat + 1 ≤ data.length) : s.serviceWrite f c addr data =
      ((if (s.consume f).writeStatus (span addr.toNat (c.cnt.toNat + 1)) = .locked then s.consume f
        else (s.consume f).storing addr.toNat (data.take (c.cnt.toNat + 1))).reply f c 1
          ((s.consume f).writeStatus (span addr.toNat (c.cnt.toNat + 1)))).finish := by
  have hlen : (data.take (c.cnt.toNat + 1)).length = c.cnt.toNat + 1 := List.length_take_of_le hn
  unfold State.storing
  rw [hlen]
  rfl

/-- The status of a WRITE of `n` words, taken once its frame is consumed. -/
theorem State.writeStatus_consumed (f : Frame) (s : State) (a n : Nat) {locked : Bool}
    (hlock : locked = true ↔ (∃ i, i < n ∧ regionOf (a + i) = .roof) ∧ s.jobs.dev = .run ∧ s.jobs.oc.safe = false) :
    (locked = true → (s.consume f).writeStatus (span a n) = .locked) ∧
    (locked = false → ((∀ i, i < n → writable (a + i) = true) → (s.consume f).writeStatus (span a n) = .ok) ∧
      ((∃ i, i < n ∧ writable (a + i) = false) → (s.consume f).writeStatus (span a n) = .address)) := by
  have hk := s.consume_still f
  have hmem : ∀ p : Nat → Prop, (∃ b ∈ span a n, p b) ↔ ∃ i, i < n ∧ p (a + i) := fun p => by
    simp only [span, List.mem_map, List.mem_range]
    exact ⟨fun ⟨_, ⟨i, hi, rfl⟩, hp⟩ => ⟨i, hi, hp⟩, fun ⟨i, hi, hp⟩ => ⟨_, ⟨i, hi, rfl⟩, hp⟩⟩
  obtain ⟨h1, h2⟩ := (s.consume f).writeStatus_spec (span a n)
  rw [hk.dev, hk.oc, hmem, ← hlock] at h1 h2
  refine ⟨h1, fun hl => ?_⟩
  obtain ⟨hok, haddr⟩ := h2 (by simp [hl])
  refine ⟨fun hall => hok fun b hb => ?_, fun h => haddr ((hmem _).mpr h)⟩
  obtain ⟨hle, hlt⟩ := (mem_span b).mp hb
  have := hall (b - a) (by omega)
  rwa [Nat.add_sub_cancel' hle] at this

theorem State.storing_alone (hw : s.jobs.tableWf) (a : Nat) (ws : List Word) :
    (s.storing a ws).rb = s.rb ∧ (s.storing a ws).nu = s.nu ∧ (s.storing a ws).latch = s.latch ∧
    (s.storing a ws).fr = s.fr := by
  rw [(State.storing_jobs hw a ws).2]
  exact ⟨rfl, rfl, rfl, rfl⟩

/-! ### CHECK_WRITE (R185) -/

/-- R185, R140: the part once a CHECK_WRITE has stored its word. -/
def State.storingOne (a : Nat) (w : Word) (p : BitVec 6) (s : State) : State :=
  (s.roofWordDue [a]).onJobs (fun j => (j.storeWord a w p).push .look)

theorem State.storingOne_spec (hw : s.jobs.tableWf) (a : Nat) (w : Word) (p : BitVec 6) :
    OnlyReads s.jobs (s.storingOne a w p).jobs ∧
    s.storingOne a w p = { s with jobs := (s.storingOne a w p).jobs, roof := (s.storingOne a w p).roof } ∧
    (∀ b, b ≠ a → (s.storingOne a w p).jobs.word b = s.jobs.word b ∧ (s.storingOne a w p).jobs.bad b = s.jobs.bad b) ∧
    (writable a = true → (s.storingOne a w p).jobs.cell a = { data := w, check := p }) ∧
    (s.storingOne a w p).roof = (s.roofWordDue [a]).roof ∧
    (s.roofWordDue [a]).jobs.out <+: (s.storingOne a w p).jobs.out := by
  have hd := s.roofWordDue_only [a]
  unfold State.storingOne
  generalize s.roofWordDue [a] = d at hd ⊢
  have hwd := hd.jobs.tableWf hw
  have hsame := hd.jobs.sameWords hw
  have hcell := fun b => Jobs.storeWord_cell hwd a b w p
  have heq := d.jobs.storeWord_eq a w p
  have hjobs : (d.onJobs fun j => (j.storeWord a w p).push .look).jobs = (d.jobs.storeWord a w p).push .look := rfl
  have htm : ((d.jobs.storeWord a w p).push .look).tm = (d.jobs.storeWord a w p).tm := rfl
  have hcell' : ∀ b, ((d.jobs.storeWord a w p).push .look).cell b = (d.jobs.storeWord a w p).cell b := fun _ => rfl
  rw [hjobs]
  refine ⟨?_, ?_, fun b hb => ?_, fun hwr => (hcell a).trans (if_pos ⟨rfl, hwr⟩), rfl, ?_⟩
  · have hr := hd.jobs.rest
    unfold OnlyReads
    rw [heq]
    show ({ d.jobs with tm := _, todo := _ } : Jobs) = _
    rw [hr]
    rfl
  · have hr := hd.rest
    rw [hr]
    rfl
  · unfold Jobs.word Jobs.bad
    rw [hcell', hcell, if_neg fun h => hb h.1]
    exact ⟨hsame.word b, hsame.bad b⟩
  · rw [heq]
    exact List.prefix_rfl

end Sys2Proof.Machine

open Sys2Proof Sys2Proof.Machine

/-- What a WRITE does, its frame consumed (R182, R186). -/
theorem serviceWrite_ends (s : State) (h : Header) (c : SvcControl) (addr : Word) (data : List Word) (hl : Live s)
    (hn : c.cnt.toNat + 1 ≤ data.length) :
    EndsFrom (.serviceWrite h c addr data) s
      ((if (s.consume (serviceFrame h 1 c (addr :: data))).writeStatus (span addr.toNat (c.cnt.toNat + 1)) = .locked then
          s.consume (serviceFrame h 1 c (addr :: data))
        else (s.consume (serviceFrame h 1 c (addr :: data))).storing addr.toNat (data.take (c.cnt.toNat + 1))).reply
          (serviceFrame h 1 c (addr :: data)) c 1
          ((s.consume (serviceFrame h 1 c (addr :: data))).writeStatus (span addr.toNat (c.cnt.toNat + 1)))) :=
  EndsFrom.of_taking (k := fun f s => s.serviceWrite f c addr data) hl.1 rfl rfl (State.serviceWrite_eq _ c addr data s hn)

/-- Settles O46: `Stored` says what a WRITE leaves in the roof jobs, `State.storing_roof` what becomes of the roof settings
word, and `State.storingOne_spec` what a CHECK_WRITE does. -/
theorem serviceWrites : Obligations.ServiceWrites := by
  unfold Obligations.ServiceWrites
  refine ⟨?write, ?check⟩
  case write =>
    rintro s h c addr data n locked hl rfl hn hlock
    refine ⟨_, serviceWrite_ends s h c addr data hl hn, ?_⟩
    generalize hf : serviceFrame h 1 c (addr :: data) = f
    have hseq : f.seq = h.seq := by rw [← hf]; rfl
    have hk := s.consume_still f
    have hwk := hk.tableWf hl.2.1
    obtain ⟨hroof, hrb, hlatch, hup, hdown⟩ := s.consume_roof_rb f
    have hnu := s.consume_nu f
    obtain ⟨hst, hst'⟩ := s.writeStatus_consumed f addr.toNat _ hlock
    have hrw := (hk.sameWords hl.2.1).roofWord
    have hfree := s.consume_free f
    cases locked with
    | true =>
      have hs := hst rfl
      rw [if_pos hs, hs]
      obtain ⟨hstill, heq, hout⟩ := State.reply_still f c 1 .locked (s.consume f)
      have hall := hk.trans hstill
      have hsame := hall.sameWords hl.2.1
      refine ⟨?_, ?_, ?_, ?_, ?_, hall.dev, hall.tag, hall.nodes, hall.cs, hall.p1, hall.p2,
        fun _ => ⟨hall.rest, ?_, hseq ▸ hout (.inr (by decide)), fun a => ⟨hsame.word a, hsame.bad a⟩⟩,
        fun h => nomatch h⟩ <;> rw [heq]
      · exact hrb
      · exact hnu
      · exact hlatch
      · exact hup
      · exact hdown
      · exact hroof
    | false =>
      have hlen : (data.take (c.cnt.toNat + 1)).length = c.cnt.toNat + 1 := List.length_take_of_le hn
      obtain ⟨hok, haddr⟩ := hst' rfl
      have hnl : (s.consume f).writeStatus (span addr.toNat (c.cnt.toNat + 1)) ≠ .locked := by
        by_cases hw : ∃ i, i < c.cnt.toNat + 1 ∧ writable (addr.toNat + i) = false
        · rw [haddr hw]; decide
        · rw [hok fun i hi => by_contra fun hb => hw ⟨i, hi, by simpa using hb⟩]; decide
      rw [if_neg hnl]
      obtain ⟨hsto, -⟩ := State.storing_jobs hwk addr.toNat (data.take (c.cnt.toNat + 1))
      obtain ⟨hx1, hx2, hx3, hx4⟩ := State.storing_alone hwk addr.toNat (data.take (c.cnt.toNat + 1))
      have hrno := State.storing_roof_not (s := s.consume f) (a := addr.toNat) (ws := data.take (c.cnt.toNat + 1))
      have hryes := fun w => State.storing_roof (s := s.consume f) (a := addr.toNat) (w := w)
        (ws := data.take (c.cnt.toNat + 1)) hwk
      rw [hlen, hroof] at hrno
      simp only [hlen, hroof, hrw, hfree] at hryes
      generalize (s.consume f).storing addr.toNat (data.take (c.cnt.toNat + 1)) = x at hsto hx1 hx2 hx3 hx4 hrno hryes ⊢
      generalize (s.consume f).writeStatus (span addr.toNat (c.cnt.toNat + 1)) = st at hok haddr hnl ⊢
      obtain ⟨hstill, heq, hout⟩ := State.reply_still f c 1 st x
      obtain ⟨-, htodo, hpre⟩ := State.reply_cell f c 1 st x
      have hu := (hsto.then hstill (htodo ▸ List.prefix_rfl)).of_still hk hl.2.1
      generalize x.reply f c 1 st = u at heq hout hpre hu ⊢
      have hur : u.roof = x.roof := by rw [heq]; rfl
      obtain ⟨g1, g2, g3, g4, g5, g6, g7, g8⟩ := hu.only.fields
      have hnew := hu.new
      have hold := hu.old
      simp only [hlen] at hnew hold
      refine ⟨?_, ?_, ?_, ?_, ?_, g1, g2, g3, g4, g5, g6, (fun h => nomatch h), fun _ => ⟨fun a => ⟨fun ⟨h1, h2, h3⟩ => ?_,
        fun hno => hold a fun ⟨h1, h2, h3⟩ => ?_⟩, fun hall hr => ?_, fun hbad => ?_, ?_, fun h1 => ?_, fun w h1 h2 h3 => ?_⟩⟩
      · rw [heq]; exact hx1.trans hrb
      · rw [heq]; exact hx2.trans hnu
      · rw [heq]; exact hx3.trans hlatch
      · rw [heq]; exact (congrArg (·.up) hx4).trans hup
      · rw [heq]; exact (congrArg (·.down) hx4).trans hdown
      · have hv := hnew a ⟨h1, h2, h3⟩
        refine ⟨hv.1.trans ?_, hv.2⟩
        rw [List.getD_eq_getElem?_getD, List.getElem?_take_of_lt (by omega), ← List.getD_eq_getElem?_getD]
      · rcases hno with hno | hno | hno
        · omega
        · omega
        · rw [h3] at hno; nomatch hno
      · rw [← hseq, ← hok hall]
        exact hout (.inl hr)
      · rw [← hseq, ← haddr hbad]
        exact hout (.inr (by rw [haddr hbad]; decide))
      · intro m wrote hwrote hm
        have hwr : ∀ b, wrote b ↔ Wrote addr.toNat (data.take (c.cnt.toNat + 1)).length b := fun b => by
          rw [hwrote b, hlen]
          exact Iff.rfl
        subst hm
        refine ⟨fun ⟨b, h1, h2, h3⟩ => ⟨g8, hu.mapped ⟨b, h1, h2, (hwr b).mp h3⟩⟩,
          fun hno => hu.unmapped fun b h1 h2 h3 => hno b h1 h2 ((hwr b).mpr h3), fun hr hm => ?_, fun hno => ?_, fun hr h4 => ?_,
          fun hno => ?_, hu.others, g7, hu.look⟩
        · rw [hwr, hwr] at hm
          exact hu.measured hr hm
        · rw [hwr, hwr] at hno
          exact hu.unmeasured hno
        · exact hu.timed hr ((hwr 4).mp h4)
        · rw [hwr] at hno
          exact hu.untimed hno
      · rw [hur]
        exact hrno fun hm => by have := (mem_span 1).mp hm; omega
      · have hget : (data.take (c.cnt.toNat + 1)).getD (1 - addr.toNat) 0 = w := by
          rw [List.getD_eq_getElem?_getD, List.getElem?_take_of_lt (by omega), h3]
          rfl
        obtain ⟨hgood, hzero⟩ := hryes w ((mem_span 1).mpr ⟨h1, h2⟩) hget
        rw [hur]
        exact ⟨hgood, fun hb => ⟨(hzero hb).1.of_prefix hpre, (hzero hb).2⟩⟩
  case check =>
    rintro s h c addr data extra a hl rfl
    generalize hf : serviceFrame h 2 c (addr :: data :: extra) = f
    have hseq : f.seq = h.seq := by rw [← hf]; rfl
    have hk := s.consume_still f
    have hwk := hk.tableWf hl.2.1
    have hsame := hk.sameWords hl.2.1
    obtain ⟨hlocked, hopen⟩ := (s.consume f).writeStatus_spec [addr.toNat]
    simp only [List.mem_singleton, exists_eq_left, forall_eq, hk.dev, hk.oc] at hlocked hopen
    refine ⟨(if (s.consume f).writeStatus [addr.toNat] = .ok then (s.consume f).storingOne addr.toNat data c.field
      else s.consume f).reply f c 2 ((s.consume f).writeStatus [addr.toNat]), ?_, ?_⟩
    · rw [← hf]
      exact EndsFrom.of_taking (k := fun f s => s.serviceCheckWrite f c addr data) hl.1 rfl rfl rfl
    generalize (s.consume f).writeStatus [addr.toNat] = st at hlocked hopen ⊢
    by_cases hst : st = .ok
    · rw [if_pos hst]
      subst hst
      obtain ⟨hreads, hrest, hother, hcell, hroof, hout0⟩ := State.storingOne_spec hwk addr.toNat data c.field
      obtain ⟨hstill, heq, hout⟩ := State.reply_still f c 2 .ok ((s.consume f).storingOne addr.toNat data c.field)
      obtain ⟨htm, -, hpre⟩ := State.reply_cell f c 2 .ok ((s.consume f).storingOne addr.toNat data c.field)
      generalize (s.consume f).storingOne addr.toNat data c.field = x at *
      generalize x.reply f c 2 .ok = u at *
      have hur : u.roof = ((s.consume f).roofWordDue [addr.toNat]).roof := by rw [heq]; exact hroof
      have hcellu : ∀ b, u.jobs.cell b = x.jobs.cell b := fun b => by unfold Jobs.cell; rw [htm]
      obtain ⟨-, hno, hyes⟩ := (s.consume f).roofApply_spec
      rw [(s.consume_roof_rb f).1, s.consume_free f] at hno hyes
      rw [hsame.roofWord] at hyes
      refine ⟨?_, ?_, fun hor => ?_, fun ha happ hfree => ?_, fun b hb => ?_, fun hw _ => ⟨(hcellu _).trans (hcell hw),
        fun hr => hseq ▸ hout (.inl hr)⟩, fun hreg hr hs => ?_, fun hw => ?_⟩
      · have h1 := hk.rest
        have h2 := hstill.rest
        unfold OnlyReads at hreads ⊢
        rw [hreads, h1] at h2
        exact h2
      · rw [heq]
        unfold State.setJobs
        rw [hrest]
      · rw [hur]
        rcases hor with ha | hor
        · rw [State.roofWordDue_not (by simpa using Ne.symm ha)]
          exact (s.consume_roof_rb f).1
        · by_cases ha : addr.toNat = 1
          · rw [State.roofWordDue_of (by rw [ha]; exact List.mem_singleton_self 1)]
            exact hno hor
          · rw [State.roofWordDue_not (by simpa using Ne.symm ha)]
            exact (s.consume_roof_rb f).1
      · rw [hur, State.roofWordDue_of (by rw [ha]; exact List.mem_singleton_self 1)]
        rw [State.roofWordDue_of (by rw [ha]; exact List.mem_singleton_self 1)] at hout0
        obtain ⟨hgood, hzero⟩ := hyes happ hfree
        exact ⟨hgood, fun hd => ⟨(hzero hd).1, ((hzero hd).2.of_prefix hout0).of_prefix hpre⟩⟩
      · obtain ⟨h1, h2⟩ := hother b hb
        have hx := SameWords.of_tm htm
        exact ⟨(hx.word b).trans (h1.trans (hsame.word b)), (hx.bad b).trans (h2.trans (hsame.bad b))⟩
      · exact absurd (hlocked ⟨hreg, hr, hs⟩) (by decide)
      · have hno' : ¬ (regionOf addr.toNat = .roof ∧ s.jobs.dev = .run ∧ s.jobs.oc.safe = false) := fun hh =>
          absurd (hlocked hh) (by decide)
        exact absurd ((hopen hno').2 hw) (by decide)
    · rw [if_neg hst]
      obtain ⟨hstill, heq, hout⟩ := State.reply_still f c 2 st (s.consume f)
      have hall := hk.trans hstill
      have hsameu := hall.sameWords hl.2.1
      have hur : ((s.consume f).reply f c 2 st).roof = s.roof := by rw [heq]; exact (s.consume_roof_rb f).1
      have hreply : .frame (serviceReply h.seq 2 st) ∈ ((s.consume f).reply f c 2 st).jobs.out := hseq ▸ hout (.inr hst)
      refine ⟨hall.rest, ?_, fun _ => hur, fun ha _ _ => ?_, fun b _ => ⟨hsameu.word b, hsameu.bad b⟩, fun hw hor => ?_,
        fun hreg hr hs => ⟨hsameu.word _, ?_⟩, fun hw => ⟨hsameu.word _, ?_⟩⟩
      · rw [heq]
        rfl
      · have hno' : ¬ (regionOf addr.toNat = .roof ∧ s.jobs.dev = .run ∧ s.jobs.oc.safe = false) := fun hh => by
          rw [ha] at hh
          exact absurd hh.1 (by decide)
        exact absurd ((hopen hno').1 (by rw [ha]; decide)) hst
      · have hno' : ¬ (regionOf addr.toNat = .roof ∧ s.jobs.dev = .run ∧ s.jobs.oc.safe = false) := by
          rintro ⟨h1, h2, h3⟩
          rcases hor with h | h | h
          · rw [h1] at h; nomatch h
          · rw [h2] at h; nomatch h
          · rw [h3] at h; nomatch h
        exact absurd ((hopen hno').1 hw) hst
      · rw [← hlocked ⟨hreg, hr, hs⟩]
        exact hreply
      · have hno' : ¬ (regionOf addr.toNat = .roof ∧ s.jobs.dev = .run ∧ s.jobs.oc.safe = false) := by
          rintro ⟨h1, -, -⟩
          unfold writable at hw
          rw [h1] at hw
          nomatch hw
        rw [← (hopen hno').2 hw]
        exact hreply
end

section
/-! PROOFS. The status window (O45): where the items of a page stand. -/

namespace Sys2Proof.Machine

open Sys2Proof

variable {s : State} {page a b k n o : Nat} {l m ws : List Word}

/-! ### Words at a place of a list -/

/-- From the place `o` on, the list, read as 0 past its end, holds the words `ws`. -/
def HoldsAt (l : List Word) (o : Nat) (ws : List Word) : Prop := ∀ i w, ws[i]? = some w → l.getD (o + i) 0 = w

theorem HoldsAt.self (ws : List Word) : HoldsAt ws 0 ws := by
  intro i w h
  rw [Nat.zero_add, List.getD_eq_getElem?_getD, h]
  rfl

theorem HoldsAt.of_take (h : (l.drop o).take ws.length = ws) : HoldsAt l o ws := by
  intro i w hi
  have hlt : i < ws.length := (List.getElem?_eq_some_iff.mp hi).1
  rw [← h, List.getElem?_take_of_lt hlt, List.getElem?_drop] at hi
  rw [List.getD_eq_getElem?_getD, hi]
  rfl

/-- Items of one length: the place of the `n`-th. -/
theorem HoldsAt.flatMap {α : Type} (f : α → List Word) (c : Nat) (hc : ∀ x, (f x).length = c) (xs : List α) {x : α}
    (hx : xs[n]? = some x) : HoldsAt (xs.flatMap f) (c * n) (f x) := by
  induction xs generalizing n with
  | nil => simp at hx
  | cons y xs ih =>
    rw [List.flatMap_cons]
    cases n with
    | zero =>
      obtain rfl : y = x := by simpa using hx
      intro i w h
      have hlt := (List.getElem?_eq_some_iff.mp h).1
      rw [Nat.mul_zero, Nat.zero_add, List.getD_append _ _ _ _ hlt]
      simpa using HoldsAt.self (f y) i w h
    | succ n =>
      intro i w h
      rw [List.getD_append_right _ _ _ _ (by rw [hc, Nat.mul_succ]; omega), hc,
        show c * (n + 1) + i - c = c * n + i by rw [Nat.mul_succ]; omega]
      exact ih (by simpa using hx) i w h

theorem length_flatMap_const {α : Type} (f : α → List Word) (c : Nat) (hc : ∀ x, (f x).length = c) (xs : List α) :
    (xs.flatMap f).length = c * xs.length := by
  induction xs with
  | nil => rfl
  | cons y xs ih =>
    rw [List.flatMap_cons, List.length_append, ih, hc, List.length_cons, Nat.mul_succ, Nat.add_comm]

/-! ### Sections of a page -/

theorem length_padded (n : Nat) (ws : List Word) : (padded n ws).length = n := by
  simp [padded]

theorem padded_getD (h : k < n) : (padded n ws).getD k 0 = ws.getD k 0 := by
  rw [padded, List.getD_eq_getElem?_getD, List.getElem?_take_of_lt h, ← List.getD_eq_getElem?_getD]
  by_cases hk : k < ws.length
  · exact List.getD_append _ _ _ _ hk
  · rw [List.getD_append_right _ _ _ _ (Nat.le_of_not_lt hk), List.getD_replicate _ (by omega),
      List.getD_eq_default _ _ (Nat.le_of_not_lt hk)]

/-- The `n` words of a page from the address `a` on are those of the list, read as 0 past its end. -/
def Holds (s : State) (page a n : Nat) (l : List Word) : Prop := ∀ i, i < n → s.statusWord page (a + i) = l.getD i 0

theorem Holds.whole (s : State) (page n : Nat) : Holds s page 0x1800 n (s.page page) := by
  intro i _
  unfold State.statusWord
  rw [Nat.add_sub_cancel_left]

theorem Holds.head (h : Holds s page a n (l ++ m)) (hl : l.length = k) (hk : k ≤ n) : Holds s page a k l := by
  intro i hi
  rw [h i (by omega)]
  exact List.getD_append _ _ _ _ (by omega)

theorem Holds.tail (h : Holds s page a n (l ++ m)) (hl : l.length = k) (hb : b = a + k) :
    Holds s page b (n - k) m := by
  intro i hi
  rw [hb, Nat.add_assoc, h (k + i) (by omega), List.getD_append_right _ _ _ _ (by omega), hl, Nat.add_sub_cancel_left]

theorem Holds.unpad (h : Holds s page a n (padded n l)) : Holds s page a n l := fun i hi => (h i hi).trans (padded_getD hi)

/-- A padded section at the front. -/
theorem Holds.first (h : Holds s page a n (padded k l ++ m)) (hk : k ≤ n) : Holds s page a k l :=
  (h.head (length_padded k l) hk).unpad

theorem Holds.rest (h : Holds s page a n (padded k l ++ m)) (hb : b = a + k) : Holds s page b (n - k) m :=
  h.tail (length_padded k l) hb

theorem Holds.shows (h : Holds s page a n l) (hws : HoldsAt l o ws) (hle : o + ws.length ≤ n) (hb : b = a + o) :
    Shows s page b ws := by
  intro i w hi
  have hlt := (List.getElem?_eq_some_iff.mp hi).1
  rw [hb, Nat.add_assoc, h (o + i) (by omega)]
  exact hws i w hi

/-- The words that stand from the place `o` of a section on. -/
theorem Holds.shows_part (h : Holds s page a n l) (o k : Nat) (he : (l.drop o).take k = ws) (hle : o + k ≤ n)
    (hb : b = a + o) : Shows s page b ws := by
  have hlen : ws.length ≤ k := by rw [← he]; exact List.length_take_le _ _
  refine h.shows (HoldsAt.of_take ?_) (by omega) hb
  rw [← he, List.length_take]
  exact List.take_eq_take_min.symm


/-- No item stands past the words of a section. -/
theorem Holds.zero (h : Holds s page a n l) (hl : a + l.length ≤ b) (hb : b < a + n) : s.statusWord page b = 0 := by
  have := h (b - a) (by omega)
  rw [show a + (b - a) = b by omega] at this
  rw [this]
  exact List.getD_eq_default _ _ (by omega)

/-! ### Packed fields -/

theorem flagBit_zero (b : Bool) : flagBit b 0 = b.toNat := by cases b <;> rfl

theorem flagBit_eq (b : Bool) (n : Nat) : flagBit b n = 2 ^ n * b.toNat := by cases b <;> simp [flagBit]

theorem flagWord_eq (b : Bool) : flagWord b = toWord b.toNat := by cases b <;> rfl

/-- The number with these bits, lowest first. -/
def bitsOf : List Bool → Nat
  | [] => 0
  | b :: bs => b.toNat + 2 * bitsOf bs

theorem testBit_bitsOf (bs : List Bool) (i : Nat) : (bitsOf bs).testBit i = bs.getD i false := by
  induction bs generalizing i with
  | nil => simp [bitsOf]
  | cons b bs ih =>
    rw [bitsOf]
    cases i with
    | zero => cases b <;> simp [Nat.testBit_zero]
    | succ i =>
      have hdiv : (b.toNat + 2 * bitsOf bs) / 2 = bitsOf bs := by have := b.toNat_lt; omega
      rw [Nat.testBit_succ, hdiv, ih]
      rfl

theorem bit_toWord (x : Nat) {i : Nat} (hi : i < 16) : bit (toWord x) i = x.testBit i := by
  unfold bit toWord
  rw [BitVec.getLsbD_ofNat]
  simp [hi]

theorem bit_bitsOf (bs : List Bool) {i : Nat} (hi : i < 16) : bit (toWord (bitsOf bs)) i = bs.getD i false := by
  rw [bit_toWord _ hi, testBit_bitsOf]

/-- An image's bits, in point map order. -/
def Image.bitList (i : Image) : List Bool := OwnedRole.all.map fun r => i.get r

theorem Image.bitsNat_eq (i : Image) : i.bitsNat = bitsOf i.bitList := by
  unfold Image.bitsNat
  rw [flagBit_zero]
  simp only [flagBit_eq, Image.bitList, OwnedRole.all, List.map_cons, List.map_nil, bitsOf, Image.get]
  omega

theorem pendingBits_eq (n : Nat) (t : List PointEntry) : pendingBits n t = 2 ^ n * bitsOf (t.map fun e => e.pending) := by
  induction t generalizing n with
  | nil => rfl
  | cons e t ih =>
    rw [pendingBits, ih, flagBit_eq, List.map_cons, bitsOf]
    ring

end Sys2Proof.Machine
end

section
/-! PROOFS. Pages 0 and 1 of the status window (O45). -/

namespace Sys2Proof.Machine

open Sys2Proof

variable {s : State} {j : Jobs}

/-! ### Page 0 -/

/-- The CS record but for the features. -/
def Jobs.csRecord (j : Jobs) : List Word :=
  [toWord j.cs.state.code, toWord (reasonCode j.cs.reason), toWord ((j.cs.stepOfFailure.map CsState.code).getD 255),
    flagWord j.cs.deadSeen, flagWord (j.cs.command == .close), flagWord j.cs.pulse, toWord j.fb.brk.code, toWord j.fb.sel.code,
    toWord (Machine.lineCode j.cs.expected), toWord (Machine.lineCode (j.cs.closingSystem.map Line.system)),
    flagWord j.speed.isKnown, toWord j.speed.kmh] ++ pair j.speed.arrival ++ [toWord j.speed.lead.code, toWord j.cs.refused]

theorem Jobs.csWords_eq (j : Jobs) : j.csWords =
    padded 24 j.csRecord ++ (featureWords j.cs.current ++ padded 32 (j.cs.list.flatMap Feature.words)) :=
  List.append_assoc _ _ _

theorem Feature.length_words (f : Feature) : f.words.length = 8 := rfl

theorem length_featureWords (f : Option Feature) : (featureWords f).length = 8 := by cases f <;> rfl

/-- The sections of page 0. -/
structure Page0 (s : State) : Prop where
  device : Holds s 0 0x1800 8 s.deviceWords
  lmu : Holds s 0 0x1808 16 s.jobs.lmu.words
  lsi : Holds s 0 0x1818 8 s.jobs.lsi.words
  cs : Holds s 0 0x1820 24 s.jobs.csRecord
  current : Holds s 0 0x1838 8 (featureWords s.jobs.cs.current)
  list : Holds s 0 0x1840 32 (s.jobs.cs.list.flatMap Feature.words)
  p1 : Holds s 0 0x1860 14 s.jobs.p1.words
  p2 : Holds s 0 0x186E 14 s.jobs.p2.words
  arc : Holds s 0 0x187C 4 [toWord s.jobs.arc.in1.count, toWord s.jobs.arc.in2.count, s.jobs.arc.in1.stateWord,
    s.jobs.arc.in2.stateWord]

theorem State.sections0 (s : State) : Page0 s := by
  have h := Holds.whole s 0 128
  have he : s.page 0 = padded 8 s.deviceWords ++ (padded 16 s.jobs.lmu.words ++ (padded 8 s.jobs.lsi.words ++
      (padded 64 s.jobs.csWords ++ (s.jobs.p1.words ++ (s.jobs.p2.words ++ [toWord s.jobs.arc.in1.count,
        toWord s.jobs.arc.in2.count, s.jobs.arc.in1.stateWord, s.jobs.arc.in2.stateWord]))))) := by
    show s.page0 = _
    unfold State.page0
    simp only [List.append_assoc]
  rw [he] at h
  have h1 := h.rest (b := 0x1808) rfl
  have h2 := h1.rest (b := 0x1818) rfl
  have h3 := h2.rest (b := 0x1820) rfl
  have h4 := h3.rest (b := 0x1860) rfl
  have h5 := h4.tail (k := 14) (b := 0x186E) (length_padded _ _) rfl
  have hcs := h3.first (by decide)
  rw [Jobs.csWords_eq] at hcs
  have hfe := hcs.rest (b := 0x1838) rfl
  exact ⟨h.first (by decide), h1.first (by decide), h2.first (by decide), hcs.first (by decide),
    hfe.head (length_featureWords _) (by decide), (hfe.tail (length_featureWords _) (b := 0x1840) rfl).unpad,
    h4.head (length_padded _ _) (by decide), h5.head (length_padded _ _) (by decide),
    h5.tail (k := 14) (length_padded _ _) rfl⟩

section
variable (s)

theorem State.shows_device : Shows s 0 0x1800 (pair s.jobs.tag ++ [toWord s.jobs.dev.code] ++ pair s.nu.flags ++
    [toWord s.fr.lost, toWord (s.jobs.oc.safe.toNat + 2 * s.jobs.oc.lowerAll.toNat + 4 * s.jobs.oc.hold.toNat)]) :=
  s.sections0.device.shows_part 0 7 (by
    unfold State.deviceWords
    simp only [flagBit_eq, Nat.reducePow, Nat.one_mul]
    rfl) (by decide) rfl

theorem State.shows_lmu : Shows s 0 0x1808 [toWord (s.jobs.lmu.state.code + 0x4000 * s.jobs.lmu.last.isSome.toNat +
      0x8000 * s.jobs.lmu.expected.isSome.toNat), s.jobs.lmu.expected.getD 0,
    toWord ((s.jobs.lmu.window.map (fun w => w.taken)).getD 0), s.jobs.lmu.number] :=
  s.sections0.lmu.shows_part 0 4 (by
    unfold Lmu.words
    simp only [flagBit_eq, Nat.reducePow]
    rfl) (by decide) rfl

theorem State.shows_record {r : Record} (h : s.jobs.lmu.last = some r) : Shows s 0 0x180C
    ([r.number, BitVec.ofInt 16 r.mean, toWord r.totalRms, toWord r.acRms] ++ pair (BitVec.ofNat 32 r.freq) ++
      [toWord r.periods, toWord r.saturated, toWord (r.broken.toNat + 2 * (decide (0 < r.saturated)).toNat)]) :=
  s.sections0.lmu.shows_part 4 9 (by
    unfold Lmu.words
    rw [h, Option.map_some, Option.getD_some]
    unfold Record.words
    simp only [flagBit_eq, Nat.reducePow, Nat.one_mul]
    rfl) (by decide) rfl

theorem State.shows_lsi : Shows s 0 0x1818 ([toWord s.jobs.lsi.confirmed.code] ++ pair s.jobs.lsi.since ++
    [toWord (lineCode s.jobs.lsi.candidate), toWord s.jobs.lsi.agreement, toWord (lineCode s.jobs.lsi.last),
      toWord s.jobs.lsi.settling.toNat]) :=
  s.sections0.lsi.shows_part 0 7 (by
    unfold Lsi.words
    rw [flagWord_eq]
    rfl) (by decide) rfl

theorem State.shows_cs : Shows s 0 0x1820 ([toWord s.jobs.cs.state.code, toWord (reasonCode s.jobs.cs.reason),
      toWord ((s.jobs.cs.stepOfFailure.map CsState.code).getD 255), toWord s.jobs.cs.deadSeen.toNat,
      toWord (decide (s.jobs.cs.command = .close)).toNat, toWord s.jobs.cs.pulse.toNat, toWord s.jobs.fb.brk.code,
      toWord s.jobs.fb.sel.code, toWord (lineCode s.jobs.cs.expected),
      toWord (lineCode (s.jobs.cs.closingSystem.map Line.system)),
      toWord (s.jobs.speed.known && !s.jobs.speed.aged).toNat, toWord s.jobs.speed.kmh] ++ pair s.jobs.speed.arrival ++
    [toWord s.jobs.speed.lead.code, toWord s.jobs.cs.refused]) :=
  s.sections0.cs.shows_part 0 16 (by
    unfold Jobs.csRecord
    simp only [flagWord_eq]
    rfl) (by decide) rfl

/-- A target as the second word of a feature shows it. -/
def Target.field : Target → Nat
  | .code c => 0x100 * c.toNat
  | .any => 0x4000

theorem Feature.words_eq (f : Feature) : f.words =
    [toWord (f.kind.code + 0x100 * f.dueMark.toNat + 0x200 * f.staleMark.toNat + 0x2000 * f.due.isSome.toNat +
        0x4000 * f.arrival.isSome.toNat + 0x8000),
      toWord ((f.number.getD 0).toNat + 0x8000 * f.number.isSome.toNat + f.target.field)] ++ pair (f.due.getD 0) ++
    pair (BitVec.ofNat 32 f.coast) ++ pair (f.arrival.getD 0) := by
  have hcode : ∀ (x y : Nat) (c : BitVec 4), x + c.toNat * 256 + y = x + y + 0x100 * c.toNat := fun _ _ _ => by omega
  have hany : ∀ x y : Nat, x + 0x4000 + y = x + y + 0x4000 := fun _ _ => by omega
  obtain ⟨kind, number, target, due, coast, arrival, dueMark, staleMark, adopted⟩ := f
  unfold Feature.words
  simp only [flagBit_eq, Nat.reducePow, Bool.toNat_true, Nat.mul_one]
  cases target with
  | code c =>
    rw [hcode]
    rfl
  | any =>
    rw [hany (number.getD 0).toNat]
    rfl

theorem State.shows_feature {a : Nat} {f : Feature} (h : (a = 0x1838 ∧ s.jobs.cs.current = some f) ∨
    ∃ n, n < 4 ∧ a = 0x1840 + 8 * n ∧ s.jobs.cs.list[n]? = some f) : Shows s 0 a f.words := by
  rcases h with ⟨rfl, hc⟩ | ⟨n, hn, rfl, hc⟩
  · have hs := s.sections0.current
    rw [hc] at hs
    exact hs.shows_part 0 8 rfl (by decide) rfl
  · exact s.sections0.list.shows (HoldsAt.flatMap Feature.words 8 Feature.length_words _ hc)
      (by rw [Feature.length_words]; omega) rfl

theorem PantoRec.words_eq (p : PantoRec) : p.words = padded 14 [toWord p.state.code, toWord p.role.code,
    toWord (p.connected.toNat + 2 * p.height.isSome.toNat + 4 * p.press.isSome.toNat + 8 * p.reached.toNat +
      16 * p.burst.toNat),
    p.height.getD 0, p.press.getD 0, toWord p.contact, toWord p.loss, toWord p.low, toWord (causeCode p.cause), p.raises,
    toWord p.excess] := by
  unfold PantoRec.words
  simp only [flagBit_eq, Nat.reducePow, Nat.one_mul]

theorem State.holds_panto (x : Panto) : Holds s 0 (if x = .p1 then 0x1860 else 0x186E) 14 (s.jobs.panto x).words := by
  cases x
  · exact s.sections0.p1
  · exact s.sections0.p2

end

/-! ### Page 1 -/

theorem PointEntry.length_words (e : PointEntry) : e.words.length = 4 := rfl

/-- The sections of page 1. -/
structure Page1 (s : State) : Prop where
  ice : Holds s 1 0x1800 16 s.jobs.ice.words
  outputs : Holds s 1 0x1810 20 [toWord s.jobs.oc.image.bitsNat, toWord s.jobs.presentSending.bitsNat,
    toWord ((s.jobs.oc.frozen.map Image.bitsNat).getD 0 + flagBit s.jobs.oc.frozen.isSome 15),
    toWord (pendingBits 0 s.jobs.oc.table), toWord s.jobs.oc.earth.code, s.jobs.oc.seq.setWidth 16]
  table : Holds s 1 0x1824 44 (s.jobs.oc.table.flatMap PointEntry.words)
  timers : Holds s 1 0x1850 48 s.jobs.tmr.words

theorem State.sections1 (s : State) : Page1 s := by
  have h := Holds.whole s 1 128
  have he : s.page 1 = padded 16 s.jobs.ice.words ++ (padded 64 (s.jobs.oc.words s.jobs.presentSending) ++
      padded 48 s.jobs.tmr.words) := List.append_assoc _ _ _
  rw [he] at h
  have h1 := h.rest (b := 0x1810) rfl
  have h2 := h1.rest (b := 0x1850) rfl
  have ho := h1.first (by decide)
  unfold Outputs.words at ho
  exact ⟨h.first (by decide), ho.first (by decide), (ho.rest (b := 0x1824) rfl).unpad, h2.unpad⟩

section
variable (s)

theorem State.shows_ice : Shows s 1 0x1800 [toWord (s.jobs.ice.level.code * 256 + s.jobs.ice.mode.code),
    toWord (s.jobs.ice.policy.code * 256 + s.jobs.ice.zone.toNat + 2 * s.jobs.ice.barred.toNat +
      4 * s.jobs.ice.temp.isSome.toNat + 8 * s.jobs.ice.probe.isSome.toNat + 16 * s.jobs.ice.last.isSome.toNat +
      32 * (s.jobs.ice.last.any (fun a => a.temp.isSome)).toNat + 64 * (s.jobs.ice.last.any (fun a => a.probe.isSome)).toNat),
    toWord (s.jobs.ice.tally * 256 + s.jobs.ice.decay),
    toWord (scraperCode s.jobs.ice.scraper * 256 + s.jobs.ice.phase1.code * 16 + s.jobs.ice.phase2.code),
    s.jobs.ice.temp.getD 0, s.jobs.ice.probe.getD 0] :=
  s.sections1.ice.shows_part 0 6 (by
    unfold Ice.words
    simp only [flagBit_eq, Nat.reducePow, Nat.one_mul]
    rfl) (by decide) rfl

theorem State.shows_assessment {a : Assessment} (h : s.jobs.ice.last = some a) : Shows s 1 0x1806
    ([a.temp.getD 0, a.probe.getD 0, toWord a.drop, toWord (a.tally * 256 + a.raw.code * 16 + a.level.code)] ++
      pair a.tag) :=
  s.sections1.ice.shows_part 6 6 (by
    unfold Ice.words
    rw [h, Option.map_some, Option.getD_some]
    rfl) (by decide) rfl

theorem State.outputs_words : s.statusWord 1 0x1810 = toWord s.jobs.oc.image.bitsNat ∧
    s.statusWord 1 0x1811 = toWord s.jobs.presentSending.bitsNat ∧
    s.statusWord 1 0x1812 = toWord ((s.jobs.oc.frozen.map Image.bitsNat).getD 0 + flagBit s.jobs.oc.frozen.isSome 15) ∧
    s.statusWord 1 0x1813 = toWord (pendingBits 0 s.jobs.oc.table) :=
  ⟨s.sections1.outputs 0 (by decide), s.sections1.outputs 1 (by decide), s.sections1.outputs 2 (by decide),
    s.sections1.outputs 3 (by decide)⟩

end

theorem Image.bitList_getD (i : Image) (r : OwnedRole) {n : Nat} (h : n + 1 = r.mapRole.index) :
    i.bitList.getD n false = i.get r := by
  cases r <;> obtain rfl := Nat.succ.inj h <;> rfl

/-- The word of an image shows its values in point map order. -/
theorem Image.bit_word (i : Image) (r : OwnedRole) {n : Nat} (h : n + 1 = r.mapRole.index) :
    bit (toWord i.bitsNat) n = i.get r := by
  have hn : n < 16 := by
    have : r.mapRole.index ≤ 10 := by cases r <;> decide
    omega
  rw [Image.bitsNat_eq, bit_bitsOf _ hn, Image.bitList_getD i r h]

theorem Image.bit_above (i : Image) {n : Nat} (h : 10 ≤ n) : bit (toWord i.bitsNat) n = false := by
  by_cases hn : n < 16
  · rw [Image.bitsNat_eq, bit_bitsOf _ hn]
    exact List.getD_eq_default _ _ h
  · exact BitVec.getLsbD_of_ge _ _ (by omega)

/-- The bits of the frozen image's word: its values, five bits of 0, and its presence. -/
def frozenBits (f : Option Image) : List Bool :=
  (f.map Image.bitList).getD (List.replicate 10 false) ++ [false, false, false, false, false, f.isSome]

theorem frozenBits_eq (f : Option Image) : (f.map Image.bitsNat).getD 0 + flagBit f.isSome 15 = bitsOf (frozenBits f) := by
  cases f with
  | none => rfl
  | some i =>
    show i.bitsNat + 2 ^ 15 = bitsOf (i.bitList ++ [false, false, false, false, false, true])
    rw [Image.bitsNat_eq]
    simp only [Image.bitList, OwnedRole.all, List.map_cons, List.map_nil, List.cons_append, List.nil_append, bitsOf,
      Bool.toNat_false, Bool.toNat_true]
    omega

theorem frozenBits_getD (f : Option Image) (r : OwnedRole) {n : Nat} (h : n + 1 = r.mapRole.index) :
    (frozenBits f).getD n false = true ↔ ∃ i, f = some i ∧ i.get r = true := by
  have hn : n < 10 := by
    have : r.mapRole.index ≤ 10 := by cases r <;> decide
    omega
  unfold frozenBits
  cases f with
  | none =>
    rw [List.getD_append _ _ _ _ hn, Option.map_none, Option.getD_none, List.getD_replicate _ hn]
    simp
  | some i =>
    rw [List.getD_append _ _ _ _ hn, Option.map_some, Option.getD_some, Image.bitList_getD i r h]
    simp

theorem frozenBits_above (f : Option Image) {n : Nat} (h : 10 ≤ n) (h15 : n ≠ 15) : (frozenBits f).getD n false = false := by
  have hlen : ((f.map Image.bitList).getD (List.replicate 10 false)).length = 10 := by cases f <;> rfl
  unfold frozenBits
  rw [List.getD_append_right _ _ _ _ (by omega), hlen]
  obtain hn | hn : n < 15 ∨ 15 < n := by omega
  · interval_cases n <;> rfl
  · exact List.getD_eq_default _ _ (by simp; omega)

section
variable (s)

theorem State.shows_roles (r : OwnedRole) (n : Nat) (h : n + 1 = r.mapRole.index) :
    bit (s.statusWord 1 0x1810) n = s.jobs.oc.image.get r ∧ bit (s.statusWord 1 0x1811) n = s.jobs.presentSending.get r ∧
    (bit (s.statusWord 1 0x1812) n = true ↔ ∃ i, s.jobs.oc.frozen = some i ∧ i.get r = true) := by
  obtain ⟨h0, h1, h2, -⟩ := s.outputs_words
  have hn : n < 16 := by
    have : r.mapRole.index ≤ 10 := by cases r <;> decide
    omega
  rw [h0, h1, h2, frozenBits_eq, bit_bitsOf _ hn]
  exact ⟨Image.bit_word _ r h, Image.bit_word _ r h, frozenBits_getD _ r h⟩

theorem State.shows_frozen : bit (s.statusWord 1 0x1812) 15 = s.jobs.oc.frozen.isSome := by
  rw [s.outputs_words.2.2.1, frozenBits_eq, bit_bitsOf _ (by decide)]
  cases s.jobs.oc.frozen <;> rfl

theorem State.shows_no_role {n : Nat} (h : 10 ≤ n) : bit (s.statusWord 1 0x1810) n = false ∧
    bit (s.statusWord 1 0x1811) n = false ∧ (n ≠ 15 → bit (s.statusWord 1 0x1812) n = false) := by
  obtain ⟨h0, h1, h2, -⟩ := s.outputs_words
  rw [h0, h1, h2]
  refine ⟨Image.bit_above _ h, Image.bit_above _ h, fun h15 => ?_⟩
  by_cases hn : n < 16
  · rw [frozenBits_eq, bit_bitsOf _ hn, frozenBits_above _ h h15]
  · exact BitVec.getLsbD_of_ge _ _ (by omega)

theorem State.shows_pending {n : Nat} (h : n < 16) :
    bit (s.statusWord 1 0x1813) n = true ↔ ∃ e, s.jobs.oc.table[n]? = some e ∧ e.pending = true := by
  rw [s.outputs_words.2.2.2, pendingBits_eq, Nat.pow_zero, Nat.one_mul, bit_bitsOf _ h, List.getD_eq_getElem?_getD,
    List.getElem?_map]
  cases s.jobs.oc.table[n]? <;> simp

theorem State.shows_point {n : Nat} {e : PointEntry} (hn : n < 11) (h : s.jobs.oc.table[n]? = some e) :
    Shows s 1 (0x1824 + 4 * n) [e.point, e.mask, e.lastWord, e.lastSent] :=
  s.sections1.table.shows (HoldsAt.flatMap PointEntry.words 4 PointEntry.length_words _ h)
    (by show 4 * n + 4 ≤ 44; omega) rfl

/-- Mode, run state and held mark of a timer. -/
theorem Timer.modeWord_eq (t : Timer) : t.modeWord =
    toWord ((decide (t.mode = .periodic)).toNat + 2 * t.running.toNat + 4 * t.held.toNat) := by
  unfold Timer.modeWord
  simp only [flagBit_eq, Nat.reducePow, Nat.one_mul]
  cases t.mode <;> rfl

theorem State.shows_timer {i : TimerId} {a : Nat} (h : (i, a) ∈ [(TimerId.t0, 0x1850), (.t1, 0x1853), (.t2, 0x1856),
      (.t3, 0x1859), (.t4, 0x185C), (.t5, 0x185F), (.t67, 0x1862), (.t89, 0x1868), (.t10, 0x186E), (.t11, 0x1871),
      (.t12, 0x1874), (.t13, 0x1877), (.t14, 0x187A), (.t15, 0x187D)]) :
    Shows s 1 a (s.jobs.timer i).words ∧
    ((i = .t67 ∨ i = .t89) → Shows s 1 (a + 3) [toWord ((s.jobs.timer i).count / 65536),
      toWord ((s.jobs.timer i).reload / 65536), (s.jobs.timer i).modeWord]) := by
  have h0 := s.sections1.timers
  unfold Timers.words at h0
  simp only [List.append_assoc] at h0
  have h1 := h0.tail (k := 3) (b := 0x1853) rfl rfl
  have h2 := h1.tail (k := 3) (b := 0x1856) rfl rfl
  have h3 := h2.tail (k := 3) (b := 0x1859) rfl rfl
  have h4 := h3.tail (k := 3) (b := 0x185C) rfl rfl
  have h5 := h4.tail (k := 3) (b := 0x185F) rfl rfl
  have h6 := h5.tail (k := 3) (b := 0x1862) rfl rfl
  have h7 := h6.tail (k := 6) (b := 0x1868) rfl rfl
  have h8 := h7.tail (k := 6) (b := 0x186E) rfl rfl
  have h9 := h8.tail (k := 3) (b := 0x1871) rfl rfl
  have h10 := h9.tail (k := 3) (b := 0x1874) rfl rfl
  have h11 := h10.tail (k := 3) (b := 0x1877) rfl rfl
  have h12 := h11.tail (k := 3) (b := 0x187A) rfl rfl
  have h13 := h12.tail (k := 3) (b := 0x187D) rfl rfl
  simp only [List.mem_cons, Prod.mk.injEq, List.not_mem_nil, or_false] at h
  rcases h with ⟨rfl, rfl⟩ | ⟨rfl, rfl⟩ | ⟨rfl, rfl⟩ | ⟨rfl, rfl⟩ | ⟨rfl, rfl⟩ | ⟨rfl, rfl⟩ | ⟨rfl, rfl⟩ | ⟨rfl, rfl⟩ |
    ⟨rfl, rfl⟩ | ⟨rfl, rfl⟩ | ⟨rfl, rfl⟩ | ⟨rfl, rfl⟩ | ⟨rfl, rfl⟩ | ⟨rfl, rfl⟩
  · exact ⟨h0.shows_part 0 3 rfl (by decide) rfl, fun h => by simp at h⟩
  · exact ⟨h1.shows_part 0 3 rfl (by decide) rfl, fun h => by simp at h⟩
  · exact ⟨h2.shows_part 0 3 rfl (by decide) rfl, fun h => by simp at h⟩
  · exact ⟨h3.shows_part 0 3 rfl (by decide) rfl, fun h => by simp at h⟩
  · exact ⟨h4.shows_part 0 3 rfl (by decide) rfl, fun h => by simp at h⟩
  · exact ⟨h5.shows_part 0 3 rfl (by decide) rfl, fun h => by simp at h⟩
  · exact ⟨h6.shows_part 0 3 rfl (by decide) rfl, fun _ => h6.shows_part 3 3 rfl (by decide) rfl⟩
  · exact ⟨h7.shows_part 0 3 rfl (by decide) rfl, fun _ => h7.shows_part 3 3 rfl (by decide) rfl⟩
  · exact ⟨h8.shows_part 0 3 rfl (by decide) rfl, fun h => by simp at h⟩
  · exact ⟨h9.shows_part 0 3 rfl (by decide) rfl, fun h => by simp at h⟩
  · exact ⟨h10.shows_part 0 3 rfl (by decide) rfl, fun h => by simp at h⟩
  · exact ⟨h11.shows_part 0 3 rfl (by decide) rfl, fun h => by simp at h⟩
  · exact ⟨h12.shows_part 0 3 rfl (by decide) rfl, fun h => by simp at h⟩
  · exact ⟨h13.shows_part 0 3 rfl (by decide) rfl, fun h => by simp at h⟩

end

end Sys2Proof.Machine
end

section
/-! PROOFS. Pages 2 to 4 of the status window, and the places where no item stands (O45). -/

namespace Sys2Proof.Machine

open Sys2Proof

variable {s : State} {j : Jobs}

/-! ### Page 2 -/

/-- The router's words. -/
def Router.words (r : Router) : List Word :=
  r.train.words ++ r.roof.words ++ [toWord r.up.length, toWord r.down.length, toWord r.share]

/-- The sections of page 2. -/
structure Page2 (s : State) : Prop where
  train : Holds s 2 0x1800 16 s.train.words
  roof : Holds s 2 0x1810 16 s.roof.words
  router : Holds s 2 0x1820 48 s.fr.words
  sched : Holds s 2 0x1850 16 s.rb.words
  rest : Holds s 2 0x1860 32 ([toWord s.jobs.tm.corrected, toWord s.jobs.tm.scrub] ++ s.cb.words)

theorem State.page2_eq (s : State) : s.page 2 = s.train.words ++ (s.roof.words ++ (padded 48 s.fr.words ++
    (padded 16 s.rb.words ++ padded 32 ([toWord s.jobs.tm.corrected, toWord s.jobs.tm.scrub] ++ s.cb.words)))) := by
  have h : s.page 2 = s.train.words ++ s.roof.words ++ padded 48 s.fr.words ++ padded 16 s.rb.words ++
      padded 32 ([toWord s.jobs.tm.corrected, toWord s.jobs.tm.scrub] ++ s.cb.words) := by
    show s.page2 = _
    unfold State.page2 Router.words
    rw [List.append_assoc (s.fr.train.words)]
  rw [h]
  simp only [List.append_assoc]

theorem PortState.length_words (v : PortState) : v.words.length = 16 := length_padded _ _

theorem State.sections2 (s : State) : Page2 s := by
  have h := Holds.whole s 2 128
  rw [State.page2_eq] at h
  have h1 := h.tail (b := 0x1810) (PortState.length_words _) rfl
  have h2 := h1.tail (b := 0x1820) (PortState.length_words _) rfl
  have h3 := h2.rest (b := 0x1850) rfl
  have h4 := h3.rest (b := 0x1860) rfl
  exact ⟨h.head (PortState.length_words _) (by decide), h1.head (PortState.length_words _) (by decide),
    h2.first (by decide), h3.first (by decide), h4.unpad⟩

theorem Capture.length_words (c : Capture) : c.words.length = 12 := by
  unfold Capture.words
  cases c.trigger <;> rfl

theorem Sched.length_words (b : Sched) : b.words.length = 12 := by
  unfold Sched.words
  simp only [List.length_append, length_padded]
  rfl

theorem Router.length_words (r : Router) : r.words.length = 43 := rfl

section
variable (s)

theorem State.shows_port (p : Port) : Shows s 2 (if p = .train then 0x1800 else 0x1810) [toWord (s.port p).mode.code,
    toWord (s.port p).settings.divisor, toWord (s.port p).settings.parity.code, toWord (s.port p).settings.twoStops.toNat,
    toWord (s.port p).buffers.length, toWord (s.port p).parityErrors, toWord (s.port p).framingErrors,
    toWord (s.port p).overruns, toWord (s.port p).checkErrors, toWord ((s.port p).lastMeasured.getD 0),
    toWord (s.port p).runCount, toWord ((s.port p).locked.getD 0)] := by
  have hw : ∀ v : PortState, (v.words.drop 0).take 12 = [toWord v.mode.code, toWord v.settings.divisor,
      toWord v.settings.parity.code, toWord v.settings.twoStops.toNat, toWord v.buffers.length, toWord v.parityErrors,
      toWord v.framingErrors, toWord v.overruns, toWord v.checkErrors, toWord (v.lastMeasured.getD 0), toWord v.runCount,
      toWord (v.locked.getD 0)] := fun v => by
    unfold PortState.words
    rw [flagWord_eq]
    rfl
  cases p
  · exact s.sections2.train.shows_part 0 12 (hw _) (by decide) rfl
  · exact s.sections2.roof.shows_part 0 12 (hw _) (by decide) rfl

theorem State.shows_counters (p : Port) : Shows s 2 (if p = .train then 0x1820 else 0x1834) (s.fr.counters p).words := by
  cases p
  · exact s.sections2.router.shows_part 0 20 rfl (by decide) rfl
  · exact s.sections2.router.shows_part 20 20 rfl (by decide) rfl

theorem State.shows_queues : Shows s 2 0x1848 [toWord s.fr.up.length, toWord s.fr.down.length, toWord s.fr.share] :=
  s.sections2.router.shows_part 40 3 rfl (by decide) rfl

theorem State.shows_slot : Shows s 2 0x1850 [toWord s.rb.slot.code] := s.sections2.sched.shows_part 0 1 rfl (by decide) rfl

/-- The RB's words in their sections. -/
theorem State.holds_sched : Holds s 2 0x1851 6 ((s.rb.exchange.map Exchange.words).getD []) ∧
    Holds s 2 0x1857 9 ([toWord s.rb.lastKind.code, toWord s.rb.cursor] ++ pairNat s.rb.pass ++ [s.rb.pollSeq.setWidth 16]) := by
  have h := s.sections2.sched
  have he : s.rb.words = [toWord s.rb.slot.code] ++ (padded 6 ((s.rb.exchange.map Exchange.words).getD []) ++
      ([toWord s.rb.lastKind.code, toWord s.rb.cursor] ++ pairNat s.rb.pass ++ [s.rb.pollSeq.setWidth 16])) := by
    unfold Sched.words
    simp only [List.append_assoc]
  rw [he] at h
  have h1 := h.tail (k := 1) (b := 0x1851) rfl rfl
  exact ⟨h1.first (by decide), h1.rest rfl⟩

theorem State.shows_exchange {e : Exchange} (h : s.rb.exchange = some e) : Shows s 2 0x1851 [toWord (e.kind.code + 0x8000),
    toWord e.node, e.point, e.seq.setWidth 16, toWord e.queryCount, toWord e.answerBegun.toNat] := by
  have hs := s.holds_sched.1
  rw [h, Option.map_some, Option.getD_some] at hs
  refine hs.shows_part 0 6 ?_ (by decide) rfl
  unfold Exchange.words
  rw [flagWord_eq]
  rfl

theorem State.shows_polls : Shows s 2 0x1857 ([toWord s.rb.lastKind.code, toWord s.rb.cursor] ++
    pair (BitVec.ofNat 32 s.rb.pass) ++ [s.rb.pollSeq.setWidth 16]) := s.holds_sched.2.shows_part 0 5 rfl (by decide) rfl

theorem State.shows_capture : Shows s 2 0x1860 ([toWord s.jobs.tm.corrected, toWord s.jobs.tm.scrub, toWord s.cb.state.code,
      toWord (s.cb.mode.code + 0x100 * s.cb.unmatched.toNat)] ++ s.cb.trigger.words ++ [toWord s.cb.post,
      toWord s.cb.remaining, toWord s.cb.frameIndex, toWord s.cb.eventIndex,
      toWord ((s.cb.place.map (fun p => p.1)).getD 0 + 0x8000 * s.cb.place.isSome.toNat)] ++
    pair ((s.cb.place.map (fun p => p.2)).getD 0)) := by
  refine s.sections2.rest.shows_part 0 14 ?_ (by decide) rfl
  unfold Capture.words
  simp only [flagBit_eq, Nat.reducePow]
  cases s.cb.trigger <;> rfl

end

/-! ### Pages 3 and 4 -/

theorem State.holds_nodes (s : State) : Holds s 3 0x1800 128 s.page3 ∧ Holds s 4 0x1800 128 s.page4 :=
  ⟨Holds.whole s 3 128, Holds.whole s 4 128⟩

theorem State.length_page3 (s : State) : s.page3.length = 62 := by simp [State.page3, Config.lastNode]

theorem State.length_page4 (s : State) : s.page4.length = 124 :=
  (length_flatMap_const _ 2 (fun _ => rfl) _).trans (by simp [Config.lastNode])

theorem State.shows_node (s : State) {n : Nat} (h1 : 1 ≤ n) (h2 : n ≤ 62) :
    s.statusWord 3 (0x17FF + n) = toWord ((s.jobs.node n).state.code * 256 + (s.jobs.node n).missed) ∧
    Shows s 4 (0x1800 + 2 * (n - 1)) (pair ((s.jobs.node n).last.getD 0xFFFFFFFF)) := by
  have hr : (List.range Config.lastNode)[n - 1]? = some (n - 1) := List.getElem?_range (by show n - 1 < 62; omega)
  have hn : n - 1 + 1 = n := by omega
  refine ⟨?_, ?_⟩
  · have h := s.holds_nodes.1 (n - 1) (by omega)
    rw [show 0x1800 + (n - 1) = 0x17FF + n by omega] at h
    rw [h, List.getD_eq_getElem?_getD, State.page3, List.getElem?_map, hr, Option.map_some, Option.getD_some, hn]
    rfl
  · have h := HoldsAt.flatMap (fun n => pair ((s.jobs.node (n + 1)).last.getD 0xFFFFFFFF)) 2 (fun _ => rfl) _ hr
    rw [hn] at h
    exact s.holds_nodes.2.shows h (by show 2 * (n - 1) + 2 ≤ 128; omega) rfl

/-! ### Where no item stands -/

theorem Lmu.length_words (l : Lmu) : l.words.length ≤ 13 ∧ (l.last = none → l.words.length = 4) := by
  unfold Lmu.words
  cases l.last with
  | none => exact ⟨show 4 ≤ 13 by decide, fun _ => rfl⟩
  | some r => exact ⟨le_refl 13, fun h => nomatch h⟩

theorem Ice.length_words (c : Ice) : c.words.length ≤ 12 ∧ (c.last = none → c.words.length = 6) := by
  unfold Ice.words
  cases c.last with
  | none => exact ⟨show 6 ≤ 12 by decide, fun _ => rfl⟩
  | some a => exact ⟨le_refl 12, fun h => nomatch h⟩

/-- A padded list of at most `n` words is 0 past them. -/
theorem Holds.zero_padded {page a k n b : Nat} {l : List Word} (h : Holds s page a n (padded k l)) (hl : a + l.length ≤ b)
    (hb : b < a + n) : s.statusWord page b = 0 := by
  rw [← Nat.sub_add_cancel (show a ≤ b by omega), Nat.add_comm, h (b - a) (by omega)]
  by_cases hk : b - a < k
  · rw [padded_getD hk]
    exact List.getD_eq_default _ _ (by omega)
  · exact List.getD_eq_default _ _ (by rw [length_padded]; omega)

/-- R195: the addresses that no item ever uses. -/
theorem State.zero_gaps (s : State) {page first last a : Nat} (h1 : first ≤ a) (h2 : a ≤ last)
    (h : (page, first, last) ∈ [(0, 0x1807, 0x1807), (0, 0x1815, 0x1817), (0, 0x181F, 0x181F), (0, 0x1830, 0x1837),
      (0, 0x186B, 0x186D), (0, 0x1879, 0x187B), (1, 0x180C, 0x180F), (1, 0x1816, 0x1823), (2, 0x180C, 0x180F),
      (2, 0x181C, 0x181F), (2, 0x184B, 0x184F), (2, 0x185C, 0x185F), (2, 0x186E, 0x187F), (3, 0x183E, 0x187F),
      (4, 0x187C, 0x187F)]) : s.statusWord page a = 0 := by
  have h0 := s.sections0
  have hp1 := s.sections1
  have hp2 := s.sections2
  simp only [List.mem_cons, Prod.mk.injEq, List.not_mem_nil, or_false] at h
  rcases h with ⟨rfl, rfl, rfl⟩ | ⟨rfl, rfl, rfl⟩ | ⟨rfl, rfl, rfl⟩ | ⟨rfl, rfl, rfl⟩ | ⟨rfl, rfl, rfl⟩ | ⟨rfl, rfl, rfl⟩ |
    ⟨rfl, rfl, rfl⟩ | ⟨rfl, rfl, rfl⟩ | ⟨rfl, rfl, rfl⟩ | ⟨rfl, rfl, rfl⟩ | ⟨rfl, rfl, rfl⟩ | ⟨rfl, rfl, rfl⟩ |
    ⟨rfl, rfl, rfl⟩ | ⟨rfl, rfl, rfl⟩ | ⟨rfl, rfl, rfl⟩
  · exact h0.device.zero (by show 0x1800 + 7 ≤ a; omega) (by omega)
  · have := s.jobs.lmu.length_words.1
    exact h0.lmu.zero (by omega) (by omega)
  · exact h0.lsi.zero (by show 0x1818 + 7 ≤ a; omega) (by omega)
  · exact h0.cs.zero (by show 0x1820 + 16 ≤ a; omega) (by omega)
  · exact h0.p1.zero_padded (by show 0x1860 + 11 ≤ a; omega) (by omega)
  · exact h0.p2.zero_padded (by show 0x186E + 11 ≤ a; omega) (by omega)
  · have := s.jobs.ice.length_words.1
    exact hp1.ice.zero (by omega) (by omega)
  · exact hp1.outputs.zero (by show 0x1810 + 6 ≤ a; omega) (by omega)
  · exact hp2.train.zero_padded (by show 0x1800 + 12 ≤ a; omega) (by omega)
  · exact hp2.roof.zero_padded (by show 0x1810 + 12 ≤ a; omega) (by omega)
  · exact hp2.router.zero (by rw [Router.length_words]; omega) (by omega)
  · exact hp2.sched.zero (by rw [Sched.length_words]; omega) (by omega)
  · exact hp2.rest.zero (by rw [List.length_append, Capture.length_words]; show 0x1860 + (2 + 12) ≤ a; omega) (by omega)
  · exact s.holds_nodes.1.zero (by rw [State.length_page3]; omega) (by omega)
  · exact s.holds_nodes.2.zero (by rw [State.length_page4]; omega) (by omega)

/-- R195: the addresses of items that are absent. -/
theorem State.zero_absent (s : State) {page first last a : Nat} (h1 : first ≤ a) (h2 : a ≤ last)
    (h : s.jobs.lmu.last = none ∧ (page, first, last) = (0, 0x180C, 0x1814) ∨
      s.jobs.cs.current = none ∧ (page, first, last) = (0, 0x1838, 0x183F) ∨
      (page, first, last) = (0, 0x1840 + 8 * s.jobs.cs.list.length, 0x185F) ∨
      s.jobs.ice.last = none ∧ (page, first, last) = (1, 0x1806, 0x180B) ∨
      (page, first, last) = (1, 0x1824 + 4 * s.jobs.oc.table.length, 0x184F) ∨
      s.rb.exchange = none ∧ (page, first, last) = (2, 0x1851, 0x1856)) : s.statusWord page a = 0 := by
  simp only [Prod.mk.injEq] at h
  rcases h with ⟨hn, rfl, rfl, rfl⟩ | ⟨hn, rfl, rfl, rfl⟩ | ⟨rfl, rfl, rfl⟩ | ⟨hn, rfl, rfl, rfl⟩ | ⟨rfl, rfl, rfl⟩ |
    ⟨hn, rfl, rfl, rfl⟩
  · exact s.sections0.lmu.zero (by rw [s.jobs.lmu.length_words.2 hn]; omega) (by omega)
  · have hs := s.sections0.current
    rw [hn] at hs
    have hz := hs (a - 0x1838) (by omega)
    rw [show 0x1838 + (a - 0x1838) = a by omega] at hz
    rw [hz]
    exact List.getD_replicate _ (by omega)
  · exact s.sections0.list.zero (by rw [length_flatMap_const _ 8 Feature.length_words]; exact h1) (by omega)
  · exact s.sections1.ice.zero (by rw [s.jobs.ice.length_words.2 hn]; omega) (by omega)
  · exact s.sections1.table.zero (by rw [length_flatMap_const _ 4 PointEntry.length_words]; exact h1) (by omega)
  · have hs := s.holds_sched.1
    rw [hn] at hs
    exact hs.zero (by show 0x1851 + 0 ≤ a; omega) (by omega)

/-- R195: pages 2 to 4 past their items. -/
theorem State.zero_past (s : State) {page a : Nat} (h : page = 2 ∧ (a = 0x184B ∨ 0x186F ≤ a) ∨ page = 3 ∧ 0x183E ≤ a ∨
    page = 4 ∧ 0x187C ≤ a) : s.statusWord page a = 0 := by
  have hpast : ∀ p n, (s.page p).length ≤ n → 0x1800 + n ≤ a → s.statusWord p a = 0 := fun p n hl ha =>
    List.getD_eq_default _ _ (by omega)
  rcases h with ⟨rfl, rfl | h⟩ | ⟨rfl, h⟩ | ⟨rfl, h⟩
  · exact s.zero_gaps (first := 0x184B) (last := 0x184F) (by decide) (by decide) (by decide)
  · by_cases ha : a ≤ 0x187F
    · exact s.zero_gaps (first := 0x186E) (last := 0x187F) (by omega) ha (by decide)
    · refine hpast 2 128 ?_ (by omega)
      rw [State.page2_eq]
      simp only [List.length_append, length_padded, PortState.length_words]
      decide
  · exact hpast 3 62 (le_of_eq s.length_page3) (by omega)
  · exact hpast 4 124 (le_of_eq s.length_page4) (by omega)

end Sys2Proof.Machine
end

section
/-! PROOFS. READ (O45): the words it delivers, its status, the latch and the checked reads. -/

namespace Sys2Proof.Machine

open Sys2Proof

variable {s : State} {j : Jobs} {page a n i : Nat} {l : Latch}

/-! ### The words delivered (R187, R195) -/

theorem regionOf_capture (h1 : 0x1000 ≤ a) (h2 : a ≤ 0x15FF) : regionOf a = .capture := by
  unfold regionOf
  rw [if_neg (by omega), if_neg (by omega), if_neg (by omega), if_neg (by omega), if_neg (by omega), if_neg (by omega),
    if_neg (by omega), if_neg (by omega), if_neg (by omega), if_pos ⟨h1, h2⟩]

theorem regionOf_status (h1 : 0x1800 ≤ a) (h2 : a ≤ 0x187F) : regionOf a = .status := by
  unfold regionOf
  rw [if_neg (by omega), if_neg (by omega), if_neg (by omega), if_neg (by omega), if_neg (by omega), if_neg (by omega),
    if_neg (by omega), if_neg (by omega), if_neg (by omega), if_neg (by omega), if_pos ⟨h1, h2⟩]

theorem State.serviceWord_table (h : isTableWord a = true) : s.serviceWord page a = s.jobs.word a := by
  unfold State.serviceWord
  unfold isTableWord at h
  cases hr : regionOf a with
  | live => rfl
  | roof => rfl
  | capture => rw [hr] at h; exact absurd h (by decide)
  | status => rw [hr] at h; exact absurd h (by decide)
  | nothing => rw [hr] at h; exact absurd h (by decide)

theorem State.serviceWord_none (h : isWord page a = false) : s.serviceWord page a = 0xFFFF#16 := by
  unfold State.serviceWord
  unfold isWord at h
  cases hr : regionOf a with
  | live => rw [hr] at h; nomatch h
  | roof => rw [hr] at h; nomatch h
  | capture => rw [hr] at h; nomatch h
  | status =>
    rw [hr] at h
    exact if_neg (of_decide_eq_false h)
  | nothing => rfl

theorem State.serviceWord_status (h1 : 0x1800 ≤ a) (h2 : a ≤ 0x187F) (hp : page ≤ 4) :
    s.serviceWord page a = s.statusWord page a := by
  unfold State.serviceWord
  rw [regionOf_status h1 h2]
  exact if_pos hp

theorem State.serviceWord_capture {k r : Nat} (hr : r < 6) (hk : k < 256) :
    some (s.serviceWord page (0x1000 + 6 * k + r)) = (Store.read CaptureEntry.empty k s.cb.mem).words[r]? := by
  have hlen : ∀ e : CaptureEntry, e.words.length = 6 := fun _ => rfl
  unfold State.serviceWord
  rw [regionOf_capture (by omega) (by omega)]
  show some (((Store.read CaptureEntry.empty ((0x1000 + 6 * k + r - 0x1000) / 6) s.cb.mem).words).getD
    ((0x1000 + 6 * k + r - 0x1000) % 6) 0) = _
  rw [show (0x1000 + 6 * k + r - 0x1000) / 6 = k by omega, show (0x1000 + 6 * k + r - 0x1000) % 6 = r by omega,
    List.getD_eq_getElem?_getD, List.getElem?_eq_getElem (by rw [hlen]; exact hr)]
  rfl

/-! ### The latch (R187) -/

theorem State.liveLatch_iff : s.liveLatch = some l ↔ s.latch = some l ∧ l.ticks < 2 := by
  unfold State.liveLatch
  rw [Option.filter_eq_some_iff, decide_eq_true_iff]

theorem contains_span (b : Nat) : (span a n).contains b = true ↔ a ≤ b ∧ b < a + n := by
  rw [List.contains_iff_mem, mem_span]

/-- R187: a READ delivers the latch where it includes the latched high word without its low word. -/
theorem Latch.serves_iff : l.serves page (span a n) = true ↔ l.page = page ∧ (a ≤ l.addr ∧ l.addr < a + n) ∧
    ∀ b, lowOf page l.addr = some b → b < a ∨ a + n ≤ b := by
  unfold Latch.serves
  rw [Bool.and_eq_true, Bool.and_eq_true, beq_iff_eq, contains_span, and_assoc, Bool.not_eq_true']
  refine and_congr_right fun _ => and_congr_right fun _ => ?_
  cases lowOf page l.addr with
  | none => simp
  | some b =>
    rw [Option.any_some, Bool.eq_false_iff, ne_eq, contains_span]
    simp only [Option.some.injEq, forall_eq']
    omega

theorem State.readWords_length (s : State) : (s.readWords page (span a n)).length = n := by
  simp [State.readWords, span]

theorem getElem?_span (hi : i < n) : (span a n)[i]? = some (a + i) := by
  rw [span, List.getElem?_map, List.getElem?_range hi]
  rfl

/-- R187: an address whose latched word the READ does not deliver is delivered as it is. -/
theorem State.readWords_live (hi : i < n)
    (h : ∀ l, s.liveLatch = some l → l.serves page (span a n) = true → l.addr ≠ a + i) :
    (s.readWords page (span a n))[i]? = some (s.serviceWord page (a + i)) := by
  unfold State.readWords
  rw [List.getElem?_map, getElem?_span hi, Option.map_some]
  cases hl : s.liveLatch with
  | none => rfl
  | some l =>
    refine congrArg some (if_neg fun hc => ?_)
    obtain ⟨h1, h2⟩ := Bool.and_eq_true_iff.mp hc
    exact h l hl h1 (beq_iff_eq.mp h2)

theorem State.readWords_latched (hi : i < n) (h : s.liveLatch = some l) (hs : l.serves page (span a n) = true)
    (ha : l.addr = a + i) : (s.readWords page (span a n))[i]? = some l.value := by
  unfold State.readWords
  rw [List.getElem?_map, getElem?_span hi, Option.map_some, h]
  exact congrArg some (if_pos (Bool.and_eq_true_iff.mpr ⟨hs, beq_iff_eq.mpr ha⟩))

theorem State.latchAfter_new {q : Nat × Nat} (hp : page ≤ 4) (as : List Nat)
    (h : ((longItems page).filter (fun q => as.contains (0x1800 + q.1) && !as.contains (0x1800 + q.2))).getLast? = some q) :
    s.latchAfter page as = some { page := page, addr := 0x1800 + q.2, value := s.statusWord page (0x1800 + q.2),
                                  ticks := 0 } := by
  unfold State.latchAfter State.newLatch
  rw [if_neg (by omega), h]
  rfl

theorem State.newLatch_none (h : ∀ q ∈ longItems page, page ≤ 4 → a ≤ 0x1800 + q.1 → 0x1800 + q.1 < a + n →
    a ≤ 0x1800 + q.2 ∧ 0x1800 + q.2 < a + n) : s.newLatch page (span a n) = none := by
  unfold State.newLatch
  by_cases hp : 4 < page
  · exact if_pos hp
  · rw [if_neg hp]
    have he : (longItems page).filter (fun q => (span a n).contains (0x1800 + q.1) && !(span a n).contains (0x1800 + q.2)) =
        [] := by
      rw [List.filter_eq_nil_iff]
      intro q hq hc
      obtain ⟨h1, h2⟩ := Bool.and_eq_true_iff.mp hc
      obtain ⟨h3, h4⟩ := (contains_span _).mp h1
      rw [(contains_span _).mpr (h q hq (by omega) h3 h4)] at h2
      nomatch h2
    rw [he]
    rfl

theorem State.latchAfter_old (h : s.newLatch page (span a n) = none) : s.latchAfter page (span a n) =
    if s.liveLatch.any (fun l => l.serves page (span a n)) then none else s.latch := by
  unfold State.latchAfter
  rw [h]

/-! ### The status (R186) -/

theorem State.readStatus_spec (s : State) (page a n : Nat) :
    ((∃ i, i < n ∧ isWord page (a + i) = false) → s.readStatus page (span a n) = .address) ∧
    ((∀ i, i < n → isWord page (a + i) = true) →
      ((∃ i, i < n ∧ isTableWord (a + i) = true ∧ s.jobs.bad (a + i) = true) → s.readStatus page (span a n) = .poisoned) ∧
      ((∀ i, i < n → isTableWord (a + i) = true → s.jobs.bad (a + i) = false) → s.readStatus page (span a n) = .ok)) := by
  have hall : (span a n).all (fun a => isWord page a) = true ↔ ∀ i, i < n → isWord page (a + i) = true := by
    simp [span]
  have hany : (span a n).any (fun a => isTableWord a && s.jobs.bad a) = true ↔
      ∃ i, i < n ∧ isTableWord (a + i) = true ∧ s.jobs.bad (a + i) = true := by
    simp [span]
  unfold State.readStatus
  refine ⟨fun ⟨i, hi, hw⟩ => if_pos ?_, fun hw => ?_⟩
  · rw [Bool.not_eq_true', Bool.eq_false_iff]
    intro h
    rw [hall.mp h i hi] at hw
    nomatch hw
  · rw [if_neg (by rw [hall.mpr hw]; decide)]
    refine ⟨fun hb => if_pos (hany.mpr hb), fun hb => if_neg fun h => ?_⟩
    obtain ⟨i, hi, ht, hbad⟩ := hany.mp h
    rw [hb i hi ht] at hbad
    nomatch hbad

/-! ### READ as a step -/

/-- R186, R187: the part once a READ's frame is consumed, its words delivered and read. -/
def State.reading (seq : Byte) (page a n : Nat) (s : State) : State :=
  (s.setLatch (s.latchAfter page (span a n))).onJobs (fun j => (j.touchAll ((span a n).filter isTableWord)).report
    (.frame (readReply seq (s.readStatus page (span a n)) (s.readWords page (span a n)))))

theorem serviceRead_ends (s : State) (h : Header) (c : SvcControl) (addr : Word) (extra : List Word) (hl : Live s) :
    EndsFrom (.serviceRead h c addr extra) s ((s.consume (serviceFrame h 0 c (addr :: extra))).reading h.seq c.field.toNat
      addr.toNat (c.cnt.toNat + 1)) :=
  EndsFrom.of_taking (k := fun f s => s.serviceRead f c addr) hl.1 rfl rfl rfl

/-! ### A checked read (R183, R184) -/

/-- A read of a good word, or of one already marked, changes nothing. -/
theorem Jobs.touch_plain (h : (j.cell a).mark = true ∨ inverted (j.cell a).check = 0) : j.touch a = j := by
  rcases Jobs.touch_spec a j with ⟨hc, -⟩ | ⟨hc, hb, hm, -⟩ | ⟨-, e⟩
  · have hc' : (j.cell a).mark = false ∧ inverted (j.cell a).check = 1 := by simpa [TWord.correctable] using hc
    rcases h with h | h
    · rw [h] at hc'; nomatch hc'.1
    · omega
  · have hb' : (j.cell a).mark = true ∨ 2 ≤ inverted (j.cell a).check := by simpa [TWord.bad] using hb
    rcases h with h | h
    · rw [h] at hm; nomatch hm
    · rcases hb' with hb' | hb'
      · rw [hb'] at hm; nomatch hm
      · omega
  · exact e

theorem Jobs.touch_corrects (hm : (j.cell a).mark = false) (h : inverted (j.cell a).check = 1) : j.touch a =
    (j.setTm { (j.tm.store a { data := (j.cell a).data }) with corrected := min 255 (j.tm.corrected + 1) }).flag
      .tableCorrected a := by
  unfold Jobs.touch
  exact if_pos (by simp [TWord.correctable, hm, h])

theorem Jobs.touch_poisons (hm : (j.cell a).mark = false) (h : 2 ≤ inverted (j.cell a).check) : j.touch a =
    ((j.setTm (j.tm.store a { j.cell a with mark := true })).flag .tablePoisoned a).push .look := by
  have h1 : inverted (j.cell a).check ≠ 1 := by omega
  unfold Jobs.touch
  refine (if_neg (by simp [TWord.correctable, h1])).trans (if_pos ?_)
  simp [TWord.bad, hm, h]

end Sys2Proof.Machine

open Sys2Proof Sys2Proof.Machine

/-- The words that a READ delivers: the latched high word where it is delivered, every other as it is (R181, R187). -/
theorem read_words (s : State) (f : Frame) (page a n : Nat) (hl : Live s) :
    (∀ i b, i < n → b = a + i → (∀ l, s.latch = some l → l.addr = b → 2 ≤ l.ticks ∨ l.page ≠ page ∨
        ∃ x, lowOf page b = some x ∧ a ≤ x ∧ x < a + n) →
      (isTableWord b = true → ((s.consume f).readWords page (span a n))[i]? = some (s.jobs.word b)) ∧
      (isWord page b = false → ((s.consume f).readWords page (span a n))[i]? = some 0xFFFF#16) ∧
      (0x1800 ≤ b → b ≤ 0x187F → page ≤ 4 →
        ((s.consume f).readWords page (span a n))[i]? = some ((s.consume f).statusWord page b)) ∧
      (∀ k r, r < 6 → k < 256 → b = 0x1000 + 6 * k + r →
        ((s.consume f).readWords page (span a n))[i]? = (Store.read CaptureEntry.empty k (s.consume f).cb.mem).words[r]?)) ∧
    ∀ i l, i < n → s.latch = some l → l.ticks < 2 → l.page = page → l.addr = a + i →
      (∀ x, lowOf page l.addr = some x → x < a ∨ a + n ≤ x) →
      ((s.consume f).readWords page (span a n))[i]? = some l.value := by
  have hlatch := (s.consume_roof_rb f).2.2.1
  have hsame := (s.consume_still f).sameWords hl.2.1
  have hlive : ∀ l, (s.consume f).liveLatch = some l ↔ s.latch = some l ∧ l.ticks < 2 := fun l => by
    rw [State.liveLatch_iff, hlatch]
  refine ⟨?_, fun i l hi h1 h2 h3 h4 h5 => State.readWords_latched hi ((hlive l).mpr ⟨h1, h2⟩)
    (Latch.serves_iff.mpr ⟨h3, by omega, h5⟩) h4⟩
  rintro i b hi rfl hno
  have hw := State.readWords_live (s := s.consume f) (page := page) hi fun l hl hs ha => by
    obtain ⟨hl1, hl2⟩ := (hlive l).mp hl
    obtain ⟨hp, -, hlow⟩ := Latch.serves_iff.mp hs
    rcases hno l hl1 ha with h | h | ⟨x, hx, h1, h2⟩
    · omega
    · exact h hp
    · rcases hlow x (ha ▸ hx) with h | h <;> omega
  rw [hw]
  refine ⟨fun ht => ?_, fun hn => ?_, fun h1 h2 hp => ?_, fun k r hr hk he => ?_⟩
  · rw [State.serviceWord_table ht, hsame.word]
  · rw [State.serviceWord_none hn]
  · rw [State.serviceWord_status h1 h2 hp]
  · rw [he]
    exact State.serviceWord_capture hr hk

/-- What a READ makes of the latch (R187). -/
theorem read_latch (s : State) (f : Frame) (page a n : Nat)
    (h : ∀ q ∈ longItems page, page ≤ 4 → a ≤ 0x1800 + q.1 → 0x1800 + q.1 < a + n →
      a ≤ 0x1800 + q.2 ∧ 0x1800 + q.2 < a + n) :
    (s.latch = none → (s.consume f).latchAfter page (span a n) = none) ∧
    ∀ l, s.latch = some l →
      (l.ticks < 2 → l.page = page → a ≤ l.addr → l.addr < a + n →
        (∀ b, lowOf page l.addr = some b → b < a ∨ a + n ≤ b) → (s.consume f).latchAfter page (span a n) = none) ∧
      (2 ≤ l.ticks ∨ l.page ≠ page ∨ l.addr < a ∨ a + n ≤ l.addr ∨
        (∃ b, lowOf page l.addr = some b ∧ a ≤ b ∧ b < a + n) → (s.consume f).latchAfter page (span a n) = s.latch) := by
  have hlatch := (s.consume_roof_rb f).2.2.1
  rw [State.latchAfter_old (State.newLatch_none h), hlatch]
  refine ⟨fun hn => ?_, fun l hl => ⟨fun h1 h2 h3 h4 h5 => if_pos ?_, fun hor => if_neg fun hany => ?_⟩⟩
  · rw [hn, ite_self]
  · rw [State.liveLatch_iff.mpr ⟨hlatch.trans hl, h1⟩]
    exact Latch.serves_iff.mpr ⟨h2, ⟨h3, h4⟩, h5⟩
  · obtain ⟨l', hl', hs⟩ : ∃ l', (s.consume f).liveLatch = some l' ∧ l'.serves page (span a n) = true := by
      cases hll : (s.consume f).liveLatch with
      | none => rw [hll] at hany; nomatch hany
      | some l' => rw [hll] at hany; exact ⟨l', rfl, hany⟩
    obtain ⟨h1, h2⟩ := State.liveLatch_iff.mp hl'
    obtain rfl : l = l' := Option.some.inj (hl.symm.trans (hlatch.symm.trans h1))
    obtain ⟨hp, hr, hlow⟩ := Latch.serves_iff.mp hs
    rcases hor with h | h | h | h | ⟨b, hb, h3, h4⟩
    · omega
    · exact h hp
    · omega
    · omega
    · rcases hlow b hb with h | h <;> omega
end

section
/-! PROOFS. READ, the status window and the checked read together (O45). -/

open Sys2Proof Sys2Proof.Machine

/-- Settles O45: `read_words` and `read_latch` say what a READ delivers and latches, the sections of each page where its items
stand, and `Jobs.touch_plain`, `Jobs.touch_corrects` and `Jobs.touch_poisons` what a checked read does. -/
theorem serviceReads : Obligations.ServiceReads := by
  unfold Obligations.ServiceReads
  refine ⟨?read, ?window, ?touch⟩
  case read =>
    rintro s h c addr extra f page n hl rfl rfl rfl
    refine ⟨_, (s.consume (serviceFrame h 0 c (addr :: extra))).readWords c.field.toNat (span addr.toNat (c.cnt.toNat + 1)),
      (s.consume (serviceFrame h 0 c (addr :: extra))).readStatus c.field.toNat (span addr.toNat (c.cnt.toNat + 1)),
      serviceRead_ends s h c addr extra hl, ?_⟩
    generalize serviceFrame h 0 c (addr :: extra) = f
    generalize c.field.toNat = page
    generalize addr.toNat = a
    generalize c.cnt.toNat + 1 = n
    have hk := s.consume_still f
    have hsame := hk.sameWords hl.2.1
    obtain ⟨hst1, hst2⟩ := (s.consume f).readStatus_spec page a n
    simp only [hsame.bad] at hst2
    obtain ⟨hw1, hw2⟩ := read_words s f page a n hl
    have hstill : Still s.jobs ((s.consume f).reading h.seq page a n).jobs :=
      (hk.trans (.touchAll _ _)).trans (.setOut _ _)
    exact ⟨hstill.rest, rfl, List.mem_append_right _ (List.mem_singleton_self _), State.readWords_length _, hst1, hst2, hw1, hw2,
      fun q hp hq => State.latchAfter_new hp _ hq, fun hq => read_latch s f page a n hq⟩
  case window =>
    rintro s j long on rfl hlong hoff hon
    obtain rfl : long = pair := funext hlong
    obtain rfl : on = Bool.toNat := funext fun b => by
      cases b
      · exact hoff
      · exact hon
    refine ⟨s.shows_device, s.shows_lmu, fun r h => s.shows_record h, s.shows_lsi, s.shows_cs, fun a f h => ?_,
      fun x p hp => ?_, s.sections0.arc.shows_part 0 4 rfl (by decide) rfl, s.shows_ice, fun a h => s.shows_assessment h,
      s.shows_roles, s.shows_frozen, fun n h => s.shows_no_role h, fun n h => s.shows_pending h,
      ?_, fun n e hn h => s.shows_point hn h, fun i a t ht hm m hmw => ?_,
      fun p a v hv ha => ?_, fun p a c hc ha => ?_, s.shows_queues, s.shows_slot, fun e h => s.shows_exchange h,
      s.shows_polls, s.shows_capture, fun n h1 h2 => s.shows_node h1 h2, fun page first last a h1 h2 h => ?_,
      fun page a h => s.zero_past h⟩
    · have hs := s.shows_feature h
      rw [Feature.words_eq] at hs
      cases hf : f.target with
      | code c => rw [hf] at hs; exact hs
      | any => rw [hf] at hs; exact hs
    · subst hp
      have hs := s.holds_panto x
      rw [PantoRec.words_eq] at hs
      exact hs.unpad.shows_part 0 11 rfl (by decide) rfl
    · have hs := s.sections1.outputs.shows_part 4 2 rfl (by decide) (b := 0x1814) rfl
      cases he : s.jobs.oc.earth <;> rw [he] at hs <;> exact hs
    · subst ht hmw
      obtain ⟨h1, h2⟩ := s.shows_timer hm
      unfold Timer.words at h1
      rw [Timer.modeWord_eq] at h1 h2
      exact ⟨h1, h2⟩
    · subst hv ha
      exact s.shows_port p
    · subst hc ha
      exact s.shows_counters p
    · rcases h with h | h
      · exact s.zero_gaps h1 h2 h
      · exact s.zero_absent h1 h2 h
  case touch =>
    rintro j a w hw rfl
    refine ⟨fun b hb => Jobs.cell_touch_ne hw hb, fun hm h0 => ?_, fun hm => ?_, fun hm h1 => ?_, fun hm h2 => ?_⟩
    · exact Jobs.touch_plain (.inr h0)
    · exact Jobs.touch_plain (.inl hm)
    · rw [Jobs.touch_corrects hm h1]
      exact ⟨(TableMem.read_store hw a a _).trans (if_pos rfl), rfl, rfl⟩
    · rw [Jobs.touch_poisons hm h2]
      exact ⟨(TableMem.read_store hw a a _).trans (if_pos rfl), rfl, rfl⟩
end
